-- ==== Sys2Proof/Word.lean ====
section
/-! DEFINITION. Words, bytes and sparse tables: the plain data everything else is built of. -/

namespace Sys2Proof

/-- A register or a machine word: 32 bits (R5, R7). -/
abbrev Word := BitVec 32

/-- One byte of memory. -/
abbrev Byte := BitVec 8

/-- A count of ticks of the 32.768 kHz clock: 48 bits (R12). -/
abbrev Tick := BitVec 48

/-- A sparse table: keys strictly rising, and no entry equal to what an unlisted key reads as. -/
abbrev Tab (α : Type) := List (Nat × α)

end Sys2Proof
end

