-- ==== Sys2Proof/Machine/Fields.lean ====
section
/-! DEFINITION. The addresses and the bit fields of the registers, block by block, under the names
the register tables of spec/ give them (R2, R46, R73, R112, R143, R160, R241, R263, R298, R313, R342,
R362, R380, R402, R431, R449, R480, R501, R514, R526, R535). QUEUE_CTLG is the block register QUEUE_CTL,
DIO_IBANK .. DIO_IIEN are DIO_IxBANK .. DIO_IxIEN, DIO_OBANK .. DIO_OXCMD are DIO_OxBANK .. DIO_OxCMD. -/

namespace Sys2Proof.Machine

/-- A bit field of a register: the register's host address and the field's highest and lowest bit. -/
structure Fld where
  addr : Nat
  hi   : Nat
  lo   : Nat
  deriving DecidableEq, Repr

/-! ### SYS block at 0x20000000 -/

abbrev SYS_DEVID : Nat := 0x20000000
abbrev SYS_DEVID_PART : Fld := ⟨SYS_DEVID, 31, 16⟩
abbrev SYS_DEVID_VAR : Fld := ⟨SYS_DEVID, 15, 12⟩
abbrev SYS_DEVID_STEP : Fld := ⟨SYS_DEVID, 7, 0⟩
abbrev SYS_CTL : Nat := 0x20000004
abbrev SYS_CTL_LOCK : Fld := ⟨SYS_CTL, 31, 31⟩
abbrev SYS_SUPSTAT : Nat := 0x20000008
abbrev SYS_SUPSTAT_VMAINOV : Fld := ⟨SYS_SUPSTAT, 5, 5⟩
abbrev SYS_SUPSTAT_VBATLOW : Fld := ⟨SYS_SUPSTAT, 4, 4⟩
abbrev SYS_SUPSTAT_VAUXWARN : Fld := ⟨SYS_SUPSTAT, 3, 3⟩
abbrev SYS_SUPSTAT_VAUXOK : Fld := ⟨SYS_SUPSTAT, 2, 2⟩
abbrev SYS_SUPSTAT_VMAINWARN : Fld := ⟨SYS_SUPSTAT, 1, 1⟩
abbrev SYS_SUPSTAT_VMAINOK : Fld := ⟨SYS_SUPSTAT, 0, 0⟩
abbrev SYS_EVT : Nat := 0x2000000C
abbrev SYS_EVT_TWARNB : Fld := ⟨SYS_EVT, 17, 17⟩
abbrev SYS_EVT_TWARNA : Fld := ⟨SYS_EVT, 16, 16⟩
abbrev SYS_EVT_WDWARN : Fld := ⟨SYS_EVT, 10, 10⟩
abbrev SYS_EVT_RECOVDONE : Fld := ⟨SYS_EVT, 9, 9⟩
abbrev SYS_EVT_GODONE : Fld := ⟨SYS_EVT, 8, 8⟩
abbrev SYS_EVT_ISLDOWN : Fld := ⟨SYS_EVT, 3, 3⟩
abbrev SYS_EVT_VBATLOW : Fld := ⟨SYS_EVT, 2, 2⟩
abbrev SYS_EVT_VAUXW : Fld := ⟨SYS_EVT, 1, 1⟩
abbrev SYS_EVT_VMAINW : Fld := ⟨SYS_EVT, 0, 0⟩
abbrev SYS_EVTIEN : Nat := 0x20000010
abbrev SYS_EVTIEN_TEMP : Fld := ⟨SYS_EVTIEN, 17, 16⟩
abbrev SYS_EVTIEN_START : Fld := ⟨SYS_EVTIEN, 10, 8⟩
abbrev SYS_EVTIEN_SUP : Fld := ⟨SYS_EVTIEN, 3, 0⟩
abbrev SYS_RSTCAUSE : Nat := 0x20000014
abbrev SYS_RSTCAUSE_DBG : Fld := ⟨SYS_RSTCAUSE, 7, 7⟩
abbrev SYS_RSTCAUSE_THERM : Fld := ⟨SYS_RSTCAUSE, 6, 6⟩
abbrev SYS_RSTCAUSE_LOCKSTEP : Fld := ⟨SYS_RSTCAUSE, 5, 5⟩
abbrev SYS_RSTCAUSE_SWRST : Fld := ⟨SYS_RSTCAUSE, 4, 4⟩
abbrev SYS_RSTCAUSE_WDOG : Fld := ⟨SYS_RSTCAUSE, 3, 3⟩
abbrev SYS_RSTCAUSE_EXT : Fld := ⟨SYS_RSTCAUSE, 2, 2⟩
abbrev SYS_RSTCAUSE_BOD : Fld := ⟨SYS_RSTCAUSE, 1, 1⟩
abbrev SYS_RSTCAUSE_POR : Fld := ⟨SYS_RSTCAUSE, 0, 0⟩
abbrev SYS_SWRST : Nat := 0x20000018
abbrev SYS_SWRST_KEY : Fld := ⟨SYS_SWRST, 15, 0⟩
abbrev SYS_STARTCTL : Nat := 0x2000001C
abbrev SYS_STARTCTL_RECOVER : Fld := ⟨SYS_STARTCTL, 1, 1⟩
abbrev SYS_STARTCTL_GO : Fld := ⟨SYS_STARTCTL, 0, 0⟩
abbrev SYS_STARTSTAT : Nat := 0x20000020
abbrev SYS_STARTSTAT_RECMODE : Fld := ⟨SYS_STARTSTAT, 4, 4⟩
abbrev SYS_STARTSTAT_STEP : Fld := ⟨SYS_STARTSTAT, 3, 0⟩
abbrev SYS_NOSLEEP : Nat := 0x20000024
abbrev SYS_NOSLEEP_ISL : Fld := ⟨SYS_NOSLEEP, 26, 0⟩
abbrev SYS_WDCTL : Nat := 0x20000028
abbrev SYS_WDCTL_EN : Fld := ⟨SYS_WDCTL, 31, 31⟩
abbrev SYS_WDCTL_TIMEOUT : Fld := ⟨SYS_WDCTL, 23, 0⟩
abbrev SYS_WDKICK : Nat := 0x2000002C
abbrev SYS_WDKICK_KEY : Fld := ⟨SYS_WDKICK, 15, 0⟩
abbrev SYS_THCFG : Nat := 0x20000030
abbrev SYS_THCFG_WARN : Fld := ⟨SYS_THCFG, 11, 0⟩
abbrev SYS_TEMPA : Nat := 0x20000034
abbrev SYS_TEMPA_VALID : Fld := ⟨SYS_TEMPA, 31, 31⟩
abbrev SYS_TEMPA_TEMP : Fld := ⟨SYS_TEMPA, 11, 0⟩
abbrev SYS_TEMPB : Nat := 0x20000038
abbrev SYS_TEMPB_VALID : Fld := ⟨SYS_TEMPB, 31, 31⟩
abbrev SYS_TEMPB_TEMP : Fld := ⟨SYS_TEMPB, 11, 0⟩

/-! ### SLU block at 0x20100000 -/

abbrev SLU_CTL : Nat := 0x20100000
abbrev SLU_CTL_LOCK : Fld := ⟨SLU_CTL, 31, 31⟩
abbrev SLU_CTL_TMO : Fld := ⟨SLU_CTL, 7, 0⟩
abbrev SLU_ERRSTAT : Nat := 0x20100004
abbrev SLU_ERRSTAT_ACCERR : Fld := ⟨SLU_ERRSTAT, 4, 4⟩
abbrev SLU_ERRSTAT_UNMAPPED : Fld := ⟨SLU_ERRSTAT, 3, 3⟩
abbrev SLU_ERRSTAT_OFFACC : Fld := ⟨SLU_ERRSTAT, 2, 2⟩
abbrev SLU_ERRSTAT_PROVLEAK : Fld := ⟨SLU_ERRSTAT, 1, 1⟩
abbrev SLU_ERRSTAT_TIMEOUT : Fld := ⟨SLU_ERRSTAT, 0, 0⟩
abbrev SLU_ERRIEN : Nat := 0x20100008
abbrev SLU_ERRIEN_IEN : Fld := ⟨SLU_ERRIEN, 4, 0⟩
abbrev SLU_ERRINFO : Nat := 0x2010000C
abbrev SLU_ERRINFO_VALID : Fld := ⟨SLU_ERRINFO, 31, 31⟩
abbrev SLU_ERRINFO_DST : Fld := ⟨SLU_ERRINFO, 20, 16⟩
abbrev SLU_ERRINFO_SRC : Fld := ⟨SLU_ERRINFO, 12, 8⟩
abbrev SLU_ERRINFO_KIND : Fld := ⟨SLU_ERRINFO, 2, 0⟩
abbrev SLU_ERRADDR : Nat := 0x20100010
abbrev SLU_ERRADDR_ADDR : Fld := ⟨SLU_ERRADDR, 31, 0⟩
abbrev SLU_TMOCNT : Nat := 0x20100014
abbrev SLU_TMOCNT_COUNT : Fld := ⟨SLU_TMOCNT, 15, 0⟩
abbrev SLU_LEAKCNT : Nat := 0x20100018
abbrev SLU_LEAKCNT_COUNT : Fld := ⟨SLU_LEAKCNT, 15, 0⟩
abbrev SLU_ISLUP : Nat := 0x20100020
abbrev SLU_ISLUP_ISL : Fld := ⟨SLU_ISLUP, 26, 0⟩
abbrev SLU_ISLWAKE : Nat := 0x20100024
abbrev SLU_ISLWAKE_ISL : Fld := ⟨SLU_ISLWAKE, 26, 0⟩
abbrev SLU_ARBIDX : Nat := 0x20100030
abbrev SLU_ARBIDX_SRC : Fld := ⟨SLU_ARBIDX, 12, 8⟩
abbrev SLU_ARBIDX_DST : Fld := ⟨SLU_ARBIDX, 4, 0⟩
abbrev SLU_ARBCFG : Nat := 0x20100034
abbrev SLU_ARBCFG_EXISTS : Fld := ⟨SLU_ARBCFG, 31, 31⟩
abbrev SLU_ARBCFG_LEVEL : Fld := ⟨SLU_ARBCFG, 17, 16⟩
abbrev SLU_ARBCFG_LIMIT : Fld := ⟨SLU_ARBCFG, 14, 0⟩
abbrev SLU_ARBAGE : Nat := 0x20100038
abbrev SLU_ARBAGE_WAIT : Fld := ⟨SLU_ARBAGE, 31, 31⟩
abbrev SLU_ARBAGE_EFF : Fld := ⟨SLU_ARBAGE, 17, 16⟩
abbrev SLU_ARBAGE_AGE : Fld := ⟨SLU_ARBAGE, 15, 0⟩

/-! ### AFE block at 0x20300000 -/

abbrev AFE_CTL : Nat := 0x20300000
abbrev AFE_CTL_LOCK : Fld := ⟨AFE_CTL, 31, 31⟩
abbrev AFE_CTL_GLINE : Fld := ⟨AFE_CTL, 11, 8⟩
abbrev AFE_STAT : Nat := 0x20300004
abbrev AFE_STAT_LOOPI : Fld := ⟨AFE_STAT, 23, 16⟩
abbrev AFE_STAT_LOOPOL : Fld := ⟨AFE_STAT, 2, 2⟩
abbrev AFE_STAT_LOOPON : Fld := ⟨AFE_STAT, 1, 1⟩
abbrev AFE_STAT_REFOK : Fld := ⟨AFE_STAT, 0, 0⟩
abbrev AFE_EVT : Nat := 0x20300008
abbrev AFE_EVT_BLKRETRO : Fld := ⟨AFE_EVT, 23, 16⟩
abbrev AFE_EVT_BLKON : Fld := ⟨AFE_EVT, 15, 8⟩
abbrev AFE_EVT_REFFLT : Fld := ⟨AFE_EVT, 5, 5⟩
abbrev AFE_EVT_LOOPOL : Fld := ⟨AFE_EVT, 4, 4⟩
abbrev AFE_EVT_SEQFLT : Fld := ⟨AFE_EVT, 3, 0⟩
abbrev AFE_EVTIEN : Nat := 0x2030000C
abbrev AFE_EVTIEN_BLK : Fld := ⟨AFE_EVTIEN, 23, 8⟩
abbrev AFE_EVTIEN_FLT : Fld := ⟨AFE_EVTIEN, 5, 0⟩
abbrev AFE_SCANCTL (k : Nat) : Nat := 0x20300010 + 0x4 * k
abbrev AFE_SCANCTL_MODE (k : Nat) : Fld := ⟨AFE_SCANCTL k, 1, 1⟩
abbrev AFE_SCANCTL_EN (k : Nat) : Fld := ⟨AFE_SCANCTL k, 0, 0⟩
abbrev AFE_SEQSTAT (k : Nat) : Nat := 0x20300020 + 0x4 * k
abbrev AFE_SEQSTAT_PC (k : Nat) : Fld := ⟨AFE_SEQSTAT k, 26, 16⟩
abbrev AFE_SEQSTAT_CAUSE (k : Nat) : Fld := ⟨AFE_SEQSTAT k, 7, 4⟩
abbrev AFE_SEQSTAT_FAULT (k : Nat) : Fld := ⟨AFE_SEQSTAT k, 1, 1⟩
abbrev AFE_SEQSTAT_RUN (k : Nat) : Fld := ⟨AFE_SEQSTAT k, 0, 0⟩
abbrev AFE_BLKWIN : Nat := 0x20300030
abbrev AFE_BLKWIN_WIN : Fld := ⟨AFE_BLKWIN, 15, 0⟩
abbrev AFE_BLKSW : Nat := 0x20300034
abbrev AFE_BLKSW_SB : Fld := ⟨AFE_BLKSW, 7, 0⟩
abbrev AFE_BLKSTAT : Nat := 0x20300038
abbrev AFE_BLKSTAT_SEQSB : Fld := ⟨AFE_BLKSTAT, 11, 8⟩
abbrev AFE_BLKSTAT_ACT : Fld := ⟨AFE_BLKSTAT, 7, 0⟩
abbrev AFE_BLKCFG (k : Nat) : Nat := 0x20300040 + 0x4 * k
abbrev AFE_BLKCFG_HOLD (k : Nat) : Fld := ⟨AFE_BLKCFG k, 31, 16⟩
abbrev AFE_BLKCFG_POL (k : Nat) : Fld := ⟨AFE_BLKCFG k, 1, 1⟩
abbrev AFE_BLKCFG_EN (k : Nat) : Fld := ⟨AFE_BLKCFG k, 0, 0⟩
abbrev AFE_BLKMAPLO (k : Nat) : Nat := 0x20300080 + 0x8 * k
abbrev AFE_BLKMAPLO_CH (k : Nat) : Fld := ⟨AFE_BLKMAPLO k, 31, 0⟩
abbrev AFE_BLKMAPHI (k : Nat) : Nat := 0x20300084 + 0x8 * k
abbrev AFE_BLKMAPHI_CH (k : Nat) : Fld := ⟨AFE_BLKMAPHI k, 31, 0⟩
abbrev AFE_RVMAP (k : Nat) : Nat := 0x203000C0 + 0x4 * k
abbrev AFE_RVMAP_VALID3 (k : Nat) : Fld := ⟨AFE_RVMAP k, 31, 31⟩
abbrev AFE_RVMAP_CHAN3 (k : Nat) : Fld := ⟨AFE_RVMAP k, 29, 24⟩
abbrev AFE_RVMAP_VALID2 (k : Nat) : Fld := ⟨AFE_RVMAP k, 23, 23⟩
abbrev AFE_RVMAP_CHAN2 (k : Nat) : Fld := ⟨AFE_RVMAP k, 21, 16⟩
abbrev AFE_RVMAP_VALID1 (k : Nat) : Fld := ⟨AFE_RVMAP k, 15, 15⟩
abbrev AFE_RVMAP_CHAN1 (k : Nat) : Fld := ⟨AFE_RVMAP k, 13, 8⟩
abbrev AFE_RVMAP_VALID0 (k : Nat) : Fld := ⟨AFE_RVMAP k, 7, 7⟩
abbrev AFE_RVMAP_CHAN0 (k : Nat) : Fld := ⟨AFE_RVMAP k, 5, 0⟩
abbrev AFE_GCFG (k : Nat) : Nat := 0x20300100 + 0x4 * k
abbrev AFE_GCFG_ODR (k : Nat) : Fld := ⟨AFE_GCFG k, 2, 0⟩
abbrev AFE_GSTAT (k : Nat) : Nat := 0x20300140 + 0x4 * k
abbrev AFE_GSTAT_PINCONF (k : Nat) : Fld := ⟨AFE_GSTAT k, 7, 7⟩
abbrev AFE_GSTAT_RNGREP (k : Nat) : Fld := ⟨AFE_GSTAT k, 6, 6⟩
abbrev AFE_GSTAT_UNSET (k : Nat) : Fld := ⟨AFE_GSTAT k, 5, 5⟩
abbrev AFE_GSTAT_STALE (k : Nat) : Fld := ⟨AFE_GSTAT k, 4, 4⟩
abbrev AFE_GSTAT_MODFLT (k : Nat) : Fld := ⟨AFE_GSTAT k, 3, 3⟩
abbrev AFE_GSTAT_EXCFLT (k : Nat) : Fld := ⟨AFE_GSTAT k, 2, 2⟩
abbrev AFE_GSTAT_SHORT (k : Nat) : Fld := ⟨AFE_GSTAT k, 1, 1⟩
abbrev AFE_GSTAT_OPEN (k : Nat) : Fld := ⟨AFE_GSTAT k, 0, 0⟩
abbrev AFE_GIEN (k : Nat) : Nat := 0x20300180 + 0x4 * k
abbrev AFE_GIEN_IEN (k : Nat) : Fld := ⟨AFE_GIEN k, 7, 0⟩
abbrev AFE_CHCFG (k : Nat) : Nat := 0x20300800 + 0x10 * k
abbrev AFE_CHCFG_REVN (k : Nat) : Fld := ⟨AFE_CHCFG k, 15, 12⟩
abbrev AFE_CHCFG_SENSE (k : Nat) : Fld := ⟨AFE_CHCFG k, 8, 8⟩
abbrev AFE_CHCFG_BURN (k : Nat) : Fld := ⟨AFE_CHCFG k, 7, 7⟩
abbrev AFE_CHCFG_SWITCHED (k : Nat) : Fld := ⟨AFE_CHCFG k, 6, 6⟩
abbrev AFE_CHCFG_EXCLVL (k : Nat) : Fld := ⟨AFE_CHCFG k, 5, 4⟩
abbrev AFE_CHCFG_TYPE (k : Nat) : Fld := ⟨AFE_CHCFG k, 3, 0⟩
abbrev AFE_CHRNG (k : Nat) : Nat := 0x20300804 + 0x10 * k
abbrev AFE_CHRNG_CUR (k : Nat) : Fld := ⟨AFE_CHRNG k, 26, 24⟩
abbrev AFE_CHRNG_RNGTOL (k : Nat) : Fld := ⟨AFE_CHRNG k, 23, 16⟩
abbrev AFE_CHRNG_DNCNT (k : Nat) : Fld := ⟨AFE_CHRNG k, 15, 12⟩
abbrev AFE_CHRNG_RMAX (k : Nat) : Fld := ⟨AFE_CHRNG k, 10, 8⟩
abbrev AFE_CHRNG_RMIN (k : Nat) : Fld := ⟨AFE_CHRNG k, 6, 4⟩
abbrev AFE_CHRNG_AUTO (k : Nat) : Fld := ⟨AFE_CHRNG k, 3, 3⟩
abbrev AFE_CHRNG_RANGE (k : Nat) : Fld := ⟨AFE_CHRNG k, 2, 0⟩
abbrev AFE_CHSCAN (k : Nat) : Nat := 0x20300808 + 0x10 * k
abbrev AFE_CHSCAN_STALE (k : Nat) : Fld := ⟨AFE_CHSCAN k, 23, 16⟩
abbrev AFE_CHSCAN_STALEEN (k : Nat) : Fld := ⟨AFE_CHSCAN k, 8, 8⟩
abbrev AFE_CHSCAN_RATE (k : Nat) : Fld := ⟨AFE_CHSCAN k, 4, 2⟩
abbrev AFE_CHSCAN_PIN (k : Nat) : Fld := ⟨AFE_CHSCAN k, 1, 1⟩
abbrev AFE_CHSCAN_EN (k : Nat) : Fld := ⟨AFE_CHSCAN k, 0, 0⟩
abbrev AFE_CHSTAT (k : Nat) : Nat := 0x2030080C + 0x10 * k
abbrev AFE_CHSTAT_RNGCNT (k : Nat) : Fld := ⟨AFE_CHSTAT k, 31, 16⟩
abbrev AFE_CHSTAT_STALEF (k : Nat) : Fld := ⟨AFE_CHSTAT k, 14, 14⟩
abbrev AFE_CHSTAT_UNSET (k : Nat) : Fld := ⟨AFE_CHSTAT k, 13, 13⟩
abbrev AFE_CHSTAT_RNGREP (k : Nat) : Fld := ⟨AFE_CHSTAT k, 12, 12⟩
abbrev AFE_CHSTAT_UND (k : Nat) : Fld := ⟨AFE_CHSTAT k, 11, 11⟩
abbrev AFE_CHSTAT_OVR (k : Nat) : Fld := ⟨AFE_CHSTAT k, 10, 10⟩
abbrev AFE_CHSTAT_SHORT (k : Nat) : Fld := ⟨AFE_CHSTAT k, 9, 9⟩
abbrev AFE_CHSTAT_OPEN (k : Nat) : Fld := ⟨AFE_CHSTAT k, 8, 8⟩
abbrev AFE_CHSTAT_LASTQ (k : Nat) : Fld := ⟨AFE_CHSTAT k, 3, 0⟩
abbrev AFE_CALCTL : Nat := 0x20302000
abbrev AFE_CALCTL_STGMAX : Fld := ⟨AFE_CALCTL, 23, 16⟩
abbrev AFE_CALCTL_AVG : Fld := ⟨AFE_CALCTL, 11, 8⟩
abbrev AFE_CALCTL_LEVEL : Fld := ⟨AFE_CALCTL, 5, 4⟩
abbrev AFE_CALCTL_ROTA : Fld := ⟨AFE_CALCTL, 3, 0⟩
abbrev AFE_CALLIM : Nat := 0x20302004
abbrev AFE_CALLIM_MINAGE : Fld := ⟨AFE_CALLIM, 31, 16⟩
abbrev AFE_CALLIM_LIMIT : Fld := ⟨AFE_CALLIM, 15, 0⟩
abbrev AFE_CJCFG : Nat := 0x20302008
abbrev AFE_CJCFG_CJAVG : Fld := ⟨AFE_CJCFG, 19, 16⟩
abbrev AFE_CJCFG_CJLIM : Fld := ⟨AFE_CJCFG, 15, 0⟩
abbrev AFE_IMPCFG : Nat := 0x2030200C
abbrev AFE_IMPCFG_TAIL : Fld := ⟨AFE_IMPCFG, 15, 8⟩
abbrev AFE_IMPCFG_CYC : Fld := ⟨AFE_IMPCFG, 3, 0⟩
abbrev AFE_CALCMD : Nat := 0x20302010
abbrev AFE_CALCMD_BUSY : Fld := ⟨AFE_CALCMD, 31, 31⟩
abbrev AFE_CALCMD_CHAN : Fld := ⟨AFE_CALCMD, 14, 8⟩
abbrev AFE_CALCMD_OP : Fld := ⟨AFE_CALCMD, 2, 0⟩
abbrev AFE_CALEVT : Nat := 0x20302014
abbrev AFE_CALEVT_CMDLOST : Fld := ⟨AFE_CALEVT, 9, 9⟩
abbrev AFE_CALEVT_CALDUE : Fld := ⟨AFE_CALEVT, 8, 8⟩
abbrev AFE_CALEVT_CALLOST : Fld := ⟨AFE_CALEVT, 7, 7⟩
abbrev AFE_CALEVT_IMPSKIP : Fld := ⟨AFE_CALEVT, 6, 6⟩
abbrev AFE_CALEVT_IMPREPL : Fld := ⟨AFE_CALEVT, 5, 5⟩
abbrev AFE_CALEVT_IMPFAIL : Fld := ⟨AFE_CALEVT, 4, 4⟩
abbrev AFE_CALEVT_CALFAIL : Fld := ⟨AFE_CALEVT, 3, 3⟩
abbrev AFE_CALEVT_CALREPL : Fld := ⟨AFE_CALEVT, 2, 2⟩
abbrev AFE_CALEVT_CALABORT : Fld := ⟨AFE_CALEVT, 1, 1⟩
abbrev AFE_CALEVT_CALREJ : Fld := ⟨AFE_CALEVT, 0, 0⟩
abbrev AFE_CALIEN : Nat := 0x20302018
abbrev AFE_CALIEN_IEN : Fld := ⟨AFE_CALIEN, 9, 0⟩
abbrev AFE_CJTEMP (k : Nat) : Nat := 0x20302040 + 0x4 * k
abbrev AFE_CJTEMP_VALUE (k : Nat) : Fld := ⟨AFE_CJTEMP k, 31, 0⟩
abbrev AFE_MODTEMP : Nat := 0x20302080
abbrev AFE_MODTEMP_VALUE : Fld := ⟨AFE_MODTEMP, 31, 0⟩
abbrev AFE_REFRES (k : Nat) : Nat := 0x20302100 + 0x4 * k
abbrev AFE_REFRES_VALID (k : Nat) : Fld := ⟨AFE_REFRES k, 31, 31⟩
abbrev AFE_REFRES_RANGE (k : Nat) : Fld := ⟨AFE_REFRES k, 30, 28⟩
abbrev AFE_REFRES_INPUT (k : Nat) : Fld := ⟨AFE_REFRES k, 27, 24⟩
abbrev AFE_REFRES_MEAN (k : Nat) : Fld := ⟨AFE_REFRES k, 23, 0⟩
abbrev AFE_IMPSELF (k : Nat) : Nat := 0x20302140 + 0x4 * k
abbrev AFE_IMPSELF_VALUE (k : Nat) : Fld := ⟨AFE_IMPSELF k, 31, 0⟩
abbrev AFE_CHCAL (k : Nat) : Nat := 0x20303000 + 0x20 * k
abbrev AFE_CHCAL_TOL (k : Nat) : Fld := ⟨AFE_CHCAL k, 31, 16⟩
abbrev AFE_CHCAL_INITCAL (k : Nat) : Fld := ⟨AFE_CHCAL k, 4, 4⟩
abbrev AFE_CHCAL_IMPEN (k : Nat) : Fld := ⟨AFE_CHCAL k, 3, 3⟩
abbrev AFE_CHCAL_RTDREF (k : Nat) : Fld := ⟨AFE_CHCAL k, 2, 2⟩
abbrev AFE_CHCAL_TREF (k : Nat) : Fld := ⟨AFE_CHCAL k, 1, 1⟩
abbrev AFE_CHCAL_CALEN (k : Nat) : Fld := ⟨AFE_CHCAL k, 0, 0⟩
abbrev AFE_CALSTAT (k : Nat) : Nat := 0x20303004 + 0x20 * k
abbrev AFE_CALSTAT_FAILS (k : Nat) : Fld := ⟨AFE_CALSTAT k, 31, 24⟩
abbrev AFE_CALSTAT_MEAS (k : Nat) : Fld := ⟨AFE_CALSTAT k, 23, 16⟩
abbrev AFE_CALSTAT_GEN (k : Nat) : Fld := ⟨AFE_CALSTAT k, 15, 8⟩
abbrev AFE_CALSTAT_EFF (k : Nat) : Fld := ⟨AFE_CALSTAT k, 5, 4⟩
abbrev AFE_CALSTAT_IMPBAD (k : Nat) : Fld := ⟨AFE_CALSTAT k, 3, 3⟩
abbrev AFE_CALSTAT_ROTA (k : Nat) : Fld := ⟨AFE_CALSTAT k, 2, 2⟩
abbrev AFE_CALSTAT_STATE (k : Nat) : Fld := ⟨AFE_CALSTAT k, 1, 0⟩
abbrev AFE_CALAGE (k : Nat) : Nat := 0x20303008 + 0x20 * k
abbrev AFE_CALAGE_AGE (k : Nat) : Fld := ⟨AFE_CALAGE k, 15, 0⟩
abbrev AFE_IMPK (k : Nat) : Nat := 0x2030300C + 0x20 * k
abbrev AFE_IMPK_VALUE (k : Nat) : Fld := ⟨AFE_IMPK k, 31, 0⟩
abbrev AFE_IMPLO (k : Nat) : Nat := 0x20303010 + 0x20 * k
abbrev AFE_IMPLO_VALUE (k : Nat) : Fld := ⟨AFE_IMPLO k, 31, 0⟩
abbrev AFE_IMPHI (k : Nat) : Nat := 0x20303014 + 0x20 * k
abbrev AFE_IMPHI_VALUE (k : Nat) : Fld := ⟨AFE_IMPHI k, 31, 0⟩
abbrev AFE_IMPR (k : Nat) : Nat := 0x20303018 + 0x20 * k
abbrev AFE_IMPR_VALUE (k : Nat) : Fld := ⟨AFE_IMPR k, 31, 0⟩
abbrev AFE_IMPX (k : Nat) : Nat := 0x2030301C + 0x20 * k
abbrev AFE_IMPX_VALUE (k : Nat) : Fld := ⟨AFE_IMPX k, 31, 0⟩

/-! ### VIB block at 0x20400000 -/

abbrev VIB_CTL : Nat := 0x20400000
abbrev VIB_CTL_LOCK : Fld := ⟨VIB_CTL, 31, 31⟩
abbrev VIB_STAT : Nat := 0x20400004
abbrev VIB_STAT_SRCON : Fld := ⟨VIB_STAT, 15, 8⟩
abbrev VIB_STAT_RUN : Fld := ⟨VIB_STAT, 7, 0⟩
abbrev VIB_BLKCFG : Nat := 0x20400008
abbrev VIB_BLKCFG_HOLD : Fld := ⟨VIB_BLKCFG, 31, 16⟩
abbrev VIB_BLKCFG_EN : Fld := ⟨VIB_BLKCFG, 11, 8⟩
abbrev VIB_BLKCFG_POL : Fld := ⟨VIB_BLKCFG, 3, 0⟩
abbrev VIB_CHCFG (k : Nat) : Nat := 0x20400100 + 0x20 * k
abbrev VIB_CHCFG_SETTLE (k : Nat) : Fld := ⟨VIB_CHCFG k, 31, 24⟩
abbrev VIB_CHCFG_QUEUE (k : Nat) : Fld := ⟨VIB_CHCFG k, 20, 16⟩
abbrev VIB_CHCFG_BLKMAP (k : Nat) : Fld := ⟨VIB_CHCFG k, 15, 12⟩
abbrev VIB_CHCFG_SUMONLY (k : Nat) : Fld := ⟨VIB_CHCFG k, 10, 10⟩
abbrev VIB_CHCFG_SEGLEN (k : Nat) : Fld := ⟨VIB_CHCFG k, 9, 8⟩
abbrev VIB_CHCFG_HPF (k : Nat) : Fld := ⟨VIB_CHCFG k, 5, 4⟩
abbrev VIB_CHCFG_GAIN (k : Nat) : Fld := ⟨VIB_CHCFG k, 2, 2⟩
abbrev VIB_CHCFG_CUR (k : Nat) : Fld := ⟨VIB_CHCFG k, 1, 1⟩
abbrev VIB_CHCFG_EN (k : Nat) : Fld := ⟨VIB_CHCFG k, 0, 0⟩
abbrev VIB_CHBIAS (k : Nat) : Nat := 0x20400104 + 0x20 * k
abbrev VIB_CHBIAS_OPENV (k : Nat) : Fld := ⟨VIB_CHBIAS k, 31, 16⟩
abbrev VIB_CHBIAS_SHORTV (k : Nat) : Fld := ⟨VIB_CHBIAS k, 15, 0⟩
abbrev VIB_CHWARN (k : Nat) : Nat := 0x20400108 + 0x20 * k
abbrev VIB_CHWARN_WARNHI (k : Nat) : Fld := ⟨VIB_CHWARN k, 31, 16⟩
abbrev VIB_CHWARN_WARNLO (k : Nat) : Fld := ⟨VIB_CHWARN k, 15, 0⟩
abbrev VIB_CHSTAT (k : Nat) : Nat := 0x2040010C + 0x20 * k
abbrev VIB_CHSTAT_BIASMV (k : Nat) : Fld := ⟨VIB_CHSTAT k, 31, 16⟩
abbrev VIB_CHSTAT_LASTQ (k : Nat) : Fld := ⟨VIB_CHSTAT k, 7, 4⟩
abbrev VIB_CHSTAT_STAGEFLT (k : Nat) : Fld := ⟨VIB_CHSTAT k, 2, 2⟩
abbrev VIB_CHSTAT_STATE (k : Nat) : Fld := ⟨VIB_CHSTAT k, 1, 0⟩
abbrev VIB_CHEVT (k : Nat) : Nat := 0x20400110 + 0x20 * k
abbrev VIB_CHEVT_STAGE (k : Nat) : Fld := ⟨VIB_CHEVT k, 6, 6⟩
abbrev VIB_CHEVT_RUN (k : Nat) : Fld := ⟨VIB_CHEVT k, 5, 5⟩
abbrev VIB_CHEVT_DROP (k : Nat) : Fld := ⟨VIB_CHEVT k, 4, 4⟩
abbrev VIB_CHEVT_BIASW (k : Nat) : Fld := ⟨VIB_CHEVT k, 3, 3⟩
abbrev VIB_CHEVT_CLIP (k : Nat) : Fld := ⟨VIB_CHEVT k, 2, 2⟩
abbrev VIB_CHEVT_SHORT (k : Nat) : Fld := ⟨VIB_CHEVT k, 1, 1⟩
abbrev VIB_CHEVT_OPEN (k : Nat) : Fld := ⟨VIB_CHEVT k, 0, 0⟩
abbrev VIB_CHIEN (k : Nat) : Nat := 0x20400114 + 0x20 * k
abbrev VIB_CHIEN_IEN (k : Nat) : Fld := ⟨VIB_CHIEN k, 6, 0⟩
abbrev VIB_CHCNT (k : Nat) : Nat := 0x20400118 + 0x20 * k
abbrev VIB_CHCNT_FLTCNT (k : Nat) : Fld := ⟨VIB_CHCNT k, 31, 16⟩
abbrev VIB_CHCNT_DROPCNT (k : Nat) : Fld := ⟨VIB_CHCNT k, 15, 0⟩
abbrev VIB_CHSEQ (k : Nat) : Nat := 0x2040011C + 0x20 * k
abbrev VIB_CHSEQ_SEQ (k : Nat) : Fld := ⟨VIB_CHSEQ k, 15, 0⟩

/-! ### LOOM block at 0x20200000 -/

abbrev LOOM_CTL : Nat := 0x20200000
abbrev LOOM_CTL_LOCK : Fld := ⟨LOOM_CTL, 31, 31⟩
abbrev LOOM_CTL_PICKEN : Fld := ⟨LOOM_CTL, 0, 0⟩
abbrev LOOM_STAT : Nat := 0x20200004
abbrev LOOM_STAT_FATAL : Fld := ⟨LOOM_STAT, 31, 31⟩
abbrev LOOM_STAT_CLR : Fld := ⟨LOOM_STAT, 30, 30⟩
abbrev LOOM_STAT_DONEV : Fld := ⟨LOOM_STAT, 29, 29⟩
abbrev LOOM_STAT_PICKON : Fld := ⟨LOOM_STAT, 28, 28⟩
abbrev LOOM_STAT_RUN : Fld := ⟨LOOM_STAT, 15, 0⟩
abbrev LOOM_EVT : Nat := 0x20200008
abbrev LOOM_EVT_HWREJ : Fld := ⟨LOOM_EVT, 24, 24⟩
abbrev LOOM_EVT_ALMCHG : Fld := ⟨LOOM_EVT, 16, 16⟩
abbrev LOOM_EVT_ECCCOR : Fld := ⟨LOOM_EVT, 10, 10⟩
abbrev LOOM_EVT_FATAL : Fld := ⟨LOOM_EVT, 9, 9⟩
abbrev LOOM_EVT_SHFLT : Fld := ⟨LOOM_EVT, 8, 8⟩
abbrev LOOM_EVT_CMDLOST : Fld := ⟨LOOM_EVT, 4, 4⟩
abbrev LOOM_EVT_UNROUTED : Fld := ⟨LOOM_EVT, 3, 3⟩
abbrev LOOM_EVT_DISPOVF : Fld := ⟨LOOM_EVT, 2, 2⟩
abbrev LOOM_EVT_FIRSTDONE : Fld := ⟨LOOM_EVT, 1, 1⟩
abbrev LOOM_EVT_PICKLATE : Fld := ⟨LOOM_EVT, 0, 0⟩
abbrev LOOM_EVTIEN : Nat := 0x2020000C
abbrev LOOM_EVTIEN_HWREJ : Fld := ⟨LOOM_EVTIEN, 24, 24⟩
abbrev LOOM_EVTIEN_ALMCHG : Fld := ⟨LOOM_EVTIEN, 16, 16⟩
abbrev LOOM_EVTIEN_FLT : Fld := ⟨LOOM_EVTIEN, 10, 8⟩
abbrev LOOM_EVTIEN_PICK : Fld := ⟨LOOM_EVTIEN, 4, 0⟩
abbrev LOOM_PICKCFG : Nat := 0x20200010
abbrev LOOM_PICKCFG_PICKUS : Fld := ⟨LOOM_PICKCFG, 13, 0⟩
abbrev LOOM_PICKNUM : Nat := 0x20200014
abbrev LOOM_PICKNUM_PICK : Fld := ⟨LOOM_PICKNUM, 31, 0⟩
abbrev LOOM_PICKDONE : Nat := 0x20200018
abbrev LOOM_PICKDONE_PICK : Fld := ⟨LOOM_PICKDONE, 31, 0⟩
abbrev LOOM_PICKLAG : Nat := 0x2020001C
abbrev LOOM_PICKLAG_FATALEN : Fld := ⟨LOOM_PICKLAG, 31, 31⟩
abbrev LOOM_PICKLAG_LAGFATAL : Fld := ⟨LOOM_PICKLAG, 23, 16⟩
abbrev LOOM_PICKLAG_HANG : Fld := ⟨LOOM_PICKLAG, 15, 8⟩
abbrev LOOM_PICKLAG_LAGMAX : Fld := ⟨LOOM_PICKLAG, 7, 0⟩
abbrev LOOM_DEADLINE : Nat := 0x20200020
abbrev LOOM_DEADLINE_DL : Fld := ⟨LOOM_DEADLINE, 9, 0⟩
abbrev LOOM_ATCFG : Nat := 0x20200024
abbrev LOOM_ATCFG_PUBDIV : Fld := ⟨LOOM_ATCFG, 27, 24⟩
abbrev LOOM_ATCFG_BLK : Fld := ⟨LOOM_ATCFG, 21, 16⟩
abbrev LOOM_ATCFG_LEN : Fld := ⟨LOOM_ATCFG, 12, 0⟩
abbrev LOOM_ATSTAT : Nat := 0x20200028
abbrev LOOM_ATSTAT_BUSY : Fld := ⟨LOOM_ATSTAT, 31, 31⟩
abbrev LOOM_ATSTAT_CUR : Fld := ⟨LOOM_ATSTAT, 24, 24⟩
abbrev LOOM_ATSTAT_SEQ : Fld := ⟨LOOM_ATSTAT, 15, 0⟩
abbrev LOOM_ATPICK : Nat := 0x2020002C
abbrev LOOM_ATPICK_PICK : Fld := ⟨LOOM_ATPICK, 31, 0⟩
abbrev LOOM_HWWIN : Nat := 0x20200030
abbrev LOOM_HWWIN_LIMIT : Fld := ⟨LOOM_HWWIN, 24, 16⟩
abbrev LOOM_HWWIN_BASE : Fld := ⟨LOOM_HWWIN, 8, 0⟩
abbrev LOOM_SHSEL : Nat := 0x20200034
abbrev LOOM_SHSEL_SEL : Fld := ⟨LOOM_SHSEL, 3, 0⟩
abbrev LOOM_UNRCNT : Nat := 0x20200038
abbrev LOOM_UNRCNT_COUNT : Fld := ⟨LOOM_UNRCNT, 15, 0⟩
abbrev LOOM_ECCSTAT : Nat := 0x2020003C
abbrev LOOM_ECCSTAT_SCOR : Fld := ⟨LOOM_ECCSTAT, 31, 16⟩
abbrev LOOM_ECCSTAT_WCOR : Fld := ⟨LOOM_ECCSTAT, 15, 0⟩
abbrev LOOM_FSTAT : Nat := 0x20200040
abbrev LOOM_FSTAT_VALID : Fld := ⟨LOOM_FSTAT, 31, 31⟩
abbrev LOOM_FSTAT_SHUTTLE : Fld := ⟨LOOM_FSTAT, 11, 8⟩
abbrev LOOM_FSTAT_CAUSE : Fld := ⟨LOOM_FSTAT, 3, 0⟩
abbrev LOOM_LIBID : Nat := 0x20200044
abbrev LOOM_LIBID_VERSION : Fld := ⟨LOOM_LIBID, 31, 16⟩
abbrev LOOM_LIBID_SIZE : Fld := ⟨LOOM_LIBID, 15, 0⟩
abbrev LOOM_PVEVT : Nat := 0x20200048
abbrev LOOM_PVEVT_DLLATE : Fld := ⟨LOOM_PVEVT, 3, 3⟩
abbrev LOOM_PVEVT_DEFDISC : Fld := ⟨LOOM_PVEVT, 2, 2⟩
abbrev LOOM_PVEVT_DLDROP : Fld := ⟨LOOM_PVEVT, 1, 1⟩
abbrev LOOM_PVEVT_DLRES : Fld := ⟨LOOM_PVEVT, 0, 0⟩
abbrev LOOM_DLLAST : Nat := 0x2020004C
abbrev LOOM_DLLAST_VALID : Fld := ⟨LOOM_DLLAST, 31, 31⟩
abbrev LOOM_DLLAST_SHUTTLE : Fld := ⟨LOOM_DLLAST, 30, 27⟩
abbrev LOOM_DLLAST_PEND : Fld := ⟨LOOM_DLLAST, 26, 22⟩
abbrev LOOM_DLLAST_QUAL : Fld := ⟨LOOM_DLLAST, 21, 18⟩
abbrev LOOM_DLLAST_SRC : Fld := ⟨LOOM_DLLAST, 6, 0⟩
abbrev LOOM_FANCFG : Nat := 0x20200050
abbrev LOOM_FANCFG_EN : Fld := ⟨LOOM_FANCFG, 31, 31⟩
abbrev LOOM_FANCFG_BLK : Fld := ⟨LOOM_FANCFG, 21, 16⟩
abbrev LOOM_EGEVT : Nat := 0x20200054
abbrev LOOM_EGEVT_COAL : Fld := ⟨LOOM_EGEVT, 11, 8⟩
abbrev LOOM_EGEVT_FLOOD : Fld := ⟨LOOM_EGEVT, 6, 4⟩
abbrev LOOM_EGEVT_SHED : Fld := ⟨LOOM_EGEVT, 2, 0⟩
abbrev LOOM_ARBCFG (k : Nat) : Nat := 0x20200080 + 0x4 * k
abbrev LOOM_ARBCFG_LEVEL (k : Nat) : Fld := ⟨LOOM_ARBCFG k, 17, 16⟩
abbrev LOOM_ARBCFG_LIMIT (k : Nat) : Fld := ⟨LOOM_ARBCFG k, 14, 0⟩
abbrev LOOM_EGSTAT (k : Nat) : Nat := 0x20200100 + 0x10 * k
abbrev LOOM_EGSTAT_FLOODW (k : Nat) : Fld := ⟨LOOM_EGSTAT k, 31, 31⟩
abbrev LOOM_EGSTAT_ACC (k : Nat) : Fld := ⟨LOOM_EGSTAT k, 30, 30⟩
abbrev LOOM_EGSTAT_ALM (k : Nat) : Fld := ⟨LOOM_EGSTAT k, 28, 16⟩
abbrev LOOM_EGSTAT_FIFO (k : Nat) : Fld := ⟨LOOM_EGSTAT k, 9, 0⟩
abbrev LOOM_SHEDA (k : Nat) : Nat := 0x20200104 + 0x10 * k
abbrev LOOM_SHEDA_DIAG (k : Nat) : Fld := ⟨LOOM_SHEDA k, 31, 16⟩
abbrev LOOM_SHEDA_HIST (k : Nat) : Fld := ⟨LOOM_SHEDA k, 15, 0⟩
abbrev LOOM_SHEDB (k : Nat) : Nat := 0x20200108 + 0x10 * k
abbrev LOOM_SHEDB_EXTR (k : Nat) : Fld := ⟨LOOM_SHEDB k, 31, 16⟩
abbrev LOOM_SHEDB_STATE (k : Nat) : Fld := ⟨LOOM_SHEDB k, 15, 0⟩
abbrev LOOM_EGCNT (k : Nat) : Nat := 0x2020010C + 0x10 * k
abbrev LOOM_EGCNT_FLOODS (k : Nat) : Fld := ⟨LOOM_EGCNT k, 31, 16⟩
abbrev LOOM_EGCNT_COAL (k : Nat) : Fld := ⟨LOOM_EGCNT k, 15, 0⟩
abbrev LOOM_SHCMD (k : Nat) : Nat := 0x20200200 + 0x20 * k
abbrev LOOM_SHCMD_BUSY (k : Nat) : Fld := ⟨LOOM_SHCMD k, 31, 31⟩
abbrev LOOM_SHCMD_CMD (k : Nat) : Fld := ⟨LOOM_SHCMD k, 1, 0⟩
abbrev LOOM_SHCFG (k : Nat) : Nat := 0x20200204 + 0x20 * k
abbrev LOOM_SHCFG_FPOL (k : Nat) : Fld := ⟨LOOM_SHCFG k, 16, 16⟩
abbrev LOOM_SHCFG_ENTRY (k : Nat) : Fld := ⟨LOOM_SHCFG k, 15, 2⟩
abbrev LOOM_SHSTAT (k : Nat) : Nat := 0x20200208 + 0x20 * k
abbrev LOOM_SHSTAT_DROPS (k : Nat) : Fld := ⟨LOOM_SHSTAT k, 31, 16⟩
abbrev LOOM_SHSTAT_CAUSE (k : Nat) : Fld := ⟨LOOM_SHSTAT k, 7, 4⟩
abbrev LOOM_SHSTAT_STATE (k : Nat) : Fld := ⟨LOOM_SHSTAT k, 1, 0⟩
abbrev LOOM_SHPC (k : Nat) : Nat := 0x2020020C + 0x20 * k
abbrev LOOM_SHPC_PC (k : Nat) : Fld := ⟨LOOM_SHPC k, 31, 0⟩
abbrev LOOM_SHIRQ (k : Nat) : Nat := 0x20200210 + 0x20 * k
abbrev LOOM_SHIRQ_FLAG (k : Nat) : Fld := ⟨LOOM_SHIRQ k, 7, 0⟩
abbrev LOOM_SHIEN (k : Nat) : Nat := 0x20200214 + 0x20 * k
abbrev LOOM_SHIEN_FLAG (k : Nat) : Fld := ⟨LOOM_SHIEN k, 7, 0⟩
abbrev LOOM_SHDONE (k : Nat) : Nat := 0x20200218 + 0x20 * k
abbrev LOOM_SHDONE_PICK (k : Nat) : Fld := ⟨LOOM_SHDONE k, 31, 0⟩
abbrev LOOM_ROUTE (k : Nat) : Nat := 0x20200400 + 0x4 * k
abbrev LOOM_ROUTE_MASK (k : Nat) : Fld := ⟨LOOM_ROUTE k, 15, 0⟩
abbrev LOOM_SLOTSTAT (k : Nat) : Nat := 0x20200800 + 0x10 * k
abbrev LOOM_SLOTSTAT_PROV (k : Nat) : Fld := ⟨LOOM_SLOTSTAT k, 31, 31⟩
abbrev LOOM_SLOTSTAT_GQ (k : Nat) : Fld := ⟨LOOM_SLOTSTAT k, 28, 24⟩
abbrev LOOM_SLOTSTAT_INUSE (k : Nat) : Fld := ⟨LOOM_SLOTSTAT k, 23, 20⟩
abbrev LOOM_SLOTSTAT_HELD (k : Nat) : Fld := ⟨LOOM_SLOTSTAT k, 19, 19⟩
abbrev LOOM_SLOTSTAT_OLDPEND (k : Nat) : Fld := ⟨LOOM_SLOTSTAT k, 14, 10⟩
abbrev LOOM_SLOTSTAT_SLOTS (k : Nat) : Fld := ⟨LOOM_SLOTSTAT k, 7, 0⟩
abbrev LOOM_HELD (k : Nat) : Nat := 0x20200804 + 0x10 * k
abbrev LOOM_HELD_TAKEN (k : Nat) : Fld := ⟨LOOM_HELD k, 22, 16⟩
abbrev LOOM_HELD_PENDING (k : Nat) : Fld := ⟨LOOM_HELD k, 14, 8⟩
abbrev LOOM_HELD_COUNT (k : Nat) : Fld := ⟨LOOM_HELD k, 6, 0⟩
abbrev LOOM_SQCNT (k : Nat) : Nat := 0x20200808 + 0x10 * k
abbrev LOOM_SQCNT_REPLAY (k : Nat) : Fld := ⟨LOOM_SQCNT k, 31, 16⟩
abbrev LOOM_SQCNT_DROP (k : Nat) : Fld := ⟨LOOM_SQCNT k, 15, 0⟩
abbrev LOOM_DLCNT (k : Nat) : Nat := 0x2020080C + 0x10 * k
abbrev LOOM_DLCNT_DROPPED (k : Nat) : Fld := ⟨LOOM_DLCNT k, 31, 16⟩
abbrev LOOM_DLCNT_RESOLVED (k : Nat) : Fld := ⟨LOOM_DLCNT k, 15, 0⟩
abbrev LOOM_ATCHG (k : Nat) : Nat := 0x20201000 + 0x4 * k
abbrev LOOM_ATCHG_CHG (k : Nat) : Fld := ⟨LOOM_ATCHG k, 31, 0⟩

/-! ### DIO block at 0x20500000 -/

abbrev DIO_CTL : Nat := 0x20500000
abbrev DIO_CTL_LOCK : Fld := ⟨DIO_CTL, 31, 31⟩
abbrev DIO_STAT : Nat := 0x20500004
abbrev DIO_STAT_FIRSTPK : Fld := ⟨DIO_STAT, 31, 31⟩
abbrev DIO_STAT_TAKEN : Fld := ⟨DIO_STAT, 30, 30⟩
abbrev DIO_STAT_OEN : Fld := ⟨DIO_STAT, 26, 24⟩
abbrev DIO_STAT_UP : Fld := ⟨DIO_STAT, 8, 0⟩
abbrev DIO_EVT : Nat := 0x20500008
abbrev DIO_EVT_TAKEOVER : Fld := ⟨DIO_EVT, 3, 3⟩
abbrev DIO_EVT_OCMDREJ : Fld := ⟨DIO_EVT, 2, 2⟩
abbrev DIO_EVT_ENABLED : Fld := ⟨DIO_EVT, 1, 1⟩
abbrev DIO_EVT_BANKDOWN : Fld := ⟨DIO_EVT, 0, 0⟩
abbrev DIO_EVTIEN : Nat := 0x2050000C
abbrev DIO_EVTIEN_IEN : Fld := ⟨DIO_EVTIEN, 3, 0⟩
abbrev DIO_RVMAP (k : Nat) : Nat := 0x20500010 + 0x4 * k
abbrev DIO_RVMAP_VALID3 (k : Nat) : Fld := ⟨DIO_RVMAP k, 31, 31⟩
abbrev DIO_RVMAP_INPUT3 (k : Nat) : Fld := ⟨DIO_RVMAP k, 29, 24⟩
abbrev DIO_RVMAP_VALID2 (k : Nat) : Fld := ⟨DIO_RVMAP k, 23, 23⟩
abbrev DIO_RVMAP_INPUT2 (k : Nat) : Fld := ⟨DIO_RVMAP k, 21, 16⟩
abbrev DIO_RVMAP_VALID1 (k : Nat) : Fld := ⟨DIO_RVMAP k, 15, 15⟩
abbrev DIO_RVMAP_INPUT1 (k : Nat) : Fld := ⟨DIO_RVMAP k, 13, 8⟩
abbrev DIO_RVMAP_VALID0 (k : Nat) : Fld := ⟨DIO_RVMAP k, 7, 7⟩
abbrev DIO_RVMAP_INPUT0 (k : Nat) : Fld := ⟨DIO_RVMAP k, 5, 0⟩
abbrev DIO_OCMD : Nat := 0x20500020
abbrev DIO_OCMD_OUT : Fld := ⟨DIO_OCMD, 12, 8⟩
abbrev DIO_OCMD_STATE : Fld := ⟨DIO_OCMD, 0, 0⟩
abbrev DIO_OSTATE : Nat := 0x20500024
abbrev DIO_OSTATE_OUT : Fld := ⟨DIO_OSTATE, 23, 0⟩
abbrev DIO_OACT : Nat := 0x20500028
abbrev DIO_OACT_OUT : Fld := ⟨DIO_OACT, 23, 0⟩
abbrev DIO_OFDRV : Nat := 0x2050002C
abbrev DIO_OFDRV_OUT : Fld := ⟨DIO_OFDRV, 23, 0⟩
abbrev DIO_IBANK (k : Nat) : Nat := 0x20500100 + 0x10 * k
abbrev DIO_IBANK_CNTINT (k : Nat) : Fld := ⟨DIO_IBANK k, 23, 16⟩
abbrev DIO_IBANK_GATE (k : Nat) : Fld := ⟨DIO_IBANK k, 15, 12⟩
abbrev DIO_IBANK_FILT (k : Nat) : Fld := ⟨DIO_IBANK k, 11, 8⟩
abbrev DIO_IBANK_EDGE (k : Nat) : Fld := ⟨DIO_IBANK k, 7, 6⟩
abbrev DIO_IBANK_INV (k : Nat) : Fld := ⟨DIO_IBANK k, 5, 5⟩
abbrev DIO_IBANK_WBEN (k : Nat) : Fld := ⟨DIO_IBANK k, 4, 4⟩
abbrev DIO_IBANK_FREQEN (k : Nat) : Fld := ⟨DIO_IBANK k, 3, 3⟩
abbrev DIO_IBANK_CNTEN (k : Nat) : Fld := ⟨DIO_IBANK k, 2, 2⟩
abbrev DIO_IBANK_STATEEN (k : Nat) : Fld := ⟨DIO_IBANK k, 1, 1⟩
abbrev DIO_IBANK_EN (k : Nat) : Fld := ⟨DIO_IBANK k, 0, 0⟩
abbrev DIO_ISTAT (k : Nat) : Nat := 0x20500104 + 0x10 * k
abbrev DIO_ISTAT_VSUP (k : Nat) : Fld := ⟨DIO_ISTAT k, 31, 16⟩
abbrev DIO_ISTAT_WBSUP (k : Nat) : Fld := ⟨DIO_ISTAT k, 2, 2⟩
abbrev DIO_ISTAT_SUPOK (k : Nat) : Fld := ⟨DIO_ISTAT k, 1, 1⟩
abbrev DIO_ISTAT_UP (k : Nat) : Fld := ⟨DIO_ISTAT k, 0, 0⟩
abbrev DIO_IEVT (k : Nat) : Nat := 0x20500108 + 0x10 * k
abbrev DIO_IEVT_WB (k : Nat) : Fld := ⟨DIO_IEVT k, 15, 8⟩
abbrev DIO_IEVT_FOVR (k : Nat) : Fld := ⟨DIO_IEVT k, 2, 2⟩
abbrev DIO_IEVT_SUPLOW (k : Nat) : Fld := ⟨DIO_IEVT k, 1, 1⟩
abbrev DIO_IEVT_DOWN (k : Nat) : Fld := ⟨DIO_IEVT k, 0, 0⟩
abbrev DIO_IIEN (k : Nat) : Nat := 0x2050010C + 0x10 * k
abbrev DIO_IIEN_WB (k : Nat) : Fld := ⟨DIO_IIEN k, 15, 8⟩
abbrev DIO_IIEN_IEN (k : Nat) : Fld := ⟨DIO_IIEN k, 2, 0⟩
abbrev DIO_OBANK (k : Nat) : Nat := 0x20500200 + 0x20 * k
abbrev DIO_OBANK_HOLD (k : Nat) : Fld := ⟨DIO_OBANK k, 25, 16⟩
abbrev DIO_OBANK_RETRY (k : Nat) : Fld := ⟨DIO_OBANK k, 15, 8⟩
abbrev DIO_OBANK_MAXRETRY (k : Nat) : Fld := ⟨DIO_OBANK k, 7, 4⟩
abbrev DIO_OBANK_AUTORST (k : Nat) : Fld := ⟨DIO_OBANK k, 3, 3⟩
abbrev DIO_OBANK_SRC (k : Nat) : Fld := ⟨DIO_OBANK k, 2, 2⟩
abbrev DIO_OBANK_FAIL (k : Nat) : Fld := ⟨DIO_OBANK k, 1, 0⟩
abbrev DIO_OSTAT (k : Nat) : Nat := 0x20500204 + 0x20 * k
abbrev DIO_OSTAT_VSUP (k : Nat) : Fld := ⟨DIO_OSTAT k, 31, 16⟩
abbrev DIO_OSTAT_UP (k : Nat) : Fld := ⟨DIO_OSTAT k, 7, 7⟩
abbrev DIO_OSTAT_REL (k : Nat) : Fld := ⟨DIO_OSTAT k, 6, 6⟩
abbrev DIO_OSTAT_UV (k : Nat) : Fld := ⟨DIO_OSTAT k, 5, 5⟩
abbrev DIO_OSTAT_UVW (k : Nat) : Fld := ⟨DIO_OSTAT k, 4, 4⟩
abbrev DIO_OSTAT_STATE (k : Nat) : Fld := ⟨DIO_OSTAT k, 1, 0⟩
abbrev DIO_OEVT (k : Nat) : Nat := 0x20500208 + 0x20 * k
abbrev DIO_OEVT_HOLDSEEN (k : Nat) : Fld := ⟨DIO_OEVT k, 19, 19⟩
abbrev DIO_OEVT_UVOFF (k : Nat) : Fld := ⟨DIO_OEVT k, 18, 18⟩
abbrev DIO_OEVT_UVW (k : Nat) : Fld := ⟨DIO_OEVT k, 17, 17⟩
abbrev DIO_OEVT_RST (k : Nat) : Fld := ⟨DIO_OEVT k, 16, 16⟩
abbrev DIO_OEVT_FDRV (k : Nat) : Fld := ⟨DIO_OEVT k, 15, 8⟩
abbrev DIO_OEVT_FLT (k : Nat) : Fld := ⟨DIO_OEVT k, 7, 0⟩
abbrev DIO_OIEN (k : Nat) : Nat := 0x2050020C + 0x20 * k
abbrev DIO_OIEN_IEN (k : Nat) : Fld := ⟨DIO_OIEN k, 19, 0⟩
abbrev DIO_OXCMD (k : Nat) : Nat := 0x20500210 + 0x20 * k
abbrev DIO_OXCMD_CLRLATCH (k : Nat) : Fld := ⟨DIO_OXCMD k, 1, 1⟩
abbrev DIO_OXCMD_RESTORE (k : Nat) : Fld := ⟨DIO_OXCMD k, 0, 0⟩
abbrev DIO_INCFG (k : Nat) : Nat := 0x20500400 + 0x10 * k
abbrev DIO_INCFG_PROF (k : Nat) : Fld := ⟨DIO_INCFG k, 31, 31⟩
abbrev DIO_INCFG_CLRCNT (k : Nat) : Fld := ⟨DIO_INCFG k, 30, 30⟩
abbrev DIO_INCFG_CNTINT (k : Nat) : Fld := ⟨DIO_INCFG k, 23, 16⟩
abbrev DIO_INCFG_GATE (k : Nat) : Fld := ⟨DIO_INCFG k, 15, 12⟩
abbrev DIO_INCFG_FILT (k : Nat) : Fld := ⟨DIO_INCFG k, 11, 8⟩
abbrev DIO_INCFG_EDGE (k : Nat) : Fld := ⟨DIO_INCFG k, 7, 6⟩
abbrev DIO_INCFG_INV (k : Nat) : Fld := ⟨DIO_INCFG k, 5, 5⟩
abbrev DIO_INCFG_WBEN (k : Nat) : Fld := ⟨DIO_INCFG k, 4, 4⟩
abbrev DIO_INCFG_FREQEN (k : Nat) : Fld := ⟨DIO_INCFG k, 3, 3⟩
abbrev DIO_INCFG_CNTEN (k : Nat) : Fld := ⟨DIO_INCFG k, 2, 2⟩
abbrev DIO_INCFG_STATEEN (k : Nat) : Fld := ⟨DIO_INCFG k, 1, 1⟩
abbrev DIO_INCFG_EN (k : Nat) : Fld := ⟨DIO_INCFG k, 0, 0⟩
abbrev DIO_INSTAT (k : Nat) : Nat := 0x20500404 + 0x10 * k
abbrev DIO_INSTAT_STAT (k : Nat) : Fld := ⟨DIO_INSTAT k, 31, 0⟩
abbrev DIO_INCNT (k : Nat) : Nat := 0x20500408 + 0x10 * k
abbrev DIO_INCNT_COUNT (k : Nat) : Fld := ⟨DIO_INCNT k, 31, 0⟩
abbrev DIO_INFREQ (k : Nat) : Nat := 0x2050040C + 0x10 * k
abbrev DIO_INFREQ_FREQ (k : Nat) : Fld := ⟨DIO_INFREQ k, 31, 0⟩
abbrev DIO_OUTCFG (k : Nat) : Nat := 0x20500800 + 0x10 * k
abbrev DIO_OUTCFG_PROF (k : Nat) : Fld := ⟨DIO_OUTCFG k, 31, 31⟩
abbrev DIO_OUTCFG_PAR (k : Nat) : Fld := ⟨DIO_OUTCFG k, 3, 3⟩
abbrev DIO_OUTCFG_SRC (k : Nat) : Fld := ⟨DIO_OUTCFG k, 2, 2⟩
abbrev DIO_OUTCFG_FAIL (k : Nat) : Fld := ⟨DIO_OUTCFG k, 1, 0⟩
abbrev DIO_OUTSTAT (k : Nat) : Nat := 0x20500804 + 0x10 * k
abbrev DIO_OUTSTAT_RETRIES (k : Nat) : Fld := ⟨DIO_OUTSTAT k, 31, 24⟩
abbrev DIO_OUTSTAT_SHORTS (k : Nat) : Fld := ⟨DIO_OUTSTAT k, 23, 16⟩
abbrev DIO_OUTSTAT_FDRV (k : Nat) : Fld := ⟨DIO_OUTSTAT k, 7, 7⟩
abbrev DIO_OUTSTAT_ACT (k : Nat) : Fld := ⟨DIO_OUTSTAT k, 6, 6⟩
abbrev DIO_OUTSTAT_CMD (k : Nat) : Fld := ⟨DIO_OUTSTAT k, 5, 5⟩
abbrev DIO_OUTSTAT_FAULT (k : Nat) : Fld := ⟨DIO_OUTSTAT k, 3, 0⟩

/-! ### CAN block at 0x20600000 -/

abbrev CAN_CTL (k : Nat) : Nat := 0x20600000 + 0x4000 * k
abbrev CAN_CTL_DRATE (k : Nat) : Fld := ⟨CAN_CTL k, 13, 12⟩
abbrev CAN_CTL_RATE (k : Nat) : Fld := ⟨CAN_CTL k, 11, 8⟩
abbrev CAN_CTL_RECOVER (k : Nat) : Fld := ⟨CAN_CTL k, 6, 6⟩
abbrev CAN_CTL_AUTOBO (k : Nat) : Fld := ⟨CAN_CTL k, 5, 5⟩
abbrev CAN_CTL_PXE (k : Nat) : Fld := ⟨CAN_CTL k, 4, 4⟩
abbrev CAN_CTL_FDEN (k : Nat) : Fld := ⟨CAN_CTL k, 3, 3⟩
abbrev CAN_CTL_MODE (k : Nat) : Fld := ⟨CAN_CTL k, 2, 1⟩
abbrev CAN_CTL_EN (k : Nat) : Fld := ⟨CAN_CTL k, 0, 0⟩
abbrev CAN_STAT (k : Nat) : Nat := 0x20600004 + 0x4000 * k
abbrev CAN_STAT_REC (k : Nat) : Fld := ⟨CAN_STAT k, 15, 8⟩
abbrev CAN_STAT_STATE (k : Nat) : Fld := ⟨CAN_STAT k, 2, 0⟩
abbrev CAN_EVT (k : Nat) : Nat := 0x20600008 + 0x4000 * k
abbrev CAN_EVT_FLOODTX (k : Nat) : Fld := ⟨CAN_EVT k, 25, 25⟩
abbrev CAN_EVT_FANLOST (k : Nat) : Fld := ⟨CAN_EVT k, 24, 24⟩
abbrev CAN_EVT_EWARN (k : Nat) : Fld := ⟨CAN_EVT k, 23, 23⟩
abbrev CAN_EVT_CFGERR (k : Nat) : Fld := ⟨CAN_EVT k, 21, 21⟩
abbrev CAN_EVT_PX (k : Nat) : Fld := ⟨CAN_EVT k, 20, 20⟩
abbrev CAN_EVT_BUSERR (k : Nat) : Fld := ⟨CAN_EVT k, 19, 19⟩
abbrev CAN_EVT_RECOVERED (k : Nat) : Fld := ⟨CAN_EVT k, 18, 18⟩
abbrev CAN_EVT_BOFF (k : Nat) : Fld := ⟨CAN_EVT k, 17, 17⟩
abbrev CAN_EVT_EPASS (k : Nat) : Fld := ⟨CAN_EVT k, 16, 16⟩
abbrev CAN_EVT_TXABTD (k : Nat) : Fld := ⟨CAN_EVT k, 9, 9⟩
abbrev CAN_EVT_TXDONE (k : Nat) : Fld := ⟨CAN_EVT k, 8, 8⟩
abbrev CAN_EVT_RXLOST (k : Nat) : Fld := ⟨CAN_EVT k, 2, 2⟩
abbrev CAN_EVT_RXMB (k : Nat) : Fld := ⟨CAN_EVT k, 1, 1⟩
abbrev CAN_EVT_RXQ (k : Nat) : Fld := ⟨CAN_EVT k, 0, 0⟩
abbrev CAN_IEN (k : Nat) : Nat := 0x2060000C + 0x4000 * k
abbrev CAN_IEN_ALM (k : Nat) : Fld := ⟨CAN_IEN k, 25, 23⟩
abbrev CAN_IEN_ERR (k : Nat) : Fld := ⟨CAN_IEN k, 21, 16⟩
abbrev CAN_IEN_TX (k : Nat) : Fld := ⟨CAN_IEN k, 9, 8⟩
abbrev CAN_IEN_RX (k : Nat) : Fld := ⟨CAN_IEN k, 2, 0⟩
abbrev CAN_NBT (k : Nat) : Nat := 0x20600010 + 0x4000 * k
abbrev CAN_NBT_BRP (k : Nat) : Fld := ⟨CAN_NBT k, 30, 25⟩
abbrev CAN_NBT_TSEG1 (k : Nat) : Fld := ⟨CAN_NBT k, 24, 16⟩
abbrev CAN_NBT_TSEG2 (k : Nat) : Fld := ⟨CAN_NBT k, 15, 8⟩
abbrev CAN_NBT_SJW (k : Nat) : Fld := ⟨CAN_NBT k, 7, 0⟩
abbrev CAN_DBT (k : Nat) : Nat := 0x20600014 + 0x4000 * k
abbrev CAN_DBT_DBRP (k : Nat) : Fld := ⟨CAN_DBT k, 29, 24⟩
abbrev CAN_DBT_DTSEG1 (k : Nat) : Fld := ⟨CAN_DBT k, 21, 16⟩
abbrev CAN_DBT_DTSEG2 (k : Nat) : Fld := ⟨CAN_DBT k, 12, 8⟩
abbrev CAN_DBT_DSJW (k : Nat) : Fld := ⟨CAN_DBT k, 4, 0⟩
abbrev CAN_TDC (k : Nat) : Nat := 0x20600018 + 0x4000 * k
abbrev CAN_TDC_TDCV (k : Nat) : Fld := ⟨CAN_TDC k, 23, 16⟩
abbrev CAN_TDC_TDCEN (k : Nat) : Fld := ⟨CAN_TDC k, 15, 15⟩
abbrev CAN_TDC_TDCO (k : Nat) : Fld := ⟨CAN_TDC k, 7, 0⟩
abbrev CAN_ERR (k : Nat) : Nat := 0x2060001C + 0x4000 * k
abbrev CAN_ERR_DLEC (k : Nat) : Fld := ⟨CAN_ERR k, 22, 20⟩
abbrev CAN_ERR_LEC (k : Nat) : Fld := ⟨CAN_ERR k, 18, 16⟩
abbrev CAN_ERR_REC (k : Nat) : Fld := ⟨CAN_ERR k, 15, 8⟩
abbrev CAN_ERR_TEC (k : Nat) : Fld := ⟨CAN_ERR k, 7, 0⟩
abbrev CAN_CNT (k : Nat) : Nat := 0x20600020 + 0x4000 * k
abbrev CAN_CNT_RXLOST (k : Nat) : Fld := ⟨CAN_CNT k, 31, 16⟩
abbrev CAN_CNT_NOMATCH (k : Nat) : Fld := ⟨CAN_CNT k, 15, 0⟩
abbrev CAN_ERRCNT (k : Nat) : Nat := 0x20600024 + 0x4000 * k
abbrev CAN_ERRCNT_BOFFCNT (k : Nat) : Fld := ⟨CAN_ERRCNT k, 31, 16⟩
abbrev CAN_ERRCNT_PXCNT (k : Nat) : Fld := ⟨CAN_ERRCNT k, 15, 0⟩
abbrev CAN_ALMCTL (k : Nat) : Nat := 0x20600028 + 0x4000 * k
abbrev CAN_ALMCTL_FLOODEN (k : Nat) : Fld := ⟨CAN_ALMCTL k, 31, 31⟩
abbrev CAN_ALMCTL_FLUSH (k : Nat) : Fld := ⟨CAN_ALMCTL k, 30, 30⟩
abbrev CAN_ALMCTL_FLOODMB (k : Nat) : Fld := ⟨CAN_ALMCTL k, 21, 16⟩
abbrev CAN_ALMSTAT (k : Nat) : Nat := 0x2060002C + 0x4000 * k
abbrev CAN_ALMSTAT_FLOODP (k : Nat) : Fld := ⟨CAN_ALMSTAT k, 31, 31⟩
abbrev CAN_ALMSTAT_PEND (k : Nat) : Fld := ⟨CAN_ALMSTAT k, 13, 0⟩
abbrev CAN_ALMCNT (k : Nat) : Nat := 0x20600030 + 0x4000 * k
abbrev CAN_ALMCNT_FANLOST (k : Nat) : Fld := ⟨CAN_ALMCNT k, 31, 16⟩
abbrev CAN_ALMCNT_MERGED (k : Nat) : Fld := ⟨CAN_ALMCNT k, 15, 0⟩
abbrev CAN_GCTL : Nat := 0x2060C000
abbrev CAN_GCTL_LOCK : Fld := ⟨CAN_GCTL, 31, 31⟩
abbrev CAN_MBCFG (k j : Nat) : Nat := 0x20602000 + 0x4000 * k + 0x80 * j
abbrev CAN_MBCFG_PRIOID (k j : Nat) : Fld := ⟨CAN_MBCFG k j, 26, 26⟩
abbrev CAN_MBCFG_FMT (k j : Nat) : Fld := ⟨CAN_MBCFG k j, 25, 25⟩
abbrev CAN_MBCFG_IDEANY (k j : Nat) : Fld := ⟨CAN_MBCFG k j, 24, 24⟩
abbrev CAN_MBCFG_FDSEL (k j : Nat) : Fld := ⟨CAN_MBCFG k j, 23, 22⟩
abbrev CAN_MBCFG_QUEUE (k j : Nat) : Fld := ⟨CAN_MBCFG k j, 20, 16⟩
abbrev CAN_MBCFG_QEN (k j : Nat) : Fld := ⟨CAN_MBCFG k j, 12, 12⟩
abbrev CAN_MBCFG_DLC (k j : Nat) : Fld := ⟨CAN_MBCFG k j, 11, 8⟩
abbrev CAN_MBCFG_ONESHOT (k j : Nat) : Fld := ⟨CAN_MBCFG k j, 7, 7⟩
abbrev CAN_MBCFG_RTR (k j : Nat) : Fld := ⟨CAN_MBCFG k j, 6, 6⟩
abbrev CAN_MBCFG_BRS (k j : Nat) : Fld := ⟨CAN_MBCFG k j, 5, 5⟩
abbrev CAN_MBCFG_FDF (k j : Nat) : Fld := ⟨CAN_MBCFG k j, 4, 4⟩
abbrev CAN_MBCFG_IDE (k j : Nat) : Fld := ⟨CAN_MBCFG k j, 3, 3⟩
abbrev CAN_MBCFG_ROLE (k j : Nat) : Fld := ⟨CAN_MBCFG k j, 2, 0⟩
abbrev CAN_MBID (k j : Nat) : Nat := 0x20602004 + 0x4000 * k + 0x80 * j
abbrev CAN_MBID_ID (k j : Nat) : Fld := ⟨CAN_MBID k j, 28, 0⟩
abbrev CAN_MBMASK (k j : Nat) : Nat := 0x20602008 + 0x4000 * k + 0x80 * j
abbrev CAN_MBMASK_MASK (k j : Nat) : Fld := ⟨CAN_MBMASK k j, 28, 0⟩
abbrev CAN_MBSTAT (k j : Nat) : Nat := 0x2060200C + 0x4000 * k + 0x80 * j
abbrev CAN_MBSTAT_REQ (k j : Nat) : Fld := ⟨CAN_MBSTAT k j, 31, 31⟩
abbrev CAN_MBSTAT_ABORT (k j : Nat) : Fld := ⟨CAN_MBSTAT k j, 30, 30⟩
abbrev CAN_MBSTAT_NEW (k j : Nat) : Fld := ⟨CAN_MBSTAT k j, 29, 29⟩
abbrev CAN_MBSTAT_OVR (k j : Nat) : Fld := ⟨CAN_MBSTAT k j, 28, 28⟩
abbrev CAN_MBSTAT_DONE (k j : Nat) : Fld := ⟨CAN_MBSTAT k j, 27, 27⟩
abbrev CAN_MBSTAT_ABTD (k j : Nat) : Fld := ⟨CAN_MBSTAT k j, 26, 26⟩
abbrev CAN_MBSTAT_RXCNT (k j : Nat) : Fld := ⟨CAN_MBSTAT k j, 23, 16⟩
abbrev CAN_MBSTAT_RXFLG (k j : Nat) : Fld := ⟨CAN_MBSTAT k j, 8, 4⟩
abbrev CAN_MBSTAT_RXDLC (k j : Nat) : Fld := ⟨CAN_MBSTAT k j, 3, 0⟩
abbrev CAN_MBRX (k j : Nat) : Nat := 0x20602010 + 0x4000 * k + 0x80 * j
abbrev CAN_MBRX_RXID (k j : Nat) : Fld := ⟨CAN_MBRX k j, 28, 0⟩

/-! ### ETH block at 0x20700000 -/

abbrev ETH_GCTL : Nat := 0x20700000
abbrev ETH_GCTL_LOCK : Fld := ⟨ETH_GCTL, 31, 31⟩
abbrev ETH_CTL (k : Nat) : Nat := 0x20700100 + 0x100 * k
abbrev ETH_CTL_PTPEN (k : Nat) : Fld := ⟨ETH_CTL k, 6, 6⟩
abbrev ETH_CTL_MCHASH (k : Nat) : Fld := ⟨ETH_CTL k, 5, 5⟩
abbrev ETH_CTL_BCAST (k : Nat) : Fld := ⟨ETH_CTL k, 4, 4⟩
abbrev ETH_CTL_PROMISC (k : Nat) : Fld := ⟨ETH_CTL k, 3, 3⟩
abbrev ETH_CTL_FDX (k : Nat) : Fld := ⟨ETH_CTL k, 2, 2⟩
abbrev ETH_CTL_ANEN (k : Nat) : Fld := ⟨ETH_CTL k, 1, 1⟩
abbrev ETH_CTL_EN (k : Nat) : Fld := ⟨ETH_CTL k, 0, 0⟩
abbrev ETH_STAT (k : Nat) : Nat := 0x20700104 + 0x100 * k
abbrev ETH_STAT_LINK (k : Nat) : Fld := ⟨ETH_STAT k, 31, 31⟩
abbrev ETH_STAT_DUPLEX (k : Nat) : Fld := ⟨ETH_STAT k, 30, 30⟩
abbrev ETH_STAT_TXREQ (k : Nat) : Fld := ⟨ETH_STAT k, 3, 0⟩
abbrev ETH_EVT (k : Nat) : Nat := 0x20700108 + 0x100 * k
abbrev ETH_EVT_PTPOVF (k : Nat) : Fld := ⟨ETH_EVT k, 25, 25⟩
abbrev ETH_EVT_PTPCAP (k : Nat) : Fld := ⟨ETH_EVT k, 24, 24⟩
abbrev ETH_EVT_LINKDN (k : Nat) : Fld := ⟨ETH_EVT k, 17, 17⟩
abbrev ETH_EVT_LINKUP (k : Nat) : Fld := ⟨ETH_EVT k, 16, 16⟩
abbrev ETH_EVT_TXERR (k : Nat) : Fld := ⟨ETH_EVT k, 9, 9⟩
abbrev ETH_EVT_TXDONE (k : Nat) : Fld := ⟨ETH_EVT k, 8, 8⟩
abbrev ETH_EVT_RXOVF (k : Nat) : Fld := ⟨ETH_EVT k, 1, 1⟩
abbrev ETH_EVT_RXFRM (k : Nat) : Fld := ⟨ETH_EVT k, 0, 0⟩
abbrev ETH_IEN (k : Nat) : Nat := 0x2070010C + 0x100 * k
abbrev ETH_IEN_PTP (k : Nat) : Fld := ⟨ETH_IEN k, 25, 24⟩
abbrev ETH_IEN_LINK (k : Nat) : Fld := ⟨ETH_IEN k, 17, 16⟩
abbrev ETH_IEN_TX (k : Nat) : Fld := ⟨ETH_IEN k, 9, 8⟩
abbrev ETH_IEN_RX (k : Nat) : Fld := ⟨ETH_IEN k, 1, 0⟩
abbrev ETH_MACLO (k : Nat) : Nat := 0x20700110 + 0x100 * k
abbrev ETH_MACLO_MAC (k : Nat) : Fld := ⟨ETH_MACLO k, 31, 0⟩
abbrev ETH_MACHI (k : Nat) : Nat := 0x20700114 + 0x100 * k
abbrev ETH_MACHI_MAC (k : Nat) : Fld := ⟨ETH_MACHI k, 15, 0⟩
abbrev ETH_HASHLO (k : Nat) : Nat := 0x20700118 + 0x100 * k
abbrev ETH_HASHLO_HASH (k : Nat) : Fld := ⟨ETH_HASHLO k, 31, 0⟩
abbrev ETH_HASHHI (k : Nat) : Nat := 0x2070011C + 0x100 * k
abbrev ETH_HASHHI_HASH (k : Nat) : Fld := ⟨ETH_HASHHI k, 31, 0⟩
abbrev ETH_MCLO (k j : Nat) : Nat := 0x20700120 + 0x100 * k + 0x8 * j
abbrev ETH_MCLO_MC (k j : Nat) : Fld := ⟨ETH_MCLO k j, 31, 0⟩
abbrev ETH_MCHI (k j : Nat) : Nat := 0x20700124 + 0x100 * k + 0x8 * j
abbrev ETH_MCHI_VALID (k j : Nat) : Fld := ⟨ETH_MCHI k j, 31, 31⟩
abbrev ETH_MCHI_MC (k j : Nat) : Fld := ⟨ETH_MCHI k j, 15, 0⟩
abbrev ETH_RXHEAD (k : Nat) : Nat := 0x20700160 + 0x100 * k
abbrev ETH_RXHEAD_HEAD (k : Nat) : Fld := ⟨ETH_RXHEAD k, 13, 0⟩
abbrev ETH_RXTAIL (k : Nat) : Nat := 0x20700164 + 0x100 * k
abbrev ETH_RXTAIL_TAIL (k : Nat) : Fld := ⟨ETH_RXTAIL k, 13, 0⟩
abbrev ETH_TXCMD (k : Nat) : Nat := 0x20700168 + 0x100 * k
abbrev ETH_TXCMD_SLOT (k : Nat) : Fld := ⟨ETH_TXCMD k, 17, 16⟩
abbrev ETH_TXCMD_LEN (k : Nat) : Fld := ⟨ETH_TXCMD k, 10, 0⟩
abbrev ETH_TXSTAT (k : Nat) : Nat := 0x2070016C + 0x100 * k
abbrev ETH_TXSTAT_ERR (k : Nat) : Fld := ⟨ETH_TXSTAT k, 7, 4⟩
abbrev ETH_TXSTAT_DONE (k : Nat) : Fld := ⟨ETH_TXSTAT k, 3, 0⟩
abbrev ETH_CNT (k : Nat) : Nat := 0x20700170 + 0x100 * k
abbrev ETH_CNT_RXDROP (k : Nat) : Fld := ⟨ETH_CNT k, 31, 16⟩
abbrev ETH_CNT_RXBAD (k : Nat) : Fld := ⟨ETH_CNT k, 15, 0⟩
abbrev ETH_FCNT (k : Nat) : Nat := 0x20700174 + 0x100 * k
abbrev ETH_FCNT_FILTERED (k : Nat) : Fld := ⟨ETH_FCNT k, 31, 16⟩
abbrev ETH_FCNT_TXERRCNT (k : Nat) : Fld := ⟨ETH_FCNT k, 15, 0⟩
abbrev ETH_PTPSEQ (k : Nat) : Nat := 0x20700178 + 0x100 * k
abbrev ETH_PTPSEQ_SEQ (k : Nat) : Fld := ⟨ETH_PTPSEQ k, 31, 0⟩
abbrev ETH_PTPTLO (k : Nat) : Nat := 0x2070017C + 0x100 * k
abbrev ETH_PTPTLO_LO (k : Nat) : Fld := ⟨ETH_PTPTLO k, 31, 0⟩
abbrev ETH_PTPTHI (k : Nat) : Nat := 0x20700180 + 0x100 * k
abbrev ETH_PTPTHI_HI (k : Nat) : Fld := ⟨ETH_PTPTHI k, 31, 0⟩
abbrev SPI_CTL : Nat := 0x20702000
abbrev SPI_CTL_SB : Fld := ⟨SPI_CTL, 12, 8⟩
abbrev SPI_CTL_ALERT : Fld := ⟨SPI_CTL, 1, 1⟩
abbrev SPI_CTL_EN : Fld := ⟨SPI_CTL, 0, 0⟩
abbrev SPI_EVT : Nat := 0x20702004
abbrev SPI_EVT_SWR : Fld := ⟨SPI_EVT, 2, 2⟩
abbrev SPI_EVT_SERR : Fld := ⟨SPI_EVT, 1, 1⟩
abbrev SPI_EVT_CSEND : Fld := ⟨SPI_EVT, 0, 0⟩
abbrev SPI_CNT : Nat := 0x20702008
abbrev SPI_CNT_SERRCNT : Fld := ⟨SPI_CNT, 31, 16⟩
abbrev SPI_CNT_XFERCNT : Fld := ⟨SPI_CNT, 15, 0⟩
abbrev UART_CTL : Nat := 0x20703000
abbrev UART_CTL_EN : Fld := ⟨UART_CTL, 0, 0⟩
abbrev UART_BAUD : Nat := 0x20703004
abbrev UART_BAUD_INT : Fld := ⟨UART_BAUD, 15, 4⟩
abbrev UART_BAUD_FRAC : Fld := ⟨UART_BAUD, 3, 0⟩
abbrev UART_STAT : Nat := 0x20703008
abbrev UART_STAT_RXCNT : Fld := ⟨UART_STAT, 22, 16⟩
abbrev UART_STAT_TXFREE : Fld := ⟨UART_STAT, 14, 8⟩
abbrev UART_DATA : Nat := 0x2070300C
abbrev UART_DATA_DATA : Fld := ⟨UART_DATA, 7, 0⟩
abbrev UART_EVT : Nat := 0x20703010
abbrev UART_EVT_TXOVF : Fld := ⟨UART_EVT, 2, 2⟩
abbrev UART_EVT_FRAMERR : Fld := ⟨UART_EVT, 1, 1⟩
abbrev UART_EVT_RXOVF : Fld := ⟨UART_EVT, 0, 0⟩

/-! ### STORE block at 0x20800000 -/

abbrev STORE_CTL : Nat := 0x20800000
abbrev STORE_CTL_LOCK : Fld := ⟨STORE_CTL, 31, 31⟩
abbrev STORE_CTL_BOOTWE : Fld := ⟨STORE_CTL, 0, 0⟩
abbrev STORE_STAT : Nat := 0x20800004
abbrev STORE_STAT_READY : Fld := ⟨STORE_STAT, 31, 31⟩
abbrev STORE_STAT_SUSP : Fld := ⟨STORE_STAT, 30, 30⟩
abbrev STORE_STAT_STGFULL : Fld := ⟨STORE_STAT, 29, 29⟩
abbrev STORE_STAT_STGPG : Fld := ⟨STORE_STAT, 23, 16⟩
abbrev STORE_STAT_NTEMP : Fld := ⟨STORE_STAT, 11, 0⟩
abbrev STORE_EVT : Nat := 0x20800008
abbrev STORE_EVT_STGFULL : Fld := ⟨STORE_EVT, 18, 18⟩
abbrev STORE_EVT_RESUME : Fld := ⟨STORE_EVT, 17, 17⟩
abbrev STORE_EVT_SUSP : Fld := ⟨STORE_EVT, 16, 16⟩
abbrev STORE_EVT_WRAP : Fld := ⟨STORE_EVT, 11, 11⟩
abbrev STORE_EVT_CALERR : Fld := ⟨STORE_EVT, 10, 10⟩
abbrev STORE_EVT_CALINV : Fld := ⟨STORE_EVT, 9, 9⟩
abbrev STORE_EVT_CLOSED : Fld := ⟨STORE_EVT, 8, 8⟩
abbrev STORE_EVT_GROWN : Fld := ⟨STORE_EVT, 3, 3⟩
abbrev STORE_EVT_ECCHI : Fld := ⟨STORE_EVT, 2, 2⟩
abbrev STORE_EVT_NFAIL : Fld := ⟨STORE_EVT, 1, 1⟩
abbrev STORE_EVT_NDONE : Fld := ⟨STORE_EVT, 0, 0⟩
abbrev STORE_IEN : Nat := 0x2080000C
abbrev STORE_IEN_STG : Fld := ⟨STORE_IEN, 18, 16⟩
abbrev STORE_IEN_REC : Fld := ⟨STORE_IEN, 11, 8⟩
abbrev STORE_IEN_NAND : Fld := ⟨STORE_IEN, 3, 0⟩
abbrev STORE_NCMD : Nat := 0x20800010
abbrev STORE_NCMD_BUSY : Fld := ⟨STORE_NCMD, 31, 31⟩
abbrev STORE_NCMD_PART : Fld := ⟨STORE_NCMD, 5, 4⟩
abbrev STORE_NCMD_OP : Fld := ⟨STORE_NCMD, 3, 0⟩
abbrev STORE_NADDR : Nat := 0x20800014
abbrev STORE_NADDR_BLOCK : Fld := ⟨STORE_NADDR, 15, 5⟩
abbrev STORE_NADDR_PAGE : Fld := ⟨STORE_NADDR, 4, 0⟩
abbrev STORE_NRES : Nat := 0x20800018
abbrev STORE_NRES_VALID : Fld := ⟨STORE_NRES, 31, 31⟩
abbrev STORE_NRES_MAXBITS : Fld := ⟨STORE_NRES, 13, 8⟩
abbrev STORE_NRES_ERASED : Fld := ⟨STORE_NRES, 4, 4⟩
abbrev STORE_NRES_CODE : Fld := ⟨STORE_NRES, 3, 0⟩
abbrev STORE_ECCCNT : Nat := 0x2080001C
abbrev STORE_ECCCNT_UNCOR : Fld := ⟨STORE_ECCCNT, 31, 16⟩
abbrev STORE_ECCCNT_CORR : Fld := ⟨STORE_ECCCNT, 15, 0⟩
abbrev STORE_DEFCNT : Nat := 0x20800020
abbrev STORE_DEFCNT_DEF : Fld := ⟨STORE_DEFCNT, 31, 0⟩
abbrev STORE_WEAR : Nat := 0x20800024
abbrev STORE_WEAR_LAPS : Fld := ⟨STORE_WEAR, 31, 16⟩
abbrev STORE_WEAR_RETIRED : Fld := ⟨STORE_WEAR, 15, 0⟩
abbrev REC_CFG : Nat := 0x20800030
abbrev REC_CFG_DIAGEN : Fld := ⟨REC_CFG, 8, 8⟩
abbrev REC_CFG_FLUSHT : Fld := ⟨REC_CFG, 7, 0⟩
abbrev REC_PER0 : Nat := 0x20800034
abbrev REC_PER0_EN : Fld := ⟨REC_PER0, 31, 31⟩
abbrev REC_PER0_PER : Fld := ⟨REC_PER0, 19, 0⟩
abbrev REC_PER1 : Nat := 0x20800038
abbrev REC_PER1_EN : Fld := ⟨REC_PER1, 31, 31⟩
abbrev REC_PER1_PER : Fld := ⟨REC_PER1, 19, 0⟩
abbrev REC_CMD : Nat := 0x2080003C
abbrev REC_CMD_NEXT : Fld := ⟨REC_CMD, 4, 4⟩
abbrev REC_CMD_FLUSH : Fld := ⟨REC_CMD, 3, 3⟩
abbrev REC_CMD_CALLOAD : Fld := ⟨REC_CMD, 2, 2⟩
abbrev REC_CMD_CLOSE1 : Fld := ⟨REC_CMD, 1, 1⟩
abbrev REC_CMD_CLOSE0 : Fld := ⟨REC_CMD, 0, 0⟩
abbrev REC_STAT : Nat := 0x20800040
abbrev REC_STAT_CALV : Fld := ⟨REC_STAT, 31, 31⟩
abbrev REC_STAT_FROZEN : Fld := ⟨REC_STAT, 30, 30⟩
abbrev REC_STAT_CLOSING0 : Fld := ⟨REC_STAT, 29, 29⟩
abbrev REC_STAT_CLOSING1 : Fld := ⟨REC_STAT, 28, 28⟩
abbrev REC_HEAD : Nat := 0x20800044
abbrev REC_HEAD_SEQ : Fld := ⟨REC_HEAD, 31, 0⟩
abbrev REC_TAIL : Nat := 0x20800048
abbrev REC_TAIL_SEQ : Fld := ⟨REC_TAIL, 31, 0⟩
abbrev REC_CNT : Nat := 0x2080004C
abbrev REC_CNT_NOREC : Fld := ⟨REC_CNT, 31, 16⟩
abbrev REC_CNT_FROZDISC : Fld := ⟨REC_CNT, 15, 0⟩
abbrev REC_CALCNTLO : Nat := 0x20800050
abbrev REC_CALCNTLO_COUNT : Fld := ⟨REC_CALCNTLO, 31, 0⟩
abbrev REC_CALCNTHI : Nat := 0x20800054
abbrev REC_CALCNTHI_COUNT : Fld := ⟨REC_CALCNTHI, 15, 0⟩
abbrev REC_CALTIME : Nat := 0x20800058
abbrev REC_CALTIME_HOUR : Fld := ⟨REC_CALTIME, 20, 16⟩
abbrev REC_CALTIME_MIN : Fld := ⟨REC_CALTIME, 13, 8⟩
abbrev REC_CALTIME_SEC : Fld := ⟨REC_CALTIME, 5, 0⟩
abbrev REC_CALDATE : Nat := 0x2080005C
abbrev REC_CALDATE_WDAY : Fld := ⟨REC_CALDATE, 30, 28⟩
abbrev REC_CALDATE_YEAR : Fld := ⟨REC_CALDATE, 24, 16⟩
abbrev REC_CALDATE_MONTH : Fld := ⟨REC_CALDATE, 11, 8⟩
abbrev REC_CALDATE_DAY : Fld := ⟨REC_CALDATE, 4, 0⟩
abbrev REC_CURSOR : Nat := 0x20800060
abbrev REC_CURSOR_SPACE : Fld := ⟨REC_CURSOR, 31, 30⟩
abbrev REC_CURIDX : Nat := 0x20800064
abbrev REC_CURIDX_IDX : Fld := ⟨REC_CURIDX, 31, 0⟩
abbrev REC_CURSTAT : Nat := 0x20800068
abbrev REC_CURSTAT_BUSY : Fld := ⟨REC_CURSTAT, 31, 31⟩
abbrev REC_CURSTAT_STATUS : Fld := ⟨REC_CURSTAT, 2, 0⟩
abbrev REC_HDESC (k : Nat) : Nat := 0x20804000 + 0x4 * k
abbrev REC_HDESC_EN (k : Nat) : Fld := ⟨REC_HDESC k, 31, 31⟩
abbrev REC_HDESC_CLK (k : Nat) : Fld := ⟨REC_HDESC k, 29, 28⟩
abbrev REC_XDESC (k : Nat) : Nat := 0x20808000 + 0x4 * k
abbrev REC_XDESC_EN (k : Nat) : Fld := ⟨REC_XDESC k, 31, 31⟩
abbrev REC_XDESC_CLK (k : Nat) : Fld := ⟨REC_XDESC k, 29, 28⟩

/-! ### TICK block at 0x20900000 -/

abbrev TICK_CTL : Nat := 0x20900000
abbrev TICK_CTL_LOCK : Fld := ⟨TICK_CTL, 31, 31⟩
abbrev TICK_CTL_MREFEN : Fld := ⟨TICK_CTL, 2, 2⟩
abbrev TICK_CTL_ADDMISS : Fld := ⟨TICK_CTL, 1, 1⟩
abbrev TICK_CTL_HALT : Fld := ⟨TICK_CTL, 0, 0⟩
abbrev TICK_STAT : Nat := 0x20900004
abbrev TICK_STAT_OSF : Fld := ⟨TICK_STAT, 31, 31⟩
abbrev TICK_STAT_SETSEEN : Fld := ⟨TICK_STAT, 30, 30⟩
abbrev TICK_STAT_ONVBAT : Fld := ⟨TICK_STAT, 29, 29⟩
abbrev TICK_STAT_LOADPEND : Fld := ⟨TICK_STAT, 28, 28⟩
abbrev TICK_EVT : Nat := 0x20900008
abbrev TICK_EVT_MREFLOSS : Fld := ⟨TICK_EVT, 17, 17⟩
abbrev TICK_EVT_MREFDONE : Fld := ⟨TICK_EVT, 16, 16⟩
abbrev TICK_EVT_CALWRAP : Fld := ⟨TICK_EVT, 11, 11⟩
abbrev TICK_EVT_LOADERR : Fld := ⟨TICK_EVT, 10, 10⟩
abbrev TICK_EVT_LOADDONE : Fld := ⟨TICK_EVT, 9, 9⟩
abbrev TICK_EVT_OSFSET : Fld := ⟨TICK_EVT, 8, 8⟩
abbrev TICK_EVT_ALM : Fld := ⟨TICK_EVT, 3, 0⟩
abbrev TICK_IEN : Nat := 0x2090000C
abbrev TICK_IEN_MREF : Fld := ⟨TICK_IEN, 17, 16⟩
abbrev TICK_IEN_CAL : Fld := ⟨TICK_IEN, 11, 8⟩
abbrev TICK_IEN_ALM : Fld := ⟨TICK_IEN, 3, 0⟩
abbrev TICK_CMD : Nat := 0x20900010
abbrev TICK_CMD_CAP0 : Fld := ⟨TICK_CMD, 2, 2⟩
abbrev TICK_CMD_LOADCAL : Fld := ⟨TICK_CMD, 1, 1⟩
abbrev TICK_CMD_LOADCNT : Fld := ⟨TICK_CMD, 0, 0⟩
abbrev TICK_MISSED : Nat := 0x20900014
abbrev TICK_MISSED_MISSED : Fld := ⟨TICK_MISSED, 31, 0⟩
abbrev TICK_SETLO : Nat := 0x20900018
abbrev TICK_SETLO_SETCNT : Fld := ⟨TICK_SETLO, 31, 0⟩
abbrev TICK_SETHI : Nat := 0x2090001C
abbrev TICK_SETHI_SETCNT : Fld := ⟨TICK_SETHI, 15, 0⟩
abbrev TICK_SETTIME : Nat := 0x20900020
abbrev TICK_SETTIME_HOUR : Fld := ⟨TICK_SETTIME, 20, 16⟩
abbrev TICK_SETTIME_MIN : Fld := ⟨TICK_SETTIME, 13, 8⟩
abbrev TICK_SETTIME_SEC : Fld := ⟨TICK_SETTIME, 5, 0⟩
abbrev TICK_SETDATE : Nat := 0x20900024
abbrev TICK_SETDATE_WDAY : Fld := ⟨TICK_SETDATE, 30, 28⟩
abbrev TICK_SETDATE_YEAR : Fld := ⟨TICK_SETDATE, 24, 16⟩
abbrev TICK_SETDATE_MONTH : Fld := ⟨TICK_SETDATE, 11, 8⟩
abbrev TICK_SETDATE_DAY : Fld := ⟨TICK_SETDATE, 4, 0⟩
abbrev TICK_TRIM : Nat := 0x20900028
abbrev TICK_TRIM_TRIM : Fld := ⟨TICK_TRIM, 10, 0⟩
abbrev TICK_MREFCFG : Nat := 0x2090002C
abbrev TICK_MREFCFG_CYC : Fld := ⟨TICK_MREFCFG, 15, 0⟩
abbrev TICK_MREFRES : Nat := 0x20900030
abbrev TICK_MREFRES_VALID : Fld := ⟨TICK_MREFRES, 31, 31⟩
abbrev TICK_MREFRES_TICKS : Fld := ⟨TICK_MREFRES, 27, 0⟩
abbrev TICK_ALMSTAT : Nat := 0x20900034
abbrev TICK_ALMSTAT_A3 : Fld := ⟨TICK_ALMSTAT, 13, 12⟩
abbrev TICK_ALMSTAT_A2 : Fld := ⟨TICK_ALMSTAT, 9, 8⟩
abbrev TICK_ALMSTAT_A1 : Fld := ⟨TICK_ALMSTAT, 5, 4⟩
abbrev TICK_ALMSTAT_A0 : Fld := ⟨TICK_ALMSTAT, 1, 0⟩
abbrev TICK_ALMLO (k : Nat) : Nat := 0x20900040 + 0x8 * k
abbrev TICK_ALMLO_ALM (k : Nat) : Fld := ⟨TICK_ALMLO k, 31, 0⟩
abbrev TICK_ALMHI (k : Nat) : Nat := 0x20900044 + 0x8 * k
abbrev TICK_ALMHI_ARM (k : Nat) : Fld := ⟨TICK_ALMHI k, 31, 31⟩
abbrev TICK_ALMHI_ALM (k : Nat) : Fld := ⟨TICK_ALMHI k, 15, 0⟩
abbrev TICK_CAPT (k : Nat) : Nat := 0x20900100 + 0x20 * k
abbrev TICK_CAPT_COUNT (k : Nat) : Fld := ⟨TICK_CAPT k, 31, 0⟩
abbrev TICK_CAPTHI (k : Nat) : Nat := 0x20900104 + 0x20 * k
abbrev TICK_CAPTHI_TAG (k : Nat) : Fld := ⟨TICK_CAPTHI k, 31, 16⟩
abbrev TICK_CAPTHI_COUNT (k : Nat) : Fld := ⟨TICK_CAPTHI k, 15, 0⟩
abbrev TICK_CAPTIME (k : Nat) : Nat := 0x20900108 + 0x20 * k
abbrev TICK_CAPTIME_HOUR (k : Nat) : Fld := ⟨TICK_CAPTIME k, 20, 16⟩
abbrev TICK_CAPTIME_MIN (k : Nat) : Fld := ⟨TICK_CAPTIME k, 13, 8⟩
abbrev TICK_CAPTIME_SEC (k : Nat) : Fld := ⟨TICK_CAPTIME k, 5, 0⟩
abbrev TICK_CAPDATE (k : Nat) : Nat := 0x2090010C + 0x20 * k
abbrev TICK_CAPDATE_WDAY (k : Nat) : Fld := ⟨TICK_CAPDATE k, 30, 28⟩
abbrev TICK_CAPDATE_YEAR (k : Nat) : Fld := ⟨TICK_CAPDATE k, 24, 16⟩
abbrev TICK_CAPDATE_MONTH (k : Nat) : Fld := ⟨TICK_CAPDATE k, 11, 8⟩
abbrev TICK_CAPDATE_DAY (k : Nat) : Fld := ⟨TICK_CAPDATE k, 4, 0⟩
abbrev TICK_CAPSTAT (k : Nat) : Nat := 0x20900110 + 0x20 * k
abbrev TICK_CAPSTAT_VALID (k : Nat) : Fld := ⟨TICK_CAPSTAT k, 31, 31⟩
abbrev TICK_CAPSTAT_OSF (k : Nat) : Fld := ⟨TICK_CAPSTAT k, 30, 30⟩
abbrev TICK_CAPSTAT_HALT (k : Nat) : Fld := ⟨TICK_CAPSTAT k, 29, 29⟩
abbrev TICK_CAPSTAT_SEQ (k : Nat) : Fld := ⟨TICK_CAPSTAT k, 15, 0⟩

/-! ### DISP block at 0x20A00000 -/

abbrev DISP_CTL : Nat := 0x20A00000
abbrev DISP_CTL_LOCK : Fld := ⟨DISP_CTL, 31, 31⟩
abbrev DISP_CTL_LADDER : Fld := ⟨DISP_CTL, 8, 8⟩
abbrev DISP_CTL_ANEN : Fld := ⟨DISP_CTL, 1, 1⟩
abbrev DISP_CTL_LCDEN : Fld := ⟨DISP_CTL, 0, 0⟩
abbrev DISP_STAT : Nat := 0x20A00004
abbrev DISP_STAT_MARKSEEN : Fld := ⟨DISP_STAT, 31, 31⟩
abbrev DISP_STAT_CLEARING : Fld := ⟨DISP_STAT, 30, 30⟩
abbrev DISP_STAT_MAINUPD : Fld := ⟨DISP_STAT, 29, 29⟩
abbrev DISP_STAT_REEVEUPD : Fld := ⟨DISP_STAT, 28, 28⟩
abbrev DISP_STAT_LADDERON : Fld := ⟨DISP_STAT, 27, 27⟩
abbrev DISP_STAT_TEMPV : Fld := ⟨DISP_STAT, 26, 26⟩
abbrev DISP_STAT_BAND : Fld := ⟨DISP_STAT, 22, 20⟩
abbrev DISP_STAT_LBAND : Fld := ⟨DISP_STAT, 18, 16⟩
abbrev DISP_STAT_TEMP : Fld := ⟨DISP_STAT, 11, 0⟩
abbrev DISP_EVT : Nat := 0x20A00008
abbrev DISP_EVT_FLOOD : Fld := ⟨DISP_EVT, 17, 17⟩
abbrev DISP_EVT_BAD : Fld := ⟨DISP_EVT, 16, 16⟩
abbrev DISP_EVT_CLRDONE : Fld := ⟨DISP_EVT, 10, 10⟩
abbrev DISP_EVT_RVDONE : Fld := ⟨DISP_EVT, 9, 9⟩
abbrev DISP_EVT_UPDDONE : Fld := ⟨DISP_EVT, 8, 8⟩
abbrev DISP_EVT_PUMPFLT : Fld := ⟨DISP_EVT, 0, 0⟩
abbrev DISP_IEN : Nat := 0x20A0000C
abbrev DISP_IEN_ITEM : Fld := ⟨DISP_IEN, 17, 16⟩
abbrev DISP_IEN_UPD : Fld := ⟨DISP_IEN, 10, 8⟩
abbrev DISP_IEN_PUMPFLT : Fld := ⟨DISP_IEN, 0, 0⟩
abbrev DISP_LCDCFG : Nat := 0x20A00010
abbrev DISP_LCDCFG_FRATE : Fld := ⟨DISP_LCDCFG, 22, 16⟩
abbrev DISP_LCDCFG_VNOM : Fld := ⟨DISP_LCDCFG, 15, 8⟩
abbrev DISP_LCDCFG_TC : Fld := ⟨DISP_LCDCFG, 7, 0⟩
abbrev DISP_LCDSTAT : Nat := 0x20A00014
abbrev DISP_LCDSTAT_RUN : Fld := ⟨DISP_LCDSTAT, 31, 31⟩
abbrev DISP_LCDSTAT_PUMPOK : Fld := ⟨DISP_LCDSTAT, 30, 30⟩
abbrev DISP_LCDSTAT_VMEAS : Fld := ⟨DISP_LCDSTAT, 15, 8⟩
abbrev DISP_LCDSTAT_CODE : Fld := ⟨DISP_LCDSTAT, 7, 0⟩
abbrev DISP_CMD : Nat := 0x20A00018
abbrev DISP_CMD_PUMPRETRY : Fld := ⟨DISP_CMD, 2, 2⟩
abbrev DISP_CMD_CLEAR : Fld := ⟨DISP_CMD, 1, 1⟩
abbrev DISP_CMD_UPDATE : Fld := ⟨DISP_CMD, 0, 0⟩
abbrev DISP_ANCFG : Nat := 0x20A00020
abbrev DISP_ANCFG_ANDLY : Fld := ⟨DISP_ANCFG, 31, 24⟩
abbrev DISP_ANCFG_FLHOLD : Fld := ⟨DISP_ANCFG, 23, 16⟩
abbrev DISP_ANCFG_FLOODG : Fld := ⟨DISP_ANCFG, 14, 8⟩
abbrev DISP_ANCFG_WFSEL : Fld := ⟨DISP_ANCFG, 0, 0⟩
abbrev DISP_ANBAND0 : Nat := 0x20A00024
abbrev DISP_ANBAND0_TH3 : Fld := ⟨DISP_ANBAND0, 31, 24⟩
abbrev DISP_ANBAND0_TH2 : Fld := ⟨DISP_ANBAND0, 23, 16⟩
abbrev DISP_ANBAND0_TH1 : Fld := ⟨DISP_ANBAND0, 15, 8⟩
abbrev DISP_ANBAND0_TH0 : Fld := ⟨DISP_ANBAND0, 7, 0⟩
abbrev DISP_ANBAND1 : Nat := 0x20A00028
abbrev DISP_ANBAND1_TH6 : Fld := ⟨DISP_ANBAND1, 23, 16⟩
abbrev DISP_ANBAND1_TH5 : Fld := ⟨DISP_ANBAND1, 15, 8⟩
abbrev DISP_ANBAND1_TH4 : Fld := ⟨DISP_ANBAND1, 7, 0⟩
abbrev DISP_ANTGT (k : Nat) : Nat := 0x20A00030 + 0x4 * k
abbrev DISP_ANTGT_TGT (k : Nat) : Fld := ⟨DISP_ANTGT k, 31, 0⟩
abbrev DISP_ANDISP (k : Nat) : Nat := 0x20A00038 + 0x4 * k
abbrev DISP_ANDISP_DISP (k : Nat) : Fld := ⟨DISP_ANDISP k, 31, 0⟩
abbrev DISP_ANDIRTY : Nat := 0x20A00040
abbrev DISP_ANDIRTY_DIRTY : Fld := ⟨DISP_ANDIRTY, 31, 0⟩
abbrev DISP_CNT : Nat := 0x20A00044
abbrev DISP_CNT_BAD : Fld := ⟨DISP_CNT, 31, 16⟩
abbrev DISP_CNT_FLOODS : Fld := ⟨DISP_CNT, 15, 0⟩
abbrev DISP_LCDMODE (k j : Nat) : Nat := 0x20A00100 + 0xC * k + 0x4 * j
abbrev DISP_LCDMODE_MODE (k j : Nat) : Fld := ⟨DISP_LCDMODE k j, 31, 0⟩

/-! ### PERF block at 0x20B00000 -/

abbrev PERF_CTL : Nat := 0x20B00000
abbrev PERF_CTL_LOCK : Fld := ⟨PERF_CTL, 31, 31⟩
abbrev PERF_CTL_UREAD : Fld := ⟨PERF_CTL, 0, 0⟩
abbrev PERF_CMD : Nat := 0x20B00004
abbrev PERF_CMD_UNFREEZE : Fld := ⟨PERF_CMD, 2, 2⟩
abbrev PERF_CMD_SNAP : Fld := ⟨PERF_CMD, 1, 1⟩
abbrev PERF_CMD_FREEZE : Fld := ⟨PERF_CMD, 0, 0⟩
abbrev PERF_STAT : Nat := 0x20B00008
abbrev PERF_STAT_BUSY : Fld := ⟨PERF_STAT, 31, 31⟩
abbrev PERF_STAT_SNAPV : Fld := ⟨PERF_STAT, 2, 2⟩
abbrev PERF_STAT_FROZEN : Fld := ⟨PERF_STAT, 1, 1⟩
abbrev PERF_EVT : Nat := 0x20B0000C
abbrev PERF_EVT_CMDLOST : Fld := ⟨PERF_EVT, 25, 25⟩
abbrev PERF_EVT_DONE : Fld := ⟨PERF_EVT, 24, 24⟩
abbrev PERF_EVT_BWDONE : Fld := ⟨PERF_EVT, 16, 16⟩
abbrev PERF_EVT_SMP : Fld := ⟨PERF_EVT, 8, 8⟩
abbrev PERF_EVT_CFGERR : Fld := ⟨PERF_EVT, 1, 1⟩
abbrev PERF_EVT_OVF : Fld := ⟨PERF_EVT, 0, 0⟩
abbrev PERF_IEN : Nat := 0x20B00010
abbrev PERF_IEN_CMD : Fld := ⟨PERF_IEN, 25, 24⟩
abbrev PERF_IEN_BWDONE : Fld := ⟨PERF_IEN, 16, 16⟩
abbrev PERF_IEN_SMP : Fld := ⟨PERF_IEN, 8, 8⟩
abbrev PERF_IEN_CNT : Fld := ⟨PERF_IEN, 1, 0⟩
abbrev PERF_OVFLO : Nat := 0x20B00014
abbrev PERF_OVFLO_OVF : Fld := ⟨PERF_OVFLO, 31, 0⟩
abbrev PERF_OVFHI : Nat := 0x20B00018
abbrev PERF_OVFHI_OVF : Fld := ⟨PERF_OVFHI, 31, 0⟩
abbrev PERF_SMPENG : Nat := 0x20B0001C
abbrev PERF_SMPENG_SMPV : Fld := ⟨PERF_SMPENG, 31, 31⟩
abbrev PERF_SMPENG_ISL : Fld := ⟨PERF_SMPENG, 20, 16⟩
abbrev PERF_SMPENG_UNIT : Fld := ⟨PERF_SMPENG, 3, 0⟩
abbrev PERF_SMPPC : Nat := 0x20B00020
abbrev PERF_SMPPC_PC : Fld := ⟨PERF_SMPPC, 31, 0⟩
abbrev PERF_SMPCNT : Nat := 0x20B00024
abbrev PERF_SMPCNT_SMPLOST : Fld := ⟨PERF_SMPCNT, 31, 16⟩
abbrev PERF_SMPCNT_SMPSQ : Fld := ⟨PERF_SMPCNT, 15, 0⟩
abbrev PERF_BWWIN : Nat := 0x20B00028
abbrev PERF_BWWIN_WIN : Fld := ⟨PERF_BWWIN, 15, 0⟩
abbrev PERF_BWSEL (k : Nat) : Nat := 0x20B00040 + 0x4 * k
abbrev PERF_BWSEL_SRC (k : Nat) : Fld := ⟨PERF_BWSEL k, 12, 8⟩
abbrev PERF_BWSEL_DST (k : Nat) : Fld := ⟨PERF_BWSEL k, 4, 0⟩
abbrev PERF_BWWORDS (k : Nat) : Nat := 0x20B00060 + 0x4 * k
abbrev PERF_BWWORDS_WORDS (k : Nat) : Fld := ⟨PERF_BWWORDS k, 31, 0⟩
abbrev PERF_BWSTALL (k : Nat) : Nat := 0x20B00080 + 0x4 * k
abbrev PERF_BWSTALL_STALL (k : Nat) : Fld := ⟨PERF_BWSTALL k, 31, 0⟩
abbrev PERF_SEL (k : Nat) : Nat := 0x20B00100 + 0x4 * k
abbrev PERF_SEL_EN (k : Nat) : Fld := ⟨PERF_SEL k, 31, 31⟩
abbrev PERF_SEL_CHAIN (k : Nat) : Fld := ⟨PERF_SEL k, 30, 30⟩
abbrev PERF_SEL_SAMPLE (k : Nat) : Fld := ⟨PERF_SEL k, 29, 29⟩
abbrev PERF_SEL_ISL (k : Nat) : Fld := ⟨PERF_SEL k, 20, 16⟩
abbrev PERF_SEL_UNIT (k : Nat) : Fld := ⟨PERF_SEL k, 11, 8⟩
abbrev PERF_SEL_EVT (k : Nat) : Fld := ⟨PERF_SEL k, 7, 0⟩
abbrev PERF_VAL (k : Nat) : Nat := 0x20B00200 + 0x4 * k
abbrev PERF_VAL_VALUE (k : Nat) : Fld := ⟨PERF_VAL k, 31, 0⟩

/-! ### SELV block at 0x20C00000 -/

abbrev SELV_CTL : Nat := 0x20C00000
abbrev SELV_CTL_LOCK : Fld := ⟨SELV_CTL, 31, 31⟩
abbrev SELV_CTL_SWITCH : Fld := ⟨SELV_CTL, 2, 2⟩
abbrev SELV_CTL_CDUP : Fld := ⟨SELV_CTL, 1, 1⟩
abbrev SELV_CTL_EN : Fld := ⟨SELV_CTL, 0, 0⟩
abbrev SELV_STAT : Nat := 0x20C00004
abbrev SELV_STAT_LANE1 : Fld := ⟨SELV_STAT, 31, 31⟩
abbrev SELV_STAT_LANE0 : Fld := ⟨SELV_STAT, 30, 30⟩
abbrev SELV_STAT_PAIRED : Fld := ⟨SELV_STAT, 29, 29⟩
abbrev SELV_STAT_CDUPON : Fld := ⟨SELV_STAT, 28, 28⟩
abbrev SELV_STAT_ROLEI : Fld := ⟨SELV_STAT, 27, 27⟩
abbrev SELV_STAT_COPYOK : Fld := ⟨SELV_STAT, 26, 26⟩
abbrev SELV_STAT_BUFNEW : Fld := ⟨SELV_STAT, 25, 25⟩
abbrev SELV_STAT_MISS : Fld := ⟨SELV_STAT, 21, 20⟩
abbrev SELV_STAT_PROLE : Fld := ⟨SELV_STAT, 3, 2⟩
abbrev SELV_STAT_ROLE : Fld := ⟨SELV_STAT, 1, 0⟩
abbrev SELV_EPOCH : Nat := 0x20C00008
abbrev SELV_EPOCH_PEPOCH : Fld := ⟨SELV_EPOCH, 31, 16⟩
abbrev SELV_EPOCH_EPOCH : Fld := ⟨SELV_EPOCH, 15, 0⟩
abbrev SELV_EVT : Nat := 0x20C0000C
abbrev SELV_EVT_FENCED : Fld := ⟨SELV_EVT, 26, 26⟩
abbrev SELV_EVT_AGROVF : Fld := ⟨SELV_EVT, 25, 25⟩
abbrev SELV_EVT_DISAGREE : Fld := ⟨SELV_EVT, 24, 24⟩
abbrev SELV_EVT_NOCOPY : Fld := ⟨SELV_EVT, 19, 19⟩
abbrev SELV_EVT_COPYTRUNC : Fld := ⟨SELV_EVT, 18, 18⟩
abbrev SELV_EVT_COPYSKIP : Fld := ⟨SELV_EVT, 17, 17⟩
abbrev SELV_EVT_COPYERR : Fld := ⟨SELV_EVT, 16, 16⟩
abbrev SELV_EVT_PAIRERR : Fld := ⟨SELV_EVT, 12, 12⟩
abbrev SELV_EVT_PAIRDN : Fld := ⟨SELV_EVT, 11, 11⟩
abbrev SELV_EVT_PAIRUP : Fld := ⟨SELV_EVT, 10, 10⟩
abbrev SELV_EVT_LANEUP : Fld := ⟨SELV_EVT, 9, 9⟩
abbrev SELV_EVT_LANEDN : Fld := ⟨SELV_EVT, 8, 8⟩
abbrev SELV_EVT_SPLIT : Fld := ⟨SELV_EVT, 3, 3⟩
abbrev SELV_EVT_DEMOTED : Fld := ⟨SELV_EVT, 2, 2⟩
abbrev SELV_EVT_TAKEOVER : Fld := ⟨SELV_EVT, 1, 1⟩
abbrev SELV_EVT_ROLECHG : Fld := ⟨SELV_EVT, 0, 0⟩
abbrev SELV_IEN : Nat := 0x20C00010
abbrev SELV_IEN_CD : Fld := ⟨SELV_IEN, 26, 24⟩
abbrev SELV_IEN_COPY : Fld := ⟨SELV_IEN, 19, 16⟩
abbrev SELV_IEN_LINK : Fld := ⟨SELV_IEN, 12, 8⟩
abbrev SELV_IEN_ROLE : Fld := ⟨SELV_IEN, 3, 0⟩
abbrev SELV_CFG : Nat := 0x20C00014
abbrev SELV_CFG_ALONE : Fld := ⟨SELV_CFG, 15, 8⟩
abbrev SELV_CFG_FENCE : Fld := ⟨SELV_CFG, 1, 1⟩
abbrev SELV_CFG_UNIT : Fld := ⟨SELV_CFG, 0, 0⟩
abbrev SELV_CPCFG : Nat := 0x20C00018
abbrev SELV_CPCFG_CPPAGE : Fld := ⟨SELV_CPCFG, 24, 16⟩
abbrev SELV_CPCFG_CPLEN : Fld := ⟨SELV_CPCFG, 8, 0⟩
abbrev SELV_RXCFG : Nat := 0x20C0001C
abbrev SELV_RXCFG_RXPAGE : Fld := ⟨SELV_RXCFG, 8, 0⟩
abbrev SELV_AGRCFG : Nat := 0x20C00020
abbrev SELV_AGRCFG_AGRWIN : Fld := ⟨SELV_AGRCFG, 7, 0⟩
abbrev SELV_COPYSEQ : Nat := 0x20C00024
abbrev SELV_COPYSEQ_RXSEQ : Fld := ⟨SELV_COPYSEQ, 31, 16⟩
abbrev SELV_COPYSEQ_TXSEQ : Fld := ⟨SELV_COPYSEQ, 15, 0⟩
abbrev SELV_CNT : Nat := 0x20C00028
abbrev SELV_CNT_COPYERR : Fld := ⟨SELV_CNT, 31, 16⟩
abbrev SELV_CNT_COPYSKIP : Fld := ⟨SELV_CNT, 15, 0⟩
abbrev SELV_AGRCNT : Nat := 0x20C0002C
abbrev SELV_AGRCNT_DISAGREE : Fld := ⟨SELV_AGRCNT, 31, 16⟩
abbrev SELV_AGRCNT_AGROVF : Fld := ⟨SELV_AGRCNT, 15, 0⟩
abbrev SELV_DUPTOL (k : Nat) : Nat := 0x20C00100 + 0x4 * k
abbrev SELV_DUPTOL_TOL (k : Nat) : Fld := ⟨SELV_DUPTOL k, 31, 0⟩

/-! ### RV block at 0x20D00000 -/

abbrev RV_CTL : Nat := 0x20D00000
abbrev RV_CTL_ENGKA : Fld := ⟨RV_CTL, 0, 0⟩
abbrev RV_CMD : Nat := 0x20D00004
abbrev RV_CMD_OP : Fld := ⟨RV_CMD, 18, 16⟩
abbrev RV_CMD_KEY : Fld := ⟨RV_CMD, 15, 0⟩
abbrev RV_STAT : Nat := 0x20D00008
abbrev RV_STAT_KA : Fld := ⟨RV_STAT, 31, 31⟩
abbrev RV_STAT_KH : Fld := ⟨RV_STAT, 30, 30⟩
abbrev RV_STAT_MARKSEEN : Fld := ⟨RV_STAT, 29, 29⟩
abbrev RV_STAT_STAGED : Fld := ⟨RV_STAT, 28, 28⟩
abbrev RV_STAT_STATE : Fld := ⟨RV_STAT, 1, 0⟩
abbrev RV_EVT : Nat := 0x20D0000C
abbrev RV_EVT_CMDERR : Fld := ⟨RV_EVT, 16, 16⟩
abbrev RV_EVT_FLT : Fld := ⟨RV_EVT, 9, 9⟩
abbrev RV_EVT_ALM : Fld := ⟨RV_EVT, 8, 8⟩
abbrev RV_EVT_UNARMED : Fld := ⟨RV_EVT, 2, 2⟩
abbrev RV_EVT_RESUMED : Fld := ⟨RV_EVT, 1, 1⟩
abbrev RV_EVT_ENGAGED : Fld := ⟨RV_EVT, 0, 0⟩
abbrev RV_IEN : Nat := 0x20D00010
abbrev RV_IEN_CMDERR : Fld := ⟨RV_IEN, 16, 16⟩
abbrev RV_IEN_SRC : Fld := ⟨RV_IEN, 9, 8⟩
abbrev RV_IEN_ST : Fld := ⟨RV_IEN, 2, 0⟩
abbrev RV_CAUSE : Nat := 0x20D00014
abbrev RV_CAUSE_VALID : Fld := ⟨RV_CAUSE, 31, 31⟩
abbrev RV_CAUSE_FIRST : Fld := ⟨RV_CAUSE, 18, 16⟩
abbrev RV_CAUSE_CAUSE : Fld := ⟨RV_CAUSE, 4, 0⟩
abbrev RV_ALM : Nat := 0x20D00018
abbrev RV_ALM_SRC : Fld := ⟨RV_ALM, 23, 0⟩
abbrev RV_FLT : Nat := 0x20D0001C
abbrev RV_FLT_SRC : Fld := ⟨RV_FLT, 23, 0⟩
abbrev RV_ACFG (k : Nat) : Nat := 0x20D00100 + 0x10 * k
abbrev RV_ACFG_STALE (k : Nat) : Fld := ⟨RV_ACFG k, 31, 24⟩
abbrev RV_ACFG_DLY (k : Nat) : Fld := ⟨RV_ACFG k, 23, 16⟩
abbrev RV_ACFG_SEG (k : Nat) : Fld := ⟨RV_ACFG k, 14, 12⟩
abbrev RV_ACFG_HORN (k : Nat) : Fld := ⟨RV_ACFG k, 9, 9⟩
abbrev RV_ACFG_FLTALM (k : Nat) : Fld := ⟨RV_ACFG k, 8, 8⟩
abbrev RV_ACFG_RANGE (k : Nat) : Fld := ⟨RV_ACFG k, 2, 0⟩
abbrev RV_ALO (k : Nat) : Nat := 0x20D00104 + 0x10 * k
abbrev RV_ALO_LO (k : Nat) : Fld := ⟨RV_ALO k, 23, 0⟩
abbrev RV_AHI (k : Nat) : Nat := 0x20D00108 + 0x10 * k
abbrev RV_AHI_HI (k : Nat) : Fld := ⟨RV_AHI k, 23, 0⟩
abbrev RV_AHYS (k : Nat) : Nat := 0x20D0010C + 0x10 * k
abbrev RV_AHYS_HYS (k : Nat) : Fld := ⟨RV_AHYS k, 23, 0⟩
abbrev RV_ICFG (k : Nat) : Nat := 0x20D00200 + 0x4 * k
abbrev RV_ICFG_DLY (k : Nat) : Fld := ⟨RV_ICFG k, 23, 16⟩
abbrev RV_ICFG_SEG (k : Nat) : Fld := ⟨RV_ICFG k, 14, 12⟩
abbrev RV_ICFG_HORN (k : Nat) : Fld := ⟨RV_ICFG k, 9, 9⟩
abbrev RV_ICFG_FLTALM (k : Nat) : Fld := ⟨RV_ICFG k, 8, 8⟩
abbrev RV_ICFG_ROLE (k : Nat) : Fld := ⟨RV_ICFG k, 2, 2⟩
abbrev RV_ICFG_ACTLVL (k : Nat) : Fld := ⟨RV_ICFG k, 0, 0⟩

/-! ### POLD block at 0x20E00000 -/

abbrev POLD_CTL : Nat := 0x20E00000
abbrev POLD_CTL_LOCK : Fld := ⟨POLD_CTL, 31, 31⟩
abbrev POLD_CTL_SNAPEN : Fld := ⟨POLD_CTL, 8, 8⟩
abbrev POLD_CTL_PDIV : Fld := ⟨POLD_CTL, 3, 0⟩
abbrev POLD_STAT : Nat := 0x20E00004
abbrev POLD_STAT_LINK : Fld := ⟨POLD_STAT, 31, 31⟩
abbrev POLD_STAT_SEALOPEN : Fld := ⟨POLD_STAT, 30, 30⟩
abbrev POLD_STAT_UNSYNC : Fld := ⟨POLD_STAT, 29, 29⟩
abbrev POLD_STAT_PARFLT : Fld := ⟨POLD_STAT, 28, 28⟩
abbrev POLD_STAT_TX : Fld := ⟨POLD_STAT, 27, 26⟩
abbrev POLD_STAT_BUSY : Fld := ⟨POLD_STAT, 0, 0⟩
abbrev POLD_EVT : Nat := 0x20E00008
abbrev POLD_EVT_REQLOST : Fld := ⟨POLD_EVT, 27, 27⟩
abbrev POLD_EVT_PROTERR : Fld := ⟨POLD_EVT, 26, 26⟩
abbrev POLD_EVT_LINKUP : Fld := ⟨POLD_EVT, 25, 25⟩
abbrev POLD_EVT_LINKDN : Fld := ⟨POLD_EVT, 24, 24⟩
abbrev POLD_EVT_METERFLT : Fld := ⟨POLD_EVT, 21, 21⟩
abbrev POLD_EVT_LOGWARN : Fld := ⟨POLD_EVT, 20, 20⟩
abbrev POLD_EVT_CLKDEV : Fld := ⟨POLD_EVT, 19, 19⟩
abbrev POLD_EVT_CLKADJ : Fld := ⟨POLD_EVT, 18, 18⟩
abbrev POLD_EVT_SEALCHG : Fld := ⟨POLD_EVT, 17, 17⟩
abbrev POLD_EVT_AUDIT : Fld := ⟨POLD_EVT, 16, 16⟩
abbrev POLD_EVT_RESNEW : Fld := ⟨POLD_EVT, 8, 8⟩
abbrev POLD_EVT_RSPDONE : Fld := ⟨POLD_EVT, 0, 0⟩
abbrev POLD_IEN : Nat := 0x20E0000C
abbrev POLD_IEN_LNK : Fld := ⟨POLD_IEN, 27, 24⟩
abbrev POLD_IEN_DEV : Fld := ⟨POLD_IEN, 21, 16⟩
abbrev POLD_IEN_RESNEW : Fld := ⟨POLD_IEN, 8, 8⟩
abbrev POLD_IEN_RSPDONE : Fld := ⟨POLD_IEN, 0, 0⟩
abbrev POLD_REQ : Nat := 0x20E00010
abbrev POLD_REQ_OP : Fld := ⟨POLD_REQ, 31, 24⟩
abbrev POLD_REQ_ARG8 : Fld := ⟨POLD_REQ, 23, 16⟩
abbrev POLD_REQ_IDX : Fld := ⟨POLD_REQ, 15, 0⟩
abbrev POLD_REQARG : Nat := 0x20E00014
abbrev POLD_REQARG_ARG : Fld := ⟨POLD_REQARG, 31, 0⟩
abbrev POLD_RSPSTAT : Nat := 0x20E00018
abbrev POLD_RSPSTAT_VALID : Fld := ⟨POLD_RSPSTAT, 31, 31⟩
abbrev POLD_RSPSTAT_BUSY : Fld := ⟨POLD_RSPSTAT, 30, 30⟩
abbrev POLD_RSPSTAT_OP : Fld := ⟨POLD_RSPSTAT, 23, 16⟩
abbrev POLD_RSPSTAT_LEN : Fld := ⟨POLD_RSPSTAT, 12, 8⟩
abbrev POLD_RSPSTAT_STATUS : Fld := ⟨POLD_RSPSTAT, 3, 0⟩
abbrev POLD_CNT : Nat := 0x20E0001C
abbrev POLD_CNT_PROTERR : Fld := ⟨POLD_CNT, 31, 16⟩
abbrev POLD_CNT_REFUSED : Fld := ⟨POLD_CNT, 15, 0⟩
abbrev POLD_RSP (k : Nat) : Nat := 0x20E00040 + 0x4 * k
abbrev POLD_RSP_DATA (k : Nat) : Fld := ⟨POLD_RSP k, 31, 0⟩
abbrev POLD_RES (k : Nat) : Nat := 0x20E00100 + 0x4 * k
abbrev POLD_RES_DATA (k : Nat) : Fld := ⟨POLD_RES k, 31, 0⟩

/-! ### QUEUE block at 0x20F00000 -/

abbrev QUEUE_CTLG : Nat := 0x20F00000
abbrev QUEUE_CTLG_LOCK : Fld := ⟨QUEUE_CTLG, 31, 31⟩
abbrev QUEUE_EVT : Nat := 0x20F00004
abbrev QUEUE_EVT_CFGERR : Fld := ⟨QUEUE_EVT, 1, 1⟩
abbrev QUEUE_EVT_OFFWR : Fld := ⟨QUEUE_EVT, 0, 0⟩
abbrev QUEUE_OFFCNT : Nat := 0x20F00008
abbrev QUEUE_OFFCNT_COUNT : Fld := ⟨QUEUE_OFFCNT, 15, 0⟩
abbrev QUEUE_POOL : Nat := 0x20F0000C
abbrev QUEUE_POOL_USED : Fld := ⟨QUEUE_POOL, 10, 0⟩
abbrev QUEUE_OVSZEVT : Nat := 0x20F00010
abbrev QUEUE_OVSZEVT_Q : Fld := ⟨QUEUE_OVSZEVT, 31, 0⟩
abbrev QUEUE_BADEVT : Nat := 0x20F00014
abbrev QUEUE_BADEVT_Q : Fld := ⟨QUEUE_BADEVT, 31, 0⟩
abbrev QUEUE_CFG (k : Nat) : Nat := 0x20F00100 + 0x40 * k
abbrev QUEUE_CFG_WSRC (k : Nat) : Fld := ⟨QUEUE_CFG k, 31, 30⟩
abbrev QUEUE_CFG_WSH (k : Nat) : Fld := ⟨QUEUE_CFG k, 27, 24⟩
abbrev QUEUE_CFG_RHOST (k : Nat) : Fld := ⟨QUEUE_CFG k, 21, 21⟩
abbrev QUEUE_CFG_NOTIFY (k : Nat) : Fld := ⟨QUEUE_CFG k, 20, 20⟩
abbrev QUEUE_CFG_RSH (k : Nat) : Fld := ⟨QUEUE_CFG k, 19, 16⟩
abbrev QUEUE_CFG_WIDTH (k : Nat) : Fld := ⟨QUEUE_CFG k, 12, 12⟩
abbrev QUEUE_CFG_DEPTH (k : Nat) : Fld := ⟨QUEUE_CFG k, 6, 0⟩
abbrev QUEUE_CTL (k : Nat) : Nat := 0x20F00104 + 0x40 * k
abbrev QUEUE_CTL_FLUSH (k : Nat) : Fld := ⟨QUEUE_CTL k, 1, 1⟩
abbrev QUEUE_CTL_EN (k : Nat) : Fld := ⟨QUEUE_CTL k, 0, 0⟩
abbrev QUEUE_STAT (k : Nat) : Nat := 0x20F00108 + 0x40 * k
abbrev QUEUE_STAT_OPEN (k : Nat) : Fld := ⟨QUEUE_STAT k, 31, 31⟩
abbrev QUEUE_STAT_DISC (k : Nat) : Fld := ⟨QUEUE_STAT k, 30, 30⟩
abbrev QUEUE_STAT_PKTS (k : Nat) : Fld := ⟨QUEUE_STAT k, 22, 16⟩
abbrev QUEUE_STAT_TENT (k : Nat) : Fld := ⟨QUEUE_STAT k, 14, 8⟩
abbrev QUEUE_STAT_WORDS (k : Nat) : Fld := ⟨QUEUE_STAT k, 6, 0⟩
abbrev QUEUE_CNT (k : Nat) : Nat := 0x20F0010C + 0x40 * k
abbrev QUEUE_CNT_OVERSIZE (k : Nat) : Fld := ⟨QUEUE_CNT k, 31, 16⟩
abbrev QUEUE_CNT_BAD (k : Nat) : Fld := ⟨QUEUE_CNT k, 15, 0⟩
abbrev QUEUE_FCNT (k : Nat) : Nat := 0x20F00110 + 0x40 * k
abbrev QUEUE_FCNT_PARTIAL (k : Nat) : Fld := ⟨QUEUE_FCNT k, 31, 16⟩
abbrev QUEUE_FCNT_FLUSHED (k : Nat) : Fld := ⟨QUEUE_FCNT k, 15, 0⟩
abbrev QUEUE_WR (k : Nat) : Nat := 0x20F00114 + 0x40 * k
abbrev QUEUE_WR_DATA (k : Nat) : Fld := ⟨QUEUE_WR k, 15, 0⟩
abbrev QUEUE_WCMD (k : Nat) : Nat := 0x20F00118 + 0x40 * k
abbrev QUEUE_WCMD_OP (k : Nat) : Fld := ⟨QUEUE_WCMD k, 15, 0⟩
abbrev QUEUE_RDTAG (k : Nat) : Nat := 0x20F0011C + 0x40 * k
abbrev QUEUE_RDTAG_TAG (k : Nat) : Fld := ⟨QUEUE_RDTAG k, 31, 0⟩
abbrev QUEUE_RDLO (k : Nat) : Nat := 0x20F00120 + 0x40 * k
abbrev QUEUE_RDLO_LO (k : Nat) : Fld := ⟨QUEUE_RDLO k, 31, 0⟩
abbrev QUEUE_RDHI (k : Nat) : Nat := 0x20F00124 + 0x40 * k
abbrev QUEUE_RDHI_HI (k : Nat) : Fld := ⟨QUEUE_RDHI k, 31, 0⟩

/-! ### LIFE block at 0x21000000 -/

abbrev LIFE_CTL : Nat := 0x21000000
abbrev LIFE_CTL_LOCK : Fld := ⟨LIFE_CTL, 31, 31⟩
abbrev LIFE_CTL_DBGGRANT : Fld := ⟨LIFE_CTL, 1, 0⟩
abbrev LIFE_STAT : Nat := 0x21000004
abbrev LIFE_STAT_BUSY : Fld := ⟨LIFE_STAT, 31, 31⟩
abbrev LIFE_STAT_LCOUNT : Fld := ⟨LIFE_STAT, 19, 16⟩
abbrev LIFE_STAT_MINVER : Fld := ⟨LIFE_STAT, 15, 8⟩
abbrev LIFE_STAT_BOOTED : Fld := ⟨LIFE_STAT, 5, 4⟩
abbrev LIFE_STAT_STATE : Fld := ⟨LIFE_STAT, 1, 0⟩
abbrev LIFE_EVT : Nat := 0x21000008
abbrev LIFE_EVT_REFUSED : Fld := ⟨LIFE_EVT, 2, 2⟩
abbrev LIFE_EVT_FAIL : Fld := ⟨LIFE_EVT, 1, 1⟩
abbrev LIFE_EVT_DONE : Fld := ⟨LIFE_EVT, 0, 0⟩
abbrev LIFE_IEN : Nat := 0x2100000C
abbrev LIFE_IEN_IEN : Fld := ⟨LIFE_IEN, 2, 0⟩
abbrev LIFE_CMD : Nat := 0x21000010
abbrev LIFE_CMD_KEY : Fld := ⟨LIFE_CMD, 31, 16⟩
abbrev LIFE_CMD_ARG : Fld := ⟨LIFE_CMD, 15, 8⟩
abbrev LIFE_CMD_OP : Fld := ⟨LIFE_CMD, 3, 0⟩
abbrev LIFE_KEYSTAT : Nat := 0x21000014
abbrev LIFE_KEYSTAT_REVOKED : Fld := ⟨LIFE_KEYSTAT, 11, 8⟩
abbrev LIFE_KEYSTAT_PROG : Fld := ⟨LIFE_KEYSTAT, 3, 0⟩
abbrev LIFE_VERSION : Nat := 0x21000018
abbrev LIFE_VERSION_VERSION : Fld := ⟨LIFE_VERSION, 31, 0⟩
abbrev LIFE_KEYDATA (k : Nat) : Nat := 0x21000020 + 0x4 * k
abbrev LIFE_KEYDATA_DATA (k : Nat) : Fld := ⟨LIFE_KEYDATA k, 31, 0⟩
abbrev LIFE_CKS (k : Nat) : Nat := 0x21000100 + 0x4 * k
abbrev LIFE_CKS_DATA (k : Nat) : Fld := ⟨LIFE_CKS k, 31, 0⟩

end Sys2Proof.Machine
end

