-- ==== Sys2Proof/Machine/Types.lean ====
section
/-! DEFINITION. The kinds of data the machine's state is made of, block by block. -/

namespace Sys2Proof.Machine

/-- The two initiators of register accesses (R20): the lockstep host pair and the debug port. -/
inductive Initiator where
  | host | debug
  deriving DecidableEq, Repr

/-- Width of a host access (R7). -/
inductive Size where
  | byte | half | word
  deriving DecidableEq, Repr

/-- The power states of an island (R53). -/
inductive Power where
  | off | run | idle | sleep
  deriving DecidableEq, Repr

/-- The supplies SYS monitors for good and fail (R50). -/
inductive Supply where
  | vmain | vaux
  deriving DecidableEq, Repr

/-- The warning comparisons of R50: VMAIN low, VMAIN over, VAUX low. -/
inductive SupplyWarn where
  | vmainLow | vmainOver | vauxLow | vbatLow
  deriving DecidableEq, Repr

/-- A stamp: tick count and sub-tick count of the island that stamps (R12, R31). -/
structure Stamp where
  tick : Tick := 0
  sub  : BitVec 16 := 0
  deriving DecidableEq, Repr

/-- The kinds of bus error, by their bit in SLU_ERRSTAT (R24, R46). -/
inductive BusErr where
  | timeout | offacc | unmapped | accerr
  | other   -- an error answered by the block itself, which sets no SLU_ERRSTAT bit (R210, R230)
  deriving DecidableEq, Repr

/-- What an initiator's latest completed access returned: read data, and whether it ended with a bus error. -/
structure BusReply where
  data : Word := 0
  err  : Option BusErr := none
  deriving DecidableEq, Repr

/-- A word on a sluice: its bits, its provisional tag (R26), for a register access who made it and where and whether it is a write, and
whether the word answers the oldest read that is open in the opposite direction. -/
structure SluiceWord where
  bits : BitVec 64 := 0
  tag  : Bool := false
  acc  : Option (Initiator × Word) := none
  wr   : Bool := false
  ans  : Bool := false
  deriving DecidableEq, Repr

/-- One sluice (R16, R17, R553): the handshake, the word it holds, the receive register, and the requester's standing at the
destination's arbiter (R32 to R34). -/
structure Sluice where
  req   : Bool := false
  ack   : Bool := false
  word  : Option SluiceWord := none
  dead  : Bool := false
  rx    : List SluiceWord := []
  since : Nat := 0
  age   : Nat := 0
  lvl   : Nat := 0
  lim   : Nat := 0
  deriving DecidableEq, Repr

/-- Programmed level and limit of a requester (R32, R35). -/
structure ArbSet where
  level : Nat
  limit : Nat
  deriving DecidableEq, Repr

/-- Who waits at an arbiter that ages its requesters: a sluice's source at its destination (R32), a requester at a warp memory
bank (R228), the NAND operation of a level (R423), or a shuttle at its quadrant's outgoing sluice (R206). -/
inductive Requester where
  | sluice (src dst : Fin 27)
  | warpBank (bank r : Fin 8)
  | nand (lvl : Fin 4)
  | shuttle (n : Fin 16)
  deriving DecidableEq, Repr

/-- The blanking registers of BLANK_CONFIG_WRITE (R556). -/
inductive BlankReg where
  | cfg | mapLo | mapHi | sw
  deriving DecidableEq, Repr

/-- Whose calibration request ages (R123). -/
inductive RotaWho where
  | channel (n : Fin 64)
  | junction (g : Fin 16)
  deriving DecidableEq, Repr

/-- What a tick edge carries to an island: an increment of 0, 1 or 2, or a loaded count (R29, R382). -/
inductive TickMsg where
  | inc (n : Fin 3)
  | load (count : Tick)
  deriving DecidableEq, Repr

/-- Does a message carry a loaded count? -/
def TickMsg.isLoad : TickMsg → Bool
  | .load _ => true
  | .inc _ => false

/-- A read that has crossed its sluice and is not yet answered (R20, R23): its source and destination, who made it, and its address. -/
structure OpenRead where
  src  : Nat
  dst  : Nat
  ini  : Initiator
  addr : Word
  deriving DecidableEq, Repr

/-- Sluice fabric (R14 to R48). Sluices and arbiter settings are keyed by 32 × source + destination; reads that wait for their answers,
oldest first. -/
structure SluSt where
  sluices : Tab Sluice := []
  open_   : List OpenRead := []
  arb     : Tab ArbSet := []
  deriving DecidableEq, Repr

/-- SYS: supplies, power states, start-up and watchdog (R49 to R73), the tick shadows, and the tick edges of SYS at which the polder was
last heard and last asked (R474, R475). -/
structure SysSt where
  variantM   : Bool := true
  power      : Tab Power := [(0, .run), (1, .run)]
  holdA      : Bool := false
  holdB      : Bool := false
  porPending : Bool := false
  relBusy    : Bool := false
  wdCount    : Nat := 0
  lockWait   : Bool := false
  warnA      : Bool := true
  warnB      : Bool := true
  shadow     : Tab Tick := []
  edges      : Tab Nat := []
  sub        : Tab (BitVec 16) := []
  inbox      : Tab (List TickMsg) := []
  loadSeen   : Tab Bool := []
  polHeard   : Nat := 0
  polAsked   : Nat := 0
  deriving DecidableEq, Repr

/-- The calendar (R384). -/
structure Cal where
  sec   : Nat := 0
  min   : Nat := 0
  hour  : Nat := 0
  day   : Nat := 1
  month : Nat := 1
  year  : Nat := 0
  wday  : Nat := 6
  deriving DecidableEq, Repr

/-- What the edge that fires an alarm found: due at all, late when armed, crossed by a count load (R393). -/
structure AlarmDue where
  due     : Bool := false
  past    : Bool := false
  skipped : Bool := false
  deriving DecidableEq, Repr

/-- TICK beyond its registers (R381 to R402): the count, the calendar, OSF and HALT as they stood after step 4 of the latest
edge, the rate accumulator and the trim in force, which alarms were late when armed and which the latest edge fires, capture
triggers with their tags (0 for none, 1 + TAG else), the MAINSREF window, the consecutive high samples of the land, whether the latest edge
qualified a rising edge, the oscillator edges since the latest qualified one (R395), whether HALT was set or a halt in force was ended since the
latest edge, an OSF clear that takes effect at the next edge, the annunciator's marker, and the reads that the next edge answers (R381). -/
structure TickSt where
  count    : Tick := 0
  cal      : Cal := {}
  lastOsf  : Bool := true
  lastHalt : Bool := false
  acc      : Int := 0
  trim     : Int := 0
  late     : Tab Bool := []
  due      : Tab AlarmDue := []
  capReq   : Tab Nat := []
  mrefOpen : Bool := false
  mrefCyc  : Nat := 0
  mrefTick : Nat := 0
  mrefHigh : Nat := 0
  mrefQual : Bool := false
  mrefGap  : Nat := 0
  mrefN    : Nat := 0
  haltNext : Bool := false
  haltEnd  : Bool := false
  osfClr   : Bool := false
  marker   : Bool := true
  reads    : List (Initiator × Nat) := []
  deriving DecidableEq, Repr

/-- Lifecycle states (R527). -/
inductive Lifecycle where
  | blank | develop | field | custody
  deriving DecidableEq, Repr

/-- Lifecycle commands (R530). -/
inductive LifeCmd where
  | keyprog (slot : Nat) (key : List Word)
  | keyrevoke (slot : Nat)
  | advance
  | minver (v : Nat)
  | ksprog (half : Nat) (words : List Word)
  | custody (zeroise : Bool)
  deriving DecidableEq, Repr

/-- The instructions of the IEEE 1149.1 port (R373). -/
inductive JtagIr where
  | bypass | idcode | samplePreload | extest | dbgstat | dbgacc | dbgctl
  deriving DecidableEq, Repr

/-- What DBGACC reads of a shuttle at EXPERT (R375): a register, a word of local data, a slot's state, a word of a gate queue entry. -/
inductive DbgItem where
  | reg (r : Fin 32)
  | localData (w : Fin 8192)
  | slot (k : Fin 8)
  | gate (k : Fin 16) (w : Fin 4)
  deriving DecidableEq, Repr

/-- A DBGACC access: a word on the host address map, or an item of a shuttle; with a value, a write (R373 to R375). -/
inductive DbgOp where
  | bus (addr : Word) (v : Option Word)
  | shuttle (n : Fin 16) (item : DbgItem) (v : Option Word)
  deriving DecidableEq, Repr

/-- The debug port (R373 to R375): the instruction selected, the boundary register's preloaded and captured cells, the word that
IDCODE and DBGSTAT shift out, the tag of the latest shuttle word, and EXPERT selected. What DBGACC returns is the debug initiator's
reply. -/
structure DbgSt where
  ir     : JtagIr := .idcode
  bound  : List Bool := []
  cells  : List Bool := []
  out    : Word := 0
  tag    : Nat := 0
  expert : Bool := false
  deriving DecidableEq, Repr

/-- LIFE: the fuses (R527 to R531) and the command in progress. A key slot holds the eight words of its public key;
slots and halves of the customer key store are programmed, or unusable after a failed programming. -/
structure LifeSt where
  state   : Lifecycle := .blank
  lcount  : Nat := 0
  minver  : Nat := 0
  prog    : Tab Bool := []
  revoked : Tab Bool := []
  dead    : Tab Bool := []
  keys    : Tab (List Word) := []
  cks     : Tab Word := []
  ksProg  : Tab Bool := []
  ksDead  : Tab Bool := []
  cmd     : Option LifeCmd := none
  deriving DecidableEq, Repr

end Sys2Proof.Machine
end

