-- ==== Sys2Proof/Machine/TypesIo.lean ====
section
/-! DEFINITION. The kinds of data the state of the blocks at the device's edges is made of: the vibration front end, and the links. -/

namespace Sys2Proof.Machine

/-- A packet on its way to the queue fabric: its queue, its bytes, and how many of them were written (R151, R302). -/
structure FrontPacket where
  queue : Nat
  bytes : List Byte
  sent  : Nat := 0
  deriving DecidableEq, Repr

/-- A vibration channel beyond its registers (R149 to R157): the settings in force for the segment and for the signal path, those of the segment's
latest sample (R152), a return to SETTLING that waits for the next sample period, whether the settling time is complete, whole sample periods that the bias has
been outside and inside, whether FAULT is for a short, the segment's samples with the stamp of the first and the marks that decide
its quality, the sum of its bias readings in mV, the number of the next segment, a dropped segment, and the output buffer. -/
structure VibCh where
  seg     : Word := 0
  sig     : Word := 0
  hdr     : Word := 0
  back    : Bool := false
  ready   : Bool := false
  outRun  : Nat := 0
  inRun   : Nat := 0
  short_  : Bool := false
  samples : List Int := []
  first   : Stamp := {}
  mOpen   : Bool := false
  mShort  : Bool := false
  mBlank  : Bool := false
  mSettle : Bool := false
  mStage  : Bool := false
  bias    : Nat := 0
  seq     : Nat := 0
  gap     : Bool := false
  buf     : List FrontPacket := []
  deriving DecidableEq, Repr

/-- The vibration front end beyond its registers: its channels, the pins that are asserted, those whose hold runs with 1 more than the count of
tick edges at their release (R155), and the channels whose oldest packets are on their way to the queue fabric, in their order (R156). -/
structure VibSt where
  ch   : Tab VibCh := []
  pins : Nat := 0
  rel  : Tab Nat := []
  out  : List Nat := []
  deriving DecidableEq, Repr

/-- An input of the field side (R319 to R325): the filtered level, a declared wire-break, the state for its counter, the state and
wire-break of the latest state record, the stamp of the latest change not yet recorded, the counter, tick edges since the latest count
record, one that is due with its wire-break and stamp, the latest frequency, whether it was out of range, whether the gate saw a
wire-break, and PROF as the bank applies it (R318). -/
structure DioIn where
  level : Bool := false
  wb    : Bool := false
  st    : Bool := false
  rep   : Option (Bool × Bool) := none
  chg   : Option (BitVec 64) := none
  cnt   : BitVec 32 := 0
  since : Nat := 0
  due   : Option (BitVec 32 × Bool × BitVec 64) := none
  freq  : BitVec 32 := 0x7FC00000
  fovr  : Bool := false
  gwb   : Bool := false
  prof  : Bool := false
  deriving DecidableEq, Repr

/-- A switch fault of an output (R332), numbered as FAULT is. -/
inductive OutFault where
  | none | curlim | thermal | latched
  deriving DecidableEq, Repr

/-- An output of the field side (R331 to R333): its fault, whether the switch is above 160 °C, the consecutive retry count, shutdowns not
yet reported, foreign drive, and PROF as the bank applies it (R318). -/
structure DioOut where
  fault   : OutFault := .none
  hot     : Bool := false
  retries : Nat := 0
  shorts  : Nat := 0
  fdrv    : Bool := false
  prof    : Bool := false
  deriving DecidableEq, Repr

/-- The fields that a bank holds of its own, as DIOL last gave them: its bank profile, the words of its eight inputs or outputs, and the
commanded states of its outputs (R15, R317, R335, R342). -/
structure DioCfg where
  bank  : BitVec 32 := 0
  words : List (BitVec 32) := []
  cmd   : Nat := 0
  deriving DecidableEq, Repr

/-- A field-side island (R314 to R317): whether it runs, its supply as measured, wire-break suppression, the live supply conditions and
whether 10 ms above 17.0 V have passed, STATE (R342) and the states held, the flags not yet reported, the DIOL edge of its latest
status word, the fields it holds, and its count of tick edges (R325). -/
structure DioBank where
  on    : Bool := false
  vsup  : Nat := 0
  wbsup : Bool := false
  uv    : Bool := false
  uvw   : Bool := false
  ready : Bool := false
  state : Nat := 0
  held  : Nat := 0
  evt   : Nat := 0
  last  : Nat := 0
  cfg   : DioCfg := {}
  cnt   : BitVec 8 := 0
  deriving DecidableEq, Repr

/-- What DIOL tells the Reeve of a designated input (R327). -/
structure RvInput where
  des   : Nat
  state : Bool
  wb    : Bool
  down  : Bool
  deriving DecidableEq, Repr

/-- DIOL and the field side beyond the registers: inputs, outputs, banks by number from 0 to 8, a release in force (R338), PROF of the outputs
as DIOL applies it (R318), the values of DIOL's shadow at its latest edges, newest first (R325), input records on their way to WARP, and
words on their way to the Reeve. -/
structure DioSt where
  ins   : Tab DioIn := []
  outs  : Tab DioOut := []
  banks : Tab DioBank := []
  rel   : Bool := false
  prof  : Nat := 0
  hist  : List Tick := []
  out   : List (BitVec 64 × BitVec 64) := []
  rvOut : List RvInput := []
  deriving DecidableEq, Repr

/-- A capture of the IEEE 1588 unit (R367). -/
structure PtpCap where
  seq   : Nat
  stamp : Stamp
  deriving DecidableEq, Repr

/-- An Ethernet port beyond its registers and buffers (R363 to R367): the slots to send with their lengths in order, a frame in transmission that
completes after EN was cleared, captures, the frame sent last with its FCS, the tick edges of COMMS when EN was set (R378), and those when EN was
cleared with the link up, for a frame then in reception (R379). -/
structure EthPort where
  cmds   : List (Nat × Nat) := []
  finish : Bool := false
  caps   : List PtpCap := []
  wire   : List Byte := []
  enAt   : Nat := 0
  offAt  : Option Nat := none
  deriving DecidableEq, Repr

/-- The kind of an SPI transaction (R370). -/
inductive SpiKind where
  | status | read | write | other
  deriving DecidableEq, Repr

/-- The links of COMMS beyond their registers (R363 to R372): the memory of the ETH window by offset, the ports, the open SPI transaction
with its error, its next address, the snapshot of the aligned word it reads, and the bytes returned last, the UART's FIFOs (a received byte
with FERR) and the byte sent last, and the values of COMMS's shadow at its latest edges, newest first (R367). -/
structure LinkSt where
  mem    : Tab Byte := []
  ports  : Tab EthPort := []
  spi    : Option SpiKind := none
  spiErr : Bool := false
  spiPos : Nat := 0
  snap   : List Byte := []
  miso   : List Byte := []
  tx     : List Byte := []
  rx     : List (Byte × Bool) := []
  line   : Option Byte := none
  hist   : List Tick := []
  deriving DecidableEq, Repr

end Sys2Proof.Machine
end

