-- ==== Sys2Proof/Machine/TypesLoom.lean ====
section
/-! DEFINITION. The kinds of data the state of the engines, the loom and the queue fabric is made of (R161 to R313). -/

namespace Sys2Proof.Machine

/-- A programmable engine that executes Frambeth (R161). -/
inductive Engine where
  | host
  | shuttle (n : Fin 16)
  | seq (k : Fin 4)
  deriving DecidableEq, Repr

/-- What an ECC check of a load finds (R209, R227). -/
inductive Ecc where
  | clean | corrected | uncorrectable
  deriving DecidableEq, Repr

/-- The kind of error that a number stands for. -/
def Ecc.ofCode (n : Nat) : Ecc := if n % 3 = 1 then .corrected else if n % 3 = 2 then .uncorrectable else .clean

/-- Two findings in one word: a single-bit error beside another is uncorrectable. -/
def Ecc.join (a b : Ecc) : Ecc := if a = .clean then b else if b = .clean then a else .uncorrectable

/-- What every engine holds (R164, R168, R169, R376): the general registers by number, the program counter, the binary32 flags, the cycle count as
last read, the captured halves, how often the cycle count was read, and the debug halt state. -/
structure Core where
  g      : Tab Word := []
  pc     : Word := 0
  fflags : Nat := 0
  cyc    : BitVec 64 := 0
  cycHi  : Word := 0
  tickHi : Word := 0
  subCap : Word := 0
  reads  : Nat := 0
  halted : Bool := false
  armed  : Bool := false
  step   : Bool := false
  deriving DecidableEq, Repr

/-- The host: its core, its control words by number (R168), its SRAM, the address of the first posted write that failed (R185),
whether it waits in wfi; the address of a load that TICK will answer (R381); how often the boot ROM has used the top of the SRAM (R529), the
SEQ of the recovery request it last took and the page and offset of its latest recovery WRITE (R533); and its events of R517 that are
counted by instructions, by their codes. -/
structure HostSt where
  core   : Core := {}
  cw     : Tab Word := []
  sram   : Tab Byte := []
  posted : Option Word := none
  wfi    : Bool := false
  await  : Option Nat := none
  boots  : Nat := 0
  recSeq : Option Nat := none
  recPg  : Option (Nat × Nat) := none
  cnt    : Tab Nat := []
  deriving DecidableEq, Repr

/-- A gated instruction with its captured operands (R193, R202). -/
inductive GateOp where
  | qwr (q : Nat) (v : Word)
  | qcmt (q : Nat)
  | qabt (q : Nat)
  | dout (o : Nat) (on : Bool)
  | hirq (m : Nat)
  | hinc (series bin : Nat)
  | xupd (series : Nat) (v : Word) (stamp : BitVec 64)
  | srec (id : Nat) (state : Word) (stamp : BitVec 64)
  deriving DecidableEq, Repr

/-- A gate queue entry: the operation, the tag of the evaluation that executed it (0 confirmed, else 1 + the entry's number), and
that evaluation's pick (R193, R223). -/
structure GateEnt where
  op   : GateOp
  tag  : Nat
  pick : Word
  deriving DecidableEq, Repr

/-- A descriptor's block of library state (R266, R272 to R281): taken, the condition C, the alarm condition A, the fault F, suppression,
the action input's level, delays held by a BLANKED record, the state's code, the picks at which a running delay and a suppression hold
end, the pick at which shelving ends, and the reference of RATE. -/
structure LibDesc where
  used  : Bool := false
  c     : Bool := false
  a     : Bool := false
  f     : Bool := false
  sup   : Bool := false
  lvl   : Bool := false
  held  : Bool := false
  st    : Nat := 0
  dly   : Option Word := none
  hold  : Option Word := none
  shelf : Word := 0
  ref   : Option (Word × Nat) := none
  deriving DecidableEq, Repr

/-- The duty call and the dead-man watch of the duty shuttle (R288 to R290): stage, acceptance and the pick of the stage; CALLSEQ and
HORNSEQ last seen, and SILENCE; whether the shuttle was the duty shuttle at its latest pick record, whether the watch is armed, the picks of the latest reset and of the pre-warning, whether they stand;
states of DMID and DMPID; outputs that are on. -/
structure LibDuty where
  stage    : Nat := 0
  accepted : Bool := false
  since    : Word := 0
  calls    : List Nat := []
  horns    : List Nat := []
  silenced : Bool := false
  was      : Bool := false
  armed    : Bool := false
  reset    : Word := 0
  preAt    : Word := 0
  pre      : Bool := false
  alarm    : Bool := false
  dm       : Nat := 0
  dp       : Nat := 0
  outs     : Nat := 0
  deriving DecidableEq, Repr

/-- A hook that the library has called (R278): the descriptor, how many more the chain may hold (none where no chain is walked), g8 and the pc to
restore, and the library area and the return address of the routine that called it. -/
structure LibHook where
  desc : Nat
  left : Option Nat
  g8   : Word
  pc   : Word
  base : Option Nat := none
  ret  : Option Word := none
  deriving DecidableEq, Repr

/-- The stock library's own state in local data (R266): descriptor blocks; the SEL under which its BANK was chosen, and the bank in
use; the command to apply next and how many this pick record has applied; whether this pick record's work has begun, whether the
record has been worked, the hook it waits for and the words of a queue record's packet; while expert code has called a routine, the library
area in g20 and the return address, with the hooks that were waited for at the calls (R265); CALLSEQ, HORNSEQ and flags still to be
reported; the duty functions. -/
structure LibSt where
  descs   : Tab LibDesc := []
  sel     : Option Word := none
  bank    : Nat := 0
  tail    : Word := 0
  cmds    : Nat := 0
  begun   : Bool := false
  worked  : Bool := false
  hook    : Option LibHook := none
  outer   : List (Option LibHook) := []
  base    : Option Nat := none
  ret     : Option Word := none
  words   : Option (List (BitVec 64)) := none
  callSeq : Nat := 0
  hornSeq : Nat := 0
  flags   : Nat := 0
  duty    : LibDuty := {}
  deriving DecidableEq, Repr

/-- A snapshot (R190): the general registers with their tags, the flags, the address of the sget or store, and what the library keeps
in local data. -/
structure Snap where
  g      : Tab Word := []
  tags   : Tab Nat := []
  fflags : Nat := 0
  pc     : Word := 0
  lst    : LibSt := {}
  deriving DecidableEq, Repr

/-- A store buffer entry (R194): to warp memory the address, size and data; to local data the bytes overwritten and the word's tag. -/
inductive StoreEnt where
  | warp (addr size : Nat) (data : Word)
  | localData (addr : Nat) (old : List Byte) (tag : Nat)
  deriving DecidableEq, Repr

/-- A provisional evaluation (R189, R252): the number of its held entry, its slot, its continuations' slots with their snapshots,
whether its entry is known clear, the snapshot, the store buffer in program order, a deferred fault (R200), the pcs of the
performance samples it holds (R521), and how many instructions were issued in it (R518). -/
structure Eval where
  entry  : Nat
  slot   : Nat
  conts  : List (Nat × Snap) := []
  clear  : Bool := false
  snap   : Snap := {}
  stores : List StoreEnt := []
  fault  : Option Nat := none
  smps   : List Word := []
  issued : Nat := 0
  deriving DecidableEq, Repr

/-- A notice on its way to a shuttle, by held entry (R251). -/
inductive Notice where
  | clear (entry : Nat)
  | squash (entry : Nat)
  deriving DecidableEq, Repr

/-- A shuttle in its quadrant (R206): the core, tags of registers and of local data words (R192), whether the instruction store holds
the library's image beneath its listed bytes (R211), the stores with the words in which an ECC error stands (R209), the unconfirmed
evaluations oldest first, the held entry and pick of the record being evaluated and its second word, fault control words, the gate
queue, the notices on their way, the library's state, and its counts of the events of R517 by their codes. -/
structure Shuttle where
  core    : Core := {}
  rtag    : Tab Nat := []
  ltag    : Tab Nat := []
  lib     : Bool := false
  imem    : Tab Byte := []
  dmem    : Tab Byte := []
  ibad    : Tab Ecc := []
  dbad    : Tab Ecc := []
  evals   : List Eval := []
  cur     : Option Nat := none
  pick    : Word := 0
  stamp   : BitVec 64 := 0
  scause  : Word := 0
  sepc    : Word := 0
  gate    : List GateEnt := []
  notices : List Notice := []
  lst     : LibSt := {}
  cnt     : Tab Nat := []
  deriving DecidableEq, Repr

/-- A held entry (R245): a number of its own, the record's words as they stand, its pick, its age, whether it is taken, whether it was squashed since and waits to be
re-delivered (R255), the mask it
had when it was resolved at the deadline, less the bits addressed since (R258), whether an edge found it due (R257), and a
rejection not yet effective at the shuttle (true for a drop). -/
structure Held where
  id       : Nat
  w0       : BitVec 64
  w1       : BitVec 64
  pick     : Word
  age      : Nat := 0
  taken    : Bool := false
  again    : Bool := false
  resolved : Option Nat := none
  due      : Bool := false
  reject   : Option Bool := none
  deriving DecidableEq, Repr

/-- A confirmed shuttle store on its way to warp memory (R229). -/
structure WarpStore where
  sh   : Nat
  addr : Nat
  size : Nat
  data : Word
  deriving DecidableEq, Repr

/-- What a path shed since its latest FLOOD entry, or what such an entry carries (R296). -/
structure Flood where
  path  : Nat
  diag  : Nat := 0
  hist  : Nat := 0
  extr  : Nat := 0
  state : Nat := 0
  first : Stamp := {}
  last  : Stamp := {}
  pick0 : Word := 0
  pick1 : Word := 0
  deriving DecidableEq, Repr

/-- An item of an egress path (R292 to R296), or an order that WARP relays to DIOL (R496). A state change carries its first and
latest stamp, its REPEAT count and the fan-out word read at its arrival (R291, R297). -/
inductive EgItem where
  | out (o : Nat) (on : Bool)
  | state (id : Nat) (st : Word) (first last : BitVec 64) (count : Nat) (fan : Word)
  | hist (series bin : Nat)
  | extreme (series : Nat) (v : Word) (stamp : BitVec 64)
  | flood (f : Flood)
  | marker
  | release
  | assume
  deriving DecidableEq, Repr

/-- The classes of R293, with FLOOD entries and the marker. -/
inductive EgCls where
  | alarm | state | diag | hist | extr | out | flood | marker
  deriving DecidableEq, Repr

/-- A waiting egress item: its class and its sequence number (R293). -/
structure EgEnt where
  item : EgItem
  cls  : EgCls
  seq  : Nat
  deriving DecidableEq, Repr

/-- An egress path (R292): what waits, the next sequence number, the FLOOD accumulation, and the items sent that are on their way. -/
structure EgPath where
  wait : List EgEnt := []
  seq  : Nat := 0
  acc  : Option Flood := none
  sent : List EgEnt := []
  deriving DecidableEq, Repr

/-- A requester at a bank of warp memory (R228): whether it waits, its age, and the level and limit in force when it began to wait (R34). -/
structure BankReq where
  on  : Bool := false
  age : Nat := 0
  lvl : Nat := 0
  lim : Nat := 0
  deriving DecidableEq, Repr

/-- WARP beyond its registers (R215 to R258): warp memory, held entries by shuttle, the number of the next entry, the pick
accumulator and PICKUS in force, whether the scheduler runs, whether its next pick is the first and whether its first completion is
still to come, records dropped for the next pick record, shuttles sent a pick record since START, the pick each shuttle counts as
having reported, LOOM_ATCFG in force, the publication under way and the one that waits with the table area in force for it,
issued gated operations and confirmed stores on their way, by quadrant the shuttle that its outgoing sluice was granted to (1 + its number) and
the ages of those that wait for it (R206), the requesters at the memory's banks (keyed 8 × bank + requester), the 64-bit words in which an ECC
error stands (R227), by quadrant the pick boundaries since its latest dispatch (R240), state copy requests with OUTSH, picks
completed that SYS has not looked at (R476), confirmed-duplex mode, the states accepted into path 3, and the egress paths. -/
structure LoomSt where
  warp    : Tab Byte := []
  held    : Tab (List Held) := []
  nextId  : Nat := 1
  acc     : Nat := 0
  pickus  : Nat := 1000
  sched   : Bool := false
  first   : Bool := false
  mark    : Bool := false
  drops   : Tab Nat := []
  started : Tab Bool := []
  rep     : Tab Word := []
  atcfg   : Word := 0x003D0000
  pub     : Option (Word × Word) := none
  pubNext : Option (Word × Word) := none
  issued  : List (Nat × GateOp) := []
  wstores : List WarpStore := []
  turn    : Tab Nat := []
  shAge   : Tab Nat := []
  bankReq : Tab BankReq := []
  bad     : Tab Ecc := []
  quiet   : Tab Nat := []
  copyReq : List (Word × Nat) := []
  snapReq : List Word := []
  cdup    : Bool := false
  outsh   : Nat := 0
  egress  : Tab EgPath := []
  deriving DecidableEq, Repr

/-- A CAN frame (R343, R351, R353): identifier, formats, DLC code and data bytes. -/
structure CanFrame where
  id   : Nat
  ide  : Bool
  rtr  : Bool
  fdf  : Bool
  brs  : Bool
  esi  : Bool := false
  dlc  : Nat
  data : List Byte
  deriving DecidableEq, Repr

/-- An entry of a controller's alarm set (R352); REPEAT is 0 while it is idle. `fresh`: the item came while the entry's frame was on the
bus. -/
structure CanAlarm where
  st    : Word := 0
  rep   : Nat := 0
  first : BitVec 64 := 0
  last  : BitVec 64 := 0
  mbox  : Nat := 0
  seq   : Nat := 0
  fresh : Bool := false
  deriving DecidableEq, Repr

/-- What a controller has chosen to send (R355). -/
inductive CanWho where
  | host (j : Nat)
  | alarm (id : Nat)
  | flood
  deriving DecidableEq, Repr

/-- A frame on the bus: whose it is, the frame as it started, and an abort that waits for its end (R351, R352). -/
structure CanTx where
  who   : CanWho
  frame : CanFrame
  abort : Bool := false
  deriving DecidableEq, Repr

/-- A CAN controller beyond its registers (R348 to R358): the alarm set, the FLOOD place and what has come to it since its frame went onto the
bus, alarm and FLOOD frames sent, received frames accepted, packets that wait for the sluice, mailboxes that lost frames, the frame it sends,
whether it receives one, an EN cleared while a frame is on the bus, and the error counters. -/
structure CanSt where
  alarms  : Tab CanAlarm := []
  flood   : Option Flood := none
  late    : Option Flood := none
  txSeq   : Nat := 0
  rxSeq   : Nat := 0
  held    : List FrontPacket := []
  lost    : Tab Bool := []
  bus     : Option CanTx := none
  rxing   : Bool := false
  closing : Bool := false
  tec     : Nat := 0
  rxe     : Nat := 0
  deriving DecidableEq, Repr

/-- A word at a queue's stages with its tag fields (R308). -/
structure QWord where
  data  : BitVec 64
  first : Bool
  last  : Bool
  bytes : Nat
  deriving DecidableEq, Repr

/-- A tentative take (R309): the shuttle, its evaluation's held entry, and the word. -/
structure QTake where
  sh    : Nat
  entry : Nat
  word  : QWord
  deriving DecidableEq, Repr

/-- A queue (R299 to R312): visible words in order, committed packets not yet visible, the bytes of the open packet, whether the rest
of a packet is being discarded, whether a packet discarded with EN clear was counted, and tentative takes. -/
structure Queue where
  visible : List QWord := []
  commits : List (List QWord) := []
  open_   : Option (List Byte) := none
  disc    : Bool := false
  offPkt  : Bool := false
  tent    : List QTake := []
  deriving DecidableEq, Repr

/-- Who sends writes to the queue fabric's front end (R299). -/
inductive FrontSrc where
  | vib | comms
  deriving DecidableEq, Repr

/-- From where WARP accepts a record that it places (R218). -/
inductive RecSrc where
  | afe | diol
  deriving DecidableEq, Repr

/-- A vote of confirmed-duplex mode (R492): source, stamp, quality, KIND of an input record (0 for a sample), VALUE, and the edge of SELV
at which it arrived. -/
structure Vote where
  src   : Nat
  stamp : BitVec 64
  qual  : Nat
  kind  : Nat
  value : Word
  at_   : Nat
  deriving DecidableEq, Repr

end Sys2Proof.Machine
end

