-- ==== Sys2Proof/Machine/TypesDup.lean ====
section
/-! DEFINITION. The kinds of data the state of the selvedge link and of the Reeve is made of (R481 to R514). -/

namespace Sys2Proof.Machine

/-- A role on the selvedge link (R484), in the order of SELV_STAT.ROLE. -/
inductive Role where
  | none | standby | active | demoted
  deriving DecidableEq, Repr

/-- What a keepalive carries (R483), COPYOK among it: R495 has the partner report it and names no other carrier. -/
structure Keepalive where
  unit   : Nat
  role   : Role
  epoch  : BitVec 16
  pickus : Nat
  cdup   : Bool
  copyOk : Bool
  deriving DecidableEq, Repr

/-- What a heartbeat carries (R486). -/
structure Heartbeat where
  role     : Role
  epoch    : BitVec 16
  pick     : Word
  done     : Word
  handover : Bool
  deriving DecidableEq, Repr

/-- The header of a state copy (R488). -/
structure CopyHdr where
  seq   : Word
  pick  : Word
  epoch : BitVec 16
  len   : Nat
  outsh : Nat
  deriving DecidableEq, Repr

/-- A state copy as sent (R488): its header, the region in blocks of 1 KB, and the CRC-32 of the header and of each block. -/
structure SentCopy where
  hdr  : CopyHdr
  data : List Byte
  crcs : List Word
  deriving DecidableEq, Repr

/-- SELV beyond its registers (R481 to R500): the edge of the latest keepalive and what it carried, what the module sent last, a vote among
it, and the tick edge of the latest periodic keepalive, own pick
boundaries that wait to be handled, those counted unpaired since EN was set, whether an ACTIVE heartbeat came in the open pick, a
handover requested or under way, whether a good copy arrived since the partner's HANDOVER heartbeat and whether one is awaited,
the count of copies sent, the copy being sent and the request that waits, the headers of the receive buffers' good copies, a
takeover whose copy is not complete yet, waiting local votes, the latest partner vote of each source, and agreements on their way
to WARP. -/
structure SelvSt where
  heard    : Option Nat := none
  peer     : Option Keepalive := none
  sentKeep : Option Keepalive := none
  sentBeat : Option Heartbeat := none
  sentVote : Option Vote := none
  keepAt   : Nat := 0
  bounds   : List Word := []
  alone    : Nat := 0
  beat     : Bool := false
  request  : Bool := false
  giving   : Bool := false
  due      : Option Word := .none
  granted  : Bool := false
  txSeq    : Word := 0
  sending  : Option CopyHdr := none
  wait     : Option (Word × Nat) := none
  sent     : Option SentCopy := none
  good     : Option CopyHdr := none
  taking   : Bool := false
  votes    : List Vote := []
  pvotes   : Tab Vote := []
  agree    : List (Nat × BitVec 64) := []
  deriving DecidableEq, Repr

/-- The Reeve's triggers, in the order of RV_CAUSE (R503). -/
inductive RvCause where
  | lockstep | fatal | supply | reset | host
  deriving DecidableEq, Repr

end Sys2Proof.Machine
end

