-- ==== Sys2Proof/Machine/TypesRest.lean ====
section
/-! DEFINITION. The kinds of data the state of the recorder and its NAND, the displays, the polder and the Reeve is made of (R403 to R480,
R502 to R514). -/

namespace Sys2Proof.Machine

/-- Bit errors that a read of a page finds in its four sectors (R419). -/
structure EccBits where
  s0 : Nat
  s1 : Nat
  s2 : Nat
  s3 : Nat
  deriving DecidableEq, Repr

/-- A live histogram (R405, R414): FLAGS holds PARTIAL [0], SKIP [1] and SAT [2]; bins by number. -/
structure LiveHist where
  period  : Nat := 0
  gen     : Nat := 0
  flags   : Nat := 0
  opened  : BitVec 64 := 0
  openCal : BitVec 64 := 0
  bins    : Tab Nat := []
  deriving DecidableEq, Repr

/-- A live extreme (R405, R406): the offers, and the minimum and the maximum with their stamps and calendars. -/
structure LiveExtr where
  period : Nat := 0
  gen    : Nat := 0
  flags  : Nat := 0
  offers : Nat := 0
  vmin   : Word := 0x7FC00000
  vmax   : Word := 0x7FC00000
  tmin   : BitVec 64 := 0
  tmax   : BitVec 64 := 0
  cmin   : BitVec 64 := 0
  cmax   : BitVec 64 := 0
  deriving DecidableEq, Repr

/-- A record of the log: TYPE, GEN, SEQ and the bytes after the header (R414). -/
structure LogRec where
  ty   : Nat
  gen  : Nat := 1
  seq  : Nat
  body : List Byte
  deriving DecidableEq, Repr

/-- A page of the page queue: its records and the tick edge of its first (R424). -/
structure QPage where
  recs  : List LogRec
  since : Nat
  deriving DecidableEq, Repr

/-- A programmed page of the NAND: 4,096 bytes and 16 bytes of metadata (R418, R419). -/
structure NandPage where
  data  : List Byte
  spare : List Byte
  deriving DecidableEq, Repr

/-- A NAND operation (R423): pages are numbered 32 × physical block + page. -/
inductive NandOp where
  | window (page : Nat)
  | hostRead (page : Nat)
  | hostProgram (page : Nat) (p : NandPage)
  | hostErase (block : Nat)
  | program (page : Nat)
  | erase (block : Nat)
  deriving DecidableEq, Repr

/-- The NAND die (R418, R420): programmed pages (a page not listed is erased), the bytes of the block status table (0xFF unless
listed), and how many times a content was left open. -/
structure NandSt where
  pages : Tab NandPage := []
  bst   : Tab Byte := []
  cuts  : Nat := 0
  deriving DecidableEq, Repr

/-- A close of a period clock that is still copying (R408): series to come (true for an extreme), and whether another close
was merged into it. -/
structure CloseJob where
  todo : List (Bool × Nat) := []
  skip : Bool := false
  deriving DecidableEq, Repr

/-- A period clock whose crossing the latest edges brought (R407). -/
structure PeriodDue where
  due  : Bool := false
  skip : Bool := false
  deriving DecidableEq, Repr

/-- The cursor's load (R415): space and index, what the NAND read found (true for uncorrectable), the outcome once known, and
the bytes of a record served from NAND. -/
structure CurLoad where
  space  : Nat
  idx    : Nat
  read   : Option Bool := none
  status : Option Nat := none
  copy   : List Byte := []
  deriving DecidableEq, Repr

/-- STORE beyond its registers (R403 to R430): the calendar and the calendars of the latest 64 seconds, newest first, by the
number of their second; the live tables; the open page and the queued pages, oldest first; the NAND operation in progress, the
host command that waits and the ages of waiting levels; the block and page the log is written to next; the next SEQ; MARK records
owed; due period clocks and closes under way; the cursor; held window reads; how many of the pages queued when programming resumed are still to be
programmed (R425); and the page buffer with its metadata. -/
structure StoreSt where
  cal     : Cal := {}
  secs    : List (Nat × Cal) := []
  hist    : Tab LiveHist := []
  extr    : Tab LiveExtr := []
  openPg  : Option QPage := none
  pages   : List QPage := []
  op      : Option NandOp := none
  hostReq : Option NandOp := none
  ages    : Tab Nat := []
  hblk    : Nat := 128
  hpg     : Nat := 0
  seq     : Nat := 1
  owed    : List Nat := []
  due     : Tab PeriodDue := []
  closing : Tab CloseJob := []
  cursor  : Option CurLoad := none
  held    : List (Initiator × Nat) := []
  drain   : Nat := 0
  buf     : Tab Byte := []
  deriving DecidableEq, Repr

/-- An update engine of the annunciator (R440): whether it runs, whether its marker was acknowledged, the segments it drives, the targets
it took, two bits each, the band and the set of waveforms that it latched, and the tick edge of its first step. -/
structure DispEngine where
  run   : Bool := false
  acked : Bool := false
  segs  : Nat := 0
  tgts  : BitVec 64 := 0
  band  : Nat := 0
  ram   : Bool := false
  first : Nat := 0
  deriving DecidableEq, Repr

/-- How far a clearing refresh is (R441, R442). -/
inductive ClearPhase where
  | none | asked | marking | running
  deriving DecidableEq, Repr

/-- DISP beyond its registers (R432 to R446): the number of the LCD frame, FRATE in force, frames out of tolerance in a row, whether the
pump failed, whether a retry waits for an even frame, the two engines and the clearing refresh; and the tick edges of the latest FLOOD
entry, of the first DIRTY bit since MAIN's last start, of the clearing refresh's first step and of the LCD frame's beginning. -/
structure DispSt where
  frame  : Nat := 0
  frate  : Nat := 64
  bad    : Nat := 0
  failed : Bool := false
  retry  : Bool := false
  main   : DispEngine := {}
  reeve  : DispEngine := {}
  clear  : ClearPhase := .none
  flood  : Option Nat := .none
  dirty  : Option Nat := .none
  first  : Nat := 0
  begun  : Nat := 0
  deriving DecidableEq, Repr

/-- The kinds of the polder's events (R464). -/
inductive PolKind where
  | start | parchg | sealopen | sealclose | discard | sync | clkadj | clkdev | pulseflt | tempflt | densflt | parflt | pwrfail
  deriving DecidableEq, Repr

/-- An event record of the polder (R464). -/
structure PolEvent where
  kind  : PolKind
  count : Tick
  audit : Word
  ops   : List Word
  deriving DecidableEq, Repr

/-- A meter's totalisers in mL, mL and g, and their binary64 remainders (R460). -/
structure PolTot where
  vt    : BitVec 64 := 0
  v15   : BitVec 64 := 0
  mass  : BitVec 64 := 0
  rvt   : Nat := 0
  rv15  : Nat := 0
  rmass : Nat := 0
  deriving DecidableEq, Repr

/-- What a record of the transaction log gathers (R462): its start, the totalisers then, FLAGS, the registered volume with its sums
weighted by temperature and by density at 15 °C (binary64), and PULSEDIFF. -/
structure PolAcc where
  start : Tick := 0
  base  : PolTot := {}
  flags : Nat := 0
  vol   : Nat := 0
  tsum  : Nat := 0
  rsum  : Nat := 0
  diff  : Nat := 0
  deriving DecidableEq, Repr

/-- A transaction (R462): its number, whether it has opened, whether TXSTOP was given, and what it gathers. -/
structure PolTx where
  no     : Nat
  opened : Bool := false
  stop   : Bool := false
  acc    : PolAcc := {}
  deriving DecidableEq, Repr

/-- A meter (R453 to R459): pulses of the open cycle on both channels, forward and reverse ones, the crystal cycles of each channel's latest
one, the sums of R454, the pulse fault,
input faults, STATUS and the values of the latest cycle (binary64), and what the polder day gathers. -/
structure PolMeter where
  n1   : Nat := 0
  n2   : Nat := 0
  fwd  : Nat := 0
  rev  : Nat := 0
  at1  : Option Nat := none
  at2  : Option Nat := none
  s1   : Nat := 0
  s2   : Nat := 0
  pflt : Bool := false
  tflt : Bool := false
  dflt : Bool := false
  stat : Nat := 0
  flow : Nat := 0
  temp : Nat := 0
  rho  : Nat := 0
  vcf  : Nat := 0
  day  : PolAcc := {}
  deriving DecidableEq, Repr

/-- A polder day that has ended, with what both meters gathered and their totalisers (R463). -/
structure PolDay where
  day  : Nat
  stop : Tick
  a    : PolAcc
  ta   : PolTot
  b    : PolAcc
  tb   : PolTot
  deriving DecidableEq, Repr

/-- A message of the polder to SYS: an answer with its status and words, or a result record (R474, R475, R477). -/
inductive PolMsg where
  | response (status : Nat) (words : List Word)
  | result (words : List Word)
  deriving DecidableEq, Repr

/-- The currents that a cycle reads on PA0 to PA3, in nA (R455). -/
structure PolCur where
  i0 : Nat
  i1 : Nat
  i2 : Nat
  i3 : Nat
  deriving DecidableEq, Repr

/-- The latest save of the polder: count, totalisers, transactions and what the polder day gathers (R460, R463, R471, R479). -/
structure PolSave where
  count : Tick := 0
  tot   : Tab PolTot := []
  tx    : Tab PolTx := []
  day   : Tab PolAcc := []
  deriving DecidableEq, Repr

/-- The polder's NOR (R461, R464, R469): both parameter copies (none where the CRC is not valid), the logs, AUDIT, events that found the
log full, the latest save, the number of the latest transaction and that of each meter, what ADJMAX has admitted on this polder day, and
days to be recorded. -/
structure PolNor where
  copyA  : Option (Tab Word) := none
  copyB  : Option (Tab Word) := none
  events : List PolEvent := []
  slots  : List (List Byte) := []
  audit  : Word := 0
  unrec  : Nat := 0
  save   : PolSave := {}
  txno   : Nat := 0
  lastTx : Tab Nat := []
  used   : Nat := 0
  days   : List PolDay := []
  deriving DecidableEq, Repr

/-- The polder's working state (R450 to R479): the count at the latest cycle boundary with the accumulator, ticks it withholds and
cycles since release; the meters, the inputs' last good values, the seal, UNSYNC, PARFLT and the power-fail warning; staged
parameters and those that this cycle uses, totalisers, transactions; a snapshot asked for; SEQ; messages on their way to SYS; POLD_EVT
flags for the next link word; LOGWARN as sent and as on its way; a time request that SYS has not answered, and the cycle of the latest
one. -/
structure PolSt where
  count  : Tick := 0
  acc    : Nat := 0
  hold   : Nat := 0
  cyc    : Nat := 0
  meters : Tab PolMeter := []
  good   : Tab Nat := []
  unsealed : Bool := false
  unsync : Bool := false
  parflt : Bool := false
  warn   : Bool := false
  staged : Tab Word := []
  par    : Option (Tab Word) := none
  tot    : Tab PolTot := []
  tx     : Tab PolTx := []
  snap   : Option Word := none
  seq    : Nat := 0
  out    : List PolMsg := []
  evts   : Nat := 0
  warned : Bool := false
  warnTx : Bool := false
  timeRq : Bool := false
  rqCyc  : Option Nat := none
  deriving DecidableEq, Repr

/-- A configuration register of the Reeve (R505). -/
inductive RvReg where
  | ctl
  | acfg (n : Fin 16)
  | alo (n : Fin 16)
  | ahi (n : Fin 16)
  | ahys (n : Fin 16)
  | icfg (m : Fin 8)
  deriving DecidableEq, Repr

/-- A source of the Reeve beyond RV_ALM and RV_FLT (R506 to R508): conversions counted, the edge of its latest code or word, an input's
level with the edge since which it stands, and the edges it had stood when a fault began. -/
structure RvSrc where
  cnt   : Nat := 0
  last  : Nat := 0
  level : Option Bool := none
  since : Nat := 0
  held  : Nat := 0
  deriving DecidableEq, Repr

/-- The Reeve beyond its registers (R502 to R512): its sources, values staged by address, the designation words it was last given
(AFE_RVMAP0 to 3, then DIO_RVMAP0 and 1), the latest segment word and the words on their way to DISP, markers on their way from DIOL,
and whether a logic island was released since the latest reset of the logic islands or since VREEVE arrived. -/
structure RvSt where
  src    : Tab RvSrc := []
  staged : Tab Word := []
  maps   : Tab Word := []
  word   : Nat := 0
  segs   : List Nat := []
  marks  : Nat := 0
  relsd  : Bool := false
  deriving DecidableEq, Repr

/-- A command of PERF (R519). -/
inductive PerfCmd where
  | freeze | snap | unfreeze
  deriving DecidableEq, Repr

/-- PERF and the counting units beyond its registers (R515 to R522), by counter: what a unit held when it was last known; what the
latest common edge captured; what the count of an event that the model itself counts stood at when the unit was last known; resume
values written; whether the units are stopped; the command in progress, the edge of PERF that is its common edge, and whether that
edge has passed; the edge at which the bandwidth window began; and by island the entries into SLEEP since its reset. -/
structure PerfSt where
  units  : Tab Word := []
  snap   : Tab Word := []
  base   : Tab Nat := []
  resume : Tab (Option Word) := []
  frozen : Bool := false
  cmd    : Option PerfCmd := none
  edge   : Nat := 0
  passed : Bool := false
  bwFrom : Nat := 0
  sleeps : Tab Nat := []
  deriving DecidableEq, Repr

/-! ### Operands of commands that carry more than one thing -/

/-- A blanking pin of VIB and the level it takes (R155). -/
structure PinLevel where
  pin  : Fin 4
  high : Bool
  deriving DecidableEq, Repr

/-- A shuttle, and the sub-tick count of WARP at the event (R296). -/
structure ShuttleAt where
  n   : Fin 16
  sub : BitVec 16
  deriving DecidableEq, Repr

/-- A queue, and the sub-tick count of WARP at the event (R219, R310). -/
structure QueueAt where
  q   : Fin 32
  sub : BitVec 16
  deriving DecidableEq, Repr

/-- A CAN controller, and whether another node starts a frame (R355). -/
structure CanStart where
  k   : Fin 3
  sof : Bool
  deriving DecidableEq, Repr

/-- A CAN controller, and the transmitter delay measured in the frame, in CAN clock cycles (R362). -/
structure CanDone where
  k     : Fin 3
  delay : BitVec 8
  deriving DecidableEq, Repr

/-- The opcode byte of an SPI transaction, and how many bytes are read after it (R370). -/
structure SpiPoll where
  op : Byte
  n  : BitVec 8
  deriving DecidableEq, Repr

end Sys2Proof.Machine
end

