-- ==== Sys2Proof/Syntax.lean ====
section
/-! DEFINITION. The commands of the block: one constructor per row of spec/opcode_table.json, with the operands that the
row's event carries from outside (a written word, an index, a sampled value, a measured duration having passed). -/

namespace Sys2Proof

open Sys2Proof.Machine

/-- A command. -/
inductive Instr where
  /-- A host or debug write to a register field with no behaviour of its own stores the value or clears W1C flags according to its access code (R9). -/
  | registerWrite (ini : Initiator) (addr v : Word) (size : Size)
  /-- A read of an RC register returns the count and clears it, keeping an event that occurs in the same cycle (R43). -/
  | rcRead (ini : Initiator) (addr : Word)
  /-- Setting a block's lock bit stores the RWL fields of that write and freezes them until the island's reset (R10). -/
  | lockSet (ini : Initiator) (blk : Fin 17) (v : Word)
  /-- A source island drives a word onto a sluice and raises REQ (R16). -/
  | sluiceRequest (src dst : Fin 27) (w : SluiceWord)
  /-- The destination synchronizes REQ, latches the word into a free receive entry and raises ACK (R17). -/
  | sluiceLatch (src dst : Fin 27) (taken : Fin 3)
  /-- The source sees ACK rise and lowers REQ, freeing the word (R16). -/
  | sluiceAckSeen (src dst : Fin 27)
  /-- The destination sees REQ fall and lowers ACK, and the source may then begin its next word (R553). -/
  | sluiceAckLow (src dst : Fin 27)
  /-- A waiting requester whose age reaches its limit, or twice its limit, is promoted in level (R33). -/
  | agePromotion (who : Requester) (age : BitVec 16)
  /-- A handshake open for SLU_CTL.TMO tick periods is abandoned, TIMEOUT is set, SLU_TMOCNT counts and a register access ends with a bus error (R23). -/
  | handshakeTimeout (src dst : Fin 27)
  /-- An island recognises a synchronized tick edge, adds its increment to its shadow and zeroes its sub-tick count (R29). -/
  | islandTickRecognised (isl : Fin 27)
  /-- With IE set and an enabled line high, the host takes an interrupt for the lowest such line (R186). -/
  | hostInterrupt
  /-- VMAIN or VAUX has stayed above its rising threshold for 1 ms and becomes good (R50). -/
  | supplyGood (sup : Supply)
  /-- VMAIN or VAUX stays below its falling threshold, or VMAIN above overvoltage, for 2 µs and fails (R50). -/
  | supplyFail (sup : Supply) (deep : Bool)
  /-- VMAIN or VAUX crosses its warning or overvoltage threshold and sets VMAINW or VAUXW (R73). -/
  | supplyWarning (w : SupplyWarn) (on : Bool)
  /-- VBAT falls below 2.20 V and VBATLOW is set (R50). -/
  | vbatLow
  /-- TICK changes between VAUX and VBAT when VAUX crosses 2.95 V without losing a tick (R51). -/
  | tickSupplyChangeover (toBat : Bool)
  /-- Both VAUX and VBAT fall below 1.8 V, the tick oscillator stops and TICK is reset with OSF set (R51). -/
  | tickOscillatorStop
  /-- An island with no work for 16 of its cycles gates its clock (R53). -/
  | islandIdle (isl : Fin 27)
  /-- An island whose SLEEP condition holds stops its oscillator or PLL and retains its state (R56). -/
  | islandSleep (isl : Fin 27)
  /-- A sleeping island completes its wake within its latency and accepts its first sluice word (R54). -/
  | islandWake (isl : Fin 27)
  /-- A write to SYS_NOSLEEP keeps islands out of SLEEP and wakes any that are asleep (R55). -/
  | nosleepWrite (ini : Initiator) (v : Word)
  /-- SYS samples the die A and die B sensors once per millisecond into SYS_TEMPA and SYS_TEMPB (R57). -/
  | dieTemperatureSample (a b : BitVec 12)
  /-- After 100 ms below 145 °C, SYS releases the thermally reset islands again in start-up order (R58). -/
  | thermalRelease (dieB : Bool)
  /-- The NAND sensor reads above 125 °C and STORE stops issuing programs and erases (R60). -/
  | nandProgramSuspend (t : BitVec 12)
  /-- The NAND sensor falls below 120 °C and programming resumes, queued pages first (R60). -/
  | nandProgramResume (t : BitVec 12)
  /-- RESETn held low for 10 µs resets SYS and all logic islands (R61). -/
  | externalReset
  /-- Writing key 0xA5C3 to SYS_SWRST resets all logic islands (R61). -/
  | softwareReset (ini : Initiator) (v : Word)
  /-- A reset command through the IEEE 1149.1 port resets all logic islands (R61). -/
  | debugReset
  /-- SYS begins a start-up release step once the previous step's islands report awake (R65). -/
  | releaseStep (step : Fin 7)
  /-- A boot ROM write of GO releases start-up steps 4 to 6 (R67). -/
  | go (ini : Initiator) (fromRom : Bool)
  /-- A boot ROM write of RECOVER releases COMMS alone for recovery (R67). -/
  | recover (ini : Initiator) (fromRom : Bool)
  /-- The boot ROM loads an image copy, verifies its header and Ed25519 signature and jumps to it or falls back to recovery (R529). -/
  | bootImageVerify (bad0 bad1 : Bool)
  /-- A write to SYS_WDCTL that sets EN from 0 restarts the watchdog count; a new TIMEOUT applies to the running count (R71). -/
  | watchdogConfigWrite (ini : Initiator) (v : Word)
  /-- Writing key 0x3C96 to SYS_WDKICK while EN is set restarts the watchdog count (R71). -/
  | watchdogKick (ini : Initiator) (v : Word)
  /-- The watchdog count reaches half its timeout and sets WDWARN (R71). -/
  | watchdogWarning
  /-- The watchdog count reaches TIMEOUT and resets all logic islands (R71). -/
  | watchdogReset
  /-- Setting AFE_SCANCTLk.EN starts the sequencer in the stock program or at instruction offset 0 (R89). -/
  | sequencerEnable (ini : Initiator) (k : Fin 4) (expert : Bool)
  /-- Clearing EN stops the sequencer, discards queued steps and lets each group complete its visit before excitation switches off (R95). -/
  | sequencerDisable (ini : Initiator) (k : Fin 4) (expert : Bool)
  /-- The stock program issues a round of live steps for each group's scanned or pinned channels (R94). -/
  | stockRound (g : Fin 16)
  /-- A group begins a visit at an output-period boundary, applying pending channel configuration, switching the multiplexer and excitation (R80). -/
  | visitStart (g : Fin 16) (sub : BitVec 16)
  /-- A group's conversion completes and is discarded or delivered as a sample record (R96). -/
  | conversionEnd (g : Fin 16) (sub : BitVec 16) (code : BitVec 24) (op lim : Bool)
  /-- A channel with no delivered sample for STALE × 32 tick periods gets a STALE record (R104). -/
  | staleRecord (n : Fin 64) (sub : BitVec 16)
  /-- An enabled blanking source asserts, blanks its mapped channels and sends BLANKED records (R105). -/
  | blankAssert (pin : Fin 4) (sub : BitVec 16)
  /-- A blanking pin stays inactive for 1 µs and its hold begins (R105). -/
  | blankRelease (pin : Fin 4) (sub : BitVec 16)
  /-- HOLD tick periods after release the source stops blanking and its channels are released (R105). -/
  | blankHoldExpiry (src : Fin 8) (sub : BitVec 16)
  /-- A write to a blanking configuration, map or software source takes effect at once, asserting or releasing channels (R556). -/
  | blankConfigWrite (ini : Initiator) (r : BlankReg) (src : Fin 8) (v : Word) (sub : BitVec 16)
  /-- A write to AFE_BLKWIN stores WIN, clamped at 0xC000, for samples delivered afterwards (R108). -/
  | blankWindowWrite (ini : Initiator) (v : Word)
  /-- A write to AFE_CHCFGn or AFE_CHRNGn is held for the channel's next visit or conversion boundary (R79). -/
  | channelConfigWrite (ini : Initiator) (n : Fin 64) (rng : Bool) (v : Word)
  /-- A write to AFE_GCFGn.ODR takes effect at the next conversion boundary as a range change (R79). -/
  | groupOdrWrite (ini : Initiator) (g : Fin 16) (v : Word)
  /-- A modulator bitstream stuck for 64 clocks sets MODFLT and the group delivers INVALID (R112). -/
  | modulatorFault (g : Fin 16)
  /-- The 2.5 V reference leaves tolerance, REFOK falls and REFFLT is set (R112). -/
  | referenceFault
  /-- The loop supply reaches its total limit and LOOPOL is set (R77). -/
  | loopOverload (mA : BitVec 8) (limit : Bool)
  /-- A calibration visit ends after its settle discards and averaged conversions (R119). -/
  | calibrationVisitEnd (g : Fin 16) (sub : BitVec 16)
  /-- A rota channel's age reaches MINAGE and it requests calibration (R122). -/
  | calibrationRequest (n : Fin 64)
  /-- A rota request whose age reaches LIMIT or CJLIM is promoted in level (R123). -/
  | rotaAgePromotion (who : RotaWho)
  /-- A channel outside the rota reaches twice LIMIT and CALDUE is set (R126). -/
  | caldue (n : Fin 64)
  /-- AFE_CALCMD STAGE sets BUSY and awaits the group's next output-period boundary (R129). -/
  | stage (ini : Initiator) (chan : BitVec 7) (sub : BitVec 16)
  /-- At the boundary the channel becomes STAGED and its samples carry CAL (R129). -/
  | stageEffect (n : Fin 64) (sub : BitVec 16)
  /-- AFE_CALCMD COMMIT makes the shadow set active with a new generation and settles staged samples by clearance or replacement (R135). -/
  | commit (ini : Initiator) (chan : BitVec 7) (sub : BitVec 16)
  /-- AFE_CALCMD ABORT ends a stage, clearing CAL up to its stamp and returning to COMMITTED (R130). -/
  | abort (ini : Initiator) (chan : BitVec 7) (sub : BitVec 16)
  /-- A stage lasting STGMAX tick periods ends as if aborted and sets CALABORT (R130). -/
  | stageTimeout (n : Fin 64) (sub : BitVec 16)
  /-- AFE_CALCMD CALNOW sets the channel's age to twice LIMIT (R126). -/
  | calnow (ini : Initiator) (chan : BitVec 7) (sub : BitVec 16)
  /-- AFE_CALCMD IMPNOW requests an impedance check of the channel, or sets IMPSKIP if none can be made (R140). -/
  | impnow (ini : Initiator) (chan : BitVec 7) (sub : BitVec 16)
  /-- An impedance check visit ends, the tone switches off and R_i and X are demodulated (R139). -/
  | impedanceCheckEnd (g : Fin 16) (sub : BitVec 16) (ri x : Word)
  /-- TAIL tick periods after tone-off the IMP window closes and its samples are cleared or replaced (R142). -/
  | impWindowClose (n : Fin 64) (sub : BitVec 16)
  /-- Setting VIB EN switches on the current source and enters SETTLING with SEQ 0 (R149). -/
  | vibChannelEnable (ini : Initiator) (n : Fin 8) (v : Word)
  /-- Clearing VIB EN enters OFF at once and discards the segment in progress (R149). -/
  | vibChannelDisable (ini : Initiator) (n : Fin 8) (v : Word)
  /-- A write changing CUR, GAIN, HPF or the bias thresholds returns the channel to SETTLING (R149). -/
  | vibConfigWrite (ini : Initiator) (n : Fin 8) (bias : Bool) (v : Word)
  /-- A vibration sample period ends, its bias is read and the period is marked open or short (R148). -/
  | vibSamplePeriod (n : Fin 8) (sub : BitVec 16) (sample : BitVec 24) (mv : BitVec 16)
  /-- The bias has been inside for SETTLE × 1,024 tick periods and the channel enters RUN at the next segment boundary (R149). -/
  | vibSettleComplete (n : Fin 8)
  /-- The bias has been outside for 1 ms and the channel enters FAULT (R149). -/
  | vibFaultEntry (n : Fin 8)
  /-- The bias has been inside for 1 ms and a faulted channel returns to SETTLING (R149). -/
  | vibFaultExit (n : Fin 8)
  /-- A segment ends and the channel forms one packet with its quality and summary (R151). -/
  | segmentEnd (n : Fin 8)
  /-- A buffered vibration packet is written into its queue when the queue fabric accepts it (R156). -/
  | vibPacketSend (n : Fin 8)
  /-- A tracking stage cannot hold its headroom, STAGEFLT is set and STAGE is flagged (R153). -/
  | vibStageFault (n : Fin 8) (on : Bool)
  /-- A blanking pin enabled in VIB_BLKCFG asserts and blanks its mapped vibration channels (R155). -/
  | vibBlankAssert (p : PinLevel)
  /-- HOLD tick periods after the pin releases, VIB blanking ends (R155). -/
  | vibBlankEnd (pin : Fin 4)
  /-- Integer add of two registers modulo 2^32 (R174). -/
  | add (e : Engine) (d a b : Fin 32)
  /-- Integer subtract of two registers (R174). -/
  | sub (e : Engine) (d a b : Fin 32)
  /-- Bitwise and of two registers (R174). -/
  | and (e : Engine) (d a b : Fin 32)
  /-- Bitwise or of two registers (R174). -/
  | or (e : Engine) (d a b : Fin 32)
  /-- Bitwise exclusive or of two registers (R174). -/
  | xor (e : Engine) (d a b : Fin 32)
  /-- Bitwise nor of two registers (R174). -/
  | nor (e : Engine) (d a b : Fin 32)
  /-- Shift left logical by the low five bits of a register (R174). -/
  | sll (e : Engine) (d a b : Fin 32)
  /-- Shift right logical by a register amount (R174). -/
  | srl (e : Engine) (d a b : Fin 32)
  /-- Shift right arithmetic by a register amount (R174). -/
  | sra (e : Engine) (d a b : Fin 32)
  /-- Set if less than, signed (R174). -/
  | slt (e : Engine) (d a b : Fin 32)
  /-- Set if less than, unsigned (R174). -/
  | sltu (e : Engine) (d a b : Fin 32)
  /-- Signed minimum of two registers (R174). -/
  | min (e : Engine) (d a b : Fin 32)
  /-- Signed maximum of two registers (R174). -/
  | max (e : Engine) (d a b : Fin 32)
  /-- Low 32 bits of a product (R174). -/
  | mul (e : Engine) (d a b : Fin 32)
  /-- High 32 bits of a signed product (R174). -/
  | mulh (e : Engine) (d a b : Fin 32)
  /-- High 32 bits of an unsigned product (R174). -/
  | mulhu (e : Engine) (d a b : Fin 32)
  /-- Signed division truncated towards zero, with defined results for zero divisor and overflow (R174). -/
  | div (e : Engine) (d a b : Fin 32)
  /-- Unsigned division, zero for a zero divisor (R174). -/
  | divu (e : Engine) (d a b : Fin 32)
  /-- Signed remainder with the dividend's sign (R174). -/
  | rem (e : Engine) (d a b : Fin 32)
  /-- Unsigned remainder (R174). -/
  | remu (e : Engine) (d a b : Fin 32)
  /-- Add a sign-extended immediate (R174). -/
  | addi (e : Engine) (d a : Fin 32) (imm : BitVec 16)
  /-- And with a zero-extended immediate (R174). -/
  | andi (e : Engine) (d a : Fin 32) (imm : BitVec 16)
  /-- Or with a zero-extended immediate (R174). -/
  | ori (e : Engine) (d a : Fin 32) (imm : BitVec 16)
  /-- Exclusive or with a zero-extended immediate (R174). -/
  | xori (e : Engine) (d a : Fin 32) (imm : BitVec 16)
  /-- Set if less than a sign-extended immediate, signed (R174). -/
  | slti (e : Engine) (d a : Fin 32) (imm : BitVec 16)
  /-- Set if less than a sign-extended immediate, unsigned (R174). -/
  | sltiu (e : Engine) (d a : Fin 32) (imm : BitVec 16)
  /-- Shift left logical by an immediate (R174). -/
  | slli (e : Engine) (d a : Fin 32) (n : BitVec 5)
  /-- Shift right logical by an immediate (R174). -/
  | srli (e : Engine) (d a : Fin 32) (n : BitVec 5)
  /-- Shift right arithmetic by an immediate (R174). -/
  | srai (e : Engine) (d a : Fin 32) (n : BitVec 5)
  /-- Load the immediate into the upper half of a register (R174). -/
  | lui (e : Engine) (d : Fin 32) (imm : BitVec 16)
  /-- Load a sign-extended byte (R175). -/
  | lb (e : Engine) (d a : Fin 32) (imm : BitVec 16) (ecc : Ecc)
  /-- Load a zero-extended byte (R175). -/
  | lbu (e : Engine) (d a : Fin 32) (imm : BitVec 16) (ecc : Ecc)
  /-- Load a sign-extended halfword (R175). -/
  | lh (e : Engine) (d a : Fin 32) (imm : BitVec 16) (ecc : Ecc)
  /-- Load a zero-extended halfword (R175). -/
  | lhu (e : Engine) (d a : Fin 32) (imm : BitVec 16) (ecc : Ecc)
  /-- Load a word, raising the profile's exception or fault on a misaligned or forbidden address (R175). -/
  | lw (e : Engine) (d a : Fin 32) (imm : BitVec 16) (ecc : Ecc)
  /-- Store a byte (R175). -/
  | sb (e : Engine) (a b : Fin 32) (imm : BitVec 16)
  /-- Store a halfword (R175). -/
  | sh (e : Engine) (a b : Fin 32) (imm : BitVec 16)
  /-- Store a word, into the store buffer while the evaluation is provisional (R175). -/
  | sw (e : Engine) (a b : Fin 32) (imm : BitVec 16)
  /-- Branch if equal (R175). -/
  | beq (e : Engine) (a b : Fin 32) (imm : BitVec 16)
  /-- Branch if not equal (R175). -/
  | bne (e : Engine) (a b : Fin 32) (imm : BitVec 16)
  /-- Branch if less than, signed (R175). -/
  | blt (e : Engine) (a b : Fin 32) (imm : BitVec 16)
  /-- Branch if greater or equal, signed (R175). -/
  | bge (e : Engine) (a b : Fin 32) (imm : BitVec 16)
  /-- Branch if less than, unsigned (R175). -/
  | bltu (e : Engine) (a b : Fin 32) (imm : BitVec 16)
  /-- Branch if greater or equal, unsigned (R175). -/
  | bgeu (e : Engine) (a b : Fin 32) (imm : BitVec 16)
  /-- Jump by a word offset, linking in g31 (R175). -/
  | jal (e : Engine) (imm : BitVec 26)
  /-- Jump to a register plus offset, linking in gd (R175). -/
  | jalr (e : Engine) (d a : Fin 32) (imm : BitVec 16)
  /-- Read a control word, capturing high halves on cw.cyclelo and cw.ticklo (R176). -/
  | cwr (e : Engine) (d : Fin 32) (num : BitVec 16)
  /-- Write a control word and return its old value (R176). -/
  | cww (e : Engine) (d a : Fin 32) (num : BitVec 16)
  /-- Set bits of a control word and return its old value (R176). -/
  | cws (e : Engine) (d a : Fin 32) (num : BitVec 16)
  /-- Clear bits of a control word and return its old value (R176). -/
  | cwc (e : Engine) (d a : Fin 32) (num : BitVec 16)
  /-- Raise the ecall exception of the current host mode (R176). -/
  | ecall (e : Engine)
  /-- Halt for debug if armed, otherwise raise the profile's fault (R176). -/
  | ebreak (e : Engine)
  /-- Return from exception, restoring mode and interrupt enable (R176). -/
  | eret (e : Engine)
  /-- Wait until an enabled interrupt line is high (R176). -/
  | wfi (e : Engine)
  /-- Binary32 add rounded to nearest even (R178). -/
  | fadd (e : Engine) (d a b : Fin 32)
  /-- Binary32 subtract (R178). -/
  | fsub (e : Engine) (d a b : Fin 32)
  /-- Binary32 multiply (R178). -/
  | fmul (e : Engine) (d a b : Fin 32)
  /-- Binary32 divide (R178). -/
  | fdiv (e : Engine) (d a b : Fin 32)
  /-- Binary32 square root (R178). -/
  | fsqrt (e : Engine) (d a : Fin 32)
  /-- Binary32 minimum with defined NaN and signed-zero handling (R179). -/
  | fmin (e : Engine) (d a b : Fin 32)
  /-- Binary32 maximum with defined NaN and signed-zero handling (R179). -/
  | fmax (e : Engine) (d a b : Fin 32)
  /-- Clear the sign bit without flags (R178). -/
  | fabs (e : Engine) (d a : Fin 32)
  /-- Invert the sign bit without flags (R178). -/
  | fneg (e : Engine) (d a : Fin 32)
  /-- Binary32 equality compare (R178). -/
  | feq (e : Engine) (d a b : Fin 32)
  /-- Binary32 less-than compare (R178). -/
  | flt (e : Engine) (d a b : Fin 32)
  /-- Binary32 less-or-equal compare (R178). -/
  | fle (e : Engine) (d a b : Fin 32)
  /-- Classify a binary32 value with its sign (R178). -/
  | fcls (e : Engine) (d a : Fin 32)
  /-- Convert a signed integer to binary32 (R178). -/
  | fcvtsw (e : Engine) (d a : Fin 32)
  /-- Convert an unsigned integer to binary32 (R178). -/
  | fcvtsu (e : Engine) (d a : Fin 32)
  /-- Convert binary32 to a saturated signed integer, truncating (R179). -/
  | fcvtws (e : Engine) (d a : Fin 32)
  /-- Convert binary32 to a saturated unsigned integer, truncating (R179). -/
  | fcvtwu (e : Engine) (d a : Fin 32)
  /-- Take the next dispatch record, opening a slot and snapshot if the evaluation is provisional (R202). -/
  | sget (e : Engine) (d : Fin 32)
  /-- Wait until the number of unconfirmed evaluations is at most the operand (R202). -/
  | spwait (e : Engine) (a : Fin 32)
  /-- Return whether a register's tag reads provisional (R202). -/
  | ptag (e : Engine) (d a : Fin 32)
  /-- Take a word from a queue, tentatively while provisional, or return zero tags (R202). -/
  | qrd (e : Engine) (d a : Fin 32)
  /-- Gated write of 8 or 16 bits into a queue (R202). -/
  | qwr (e : Engine) (a b : Fin 32)
  /-- Gated commit of the open packet of a queue (R202). -/
  | qcmt (e : Engine) (a : Fin 32)
  /-- Gated rewind of the open packet of a queue (R202). -/
  | qabt (e : Engine) (a : Fin 32)
  /-- Gated command of an output to a state (R202). -/
  | dout (e : Engine) (a b : Fin 32)
  /-- Gated setting of the shuttle's host interrupt flags (R202). -/
  | hirq (e : Engine) (a : Fin 32)
  /-- Gated increment of a histogram bin (R202). -/
  | hinc (e : Engine) (a b : Fin 32)
  /-- Gated offer of a value to an extreme series (R202). -/
  | xupd (e : Engine) (a b : Fin 32)
  /-- Gated state-change record (R202). -/
  | srec (e : Engine) (a b : Fin 32)
  /-- Compute a histogram bin index from a value, origin and scale (R202). -/
  | hbin (e : Engine) (d a b : Fin 32)
  /-- Queue a step word for an owned group, stalling while the queue is full (R204). -/
  | scan (e : Engine) (a b : Fin 32)
  /-- Wait until a group holds at most the given number of steps (R204). -/
  | scanw (e : Engine) (a b : Fin 32)
  /-- Assert or release a software blanking source (R204). -/
  | sblank (e : Engine) (a b : Fin 32)
  /-- Wait until the AFE tick shadow reaches a value (R204). -/
  | tickw (e : Engine) (a : Fin 32)
  /-- A bus error on a posted write returns later and is taken as imprecise exception code 7 (R185). -/
  | postedStoreBusError
  /-- The host cores' results differ at retirement (R163). -/
  | lockstepMismatch
  /-- The gate queue head issues untagged once its tag reads confirmed (R193). -/
  | gateQueueIssue (n : Fin 16)
  /-- LOOM_SHCMD START clears registers and starts the shuttle at ENTRY as RUNNING (R212). -/
  | start (ini : Initiator) (n : Fin 16)
  /-- LOOM_SHCMD STOP squashes unconfirmed work, issues confirmed gate entries and stops the shuttle (R213). -/
  | stop (ini : Initiator) (n : Fin 16)
  /-- LOOM_SHCMD LOADLIB copies the pattern library image into the shuttle's instruction store (R211). -/
  | loadlib (ini : Initiator) (n : Fin 16)
  /-- The library copy completes and the shuttle becomes STOPPED (R211). -/
  | loadlibComplete (n : Fin 16)
  /-- A host access to a shuttle's instruction store or local data window is served only while it is STOPPED or FAULTED (R210). -/
  | shuttleWindowAccess (ini : Initiator) (off : Fin 24576) (v : Option Word)
  /-- Setting PICKEN takes PICKUS into effect and places the first boundary at the next tick edge (R215). -/
  | pickEnable (ini : Initiator)
  /-- Clearing PICKEN ends picks at the next boundary (R216). -/
  | pickDisable (ini : Initiator)
  /-- A write to PICKUS takes effect at the next boundary or next enabling (R216). -/
  | pickConfigWrite (ini : Initiator) (v : Word)
  /-- The pick accumulator crosses PICKUS, the current pick ends and the next opens with pick records dispatched (R215). -/
  | pickBoundary
  /-- WARP recognises no tick edge for 1 ms while PICKEN is set, a fatal fault of cause 7 (R235). -/
  | warpTickLoss
  /-- WARP accepts a sample, input or queue record and places it with a held entry for each routed RUNNING shuttle (R218). -/
  | recordAccept (src : RecSrc)
  /-- A shuttle reports completion of a pick once its evaluations and gate entries for it have ended (R223). -/
  | pickReport (n : Fin 16)
  /-- The copy engine finishes copying the working table, flips CUR, sets ATPICK and increments SEQ (R233). -/
  | publicationComplete
  /-- A confirmed shuttle store arrives at WARP and is applied in order (R229). -/
  | warpStoreApply (n : Fin 16)
  /-- A host or debug write to warp memory is performed or refused under the host window (R230). -/
  | warpHostWrite (ini : Initiator) (off : BitVec 21) (size : Size) (v : Word)
  /-- WARP finishes clearing warp memory after release and reports awake (R227). -/
  | warpClearComplete
  /-- WARP applies an AFE clearance record to matching held entries, clearing or rejecting them (R248). -/
  | clearanceRecord
  /-- WARP applies a replacement to the held entry of the same channel and stamp, rejecting it for replay (R248). -/
  | replacementRecord
  /-- SELV's agreement clears DUP on the addressed entry or its replacement (R249). -/
  | dupAgreement
  /-- A clear notice for a taken entry reaches the shuttle (R251). -/
  | clearNotice (n : Fin 16)
  /-- A squash notice for a rejected taken entry reaches the shuttle (R251). -/
  | squashNotice (n : Fin 16)
  /-- A held entry still pending DL tick periods after its stamp is resolved UNVERIFIED, dropped or cleared by quality (R258). -/
  | deadlineResolution (n : Fin 16)
  /-- The library walks the source chain of a record and evaluates the owned descriptors (R270). -/
  | libraryEvaluateRecord (n : Fin 16)
  /-- At a pick record the library selects the bank, applies commands, runs delays and updates its status block (R264). -/
  | libraryPickWork (n : Fin 16)
  /-- A condition held true for ONDLY picks sets the alarm condition (R279). -/
  | onDelayExpiry (n : Fin 16) (d : BitVec 12)
  /-- A condition held false for OFFDLY picks clears the alarm condition (R279). -/
  | offDelayExpiry (n : Fin 16) (d : BitVec 12)
  /-- SUPHOLD picks after the suppressor clears, suppression ends (R281). -/
  | suppressionHoldExpiry (n : Fin 16) (d : BitVec 12)
  /-- A shelved alarm's duration in picks runs out and shelving ends (R282). -/
  | shelvingExpiry (n : Fin 16) (d : BitVec 12)
  /-- Command ring ACK acknowledges the named alarm (R283). -/
  | ack (n : Fin 16)
  /-- Command ring ACKGRP acknowledges every alarm of a group (R283). -/
  | ackgrp (n : Fin 16)
  /-- Command ring ACKALL acknowledges all alarms (R283). -/
  | ackall (n : Fin 16)
  /-- Command ring SILENCE switches the horn output off until the next horn change (R290). -/
  | silence (n : Fin 16)
  /-- Command ring SHELVE shelves an alarm for a duration limited to SHELVEMAX, or is refused (R282). -/
  | shelve (n : Fin 16)
  /-- Command ring UNSHELVE ends shelving of an alarm (R283). -/
  | unshelve (n : Fin 16)
  /-- Command ring DUTYACCEPT accepts the duty call, switching call outputs off (R288). -/
  | dutyaccept (n : Fin 16)
  /-- Command ring DMRESET resets the dead-man watch count (R289). -/
  | dmreset (n : Fin 16)
  /-- Command ring DMARM arms or disarms the dead-man watch (R289). -/
  | dmarm (n : Fin 16)
  /-- T1 or T2 seconds elapse and the call escalates to stage 2 or 3 (R288). -/
  | dutyCallEscalation (n : Fin 16)
  /-- TDM seconds after the latest reset the dead-man pre-warning becomes active (R289). -/
  | deadmanPrewarning (n : Fin 16)
  /-- TPRE seconds after the pre-warning the dead-man alarm is raised and the call starts at stage 3 (R289). -/
  | deadmanAlarm (n : Fin 16)
  /-- WARP's egress accepts an issued dout, srec, hinc or xupd onto its path (R292). -/
  | egressAccept (a : ShuttleAt)
  /-- An egress path sends its lowest-sequence item when its sluice takes words (R292). -/
  | egressSend (p : Fin 4)
  /-- A write to QUEUE_CFGq is taken only with EN clear and within the stage pool, otherwise CFGERR (R300). -/
  | queueConfigWrite (ini : Initiator) (q : Fin 32) (v : Word)
  /-- A host write to QUEUE_WRq adds bytes to the open packet (R302). -/
  | queueWr (ini : Initiator) (q : Fin 32) (v : Word)
  /-- QUEUE_WCMD COMMIT commits the host's open packet or marks it bad (R304). -/
  | queueCommit (ini : Initiator) (q : Fin 32)
  /-- QUEUE_WCMD ABORT rewinds the host's open packet (R304). -/
  | queueAbort (ini : Initiator) (q : Fin 32)
  /-- A VIB or COMMS write is packed into the queue and commits the packet at its LEN-th byte (R302). -/
  | queueFrontendWrite (src : FrontSrc)
  /-- A committed packet reaches the read end and becomes visible (R307). -/
  | packetVisible (p : QueueAt)
  /-- A host read of QUEUE_RDTAGq takes the word at the read end and latches it into RDLO and RDHI (R308). -/
  | queueHostTake (q : Fin 32)
  /-- FLUSH empties the queue, discarding visible, open and tentatively taken words (R311). -/
  | queueFlush (ini : Initiator) (q : Fin 32)
  /-- Clearing QUEUE_CTLq.EN flushes the queue and discards later writes (R311). -/
  | queueDisable (ini : Initiator) (q : Fin 32)
  /-- DIOL receives a bank's status word and marks the bank up if it was down (R317). -/
  | bankStatusWord (k : Fin 9) (v : BitVec 16)
  /-- No status word for 16 tick periods marks the bank down with INVALID records for its inputs (R317). -/
  | bankDown (k : Fin 9)
  /-- A field island without heartbeat for 16 tick periods enters HOLD at its latched states (R335). -/
  | logicSideLoss (b : Fin 3)
  /-- HOLD × 10 ms after entering HOLD the bank enters FAIL and outputs take their fail states (R336). -/
  | holdExpiry (b : Fin 3)
  /-- A field supply above 10.0 V for 1 ms releases its island with outputs off (R316). -/
  | fieldSupplyRelease (v : Fin 4)
  /-- A field supply below 8.5 V resets its island and switches its outputs off (R316). -/
  | fieldSupplyLoss (v : Fin 4)
  /-- An input's filtered level changes, is counted and a state record is sent (R321). -/
  | inputChange (n : Fin 48) (back sub : BitVec 16)
  /-- An input below 0.7 mA for 10 ms with WBEN enters wire-break (R319). -/
  | wireBreak (n : Fin 48) (sub : BitVec 16)
  /-- An input at or above 0.7 mA for 10 ms leaves wire-break (R319). -/
  | wireBreakEnd (n : Fin 48) (sub : BitVec 16)
  /-- VFIELD_I below 15.0 V suppresses wire-break and sets WBSUP (R320). -/
  | inputSupplyLow (k : Fin 6) (v : BitVec 16)
  /-- Every CNTINT × 32 tick periods a count record is sent (R324). -/
  | countRecord (n : Fin 48)
  /-- A frequency gate ends and its frequency record is sent (R323). -/
  | frequencyGateEnd (n : Fin 48) (cnt iv cyc : BitVec 32) (ticks sub : BitVec 16)
  /-- CLRCNT zeroes an input counter (R322). -/
  | clrcnt (ini : Initiator) (n : Fin 48)
  /-- A dout command from path 3 sets a loom-owned output's commanded state (R328). -/
  | outputCommand
  /-- A write to DIO_OCMD sets a host-owned output's state or is rejected with OCMDREJ (R328). -/
  | hostOutputCommand (ini : Initiator) (v : Word)
  /-- An output bank supply below 18.0 V sets UVW (R330). -/
  | outputSupplyWarning (b : Fin 3) (v : BitVec 16)
  /-- An output bank supply below 16.0 V switches its outputs off and sets UV (R330). -/
  | outputUndervoltage (b : Fin 3) (v : BitVec 16)
  /-- With AUTORST, 10 ms above 17.0 V clears UV and restores commanded states (R330). -/
  | outputAutoRestore (b : Fin 3)
  /-- DIO_OxCMD RESTORE clears UV after the supply has recovered (R330). -/
  | restore (ini : Initiator) (b : Fin 3)
  /-- DIO_OxCMD CLRLATCH clears LATCHED on the bank's outputs (R332). -/
  | clrlatch (ini : Initiator) (b : Fin 3)
  /-- An output enters current limit and FAULT reads CURLIM (R332). -/
  | outputCurrentLimit (m : Fin 24)
  /-- An output in limit for 1 ms or at 175 °C switches off as THERMAL or LATCHED (R332). -/
  | outputThermalShutdown (m : Fin 24) (hot : Bool)
  /-- After RETRY × 10 ms and cooling, a shut-down output retries its commanded state (R332). -/
  | outputRetry (m : Fin 24)
  /-- An output on for 1 s without limit has its consecutive retry count zeroed (R332). -/
  | retryCountReset (m : Fin 24)
  /-- An off output above 12.0 V for 5 ms sees foreign drive, STUCK_ON without PAR (R333). -/
  | foreignDrive (m : Fin 24)
  /-- The terminal below 12.0 V for 5 ms clears FDRV and STUCK_ON (R333). -/
  | foreignDriveEnd (m : Fin 24)
  /-- A RELEASE order switches off PAR outputs and sets REL (R338). -/
  | releaseOrder
  /-- An ASSUME order ends a release (R338). -/
  | assumeOrder
  /-- DIOL receives the first-pick marker and enables its output banks (R69). -/
  | firstPickMarker
  /-- Setting CAN EN starts bus integration or is refused with CFGERR for invalid timing (R345). -/
  | canEnable (ini : Initiator) (k : Fin 3)
  /-- Clearing CAN EN takes effect at the end of the frame on the bus (R358). -/
  | canDisable (ini : Initiator) (k : Fin 3)
  /-- After 11 recessive bits the controller becomes ERROR_ACTIVE (R358). -/
  | canIntegrationComplete (k : Fin 3)
  /-- RECOVER starts bus-off recovery (R356). -/
  | canRecover (ini : Initiator) (k : Fin 3)
  /-- After 128 × 11 recessive bits the controller returns to ERROR_ACTIVE with counters zero (R356). -/
  | canRecoveryComplete (k : Fin 3)
  /-- A valid received frame is accepted by the first matching RX mailbox and stored or queued (R349). -/
  | canFrameReceived (k : Fin 3) (id : BitVec 29) (ide rtr fdf brs esi : Bool) (dlc : BitVec 4) (data : BitVec 512)
  /-- A held received frame is written to its queue when the queue accepts words (R350). -/
  | canRxPacketSend (k : Fin 3)
  /-- Before start of frame the controller chooses the pending frame that wins arbitration (R355). -/
  | canFrameSelection (c : CanStart)
  /-- A frame ends without error, completing its host mailbox or idling its alarm entry (R351). -/
  | canFrameTransmitted (c : CanDone)
  /-- A transmitting frame loses arbitration and returns to the choice (R355). -/
  | canArbitrationLost (k : Fin 3)
  /-- An error is detected, LEC or DLEC is recorded and the error counters move (R357). -/
  | canBusError (k : Fin 3) (code : Fin 7) (data exc : Bool)
  /-- Setting REQ makes a TX host mailbox frame pending (R351). -/
  | canTxRequest (ini : Initiator) (k : Fin 3) (j : Fin 64)
  /-- Setting ABORT clears REQ unless the frame is on the bus (R351). -/
  | canTxAbort (ini : Initiator) (k : Fin 3) (j : Fin 64)
  /-- An alarm item from path 1 makes its entry pending or merges into it (R352). -/
  | canAlarmItem
  /-- A FLOOD entry of path 1 is held or merged in the controller's FLOOD place (R354). -/
  | canFloodItem
  /-- FLUSH returns alarm entries not on the bus and the FLOOD place to idle (R358). -/
  | canAlarmFlush (ini : Initiator) (k : Fin 3)
  /-- A received frame is filtered and stored as a record in the receive buffer or dropped (R365). -/
  | ethFrameReceived (p : Fin 2) (frame : List Byte) (bad : Bool) (back : BitVec 8) (sub : BitVec 16)
  /-- A write to ETH_RXTAILp releases receive buffer space (R365). -/
  | ethRxRelease (ini : Initiator) (p : Fin 2) (v : Word)
  /-- A write to ETH_TXCMDp queues a slot's frame for transmission (R366). -/
  | ethTxCommand (ini : Initiator) (p : Fin 2) (v : Word)
  /-- A transmitted frame ends, setting DONE or ERR for its slot (R366). -/
  | ethFrameTransmitted (p : Fin 2) (ok : Bool)
  /-- A read of ETH_PTPSEQp takes the oldest capture and latches its stamp (R367). -/
  | ptpCaptureRead (ini : Initiator) (p : Fin 2)
  /-- Setting a port's EN powers the PHY and starts link negotiation (R378). -/
  | ethPortEnable (ini : Initiator) (p : Fin 2)
  /-- A port's link comes up (R378). -/
  | ethLinkUp (p : Fin 2) (fdx : Bool)
  /-- A port's link goes down (R363). -/
  | ethLinkDown (p : Fin 2)
  /-- SPI opcode 0x05 returns the status byte (R370). -/
  | spiStatus (p : SpiPoll)
  /-- SPI opcode 0x0B reads the mailbox from an address (R370). -/
  | spiRead (a : BitVec 16) (n : BitVec 13)
  /-- SPI opcode 0x02 writes the mailbox from 0x800 upwards (R370). -/
  | spiWrite (a : BitVec 16) (data : List Byte)
  /-- SPI_CSn rises, ending the transaction and setting CSEND (R370). -/
  | spiCsRise
  /-- A write to UART_DATA queues a byte for transmission or sets TXOVF (R372). -/
  | uartSend (ini : Initiator) (v : Word)
  /-- A read of UART_DATA takes a received byte (R372). -/
  | uartTake (ini : Initiator)
  /-- A byte is received into the FIFO, with FERR or RXOVF as applicable (R372). -/
  | uartByteReceived (b : Byte) (ferr : Bool)
  /-- JTAG BYPASS instruction (R373). -/
  | bypass
  /-- JTAG IDCODE returns 0xB641_65AB (R373). -/
  | idcode
  /-- JTAG SAMPLE/PRELOAD of the boundary register (R373). -/
  | samplePreload (lands preload : List Bool)
  /-- JTAG EXTEST drives the boundary register, and leaving it performs a debug reset (R373). -/
  | extest (lands cells : List Bool)
  /-- JTAG DBGSTAT returns the debug access level (R373). -/
  | dbgstat
  /-- JTAG DBGACC performs a register or memory access, or a tagged shuttle read at EXPERT (R375). -/
  | dbgacc (op : DbgOp)
  /-- DBGCTL halts the host pair or a shuttle (R374). -/
  | debugHalt (e : Option (Fin 16))
  /-- DBGCTL steps a halted engine (R374). -/
  | debugStep (e : Option (Fin 16))
  /-- DBGCTL resumes a halted engine (R374). -/
  | debugResume (e : Option (Fin 16))
  /-- DBGCTL arms ebreak halts for an engine (R376). -/
  | debugArm (e : Option (Fin 16))
  /-- DBGCTL requests the EXPERT access level where the lifecycle permits it (R374). -/
  | debugExpertRequest
  /-- At an oscillator edge TICK handles halt, trim, count load or increment, calendar, alarms and captures (R383). -/
  | tickEdge
  /-- TICK_CMD LOADCNT loads the count at the next edge and sends it to every shadow, or is refused (R387). -/
  | loadcnt (ini : Initiator)
  /-- TICK_CMD LOADCAL loads the calendar at the next edge (R387). -/
  | loadcal (ini : Initiator)
  /-- TICK_CMD CAP0 triggers capture slot 0 (R389). -/
  | cap0 (ini : Initiator)
  /-- Setting HALT stops the count and calendar and zeroes then counts MISSED (R388). -/
  | haltSet (ini : Initiator)
  /-- Clearing HALT resumes counting (R388). -/
  | haltClear (ini : Initiator)
  /-- A write to TICK_TRIM changes the rate trim from the next edge (R394). -/
  | trimWrite (ini : Initiator) (v : Word)
  /-- Writing TICK_ALMHIn with ARM arms an alarm, marking it late if already passed (R392). -/
  | tickAlarmArm (ini : Initiator) (n : Fin 4) (v : Word)
  /-- The count crosses an armed alarm value, or it is late, and the alarm fires (R393). -/
  | tickAlarmFire (n : Fin 4)
  /-- A qualified MAINSREF rising edge opens or closes a measurement window (R395). -/
  | mainsrefEdge
  /-- No qualified edge for 100 ms abandons the window and sets MREFLOSS (R395). -/
  | mainsrefLoss
  /-- TICK's detector sees no oscillator edge for 1 ms and sets OSF (R396). -/
  | oscDetectorTimeout
  /-- SYS recognises no tick edge for 1 ms and sets OSF (R396). -/
  | sysTickLoss
  /-- A host write of 1 to OSF clears it with SETSEEN, only while SETSEEN is set (R397). -/
  | osfClear (ini : Initiator)
  /-- An srec item merges into its newest queued record or appends a STATE record (R410). -/
  | recorderStateChange
  /-- A hinc item adds 1 to a live histogram bin (R404). -/
  | recorderHistIncrement
  /-- An xupd item updates a live extreme series' minimum or maximum (R406). -/
  | recorderExtremeOffer
  /-- A FLOOD entry of path 0 appends a FLOOD record (R404). -/
  | recorderFlood
  /-- Setting a series descriptor's EN opens a PARTIAL period (R405). -/
  | seriesEnable (ini : Initiator) (extreme : Bool) (k : Fin 4096) (v : Word)
  /-- Clearing a series descriptor's EN discards its open period (R405). -/
  | seriesDisable (ini : Initiator) (extreme : Bool) (k : Fin 4096) (v : Word)
  /-- The STORE shadow crosses a period multiple and the clock's series are closed (R407). -/
  | periodClose (n : Fin 2)
  /-- REC_CMD CLOSE0 or CLOSE1 closes the clock's series at once (R407). -/
  | recClose (ini : Initiator) (n : Fin 2)
  /-- A closing series is copied into the log when the page queue has room and its next period opens (R408). -/
  | seriesCopy (n : Fin 2)
  /-- REC_CMD CALLOAD gives STORE its calendar from a capture, or is refused with CALERR (R412). -/
  | calload (ini : Initiator)
  /-- A write to REC_CURIDX starts a load of the selected record (R415). -/
  | cursorLoad (ini : Initiator) (v : Word)
  /-- REC_CMD NEXT advances the cursor index and starts a load (R415). -/
  | recNext (ini : Initiator)
  /-- The cursor load completes with its STATUS and clears BUSY (R415). -/
  | cursorLoadComplete
  /-- A read of REC_WIN is held until the load completes and serves the record word (R415). -/
  | recWindowRead (ini : Initiator) (k : Fin 64)
  /-- REC_CMD FLUSH queues the open page for programming (R424). -/
  | recFlush (ini : Initiator)
  /-- FLUSHT × 1,024 tick periods after its first record the open page is queued (R424). -/
  | flushTimeout
  /-- A waiting NAND operation is granted and begins (R423). -/
  | nandOperationGrant
  /-- A NAND read, program or erase completes with its result code (R423). -/
  | nandOperationComplete (fail : Bool) (ecc : EccBits)
  /-- STORE_NCMD READ reads a page into the page buffer (R422). -/
  | nandRead (ini : Initiator) (part : Fin 4)
  /-- STORE_NCMD PROGRAM programs a page or is refused (R422). -/
  | nandProgram (ini : Initiator) (part : Fin 4)
  /-- STORE_NCMD ERASE erases a block or is refused (R422). -/
  | nandErase (ini : Initiator) (part : Fin 4)
  /-- STORE locates the log head after release and sets READY (R430). -/
  | storeLogLocated
  /-- Setting LCDEN starts the LCD charge pump (R434). -/
  | lcdEnable (ini : Initiator)
  /-- VLCD reaches its target and frame 0 begins (R434). -/
  | lcdPumpReady (v : BitVec 8)
  /-- Clearing LCDEN stops the LCD at the end of the next odd frame (R434). -/
  | lcdDisable (ini : Initiator)
  /-- At a frame end VLCD is measured and the ladder taken after 16 bad frames (R436). -/
  | lcdFrameEnd (v : BitVec 8)
  /-- DISP_CMD PUMPRETRY restarts the LCD pump at the next even frame (R436). -/
  | pumpretry (ini : Initiator)
  /-- DISP receives the die A temperature and updates contrast and band (R435). -/
  | dieTemperatureWord (t : BitVec 12)
  /-- A write to DISP_ANTGT sets segment targets and DIRTY bits (R440). -/
  | annunciatorTargetWrite (ini : Initiator) (hi : Bool) (v : Word)
  /-- ANDLY × 10 ms after the first DIRTY bit the MAIN engine starts an update (R440). -/
  | mainUpdateStart
  /-- DISP_CMD UPDATE starts a MAIN update at once (R440). -/
  | update (ini : Initiator)
  /-- TICK acknowledges the update-in-progress marker and the first waveform step is driven (R441). -/
  | markerAcknowledged
  /-- An update's longest waveform ends and its segments show their targets (R440). -/
  | updateEnd (reeve : Bool)
  /-- DISP_CMD CLEAR starts a clearing refresh once both engines are idle (R442). -/
  | clear (ini : Initiator)
  /-- A clearing refresh ends with all segments white and the marker cleared (R442). -/
  | clearingRefreshEnd
  /-- A path 2 item applies its glyph entry to the LCD and annunciator (R443). -/
  | glyphItem
  /-- A path 2 FLOOD entry applies glyph FLOODG in state 1 (R444). -/
  | dispFloodItem
  /-- FLHOLD seconds after the latest FLOOD entry FLOODG returns to state 0 (R444). -/
  | floodHoldExpiry
  /-- DISP receives the Reeve's segment word and sets the Reeve's targets (R511). -/
  | reeveSegmentWord
  /-- The polder releases itself, checks ROM and parameters, restores totalisers and appends START (R452). -/
  | polderRelease
  /-- VPOLDER below 2.95 V saves the totalisers (R460). -/
  | polderPowerFailWarning (cyc : Fin 1200000)
  /-- VPOLDER below 2.70 V resets the polder (R451). -/
  | polderReset
  /-- A pulse input recognises a pulse (R454). -/
  | polderPulse (inp : Fin 4) (rev : Bool) (cyc : Fin 1200000)
  /-- A 100 ms computation cycle converts pulses to volume and mass and updates the totalisers (R456). -/
  | polderCycle (cur : PolCur)
  /-- The polder count crosses a day and a signed daily record is appended per meter (R463). -/
  | polderDailyRecord
  /-- An analog input leaves 3.6 to 21.0 mA and holds its last good value (R455). -/
  | polderInputFault (inp : Fin 4) (cyc : Fin 1200000)
  /-- The debounced seal level changes and SEALOPEN or SEALCLOSE is appended (R467). -/
  | sealChange (unsealed : Bool) (cyc : Fin 1200000)
  /-- Polder request IDENT returns version, CRCs, AUDIT and log counts (R475). -/
  | ident (ini : Initiator) (lost : Bool)
  /-- Polder request PUBKEY returns the public key (R475). -/
  | pubkey (ini : Initiator) (lost : Bool)
  /-- Polder request TXSTART opens a transaction at the next cycle boundary or is refused (R462). -/
  | txstart (ini : Initiator) (arg : BitVec 8) (lost : Bool)
  /-- Polder request TXSTOP closes the meter's transaction at the next boundary (R462). -/
  | txstop (ini : Initiator) (arg : BitVec 8) (lost : Bool)
  /-- Polder request LOGREAD returns an event record or transaction slot (R475). -/
  | logread (ini : Initiator) (arg : BitVec 8) (lost : Bool)
  /-- Polder request PARREAD returns the committed and staged values (R475). -/
  | parread (ini : Initiator) (idx : BitVec 16) (lost : Bool)
  /-- Polder request PARWRITE stages a parameter value or is refused (R469). -/
  | parwrite (ini : Initiator) (idx : BitVec 16) (lost : Bool)
  /-- Polder request PARCOMMIT writes both parameter copies, logs changes and increments AUDIT (R469). -/
  | parcommit (ini : Initiator) (lost : Bool)
  /-- Polder request PARDISCARD discards staged values (R475). -/
  | pardiscard (ini : Initiator) (lost : Bool)
  /-- The polder's answer arrives and SYS ends the request with its status (R475). -/
  | polderResponse (bad : Bool)
  /-- No answer within 250 ms, or link down, ends the request with NORESP (R475). -/
  | polderNoresp
  /-- Every TSYNCPER seconds the polder requests main time and SYS triggers capture slot 2 (R472). -/
  | polderTimeRequest (bad : Bool)
  /-- The polder receives the captured main count and synchronises or adjusts within ADJMAX (R473). -/
  | polderTimeResponse (bad : Bool) (cyc : Fin 1200000)
  /-- SYS receives the polder's link word and marks the link up (R474). -/
  | polderLinkWord (bad : Bool)
  /-- 300 ms without a word from the polder marks the link down (R474). -/
  | polderLinkDown
  /-- At a pick completion that is a multiple of 2^PDIV SYS sends the polder a snapshot request (R476). -/
  | polderSnapshotRequest (bad : Bool)
  /-- A checked result record is placed in POLD_RES and RESNEW is set (R477). -/
  | polderResultRecord (bad : Bool)
  /-- A selvedge lane receives 128 valid characters with a comma and comes up (R482). -/
  | selvLaneUp (lane : Fin 2)
  /-- A lane with too many errors or no comma goes down (R482). -/
  | selvLaneDown (lane : Fin 2)
  /-- Setting SELV EN sends RELEASE and begins pairing (R496). -/
  | selvEnable (ini : Initiator)
  /-- Clearing SELV EN returns the role to NONE (R484). -/
  | selvDisable (ini : Initiator)
  /-- Every 32nd tick edge or role change SELV sends a keepalive (R483). -/
  | selvKeepaliveSend
  /-- A partner keepalive updates pairing and the role (R483). -/
  | selvKeepaliveReceived (k : Keepalive)
  /-- 96 tick periods without a keepalive end PAIRED (R483). -/
  | selvPairTimeout
  /-- After ALONE unpaired pick boundaries, unfenced, the module becomes ACTIVE (R484). -/
  | selvLoneStart (rolei : Bool)
  /-- At each own pick boundary SELV sends a heartbeat and counts missed picks (R486). -/
  | selvHeartbeatSend (rolei : Bool)
  /-- The newest good copy is in the copy region, PAR outputs are commanded and ASSUME sent (R494). -/
  | takeoverCopyComplete
  /-- A partner heartbeat is counted and may make an ACTIVE module yield (R484). -/
  | selvHeartbeatReceived (h : Heartbeat)
  /-- A state copy request for a pick reaches an ACTIVE SELV and the copy starts or waits (R488). -/
  | stateCopyRequest
  /-- A state copy finishes sending (R488). -/
  | stateCopySent
  /-- A STANDBY module completes receiving a copy and keeps it if good (R490). -/
  | stateCopyReceived (hdr : CopyHdr) (data : List Byte) (good : Bool)
  /-- SELV_CTL SWITCH requests a handover to a STANDBY partner with a good copy (R495). -/
  | switch (ini : Initiator)
  /-- A partner vote arrives and is compared with waiting local votes (R492). -/
  | partnerVoteReceived (v : Vote)
  /-- A local vote waits AGRWIN without a partner vote and counts as disagreement (R492). -/
  | voteExpiry
  /-- VREEVE arrives and the Reeve starts in IDLE (R502). -/
  | reevePowerUp
  /-- VREEVE is lost and KA is de-energised (R509). -/
  | reeveSupplyLoss
  /-- A trigger reaches the Reeve and engages it when ARMED, sending the takeover signal (R503). -/
  | reeveTrigger
  /-- RV_CMD ARM moves IDLE to ARMED (R502). -/
  | arm (ini : Initiator)
  /-- RV_CMD DISARM returns to IDLE and discards staged configuration (R502). -/
  | disarm (ini : Initiator)
  /-- RV_CMD ENGAGE engages an ARMED Reeve (R502). -/
  | engage (ini : Initiator)
  /-- RV_CMD RESUME returns an ENGAGED Reeve with MARKSEEN to ARMED (R512). -/
  | resume (ini : Initiator)
  /-- RV_CMD ACKH switches KH off (R510). -/
  | ackh (ini : Initiator)
  /-- RV_CMD APPLY puts staged configuration into force (R505). -/
  | apply (ini : Initiator)
  /-- A Reeve configuration write takes effect in IDLE, is staged in ARMED and refused in ENGAGED (R505). -/
  | reeveConfigWrite (ini : Initiator) (reg : RvReg) (v : Word)
  /-- A channel source's code is compared with its limits and counted toward alarm or fault (R506). -/
  | reeveChannelCode
  /-- An input source's word updates its state, fault or acknowledgement (R508). -/
  | reeveInputWord
  /-- An input at ACTLVL or back for DLY × 32 tick periods enters or leaves alarm (R508). -/
  | reeveInputDelayExpiry (m : Fin 8)
  /-- A channel source with no code for STALE × 32 tick periods enters fault (R507). -/
  | reeveSourceStale (n : Fin 16)
  /-- An input source with no word for 96 tick periods enters fault (R508). -/
  | reeveInputStale (m : Fin 8)
  /-- DIOL reports a first-pick marker and the Reeve sets MARKSEEN (R512). -/
  | reeveMarker
  /-- A write to PERF_SELk selects and enables a counter or is refused with CFGERR (R515). -/
  | perfCounterSelect (ini : Initiator) (k : Fin 64) (v : Word)
  /-- A counter wraps, incrementing its chained successor or setting OVF (R516). -/
  | perfCounterWrap (k : Fin 64) (pc : Word)
  /-- PERF_CMD FREEZE arms the islands to stop counting at a common edge (R519). -/
  | freeze (ini : Initiator)
  /-- PERF_CMD SNAP arms the islands to copy their units at a common edge (R519). -/
  | snap (ini : Initiator)
  /-- PERF_CMD UNFREEZE resumes counting at a common edge from the written values (R519). -/
  | unfreeze (ini : Initiator)
  /-- At the common edge every armed island freezes or snapshots its units (R519). -/
  | perfCommonEdge (counts : List Word)
  /-- Gathered values are in PERF_VALk, BUSY clears and DONE is set (R519). -/
  | perfGatherComplete
  /-- A write to PERF_VALk while frozen sets the counter's resume value (R520). -/
  | perfValueWrite (ini : Initiator) (k : Fin 64) (v : Word)
  /-- A bandwidth window ends and its word and stall counts are latched (R522). -/
  | bandwidthWindowEnd (words stalls : List Word)
  /-- LIFE command KEYPROG programs a public key slot (R530). -/
  | keyprog (ini : Initiator) (arg : BitVec 8)
  /-- LIFE command KEYREVOKE revokes a key slot (R530). -/
  | keyrevoke (ini : Initiator) (arg : BitVec 8)
  /-- LIFE command ADVANCE moves BLANK to DEVELOP or DEVELOP to FIELD (R530). -/
  | advance (ini : Initiator)
  /-- LIFE command MINVER raises the minimum image version (R530). -/
  | minver (ini : Initiator) (arg : BitVec 8)
  /-- LIFE command KSPROG programs a half of the customer key store (R530). -/
  | ksprog (ini : Initiator) (arg : BitVec 8)
  /-- LIFE command CUSTODY freezes the recorder, enters CUSTODY and optionally zeroises keys (R531). -/
  | custody (ini : Initiator) (arg : BitVec 8)
  /-- A lifecycle command completes, setting DONE or FAIL (R530). -/
  | lifeCommandComplete (fuseOk : Bool)
  /-- A read of LIFE_CKSi returns the word only to a privileged host load (R536). -/
  | customerKeyRead (ini : Initiator) (k : Fin 16)
  /-- Recovery request STATUS returns identity, lifecycle and reset cause (R533). -/
  | recoveryStatus
  /-- Recovery request KEYPROG programs a key slot (R533). -/
  | recoveryKeyprog (fuseOk : Bool)
  /-- Recovery request ADVANCE advances the lifecycle state (R533). -/
  | recoveryAdvance (fuseOk : Bool)
  /-- Recovery request ERASECOPY erases an image copy (R533). -/
  | erasecopy (fail : Option (Fin 62))
  /-- Recovery request WRITE writes 1 KB into an image copy (R533). -/
  | recoveryWrite (fail : Bool)
  /-- Recovery request READ returns half a NAND page (R533). -/
  | recoveryRead (ecc : EccBits)
  /-- Recovery request POLDER forwards IDENT, PUBKEY or LOGREAD to the polder (R533). -/
  | recoveryPolder (lost : Bool)
  /-- Recovery request RESET performs a software reset (R533). -/
  | recoveryReset
  /-- Clearing an Ethernet port's EN lets the frame in progress complete, keeps later transmit commands pending and powers the port and PHY down (R379). -/
  | ethPortDisable (ini : Initiator) (p : Fin 2)
  /-- An SPI transaction with an unknown opcode, an address with bits [15:12] set, or a write below 0x800 returns 0x00 bytes, counts in SERRCNT and sets SERR (R370). -/
  | spiTransactionError (op : Byte) (a : BitVec 16)
  /-- The bitstream of a faulted modulator toggles again and its group stops delivering INVALID (R112). -/
  | modulatorFaultEnd (g : Fin 16)
  /-- The 2.5 V reference returns within ±1 % of nominal, REFOK rises and samples are no longer delivered INVALID on its account (R98). -/
  | referenceFaultEnd
  /-- VFIELD_I as measured by an input bank returns to 15.0 V or above, WBSUP clears and wire-break detection resumes (R320). -/
  | wireBreakSuppressionEnd (k : Fin 6) (v : BitVec 16)
  /-- A polder analog input current returns within 3.6 mA to 21.0 mA, TEMPFLT or DENSFLT clears and the measured value is used again (R455). -/
  | polderInputFaultEnd (inp : Fin 4)
  /-- SYS receives the polder's LOGWARN message, sent once per release when a log reaches 90 %, and sets POLD_EVT.LOGWARN (R466). -/
  | logwarn (bad : Bool)
  /-- A host write that sets or clears SELV_CTL.CDUP can make confirmed-duplex mode begin or end, and at an exit WARP clears DUP on every held entry (R491). -/
  | cdupWrite (ini : Initiator) (on : Bool)
  deriving DecidableEq, Repr

end Sys2Proof
end

