-- ==== Sys2Proof/WellFormed.lean ====
section
/-! DEFINITION. Which commands can come from outside: operands that the types alone do not bound are within what the spec gives them. -/

namespace Sys2Proof

open Sys2Proof.Machine

/-- Bit errors of one sector of a page: at most its bits (R419). -/
def EccBits.wf (e : EccBits) : Bool := decide (e.s0 ≤ 8704) && decide (e.s1 ≤ 8704) && decide (e.s2 ≤ 8704) && decide (e.s3 ≤ 8704)

/-- A keepalive: UNIT is one bit, PICKUS in its range (R483, R216). -/
def Keepalive.wf (k : Keepalive) : Bool := decide (k.unit ≤ 1) && decide (250 ≤ k.pickus) && decide (k.pickus ≤ 10000)

/-- A state copy's header and data: blocks of 1 KB, at most 256, and 24 outputs (R487, R488). -/
def CopyHdr.wf (h : CopyHdr) (data : List Byte) : Bool :=
  decide (h.len ≤ 256) && decide (h.outsh < 2 ^ 24) && data.length == 1024 * h.len

/-- A vote: a source of a sample or an input record, a quality and a kind (R492). -/
def Vote.wf (v : Vote) : Bool := decide (v.src < 112) && decide (v.qual < 16) && decide (v.kind < 4)

/-- Is a command well formed? -/
def Instr.wf (i : Instr) : Bool :=
  match i with
  | .nandOperationComplete _ e => EccBits.wf e
  | .recoveryRead e => EccBits.wf e
  | .selvKeepaliveReceived k => Keepalive.wf k
  | .stateCopyReceived h data _ => CopyHdr.wf h data
  | .partnerVoteReceived v => Vote.wf v
  | .perfCommonEdge counts => counts.length == 64
  | .bandwidthWindowEnd words stalls => words.length == 8 && stalls.length == 8
  | .samplePreload lands preload => lands.length == preload.length
  | .extest lands cells => lands.length == cells.length
  | _ => true

end Sys2Proof
end

