-- ==== Sys2Proof/Config.lean ====
section
/-! DEFINITION. What the spec leaves open: constants without a body, so that nothing can be proved about their values.
Each is named in the assumption log. -/

namespace Sys2Proof

/-- The destination island that SLU_ERRINFO.DST shows for an access to an address of no region: the spec gives none. -/
opaque Config.holeIsland : Word → Nat

/-- Which way the AFE rounds a mean that lies half way between two codes (R78, R121): the spec gives no rounding. The arguments are
twice the mean's lower neighbour plus one, and the place that rounds. CODE of the LCD's pump is rounded in the same way (R435). -/
opaque Config.halfUp : Nat → Int → Bool

/-- The conversion of a cold-junction sensor's codes to °C (R117): fixed in the factory, and the spec gives no formula. -/
opaque Config.cjCelsius : Nat → List Int → Word

/-- Which of the free slots a provisional evaluation or a continuation of a shuttle opens (R189, R195): the spec gives no order. The
arguments are the shuttle, the mask of slots in use and the number of the held entry; the place among the free slots is the value
modulo their number. -/
opaque Config.pickSlot : Nat → Nat → Nat → Nat

/-- How many clock cycles an engine's island has had in RUN or IDLE between two readings of its cycle count, less one: before its n-th
reading (R169). Engines are numbered 0 for the host, 1 + n for Sn, 17 + k for SEQk. -/
opaque Config.cycles : Nat → Nat → BitVec 48

/-- The ECC errors that tick periods bring to the memories of the loom (R209, R227): the word struck and the kind of error (0 none, 1 single-bit,
2 uncorrectable, modulo 3). The arguments are 3 for warp memory, 16 + n for the memories of Sn, and the number of the edge. -/
opaque Config.upsetWord : Nat → Nat → Nat
opaque Config.upsetKind : Nat → Nat → Nat

/-- What a read through a shuttle window returns from a word with an uncorrectable error (R209): the arguments are the shuttle and the offset. -/
opaque Config.badShuttle : Nat → Nat → Word

/-- The words of the stock pattern library's image (R211): the spec gives its size, not its contents. -/
opaque Config.libImage : Nat → Word

/-- The address in g31 to which a hook returns (R265, R278): it lies in the library's image. -/
opaque Config.hookReturn : Word

/-- What a routine of the library leaves in a register that it may change (R265): the arguments are the shuttle, how often it has been called and the
register. -/
opaque Config.libReg : Nat → Nat → Nat → Word

/-- The bytes of local data in which the library keeps its own state (R266): the spec gives no layout. The arguments are the shuttle, its counts
and the offset. -/
opaque Config.libLocal : Nat → Tab Nat → Nat → Byte

/-- PRIO of the dead-man alarm and pre-warning (R284, R289), which have no descriptor. -/
opaque Config.deadManPrio : Nat

/-- The picks that a number of seconds lasts where the duty configuration's PICKUS lies outside 250 to 10,000 (R287 to R289). -/
opaque Config.dutyPicks : Nat → Nat → Nat

/-- REC after a good reception that finds it above 127, less 119 and modulo 9 (R356): ISO 11898-1 lets it take any value from 119 to
127. The argument is the value found. -/
opaque Config.canRec : Nat → Nat

/-- MINT, MAXT, MINCAL and MAXCAL, in that order, of an extreme series without offers (R414). -/
opaque Config.noOffer : Nat → BitVec 64

/-- The metadata bytes of a recorder page after its first SEQ (R422): the spec gives no layout. -/
opaque Config.recMeta : Nat → Byte

/-- The bytes of a NAND page whose content the spec leaves open: uncorrectable, programmed twice, or cut off by a reset. The arguments
are a count of such happenings, the page and the byte's offset. -/
opaque Config.lostByte : Nat → Nat → Nat → Byte

/-- The pc that the sample of a wrap records where no command has told of the wrap, by counter and tick edge: R521 leaves a choice of
instructions. -/
opaque Config.wrapPc : Nat → Nat → Word

/-- The step bytes of the annunciator's waveform ROM (R438): the spec gives how long its waveforms last, not their steps. -/
opaque Config.waveRom : Nat → Byte

/-- VERSION and ROMCRC of the polder's ROM (R452, R470), and the words of the polder's public key (R465). -/
opaque Config.polVersion : Nat
opaque Config.polRomCrc : Word
opaque Config.polKey : Nat → Word

/-- PARCRC of a committed parameter set (R469), whose layout the spec does not give. -/
opaque Config.polParCrc : Tab Word → Word

/-- The value of a parameter that no commit has set (R452). -/
opaque Config.polPar : Nat → Word

/-- The words of an event record, whose layout the spec does not give (R464): the arguments are its kind, count, AUDIT, operands and the
word's number. -/
opaque Config.polEvent : Nat → Tick → Word → List Word → Nat → Word

/-- The bytes of the polder's Ed25519 signature of a record (R462). -/
opaque Config.polSign : List Byte → Nat → Byte

/-- The state flags of IDENT (R475), whose layout the spec does not give, from the flags of POLD_STAT. -/
opaque Config.polFlags : Nat → Nat

/-- The CRC-32 of a state copy's header, whose layout the spec does not give, from its SEQ, PICK, epoch, length and OUTSH (R488). -/
opaque Config.copyHdrCrc : Word → Word → BitVec 16 → Nat → Nat → Word

/-- The last good value, in binary64, of an analog input that has had none (R455). -/
opaque Config.polFirst : Nat → Nat

/-- The order of the roundings in the bilinear interpolation of R457: 0 temperature first, 1 density first, else by weights. -/
opaque Config.polBilinear : Nat

/-- TMEAN and RHO15 of a record without registered volume (R462). -/
opaque Config.polMean : Nat → Word

/-- The status, less 1 and modulo 6, of a TXSTART refused because the seal is open (R462, R475). -/
opaque Config.polOpenStatus : Nat

/-- What the boot ROM's reads of a copy meet (R419): how many sectors were corrected (0), how many beyond the first were uncorrectable in a copy that
has any (1), and whether one of the corrected needed 16 or more (2, modulo 2). The arguments are how often it has booted, the copy and which. -/
opaque Config.bootEcc : Nat → Nat → Nat → Nat

/-- Is the MAINSREF land high at the tick oscillator's n-th edge (R395)? -/
opaque Config.mainsLevel : Nat → Bool

/-- The bytes of the boot ROM (R36): the spec gives none. -/
opaque Config.bootRom : Nat → Byte

/-- Does the Ed25519ph signature (its 64 bytes last) over the SHA-512 digest of a header and an image verify against a public key (R529,
RFC 8032)? The arguments are the key's words, the header's bytes, the image's and the signature's. -/
opaque Config.sigValid : List Word → List Byte → List Byte → List Byte → Bool

/-- What the boot ROM leaves in its working space, the top 256 KB of host SRAM (R529): the arguments are how often it has used it and the
byte's offset in the SRAM. -/
opaque Config.bootScratch : Nat → Nat → Byte

/-- The arguments of a recovery request (R533), whose layout in the words at 0x804, 0x808 and 0x80C the spec does not give: the
arguments are OP, the argument's number and the three words. -/
opaque Config.recArg : Nat → Nat → Word → Word → Word → Nat

/-- STATUS of a recovery request whose fuse programming fails (R533, R530), less 1 and modulo 3. -/
opaque Config.recFailStatus : Nat

/-- What a load returns from a word of warp memory with an uncorrectable error (R227). -/
opaque Config.badWarp : Nat → Word

/-- The address that SLU_ERRADDR shows for a DBGACC access to a shuttle whose quadrant is not up (R24, R375): the spec gives the items of a
shuttle no address. -/
opaque Config.dbgAddr : Nat → Word

/-- The words in which DBGACC shows a slot's state and a gate queue entry (R375), whose layout the spec does not give. -/
opaque Config.dbgSlot : List Nat → Word
opaque Config.dbgGate : List Nat → Nat → Word

end Sys2Proof
end

