-- ==== Sys2Proof/Machine/Calendar.lean ====
section
/-! DEFINITION. The calendar's arithmetic (R383 to R386), shared by TICK and STORE. -/

namespace Sys2Proof.Machine

/-- Days in a month as R386 gives them, for every value the fields can hold. -/
def daysIn (m y : Nat) : Nat :=
  if m = 2 then (if y % 4 = 0 ∧ y ≠ 100 ∧ y ≠ 200 then 29 else 28)
  else if m = 4 ∨ m = 6 ∨ m = 9 ∨ m = 11 then 30
  else 31

/-- next_year of R385; the flag tells that the year rolled to 2000. -/
def nextYear (c : Cal) : Cal × Bool :=
  if c.year ≥ 271 then ({ c with year := 0 }, true) else ({ c with year := c.year + 1 }, false)

/-- next_month of R385. -/
def nextMonth (c : Cal) : Cal × Bool :=
  if c.month ≥ 12 then nextYear { c with month := 1 } else ({ c with month := c.month + 1 }, false)

/-- next_day of R385. -/
def nextDay (c : Cal) : Cal × Bool :=
  let c := { c with wday := if 1 ≤ c.wday ∧ c.wday ≤ 6 then c.wday + 1 else 1 }
  if c.day ≥ daysIn c.month c.year then nextMonth { c with day := 1 } else ({ c with day := c.day + 1 }, false)

/-- next_second of R385; the flag tells that the year rolled to 2000. -/
def nextSecond (c : Cal) : Cal × Bool :=
  let p := if c.hour > 23 then nextDay { c with hour := 0 } else (c, false)
  let c := p.1
  if c.sec < 59 then ({ c with sec := c.sec + 1 }, p.2)
  else if c.min < 59 then ({ c with sec := 0, min := c.min + 1 }, p.2)
  else if c.hour < 23 then ({ c with sec := 0, min := 0, hour := c.hour + 1 }, p.2)
  else
    let q := nextDay { c with sec := 0, min := 0, hour := 0 }
    (q.1, p.2 || q.2)

/-- How many multiples of 32,768 lie in the range (a, b], counted modulo 2^48 (R383). -/
def secondsIn (a b : Tick) : Nat := (a.toNat % 32768 + (b - a).toNat) / 32768

/-- crosses(a, b) of R383. -/
def crosses (a b : Tick) : Bool := decide (secondsIn a b ≠ 0)

/-- The time word of a calendar (R402): HOUR [20:16], MIN [13:8], SEC [5:0]. -/
def timeWord (c : Cal) : Word := BitVec.ofNat 32 (c.hour % 32 * 65536 + c.min % 64 * 256 + c.sec % 64)

/-- The date word of a calendar (R402): WDAY [30:28], YEAR [24:16], MONTH [11:8], DAY [4:0]. -/
def dateWord (c : Cal) : Word :=
  BitVec.ofNat 32 (c.wday % 8 * 268435456 + c.year % 512 * 65536 + c.month % 16 * 256 + c.day % 32)

/-- The calendar that a time word and a date word spell. -/
def calOfWords (t d : Word) : Cal :=
  { sec := t.toNat % 64, min := t.toNat / 256 % 64, hour := t.toNat / 65536 % 32,
    day := d.toNat % 32, month := d.toNat / 256 % 16, year := d.toNat / 65536 % 512, wday := d.toNat / 268435456 % 8 }

end Sys2Proof.Machine
end

