-- ==== Sys2Proof/Machine/RegMap.lean ====
section
/-! DEFINITION. The register map: for every register of every block its reset value and the access code of each
of its fields (R8, R9, R36, R38), as the register tables of spec/ give them. An offset that no row assigns reads as zero
and ignores writes (R38). -/

namespace Sys2Proof.Machine

/-- Access codes of R9. -/
inductive Acc where
  | ro | rw | wo | w1c | w1s | rc | rwl
  deriving DecidableEq, Repr

/-- One field of a row: highest bit, lowest bit, access code. Bits of no field are reserved (R8). -/
structure FieldRow where
  hi  : Nat
  lo  : Nat
  acc : Acc
  deriving DecidableEq, Repr

/-- One row of a register table: count `c1` instances `s1` bytes apart, each of `c2` instances `s2` bytes apart. -/
structure RegRow where
  base   : Nat
  s1     : Nat
  c1     : Nat
  s2     : Nat
  c2     : Nat
  reset  : Word
  fields : List FieldRow
  deriving DecidableEq, Repr

/-- Register table of the block at 0x20000000. -/
def sysRegs : List RegRow :=
  [
  ⟨0x20000000, 0x4, 1, 0x4, 1, 0x641610B1#32, [⟨31, 16, .ro⟩, ⟨15, 12, .ro⟩, ⟨7, 0, .ro⟩]⟩,
  ⟨0x20000004, 0x4, 1, 0x4, 1, 0x0#32, [⟨31, 31, .w1s⟩]⟩,
  ⟨0x20000008, 0x4, 1, 0x4, 1, 0x0#32, [⟨5, 5, .ro⟩, ⟨4, 4, .ro⟩, ⟨3, 3, .ro⟩, ⟨2, 2, .ro⟩, ⟨1, 1, .ro⟩, ⟨0, 0, .ro⟩]⟩,
  ⟨0x2000000C, 0x4, 1, 0x4, 1, 0x0#32, [⟨17, 17, .w1c⟩, ⟨16, 16, .w1c⟩, ⟨10, 10, .w1c⟩, ⟨9, 9, .w1c⟩, ⟨8, 8, .w1c⟩, ⟨3, 3, .w1c⟩, ⟨2, 2, .w1c⟩, ⟨1, 1, .w1c⟩, ⟨0, 0, .w1c⟩]⟩,
  ⟨0x20000010, 0x4, 1, 0x4, 1, 0x0#32, [⟨17, 16, .rw⟩, ⟨10, 8, .rw⟩, ⟨3, 0, .rw⟩]⟩,
  ⟨0x20000014, 0x4, 1, 0x4, 1, 0x1#32, [⟨7, 7, .w1c⟩, ⟨6, 6, .w1c⟩, ⟨5, 5, .w1c⟩, ⟨4, 4, .w1c⟩, ⟨3, 3, .w1c⟩, ⟨2, 2, .w1c⟩, ⟨1, 1, .w1c⟩, ⟨0, 0, .w1c⟩]⟩,
  ⟨0x20000018, 0x4, 1, 0x4, 1, 0x0#32, [⟨15, 0, .wo⟩]⟩,
  ⟨0x2000001C, 0x4, 1, 0x4, 1, 0x0#32, [⟨1, 1, .w1s⟩, ⟨0, 0, .w1s⟩]⟩,
  ⟨0x20000020, 0x4, 1, 0x4, 1, 0x1#32, [⟨4, 4, .ro⟩, ⟨3, 0, .ro⟩]⟩,
  ⟨0x20000024, 0x4, 1, 0x4, 1, 0x0#32, [⟨26, 0, .rwl⟩]⟩,
  ⟨0x20000028, 0x4, 1, 0x4, 1, 0x8000#32, [⟨31, 31, .rwl⟩, ⟨23, 0, .rwl⟩]⟩,
  ⟨0x2000002C, 0x4, 1, 0x4, 1, 0x0#32, [⟨15, 0, .wo⟩]⟩,
  ⟨0x20000030, 0x4, 1, 0x4, 1, 0x230#32, [⟨11, 0, .rwl⟩]⟩,
  ⟨0x20000034, 0x4, 1, 0x4, 1, 0x0#32, [⟨31, 31, .ro⟩, ⟨11, 0, .ro⟩]⟩,
  ⟨0x20000038, 0x4, 1, 0x4, 1, 0x0#32, [⟨31, 31, .ro⟩, ⟨11, 0, .ro⟩]⟩ ]

/-- Register table of the block at 0x20100000. -/
def sluRegs : List RegRow :=
  [
  ⟨0x20100000, 0x4, 1, 0x4, 1, 0x4#32, [⟨31, 31, .w1s⟩, ⟨7, 0, .rwl⟩]⟩,
  ⟨0x20100004, 0x4, 1, 0x4, 1, 0x0#32, [⟨4, 4, .w1c⟩, ⟨3, 3, .w1c⟩, ⟨2, 2, .w1c⟩, ⟨1, 1, .w1c⟩, ⟨0, 0, .w1c⟩]⟩,
  ⟨0x20100008, 0x4, 1, 0x4, 1, 0x0#32, [⟨4, 0, .rw⟩]⟩,
  ⟨0x2010000C, 0x4, 1, 0x4, 1, 0x0#32, [⟨31, 31, .ro⟩, ⟨20, 16, .ro⟩, ⟨12, 8, .ro⟩, ⟨2, 0, .ro⟩]⟩,
  ⟨0x20100010, 0x4, 1, 0x4, 1, 0x0#32, [⟨31, 0, .ro⟩]⟩,
  ⟨0x20100014, 0x4, 1, 0x4, 1, 0x0#32, [⟨15, 0, .rc⟩]⟩,
  ⟨0x20100018, 0x4, 1, 0x4, 1, 0x0#32, [⟨15, 0, .rc⟩]⟩,
  ⟨0x20100020, 0x4, 1, 0x4, 1, 0x0#32, [⟨26, 0, .ro⟩]⟩,
  ⟨0x20100024, 0x4, 1, 0x4, 1, 0x0#32, [⟨26, 0, .ro⟩]⟩,
  ⟨0x20100030, 0x4, 1, 0x4, 1, 0x0#32, [⟨12, 8, .rw⟩, ⟨4, 0, .rw⟩]⟩,
  ⟨0x20100034, 0x4, 1, 0x4, 1, 0x0#32, [⟨31, 31, .ro⟩, ⟨17, 16, .rwl⟩, ⟨14, 0, .rwl⟩]⟩,
  ⟨0x20100038, 0x4, 1, 0x4, 1, 0x0#32, [⟨31, 31, .ro⟩, ⟨17, 16, .ro⟩, ⟨15, 0, .ro⟩]⟩ ]

/-- Register table of the block at 0x20300000. -/
def afeRegs : List RegRow :=
  [
  ⟨0x20300000, 0x4, 1, 0x4, 1, 0x0#32, [⟨31, 31, .w1s⟩, ⟨11, 8, .rw⟩]⟩,
  ⟨0x20300004, 0x4, 1, 0x4, 1, 0x1#32, [⟨23, 16, .ro⟩, ⟨2, 2, .ro⟩, ⟨1, 1, .ro⟩, ⟨0, 0, .ro⟩]⟩,
  ⟨0x20300008, 0x4, 1, 0x4, 1, 0x0#32, [⟨23, 16, .w1c⟩, ⟨15, 8, .w1c⟩, ⟨5, 5, .w1c⟩, ⟨4, 4, .w1c⟩, ⟨3, 0, .w1c⟩]⟩,
  ⟨0x2030000C, 0x4, 1, 0x4, 1, 0x0#32, [⟨23, 8, .rw⟩, ⟨5, 0, .rw⟩]⟩,
  ⟨0x20300010, 0x4, 4, 0x4, 1, 0x0#32, [⟨1, 1, .rw⟩, ⟨0, 0, .rw⟩]⟩,
  ⟨0x20300020, 0x4, 4, 0x4, 1, 0x0#32, [⟨26, 16, .ro⟩, ⟨7, 4, .ro⟩, ⟨1, 1, .ro⟩, ⟨0, 0, .ro⟩]⟩,
  ⟨0x20300030, 0x4, 1, 0x4, 1, 0xC000#32, [⟨15, 0, .rwl⟩]⟩,
  ⟨0x20300034, 0x4, 1, 0x4, 1, 0x0#32, [⟨7, 0, .rw⟩]⟩,
  ⟨0x20300038, 0x4, 1, 0x4, 1, 0x0#32, [⟨11, 8, .ro⟩, ⟨7, 0, .ro⟩]⟩,
  ⟨0x20300040, 0x4, 8, 0x4, 1, 0x0#32, [⟨31, 16, .rwl⟩, ⟨1, 1, .rwl⟩, ⟨0, 0, .rwl⟩]⟩,
  ⟨0x20300080, 0x8, 8, 0x4, 1, 0x0#32, [⟨31, 0, .rwl⟩]⟩,
  ⟨0x20300084, 0x8, 8, 0x4, 1, 0x0#32, [⟨31, 0, .rwl⟩]⟩,
  ⟨0x203000C0, 0x4, 4, 0x4, 1, 0x0#32, [⟨31, 31, .rwl⟩, ⟨29, 24, .rwl⟩, ⟨23, 23, .rwl⟩, ⟨21, 16, .rwl⟩, ⟨15, 15, .rwl⟩, ⟨13, 8, .rwl⟩, ⟨7, 7, .rwl⟩, ⟨5, 0, .rwl⟩]⟩,
  ⟨0x20300100, 0x4, 16, 0x4, 1, 0x0#32, [⟨2, 0, .rw⟩]⟩,
  ⟨0x20300140, 0x4, 16, 0x4, 1, 0x0#32, [⟨7, 7, .w1c⟩, ⟨6, 6, .w1c⟩, ⟨5, 5, .w1c⟩, ⟨4, 4, .w1c⟩, ⟨3, 3, .w1c⟩, ⟨2, 2, .w1c⟩, ⟨1, 1, .w1c⟩, ⟨0, 0, .w1c⟩]⟩,
  ⟨0x20300180, 0x4, 16, 0x4, 1, 0x0#32, [⟨7, 0, .rw⟩]⟩,
  ⟨0x20300800, 0x10, 64, 0x4, 1, 0x0#32, [⟨15, 12, .rw⟩, ⟨8, 8, .rw⟩, ⟨7, 7, .rw⟩, ⟨6, 6, .rw⟩, ⟨5, 4, .rw⟩, ⟨3, 0, .rw⟩]⟩,
  ⟨0x20300804, 0x10, 64, 0x4, 1, 0x107700#32, [⟨26, 24, .ro⟩, ⟨23, 16, .rw⟩, ⟨15, 12, .rw⟩, ⟨10, 8, .rw⟩, ⟨6, 4, .rw⟩, ⟨3, 3, .rw⟩, ⟨2, 0, .rw⟩]⟩,
  ⟨0x20300808, 0x10, 64, 0x4, 1, 0x0#32, [⟨23, 16, .rw⟩, ⟨8, 8, .rw⟩, ⟨4, 2, .rw⟩, ⟨1, 1, .rw⟩, ⟨0, 0, .rw⟩]⟩,
  ⟨0x2030080C, 0x10, 64, 0x4, 1, 0xF#32, [⟨31, 16, .rc⟩, ⟨14, 14, .w1c⟩, ⟨13, 13, .w1c⟩, ⟨12, 12, .w1c⟩, ⟨11, 11, .w1c⟩, ⟨10, 10, .w1c⟩, ⟨9, 9, .w1c⟩, ⟨8, 8, .w1c⟩, ⟨3, 0, .ro⟩]⟩ ] ++
  [
  ⟨0x20302000, 0x4, 1, 0x4, 1, 0x40083F#32, [⟨23, 16, .rwl⟩, ⟨11, 8, .rwl⟩, ⟨5, 4, .rwl⟩, ⟨3, 0, .rwl⟩]⟩,
  ⟨0x20302004, 0x4, 1, 0x4, 1, 0x3C0258#32, [⟨31, 16, .rwl⟩, ⟨15, 0, .rwl⟩]⟩,
  ⟨0x20302008, 0x4, 1, 0x4, 1, 0x40CCD#32, [⟨19, 16, .rwl⟩, ⟨15, 0, .rwl⟩]⟩,
  ⟨0x2030200C, 0x4, 1, 0x4, 1, 0x2002#32, [⟨15, 8, .rwl⟩, ⟨3, 0, .rwl⟩]⟩,
  ⟨0x20302010, 0x4, 1, 0x4, 1, 0x0#32, [⟨31, 31, .ro⟩, ⟨14, 8, .wo⟩, ⟨2, 0, .wo⟩]⟩,
  ⟨0x20302014, 0x4, 1, 0x4, 1, 0x0#32, [⟨9, 9, .w1c⟩, ⟨8, 8, .w1c⟩, ⟨7, 7, .w1c⟩, ⟨6, 6, .w1c⟩, ⟨5, 5, .w1c⟩, ⟨4, 4, .w1c⟩, ⟨3, 3, .w1c⟩, ⟨2, 2, .w1c⟩, ⟨1, 1, .w1c⟩, ⟨0, 0, .w1c⟩]⟩,
  ⟨0x20302018, 0x4, 1, 0x4, 1, 0x0#32, [⟨9, 0, .rw⟩]⟩,
  ⟨0x20302040, 0x4, 16, 0x4, 1, 0x7FC00000#32, [⟨31, 0, .ro⟩]⟩,
  ⟨0x20302080, 0x4, 1, 0x4, 1, 0x7FC00000#32, [⟨31, 0, .ro⟩]⟩,
  ⟨0x20302100, 0x4, 16, 0x4, 1, 0x0#32, [⟨31, 31, .ro⟩, ⟨30, 28, .ro⟩, ⟨27, 24, .ro⟩, ⟨23, 0, .ro⟩]⟩,
  ⟨0x20302140, 0x4, 16, 0x4, 1, 0x7FC00000#32, [⟨31, 0, .ro⟩]⟩,
  ⟨0x20303000, 0x20, 64, 0x4, 1, 0x140011#32, [⟨31, 16, .rw⟩, ⟨4, 4, .rw⟩, ⟨3, 3, .rw⟩, ⟨2, 2, .rw⟩, ⟨1, 1, .rw⟩, ⟨0, 0, .rw⟩]⟩,
  ⟨0x20303004, 0x20, 64, 0x4, 1, 0x30#32, [⟨31, 24, .rc⟩, ⟨23, 16, .ro⟩, ⟨15, 8, .ro⟩, ⟨5, 4, .ro⟩, ⟨3, 3, .ro⟩, ⟨2, 2, .ro⟩, ⟨1, 0, .ro⟩]⟩,
  ⟨0x20303008, 0x20, 64, 0x4, 1, 0x0#32, [⟨15, 0, .ro⟩]⟩,
  ⟨0x2030300C, 0x20, 64, 0x4, 1, 0x0#32, [⟨31, 0, .rw⟩]⟩,
  ⟨0x20303010, 0x20, 64, 0x4, 1, 0x0#32, [⟨31, 0, .rw⟩]⟩,
  ⟨0x20303014, 0x20, 64, 0x4, 1, 0x4B189680#32, [⟨31, 0, .rw⟩]⟩,
  ⟨0x20303018, 0x20, 64, 0x4, 1, 0x0#32, [⟨31, 0, .ro⟩]⟩,
  ⟨0x2030301C, 0x20, 64, 0x4, 1, 0x0#32, [⟨31, 0, .ro⟩]⟩ ]

/-- Register table of the block at 0x20400000. -/
def vibRegs : List RegRow :=
  [
  ⟨0x20400000, 0x4, 1, 0x4, 1, 0x0#32, [⟨31, 31, .w1s⟩]⟩,
  ⟨0x20400004, 0x4, 1, 0x4, 1, 0x0#32, [⟨15, 8, .ro⟩, ⟨7, 0, .ro⟩]⟩,
  ⟨0x20400008, 0x4, 1, 0x4, 1, 0x0#32, [⟨31, 16, .rwl⟩, ⟨11, 8, .rwl⟩, ⟨3, 0, .rwl⟩]⟩,
  ⟨0x20400100, 0x20, 8, 0x4, 1, 0x20000312#32, [⟨31, 24, .rw⟩, ⟨20, 16, .rw⟩, ⟨15, 12, .rw⟩, ⟨10, 10, .rw⟩, ⟨9, 8, .rw⟩, ⟨5, 4, .rw⟩, ⟨2, 2, .rw⟩, ⟨1, 1, .rw⟩, ⟨0, 0, .rw⟩]⟩,
  ⟨0x20400104, 0x20, 8, 0x4, 1, 0x520803E8#32, [⟨31, 16, .rwl⟩, ⟨15, 0, .rwl⟩]⟩,
  ⟨0x20400108, 0x20, 8, 0x4, 1, 0x3E801770#32, [⟨31, 16, .rw⟩, ⟨15, 0, .rw⟩]⟩,
  ⟨0x2040010C, 0x20, 8, 0x4, 1, 0xF0#32, [⟨31, 16, .ro⟩, ⟨7, 4, .ro⟩, ⟨2, 2, .ro⟩, ⟨1, 0, .ro⟩]⟩,
  ⟨0x20400110, 0x20, 8, 0x4, 1, 0x0#32, [⟨6, 6, .w1c⟩, ⟨5, 5, .w1c⟩, ⟨4, 4, .w1c⟩, ⟨3, 3, .w1c⟩, ⟨2, 2, .w1c⟩, ⟨1, 1, .w1c⟩, ⟨0, 0, .w1c⟩]⟩,
  ⟨0x20400114, 0x20, 8, 0x4, 1, 0x0#32, [⟨6, 0, .rw⟩]⟩,
  ⟨0x20400118, 0x20, 8, 0x4, 1, 0x0#32, [⟨31, 16, .rc⟩, ⟨15, 0, .rc⟩]⟩,
  ⟨0x2040011C, 0x20, 8, 0x4, 1, 0x0#32, [⟨15, 0, .ro⟩]⟩ ]

/-- Register table of the block at 0x20200000. -/
def loomRegs : List RegRow :=
  [
  ⟨0x20200000, 0x4, 1, 0x4, 1, 0x0#32, [⟨31, 31, .w1s⟩, ⟨0, 0, .rw⟩]⟩,
  ⟨0x20200004, 0x4, 1, 0x4, 1, 0x40000000#32, [⟨31, 31, .ro⟩, ⟨30, 30, .ro⟩, ⟨29, 29, .ro⟩, ⟨28, 28, .ro⟩, ⟨15, 0, .ro⟩]⟩,
  ⟨0x20200008, 0x4, 1, 0x4, 1, 0x0#32, [⟨24, 24, .w1c⟩, ⟨16, 16, .w1c⟩, ⟨10, 10, .w1c⟩, ⟨9, 9, .w1c⟩, ⟨8, 8, .w1c⟩, ⟨4, 4, .w1c⟩, ⟨3, 3, .w1c⟩, ⟨2, 2, .w1c⟩, ⟨1, 1, .w1c⟩, ⟨0, 0, .w1c⟩]⟩,
  ⟨0x2020000C, 0x4, 1, 0x4, 1, 0x0#32, [⟨24, 24, .rw⟩, ⟨16, 16, .rw⟩, ⟨10, 8, .rw⟩, ⟨4, 0, .rw⟩]⟩,
  ⟨0x20200010, 0x4, 1, 0x4, 1, 0x3E8#32, [⟨13, 0, .rwl⟩]⟩,
  ⟨0x20200014, 0x4, 1, 0x4, 1, 0x0#32, [⟨31, 0, .ro⟩]⟩,
  ⟨0x20200018, 0x4, 1, 0x4, 1, 0x0#32, [⟨31, 0, .ro⟩]⟩,
  ⟨0x2020001C, 0x4, 1, 0x4, 1, 0x80401008#32, [⟨31, 31, .rwl⟩, ⟨23, 16, .rwl⟩, ⟨15, 8, .rwl⟩, ⟨7, 0, .rwl⟩]⟩,
  ⟨0x20200020, 0x4, 1, 0x4, 1, 0x83#32, [⟨9, 0, .rwl⟩]⟩,
  ⟨0x20200024, 0x4, 1, 0x4, 1, 0x3D0000#32, [⟨27, 24, .rwl⟩, ⟨21, 16, .rwl⟩, ⟨12, 0, .rwl⟩]⟩,
  ⟨0x20200028, 0x4, 1, 0x4, 1, 0x0#32, [⟨31, 31, .ro⟩, ⟨24, 24, .ro⟩, ⟨15, 0, .ro⟩]⟩,
  ⟨0x2020002C, 0x4, 1, 0x4, 1, 0x0#32, [⟨31, 0, .ro⟩]⟩,
  ⟨0x20200030, 0x4, 1, 0x4, 1, 0x1#32, [⟨24, 16, .rwl⟩, ⟨8, 0, .rwl⟩]⟩,
  ⟨0x20200034, 0x4, 1, 0x4, 1, 0x0#32, [⟨3, 0, .rw⟩]⟩,
  ⟨0x20200038, 0x4, 1, 0x4, 1, 0x0#32, [⟨15, 0, .rc⟩]⟩,
  ⟨0x2020003C, 0x4, 1, 0x4, 1, 0x0#32, [⟨31, 16, .rc⟩, ⟨15, 0, .rc⟩]⟩,
  ⟨0x20200040, 0x4, 1, 0x4, 1, 0x0#32, [⟨31, 31, .ro⟩, ⟨11, 8, .ro⟩, ⟨3, 0, .ro⟩]⟩,
  ⟨0x20200044, 0x4, 1, 0x4, 1, 0x1032A40#32, [⟨31, 16, .ro⟩, ⟨15, 0, .ro⟩]⟩,
  ⟨0x20200048, 0x4, 1, 0x4, 1, 0x0#32, [⟨3, 3, .w1c⟩, ⟨2, 2, .w1c⟩, ⟨1, 1, .w1c⟩, ⟨0, 0, .w1c⟩]⟩,
  ⟨0x2020004C, 0x4, 1, 0x4, 1, 0x0#32, [⟨31, 31, .ro⟩, ⟨30, 27, .ro⟩, ⟨26, 22, .ro⟩, ⟨21, 18, .ro⟩, ⟨6, 0, .ro⟩]⟩ ] ++
  [
  ⟨0x20200050, 0x4, 1, 0x4, 1, 0x0#32, [⟨31, 31, .rwl⟩, ⟨21, 16, .rwl⟩]⟩,
  ⟨0x20200054, 0x4, 1, 0x4, 1, 0x0#32, [⟨11, 8, .w1c⟩, ⟨6, 4, .w1c⟩, ⟨2, 0, .w1c⟩]⟩,
  ⟨0x20200080, 0x4, 1, 0x4, 1, 0x30100#32, [⟨17, 16, .rwl⟩, ⟨14, 0, .rwl⟩]⟩,
  ⟨0x20200088, 0x4, 1, 0x4, 1, 0x10040#32, [⟨17, 16, .rwl⟩, ⟨14, 0, .rwl⟩]⟩,
  ⟨0x2020008C, 0x4, 1, 0x4, 1, 0x20100#32, [⟨17, 16, .rwl⟩, ⟨14, 0, .rwl⟩]⟩,
  ⟨0x20200090, 0x4, 1, 0x4, 1, 0x10040#32, [⟨17, 16, .rwl⟩, ⟨14, 0, .rwl⟩]⟩,
  ⟨0x20200094, 0x4, 1, 0x4, 1, 0x10040#32, [⟨17, 16, .rwl⟩, ⟨14, 0, .rwl⟩]⟩,
  ⟨0x20200098, 0x4, 1, 0x4, 1, 0x10040#32, [⟨17, 16, .rwl⟩, ⟨14, 0, .rwl⟩]⟩,
  ⟨0x2020009C, 0x4, 1, 0x4, 1, 0x10040#32, [⟨17, 16, .rwl⟩, ⟨14, 0, .rwl⟩]⟩,
  ⟨0x20200100, 0x10, 4, 0x4, 1, 0x0#32, [⟨31, 31, .ro⟩, ⟨30, 30, .ro⟩, ⟨28, 16, .ro⟩, ⟨9, 0, .ro⟩]⟩,
  ⟨0x20200104, 0x10, 4, 0x4, 1, 0x0#32, [⟨31, 16, .rc⟩, ⟨15, 0, .rc⟩]⟩,
  ⟨0x20200108, 0x10, 4, 0x4, 1, 0x0#32, [⟨31, 16, .rc⟩, ⟨15, 0, .rc⟩]⟩,
  ⟨0x2020010C, 0x10, 4, 0x4, 1, 0x0#32, [⟨31, 16, .rc⟩, ⟨15, 0, .rc⟩]⟩,
  ⟨0x20200200, 0x20, 16, 0x4, 1, 0x0#32, [⟨31, 31, .ro⟩, ⟨1, 0, .wo⟩]⟩,
  ⟨0x20200204, 0x20, 16, 0x4, 1, 0x0#32, [⟨16, 16, .rwl⟩, ⟨15, 2, .rwl⟩]⟩,
  ⟨0x20200208, 0x20, 16, 0x4, 1, 0x0#32, [⟨31, 16, .rc⟩, ⟨7, 4, .ro⟩, ⟨1, 0, .ro⟩]⟩,
  ⟨0x2020020C, 0x20, 16, 0x4, 1, 0x0#32, [⟨31, 0, .ro⟩]⟩,
  ⟨0x20200210, 0x20, 16, 0x4, 1, 0x0#32, [⟨7, 0, .w1c⟩]⟩,
  ⟨0x20200214, 0x20, 16, 0x4, 1, 0x0#32, [⟨7, 0, .rw⟩]⟩,
  ⟨0x20200218, 0x20, 16, 0x4, 1, 0x0#32, [⟨31, 0, .ro⟩]⟩,
  ⟨0x20200400, 0x4, 112, 0x4, 1, 0x0#32, [⟨15, 0, .rw⟩]⟩,
  ⟨0x20200800, 0x10, 16, 0x4, 1, 0x0#32, [⟨31, 31, .ro⟩, ⟨28, 24, .ro⟩, ⟨23, 20, .ro⟩, ⟨19, 19, .ro⟩, ⟨14, 10, .ro⟩, ⟨7, 0, .ro⟩]⟩,
  ⟨0x20200804, 0x10, 16, 0x4, 1, 0x0#32, [⟨22, 16, .ro⟩, ⟨14, 8, .ro⟩, ⟨6, 0, .ro⟩]⟩,
  ⟨0x20200808, 0x10, 16, 0x4, 1, 0x0#32, [⟨31, 16, .rc⟩, ⟨15, 0, .rc⟩]⟩,
  ⟨0x2020080C, 0x10, 16, 0x4, 1, 0x0#32, [⟨31, 16, .rc⟩, ⟨15, 0, .rc⟩]⟩,
  ⟨0x20201000, 0x4, 128, 0x4, 1, 0x0#32, [⟨31, 0, .w1c⟩]⟩ ]

/-- Register table of the block at 0x20500000. -/
def dioRegs : List RegRow :=
  [
  ⟨0x20500000, 0x4, 1, 0x4, 1, 0x0#32, [⟨31, 31, .w1s⟩]⟩,
  ⟨0x20500004, 0x4, 1, 0x4, 1, 0x0#32, [⟨31, 31, .ro⟩, ⟨30, 30, .ro⟩, ⟨26, 24, .ro⟩, ⟨8, 0, .ro⟩]⟩,
  ⟨0x20500008, 0x4, 1, 0x4, 1, 0x0#32, [⟨3, 3, .w1c⟩, ⟨2, 2, .w1c⟩, ⟨1, 1, .w1c⟩, ⟨0, 0, .w1c⟩]⟩,
  ⟨0x2050000C, 0x4, 1, 0x4, 1, 0x0#32, [⟨3, 0, .rw⟩]⟩,
  ⟨0x20500010, 0x4, 2, 0x4, 1, 0x0#32, [⟨31, 31, .rwl⟩, ⟨29, 24, .rwl⟩, ⟨23, 23, .rwl⟩, ⟨21, 16, .rwl⟩, ⟨15, 15, .rwl⟩, ⟨13, 8, .rwl⟩, ⟨7, 7, .rwl⟩, ⟨5, 0, .rwl⟩]⟩,
  ⟨0x20500020, 0x4, 1, 0x4, 1, 0x0#32, [⟨12, 8, .wo⟩, ⟨0, 0, .wo⟩]⟩,
  ⟨0x20500024, 0x4, 1, 0x4, 1, 0x0#32, [⟨23, 0, .ro⟩]⟩,
  ⟨0x20500028, 0x4, 1, 0x4, 1, 0x0#32, [⟨23, 0, .ro⟩]⟩,
  ⟨0x2050002C, 0x4, 1, 0x4, 1, 0x0#32, [⟨23, 0, .ro⟩]⟩,
  ⟨0x20500100, 0x10, 6, 0x4, 1, 0x0#32, [⟨23, 16, .rw⟩, ⟨15, 12, .rw⟩, ⟨11, 8, .rw⟩, ⟨7, 6, .rw⟩, ⟨5, 5, .rw⟩, ⟨4, 4, .rw⟩, ⟨3, 3, .rw⟩, ⟨2, 2, .rw⟩, ⟨1, 1, .rw⟩, ⟨0, 0, .rw⟩]⟩,
  ⟨0x20500104, 0x10, 6, 0x4, 1, 0x0#32, [⟨31, 16, .ro⟩, ⟨2, 2, .ro⟩, ⟨1, 1, .ro⟩, ⟨0, 0, .ro⟩]⟩,
  ⟨0x20500108, 0x10, 6, 0x4, 1, 0x0#32, [⟨15, 8, .w1c⟩, ⟨2, 2, .w1c⟩, ⟨1, 1, .w1c⟩, ⟨0, 0, .w1c⟩]⟩,
  ⟨0x2050010C, 0x10, 6, 0x4, 1, 0x0#32, [⟨15, 8, .rw⟩, ⟨2, 0, .rw⟩]⟩,
  ⟨0x20500200, 0x20, 3, 0x4, 1, 0xA3288#32, [⟨25, 16, .rwl⟩, ⟨15, 8, .rwl⟩, ⟨7, 4, .rwl⟩, ⟨3, 3, .rwl⟩, ⟨2, 2, .rwl⟩, ⟨1, 0, .rwl⟩]⟩,
  ⟨0x20500204, 0x20, 3, 0x4, 1, 0x0#32, [⟨31, 16, .ro⟩, ⟨7, 7, .ro⟩, ⟨6, 6, .ro⟩, ⟨5, 5, .ro⟩, ⟨4, 4, .ro⟩, ⟨1, 0, .ro⟩]⟩,
  ⟨0x20500208, 0x20, 3, 0x4, 1, 0x0#32, [⟨19, 19, .w1c⟩, ⟨18, 18, .w1c⟩, ⟨17, 17, .w1c⟩, ⟨16, 16, .w1c⟩, ⟨15, 8, .w1c⟩, ⟨7, 0, .w1c⟩]⟩,
  ⟨0x2050020C, 0x20, 3, 0x4, 1, 0x0#32, [⟨19, 0, .rw⟩]⟩,
  ⟨0x20500210, 0x20, 3, 0x4, 1, 0x0#32, [⟨1, 1, .wo⟩, ⟨0, 0, .wo⟩]⟩,
  ⟨0x20500400, 0x10, 48, 0x4, 1, 0x0#32, [⟨31, 31, .rw⟩, ⟨30, 30, .w1s⟩, ⟨23, 16, .rw⟩, ⟨15, 12, .rw⟩, ⟨11, 8, .rw⟩, ⟨7, 6, .rw⟩, ⟨5, 5, .rw⟩, ⟨4, 4, .rw⟩, ⟨3, 3, .rw⟩, ⟨2, 2, .rw⟩, ⟨1, 1, .rw⟩, ⟨0, 0, .rw⟩]⟩,
  ⟨0x20500404, 0x10, 48, 0x4, 1, 0xF0#32, [⟨31, 0, .ro⟩]⟩ ] ++
  [
  ⟨0x20500408, 0x10, 48, 0x4, 1, 0x0#32, [⟨31, 0, .ro⟩]⟩,
  ⟨0x2050040C, 0x10, 48, 0x4, 1, 0x7FC00000#32, [⟨31, 0, .ro⟩]⟩,
  ⟨0x20500800, 0x10, 24, 0x4, 1, 0x0#32, [⟨31, 31, .rwl⟩, ⟨3, 3, .rwl⟩, ⟨2, 2, .rwl⟩, ⟨1, 0, .rwl⟩]⟩,
  ⟨0x20500804, 0x10, 24, 0x4, 1, 0x0#32, [⟨31, 24, .ro⟩, ⟨23, 16, .rc⟩, ⟨7, 7, .ro⟩, ⟨6, 6, .ro⟩, ⟨5, 5, .ro⟩, ⟨3, 0, .ro⟩]⟩ ]

/-- Register table of the block at 0x20600000. -/
def canRegs : List RegRow :=
  [
  ⟨0x20600000, 0x4000, 3, 0x4, 1, 0x0#32, [⟨13, 12, .rw⟩, ⟨11, 8, .rw⟩, ⟨6, 6, .w1s⟩, ⟨5, 5, .rw⟩, ⟨4, 4, .rw⟩, ⟨3, 3, .rw⟩, ⟨2, 1, .rw⟩, ⟨0, 0, .rw⟩]⟩,
  ⟨0x20600004, 0x4000, 3, 0x4, 1, 0x0#32, [⟨15, 8, .ro⟩, ⟨2, 0, .ro⟩]⟩,
  ⟨0x20600008, 0x4000, 3, 0x4, 1, 0x0#32, [⟨25, 25, .w1c⟩, ⟨24, 24, .w1c⟩, ⟨23, 23, .w1c⟩, ⟨21, 21, .w1c⟩, ⟨20, 20, .w1c⟩, ⟨19, 19, .w1c⟩, ⟨18, 18, .w1c⟩, ⟨17, 17, .w1c⟩, ⟨16, 16, .w1c⟩, ⟨9, 9, .w1c⟩, ⟨8, 8, .w1c⟩, ⟨2, 2, .w1c⟩, ⟨1, 1, .w1c⟩, ⟨0, 0, .w1c⟩]⟩,
  ⟨0x2060000C, 0x4000, 3, 0x4, 1, 0x0#32, [⟨25, 23, .rw⟩, ⟨21, 16, .rw⟩, ⟨9, 8, .rw⟩, ⟨2, 0, .rw⟩]⟩,
  ⟨0x20600010, 0x4000, 3, 0x4, 1, 0x0#32, [⟨30, 25, .rwl⟩, ⟨24, 16, .rwl⟩, ⟨15, 8, .rwl⟩, ⟨7, 0, .rwl⟩]⟩,
  ⟨0x20600014, 0x4000, 3, 0x4, 1, 0x0#32, [⟨29, 24, .rwl⟩, ⟨21, 16, .rwl⟩, ⟨12, 8, .rwl⟩, ⟨4, 0, .rwl⟩]⟩,
  ⟨0x20600018, 0x4000, 3, 0x4, 1, 0x0#32, [⟨23, 16, .ro⟩, ⟨15, 15, .rwl⟩, ⟨7, 0, .rwl⟩]⟩,
  ⟨0x2060001C, 0x4000, 3, 0x4, 1, 0x0#32, [⟨22, 20, .ro⟩, ⟨18, 16, .ro⟩, ⟨15, 8, .ro⟩, ⟨7, 0, .ro⟩]⟩,
  ⟨0x20600020, 0x4000, 3, 0x4, 1, 0x0#32, [⟨31, 16, .rc⟩, ⟨15, 0, .rc⟩]⟩,
  ⟨0x20600024, 0x4000, 3, 0x4, 1, 0x0#32, [⟨31, 16, .rc⟩, ⟨15, 0, .rc⟩]⟩,
  ⟨0x20600028, 0x4000, 3, 0x4, 1, 0x0#32, [⟨31, 31, .rw⟩, ⟨30, 30, .w1s⟩, ⟨21, 16, .rw⟩]⟩,
  ⟨0x2060002C, 0x4000, 3, 0x4, 1, 0x0#32, [⟨31, 31, .ro⟩, ⟨13, 0, .ro⟩]⟩,
  ⟨0x20600030, 0x4000, 3, 0x4, 1, 0x0#32, [⟨31, 16, .rc⟩, ⟨15, 0, .rc⟩]⟩,
  ⟨0x2060C000, 0x4, 1, 0x4, 1, 0x0#32, [⟨31, 31, .w1s⟩]⟩,
  ⟨0x20602000, 0x4000, 3, 0x80, 64, 0x0#32, [⟨26, 26, .rw⟩, ⟨25, 25, .rw⟩, ⟨24, 24, .rw⟩, ⟨23, 22, .rw⟩, ⟨20, 16, .rw⟩, ⟨12, 12, .rw⟩, ⟨11, 8, .rw⟩, ⟨7, 7, .rw⟩, ⟨6, 6, .rw⟩, ⟨5, 5, .rw⟩, ⟨4, 4, .rw⟩, ⟨3, 3, .rw⟩, ⟨2, 0, .rw⟩]⟩,
  ⟨0x20602004, 0x4000, 3, 0x80, 64, 0x0#32, [⟨28, 0, .rw⟩]⟩,
  ⟨0x20602008, 0x4000, 3, 0x80, 64, 0x0#32, [⟨28, 0, .rw⟩]⟩,
  ⟨0x2060200C, 0x4000, 3, 0x80, 64, 0x0#32, [⟨31, 31, .w1s⟩, ⟨30, 30, .w1s⟩, ⟨29, 29, .w1c⟩, ⟨28, 28, .w1c⟩, ⟨27, 27, .w1c⟩, ⟨26, 26, .w1c⟩, ⟨23, 16, .ro⟩, ⟨8, 4, .ro⟩, ⟨3, 0, .ro⟩]⟩,
  ⟨0x20602010, 0x4000, 3, 0x80, 64, 0x0#32, [⟨28, 0, .ro⟩]⟩ ]

/-- Register table of the block at 0x20700000. -/
def ethRegs : List RegRow :=
  [
  ⟨0x20700000, 0x4, 1, 0x4, 1, 0x0#32, [⟨31, 31, .w1s⟩]⟩,
  ⟨0x20700100, 0x100, 2, 0x4, 1, 0x12#32, [⟨6, 6, .rw⟩, ⟨5, 5, .rw⟩, ⟨4, 4, .rw⟩, ⟨3, 3, .rw⟩, ⟨2, 2, .rw⟩, ⟨1, 1, .rw⟩, ⟨0, 0, .rw⟩]⟩,
  ⟨0x20700104, 0x100, 2, 0x4, 1, 0x0#32, [⟨31, 31, .ro⟩, ⟨30, 30, .ro⟩, ⟨3, 0, .ro⟩]⟩,
  ⟨0x20700108, 0x100, 2, 0x4, 1, 0x0#32, [⟨25, 25, .w1c⟩, ⟨24, 24, .w1c⟩, ⟨17, 17, .w1c⟩, ⟨16, 16, .w1c⟩, ⟨9, 9, .w1c⟩, ⟨8, 8, .w1c⟩, ⟨1, 1, .w1c⟩, ⟨0, 0, .w1c⟩]⟩,
  ⟨0x2070010C, 0x100, 2, 0x4, 1, 0x0#32, [⟨25, 24, .rw⟩, ⟨17, 16, .rw⟩, ⟨9, 8, .rw⟩, ⟨1, 0, .rw⟩]⟩,
  ⟨0x20700110, 0x100, 2, 0x4, 1, 0x0#32, [⟨31, 0, .rwl⟩]⟩,
  ⟨0x20700114, 0x100, 2, 0x4, 1, 0x0#32, [⟨15, 0, .rwl⟩]⟩,
  ⟨0x20700118, 0x100, 2, 0x4, 1, 0x0#32, [⟨31, 0, .rw⟩]⟩,
  ⟨0x2070011C, 0x100, 2, 0x4, 1, 0x0#32, [⟨31, 0, .rw⟩]⟩,
  ⟨0x20700120, 0x100, 2, 0x8, 8, 0x0#32, [⟨31, 0, .rw⟩]⟩,
  ⟨0x20700124, 0x100, 2, 0x8, 8, 0x0#32, [⟨31, 31, .rw⟩, ⟨15, 0, .rw⟩]⟩,
  ⟨0x20700160, 0x100, 2, 0x4, 1, 0x0#32, [⟨13, 0, .ro⟩]⟩,
  ⟨0x20700164, 0x100, 2, 0x4, 1, 0x0#32, [⟨13, 0, .rw⟩]⟩,
  ⟨0x20700168, 0x100, 2, 0x4, 1, 0x0#32, [⟨17, 16, .wo⟩, ⟨10, 0, .wo⟩]⟩,
  ⟨0x2070016C, 0x100, 2, 0x4, 1, 0x0#32, [⟨7, 4, .w1c⟩, ⟨3, 0, .w1c⟩]⟩,
  ⟨0x20700170, 0x100, 2, 0x4, 1, 0x0#32, [⟨31, 16, .rc⟩, ⟨15, 0, .rc⟩]⟩,
  ⟨0x20700174, 0x100, 2, 0x4, 1, 0x0#32, [⟨31, 16, .rc⟩, ⟨15, 0, .rc⟩]⟩,
  ⟨0x20700178, 0x100, 2, 0x4, 1, 0x0#32, [⟨31, 0, .ro⟩]⟩,
  ⟨0x2070017C, 0x100, 2, 0x4, 1, 0x0#32, [⟨31, 0, .ro⟩]⟩,
  ⟨0x20700180, 0x100, 2, 0x4, 1, 0x0#32, [⟨31, 0, .ro⟩]⟩ ] ++
  [
  ⟨0x20702000, 0x4, 1, 0x4, 1, 0x0#32, [⟨12, 8, .rw⟩, ⟨1, 1, .rw⟩, ⟨0, 0, .rw⟩]⟩,
  ⟨0x20702004, 0x4, 1, 0x4, 1, 0x0#32, [⟨2, 2, .w1c⟩, ⟨1, 1, .w1c⟩, ⟨0, 0, .w1c⟩]⟩,
  ⟨0x20702008, 0x4, 1, 0x4, 1, 0x0#32, [⟨31, 16, .rc⟩, ⟨15, 0, .rc⟩]⟩,
  ⟨0x20703000, 0x4, 1, 0x4, 1, 0x0#32, [⟨0, 0, .rw⟩]⟩,
  ⟨0x20703004, 0x4, 1, 0x4, 1, 0x2B6#32, [⟨15, 4, .rw⟩, ⟨3, 0, .rw⟩]⟩,
  ⟨0x20703008, 0x4, 1, 0x4, 1, 0x4000#32, [⟨22, 16, .ro⟩, ⟨14, 8, .ro⟩]⟩,
  ⟨0x2070300C, 0x4, 1, 0x4, 1, 0x0#32, [⟨7, 0, .wo⟩]⟩,
  ⟨0x20703010, 0x4, 1, 0x4, 1, 0x0#32, [⟨2, 2, .w1c⟩, ⟨1, 1, .w1c⟩, ⟨0, 0, .w1c⟩]⟩ ]

/-- Register table of the block at 0x20800000. -/
def storeRegs : List RegRow :=
  [
  ⟨0x20800000, 0x4, 1, 0x4, 1, 0x0#32, [⟨31, 31, .w1s⟩, ⟨0, 0, .rwl⟩]⟩,
  ⟨0x20800004, 0x4, 1, 0x4, 1, 0x0#32, [⟨31, 31, .ro⟩, ⟨30, 30, .ro⟩, ⟨29, 29, .ro⟩, ⟨23, 16, .ro⟩, ⟨11, 0, .ro⟩]⟩,
  ⟨0x20800008, 0x4, 1, 0x4, 1, 0x0#32, [⟨18, 18, .w1c⟩, ⟨17, 17, .w1c⟩, ⟨16, 16, .w1c⟩, ⟨11, 11, .w1c⟩, ⟨10, 10, .w1c⟩, ⟨9, 9, .w1c⟩, ⟨8, 8, .w1c⟩, ⟨3, 3, .w1c⟩, ⟨2, 2, .w1c⟩, ⟨1, 1, .w1c⟩, ⟨0, 0, .w1c⟩]⟩,
  ⟨0x2080000C, 0x4, 1, 0x4, 1, 0x0#32, [⟨18, 16, .rw⟩, ⟨11, 8, .rw⟩, ⟨3, 0, .rw⟩]⟩,
  ⟨0x20800010, 0x4, 1, 0x4, 1, 0x0#32, [⟨31, 31, .ro⟩, ⟨5, 4, .rw⟩, ⟨3, 0, .wo⟩]⟩,
  ⟨0x20800014, 0x4, 1, 0x4, 1, 0x0#32, [⟨15, 5, .rw⟩, ⟨4, 0, .rw⟩]⟩,
  ⟨0x20800018, 0x4, 1, 0x4, 1, 0x0#32, [⟨31, 31, .ro⟩, ⟨13, 8, .ro⟩, ⟨4, 4, .ro⟩, ⟨3, 0, .ro⟩]⟩,
  ⟨0x2080001C, 0x4, 1, 0x4, 1, 0x0#32, [⟨31, 16, .rc⟩, ⟨15, 0, .rc⟩]⟩,
  ⟨0x20800020, 0x4, 1, 0x4, 1, 0x0#32, [⟨31, 0, .rc⟩]⟩,
  ⟨0x20800024, 0x4, 1, 0x4, 1, 0x0#32, [⟨31, 16, .ro⟩, ⟨15, 0, .ro⟩]⟩,
  ⟨0x20800030, 0x4, 1, 0x4, 1, 0x20#32, [⟨8, 8, .rwl⟩, ⟨7, 0, .rwl⟩]⟩,
  ⟨0x20800034, 0x4, 1, 0x4, 1, 0xE10#32, [⟨31, 31, .rwl⟩, ⟨19, 0, .rwl⟩]⟩,
  ⟨0x20800038, 0x4, 1, 0x4, 1, 0x15180#32, [⟨31, 31, .rwl⟩, ⟨19, 0, .rwl⟩]⟩,
  ⟨0x2080003C, 0x4, 1, 0x4, 1, 0x0#32, [⟨4, 4, .w1s⟩, ⟨3, 3, .w1s⟩, ⟨2, 2, .w1s⟩, ⟨1, 1, .w1s⟩, ⟨0, 0, .w1s⟩]⟩,
  ⟨0x20800040, 0x4, 1, 0x4, 1, 0x0#32, [⟨31, 31, .ro⟩, ⟨30, 30, .ro⟩, ⟨29, 29, .ro⟩, ⟨28, 28, .ro⟩]⟩,
  ⟨0x20800044, 0x4, 1, 0x4, 1, 0x0#32, [⟨31, 0, .ro⟩]⟩,
  ⟨0x20800048, 0x4, 1, 0x4, 1, 0x0#32, [⟨31, 0, .ro⟩]⟩,
  ⟨0x2080004C, 0x4, 1, 0x4, 1, 0x0#32, [⟨31, 16, .rc⟩, ⟨15, 0, .rc⟩]⟩,
  ⟨0x20800050, 0x4, 1, 0x4, 1, 0x0#32, [⟨31, 0, .rw⟩]⟩,
  ⟨0x20800054, 0x4, 1, 0x4, 1, 0x0#32, [⟨15, 0, .rw⟩]⟩ ] ++
  [
  ⟨0x20800058, 0x4, 1, 0x4, 1, 0x0#32, [⟨20, 16, .rw⟩, ⟨13, 8, .rw⟩, ⟨5, 0, .rw⟩]⟩,
  ⟨0x2080005C, 0x4, 1, 0x4, 1, 0x0#32, [⟨30, 28, .rw⟩, ⟨24, 16, .rw⟩, ⟨11, 8, .rw⟩, ⟨4, 0, .rw⟩]⟩,
  ⟨0x20800060, 0x4, 1, 0x4, 1, 0x0#32, [⟨31, 30, .rw⟩]⟩,
  ⟨0x20800064, 0x4, 1, 0x4, 1, 0x0#32, [⟨31, 0, .rw⟩]⟩,
  ⟨0x20800068, 0x4, 1, 0x4, 1, 0x0#32, [⟨31, 31, .ro⟩, ⟨2, 0, .ro⟩]⟩,
  ⟨0x20804000, 0x4, 4096, 0x4, 1, 0x0#32, [⟨31, 31, .rw⟩, ⟨29, 28, .rw⟩]⟩,
  ⟨0x20808000, 0x4, 4096, 0x4, 1, 0x0#32, [⟨31, 31, .rw⟩, ⟨29, 28, .rw⟩]⟩ ]

/-- Register table of the block at 0x20900000. -/
def tickRegs : List RegRow :=
  [
  ⟨0x20900000, 0x4, 1, 0x4, 1, 0x0#32, [⟨31, 31, .w1s⟩, ⟨2, 2, .rw⟩, ⟨1, 1, .rw⟩, ⟨0, 0, .rw⟩]⟩,
  ⟨0x20900004, 0x4, 1, 0x4, 1, 0x80000000#32, [⟨31, 31, .w1c⟩, ⟨30, 30, .ro⟩, ⟨29, 29, .ro⟩, ⟨28, 28, .ro⟩]⟩,
  ⟨0x20900008, 0x4, 1, 0x4, 1, 0x100#32, [⟨17, 17, .w1c⟩, ⟨16, 16, .w1c⟩, ⟨11, 11, .w1c⟩, ⟨10, 10, .w1c⟩, ⟨9, 9, .w1c⟩, ⟨8, 8, .w1c⟩, ⟨3, 0, .w1c⟩]⟩,
  ⟨0x2090000C, 0x4, 1, 0x4, 1, 0x0#32, [⟨17, 16, .rw⟩, ⟨11, 8, .rw⟩, ⟨3, 0, .rw⟩]⟩,
  ⟨0x20900010, 0x4, 1, 0x4, 1, 0x0#32, [⟨2, 2, .w1s⟩, ⟨1, 1, .w1s⟩, ⟨0, 0, .w1s⟩]⟩,
  ⟨0x20900014, 0x4, 1, 0x4, 1, 0x0#32, [⟨31, 0, .ro⟩]⟩,
  ⟨0x20900018, 0x4, 1, 0x4, 1, 0x0#32, [⟨31, 0, .rw⟩]⟩,
  ⟨0x2090001C, 0x4, 1, 0x4, 1, 0x0#32, [⟨15, 0, .rw⟩]⟩,
  ⟨0x20900020, 0x4, 1, 0x4, 1, 0x0#32, [⟨20, 16, .rw⟩, ⟨13, 8, .rw⟩, ⟨5, 0, .rw⟩]⟩,
  ⟨0x20900024, 0x4, 1, 0x4, 1, 0x60000101#32, [⟨30, 28, .rw⟩, ⟨24, 16, .rw⟩, ⟨11, 8, .rw⟩, ⟨4, 0, .rw⟩]⟩,
  ⟨0x20900028, 0x4, 1, 0x4, 1, 0x0#32, [⟨10, 0, .rwl⟩]⟩,
  ⟨0x2090002C, 0x4, 1, 0x4, 1, 0xC350#32, [⟨15, 0, .rwl⟩]⟩,
  ⟨0x20900030, 0x4, 1, 0x4, 1, 0x0#32, [⟨31, 31, .ro⟩, ⟨27, 0, .ro⟩]⟩,
  ⟨0x20900034, 0x4, 1, 0x4, 1, 0x0#32, [⟨13, 12, .w1c⟩, ⟨9, 8, .w1c⟩, ⟨5, 4, .w1c⟩, ⟨1, 0, .w1c⟩]⟩,
  ⟨0x20900040, 0x8, 4, 0x4, 1, 0x0#32, [⟨31, 0, .rw⟩]⟩,
  ⟨0x20900044, 0x8, 4, 0x4, 1, 0x0#32, [⟨31, 31, .rw⟩, ⟨15, 0, .rw⟩]⟩,
  ⟨0x20900100, 0x20, 4, 0x4, 1, 0x0#32, [⟨31, 0, .ro⟩]⟩,
  ⟨0x20900104, 0x20, 4, 0x4, 1, 0x0#32, [⟨31, 16, .ro⟩, ⟨15, 0, .ro⟩]⟩,
  ⟨0x20900108, 0x20, 4, 0x4, 1, 0x0#32, [⟨20, 16, .ro⟩, ⟨13, 8, .ro⟩, ⟨5, 0, .ro⟩]⟩,
  ⟨0x2090010C, 0x20, 4, 0x4, 1, 0x0#32, [⟨30, 28, .ro⟩, ⟨24, 16, .ro⟩, ⟨11, 8, .ro⟩, ⟨4, 0, .ro⟩]⟩ ] ++
  [
  ⟨0x20900110, 0x20, 4, 0x4, 1, 0x0#32, [⟨31, 31, .ro⟩, ⟨30, 30, .ro⟩, ⟨29, 29, .ro⟩, ⟨15, 0, .ro⟩]⟩ ]

/-- Register table of the block at 0x20A00000. -/
def dispRegs : List RegRow :=
  [
  ⟨0x20A00000, 0x4, 1, 0x4, 1, 0x0#32, [⟨31, 31, .w1s⟩, ⟨8, 8, .rw⟩, ⟨1, 1, .rw⟩, ⟨0, 0, .rw⟩]⟩,
  ⟨0x20A00004, 0x4, 1, 0x4, 1, 0x0#32, [⟨31, 31, .ro⟩, ⟨30, 30, .ro⟩, ⟨29, 29, .ro⟩, ⟨28, 28, .ro⟩, ⟨27, 27, .ro⟩, ⟨26, 26, .ro⟩, ⟨22, 20, .ro⟩, ⟨18, 16, .ro⟩, ⟨11, 0, .ro⟩]⟩,
  ⟨0x20A00008, 0x4, 1, 0x4, 1, 0x0#32, [⟨17, 17, .w1c⟩, ⟨16, 16, .w1c⟩, ⟨10, 10, .w1c⟩, ⟨9, 9, .w1c⟩, ⟨8, 8, .w1c⟩, ⟨0, 0, .w1c⟩]⟩,
  ⟨0x20A0000C, 0x4, 1, 0x4, 1, 0x0#32, [⟨17, 16, .rw⟩, ⟨10, 8, .rw⟩, ⟨0, 0, .rw⟩]⟩,
  ⟨0x20A00010, 0x4, 1, 0x4, 1, 0x4082E8#32, [⟨22, 16, .rwl⟩, ⟨15, 8, .rwl⟩, ⟨7, 0, .rwl⟩]⟩,
  ⟨0x20A00014, 0x4, 1, 0x4, 1, 0x0#32, [⟨31, 31, .ro⟩, ⟨30, 30, .ro⟩, ⟨15, 8, .ro⟩, ⟨7, 0, .ro⟩]⟩,
  ⟨0x20A00018, 0x4, 1, 0x4, 1, 0x0#32, [⟨2, 2, .w1s⟩, ⟨1, 1, .w1s⟩, ⟨0, 0, .w1s⟩]⟩,
  ⟨0x20A00020, 0x4, 1, 0x4, 1, 0x53C7F00#32, [⟨31, 24, .rwl⟩, ⟨23, 16, .rwl⟩, ⟨14, 8, .rwl⟩, ⟨0, 0, .rwl⟩]⟩,
  ⟨0x20A00024, 0x4, 1, 0x4, 1, 0x1E140A00#32, [⟨31, 24, .rwl⟩, ⟨23, 16, .rwl⟩, ⟨15, 8, .rwl⟩, ⟨7, 0, .rwl⟩]⟩,
  ⟨0x20A00028, 0x4, 1, 0x4, 1, 0x3C3228#32, [⟨23, 16, .rwl⟩, ⟨15, 8, .rwl⟩, ⟨7, 0, .rwl⟩]⟩,
  ⟨0x20A00030, 0x4, 2, 0x4, 1, 0x0#32, [⟨31, 0, .rw⟩]⟩,
  ⟨0x20A00038, 0x4, 2, 0x4, 1, 0xFFFFFFFF#32, [⟨31, 0, .ro⟩]⟩,
  ⟨0x20A00040, 0x4, 1, 0x4, 1, 0x0#32, [⟨31, 0, .ro⟩]⟩,
  ⟨0x20A00044, 0x4, 1, 0x4, 1, 0x0#32, [⟨31, 16, .rc⟩, ⟨15, 0, .rc⟩]⟩,
  ⟨0x20A00100, 0xC, 8, 0x4, 3, 0x0#32, [⟨31, 0, .rw⟩]⟩ ]

/-- Register table of the block at 0x20B00000. -/
def perfRegs : List RegRow :=
  [
  ⟨0x20B00000, 0x4, 1, 0x4, 1, 0x0#32, [⟨31, 31, .w1s⟩, ⟨0, 0, .rw⟩]⟩,
  ⟨0x20B00004, 0x4, 1, 0x4, 1, 0x0#32, [⟨2, 2, .w1s⟩, ⟨1, 1, .w1s⟩, ⟨0, 0, .w1s⟩]⟩,
  ⟨0x20B00008, 0x4, 1, 0x4, 1, 0x0#32, [⟨31, 31, .ro⟩, ⟨2, 2, .ro⟩, ⟨1, 1, .ro⟩]⟩,
  ⟨0x20B0000C, 0x4, 1, 0x4, 1, 0x0#32, [⟨25, 25, .w1c⟩, ⟨24, 24, .w1c⟩, ⟨16, 16, .w1c⟩, ⟨8, 8, .w1c⟩, ⟨1, 1, .w1c⟩, ⟨0, 0, .w1c⟩]⟩,
  ⟨0x20B00010, 0x4, 1, 0x4, 1, 0x0#32, [⟨25, 24, .rw⟩, ⟨16, 16, .rw⟩, ⟨8, 8, .rw⟩, ⟨1, 0, .rw⟩]⟩,
  ⟨0x20B00014, 0x4, 1, 0x4, 1, 0x0#32, [⟨31, 0, .w1c⟩]⟩,
  ⟨0x20B00018, 0x4, 1, 0x4, 1, 0x0#32, [⟨31, 0, .w1c⟩]⟩,
  ⟨0x20B0001C, 0x4, 1, 0x4, 1, 0x0#32, [⟨31, 31, .ro⟩, ⟨20, 16, .ro⟩, ⟨3, 0, .ro⟩]⟩,
  ⟨0x20B00020, 0x4, 1, 0x4, 1, 0x0#32, [⟨31, 0, .rc⟩]⟩,
  ⟨0x20B00024, 0x4, 1, 0x4, 1, 0x0#32, [⟨31, 16, .rc⟩, ⟨15, 0, .rc⟩]⟩,
  ⟨0x20B00028, 0x4, 1, 0x4, 1, 0x8000#32, [⟨15, 0, .rwl⟩]⟩,
  ⟨0x20B00040, 0x4, 8, 0x4, 1, 0x0#32, [⟨12, 8, .rwl⟩, ⟨4, 0, .rwl⟩]⟩,
  ⟨0x20B00060, 0x4, 8, 0x4, 1, 0x0#32, [⟨31, 0, .ro⟩]⟩,
  ⟨0x20B00080, 0x4, 8, 0x4, 1, 0x0#32, [⟨31, 0, .ro⟩]⟩,
  ⟨0x20B00100, 0x4, 64, 0x4, 1, 0x0#32, [⟨31, 31, .rwl⟩, ⟨30, 30, .rwl⟩, ⟨29, 29, .rwl⟩, ⟨20, 16, .rwl⟩, ⟨11, 8, .rwl⟩, ⟨7, 0, .rwl⟩]⟩,
  ⟨0x20B00200, 0x4, 64, 0x4, 1, 0x0#32, [⟨31, 0, .rw⟩]⟩ ]

/-- Register table of the block at 0x20C00000. -/
def selvRegs : List RegRow :=
  [
  ⟨0x20C00000, 0x4, 1, 0x4, 1, 0x0#32, [⟨31, 31, .w1s⟩, ⟨2, 2, .w1s⟩, ⟨1, 1, .rw⟩, ⟨0, 0, .rw⟩]⟩,
  ⟨0x20C00004, 0x4, 1, 0x4, 1, 0x0#32, [⟨31, 31, .ro⟩, ⟨30, 30, .ro⟩, ⟨29, 29, .ro⟩, ⟨28, 28, .ro⟩, ⟨27, 27, .ro⟩, ⟨26, 26, .ro⟩, ⟨25, 25, .ro⟩, ⟨21, 20, .ro⟩, ⟨3, 2, .ro⟩, ⟨1, 0, .ro⟩]⟩,
  ⟨0x20C00008, 0x4, 1, 0x4, 1, 0x0#32, [⟨31, 16, .ro⟩, ⟨15, 0, .ro⟩]⟩,
  ⟨0x20C0000C, 0x4, 1, 0x4, 1, 0x0#32, [⟨26, 26, .w1c⟩, ⟨25, 25, .w1c⟩, ⟨24, 24, .w1c⟩, ⟨19, 19, .w1c⟩, ⟨18, 18, .w1c⟩, ⟨17, 17, .w1c⟩, ⟨16, 16, .w1c⟩, ⟨12, 12, .w1c⟩, ⟨11, 11, .w1c⟩, ⟨10, 10, .w1c⟩, ⟨9, 9, .w1c⟩, ⟨8, 8, .w1c⟩, ⟨3, 3, .w1c⟩, ⟨2, 2, .w1c⟩, ⟨1, 1, .w1c⟩, ⟨0, 0, .w1c⟩]⟩,
  ⟨0x20C00010, 0x4, 1, 0x4, 1, 0x0#32, [⟨26, 24, .rw⟩, ⟨19, 16, .rw⟩, ⟨12, 8, .rw⟩, ⟨3, 0, .rw⟩]⟩,
  ⟨0x20C00014, 0x4, 1, 0x4, 1, 0x4002#32, [⟨15, 8, .rwl⟩, ⟨1, 1, .rwl⟩, ⟨0, 0, .rwl⟩]⟩,
  ⟨0x20C00018, 0x4, 1, 0x4, 1, 0x0#32, [⟨24, 16, .rwl⟩, ⟨8, 0, .rwl⟩]⟩,
  ⟨0x20C0001C, 0x4, 1, 0x4, 1, 0x0#32, [⟨8, 0, .rwl⟩]⟩,
  ⟨0x20C00020, 0x4, 1, 0x4, 1, 0x21#32, [⟨7, 0, .rwl⟩]⟩,
  ⟨0x20C00024, 0x4, 1, 0x4, 1, 0x0#32, [⟨31, 16, .ro⟩, ⟨15, 0, .ro⟩]⟩,
  ⟨0x20C00028, 0x4, 1, 0x4, 1, 0x0#32, [⟨31, 16, .rc⟩, ⟨15, 0, .rc⟩]⟩,
  ⟨0x20C0002C, 0x4, 1, 0x4, 1, 0x0#32, [⟨31, 16, .rc⟩, ⟨15, 0, .rc⟩]⟩,
  ⟨0x20C00100, 0x4, 112, 0x4, 1, 0x0#32, [⟨31, 0, .rw⟩]⟩ ]

/-- Register table of the block at 0x20D00000. -/
def rvRegs : List RegRow :=
  [
  ⟨0x20D00000, 0x4, 1, 0x4, 1, 0x0#32, [⟨0, 0, .rw⟩]⟩,
  ⟨0x20D00004, 0x4, 1, 0x4, 1, 0x0#32, [⟨18, 16, .wo⟩, ⟨15, 0, .wo⟩]⟩,
  ⟨0x20D00008, 0x4, 1, 0x4, 1, 0x0#32, [⟨31, 31, .ro⟩, ⟨30, 30, .ro⟩, ⟨29, 29, .ro⟩, ⟨28, 28, .ro⟩, ⟨1, 0, .ro⟩]⟩,
  ⟨0x20D0000C, 0x4, 1, 0x4, 1, 0x0#32, [⟨16, 16, .w1c⟩, ⟨9, 9, .w1c⟩, ⟨8, 8, .w1c⟩, ⟨2, 2, .w1c⟩, ⟨1, 1, .w1c⟩, ⟨0, 0, .w1c⟩]⟩,
  ⟨0x20D00010, 0x4, 1, 0x4, 1, 0x0#32, [⟨16, 16, .rw⟩, ⟨9, 8, .rw⟩, ⟨2, 0, .rw⟩]⟩,
  ⟨0x20D00014, 0x4, 1, 0x4, 1, 0x0#32, [⟨31, 31, .ro⟩, ⟨18, 16, .ro⟩, ⟨4, 0, .w1c⟩]⟩,
  ⟨0x20D00018, 0x4, 1, 0x4, 1, 0x0#32, [⟨23, 0, .ro⟩]⟩,
  ⟨0x20D0001C, 0x4, 1, 0x4, 1, 0x0#32, [⟨23, 0, .ro⟩]⟩,
  ⟨0x20D00100, 0x10, 16, 0x4, 1, 0x7000#32, [⟨31, 24, .rw⟩, ⟨23, 16, .rw⟩, ⟨14, 12, .rw⟩, ⟨9, 9, .rw⟩, ⟨8, 8, .rw⟩, ⟨2, 0, .rw⟩]⟩,
  ⟨0x20D00104, 0x10, 16, 0x4, 1, 0x0#32, [⟨23, 0, .rw⟩]⟩,
  ⟨0x20D00108, 0x10, 16, 0x4, 1, 0x0#32, [⟨23, 0, .rw⟩]⟩,
  ⟨0x20D0010C, 0x10, 16, 0x4, 1, 0x0#32, [⟨23, 0, .rw⟩]⟩,
  ⟨0x20D00200, 0x4, 8, 0x4, 1, 0x7000#32, [⟨23, 16, .rw⟩, ⟨14, 12, .rw⟩, ⟨9, 9, .rw⟩, ⟨8, 8, .rw⟩, ⟨2, 2, .rw⟩, ⟨0, 0, .rw⟩]⟩ ]

/-- Register table of the block at 0x20E00000. -/
def poldRegs : List RegRow :=
  [
  ⟨0x20E00000, 0x4, 1, 0x4, 1, 0x0#32, [⟨31, 31, .w1s⟩, ⟨8, 8, .rwl⟩, ⟨3, 0, .rwl⟩]⟩,
  ⟨0x20E00004, 0x4, 1, 0x4, 1, 0x0#32, [⟨31, 31, .ro⟩, ⟨30, 30, .ro⟩, ⟨29, 29, .ro⟩, ⟨28, 28, .ro⟩, ⟨27, 26, .ro⟩, ⟨0, 0, .ro⟩]⟩,
  ⟨0x20E00008, 0x4, 1, 0x4, 1, 0x0#32, [⟨27, 27, .w1c⟩, ⟨26, 26, .w1c⟩, ⟨25, 25, .w1c⟩, ⟨24, 24, .w1c⟩, ⟨21, 21, .w1c⟩, ⟨20, 20, .w1c⟩, ⟨19, 19, .w1c⟩, ⟨18, 18, .w1c⟩, ⟨17, 17, .w1c⟩, ⟨16, 16, .w1c⟩, ⟨8, 8, .w1c⟩, ⟨0, 0, .w1c⟩]⟩,
  ⟨0x20E0000C, 0x4, 1, 0x4, 1, 0x0#32, [⟨27, 24, .rw⟩, ⟨21, 16, .rw⟩, ⟨8, 8, .rw⟩, ⟨0, 0, .rw⟩]⟩,
  ⟨0x20E00010, 0x4, 1, 0x4, 1, 0x0#32, [⟨31, 24, .wo⟩, ⟨23, 16, .wo⟩, ⟨15, 0, .wo⟩]⟩,
  ⟨0x20E00014, 0x4, 1, 0x4, 1, 0x0#32, [⟨31, 0, .rw⟩]⟩,
  ⟨0x20E00018, 0x4, 1, 0x4, 1, 0x0#32, [⟨31, 31, .ro⟩, ⟨30, 30, .ro⟩, ⟨23, 16, .ro⟩, ⟨12, 8, .ro⟩, ⟨3, 0, .ro⟩]⟩,
  ⟨0x20E0001C, 0x4, 1, 0x4, 1, 0x0#32, [⟨31, 16, .rc⟩, ⟨15, 0, .rc⟩]⟩,
  ⟨0x20E00040, 0x4, 16, 0x4, 1, 0x0#32, [⟨31, 0, .ro⟩]⟩,
  ⟨0x20E00100, 0x4, 32, 0x4, 1, 0x0#32, [⟨31, 0, .ro⟩]⟩ ]

/-- Register table of the block at 0x20F00000. -/
def queueRegs : List RegRow :=
  [
  ⟨0x20F00000, 0x4, 1, 0x4, 1, 0x0#32, [⟨31, 31, .w1s⟩]⟩,
  ⟨0x20F00004, 0x4, 1, 0x4, 1, 0x0#32, [⟨1, 1, .w1c⟩, ⟨0, 0, .w1c⟩]⟩,
  ⟨0x20F00008, 0x4, 1, 0x4, 1, 0x0#32, [⟨15, 0, .rc⟩]⟩,
  ⟨0x20F0000C, 0x4, 1, 0x4, 1, 0x100#32, [⟨10, 0, .ro⟩]⟩,
  ⟨0x20F00010, 0x4, 1, 0x4, 1, 0x0#32, [⟨31, 0, .w1c⟩]⟩,
  ⟨0x20F00014, 0x4, 1, 0x4, 1, 0x0#32, [⟨31, 0, .w1c⟩]⟩,
  ⟨0x20F00100, 0x40, 32, 0x4, 1, 0x8#32, [⟨31, 30, .rwl⟩, ⟨27, 24, .rwl⟩, ⟨21, 21, .rwl⟩, ⟨20, 20, .rwl⟩, ⟨19, 16, .rwl⟩, ⟨12, 12, .rwl⟩, ⟨6, 0, .rwl⟩]⟩,
  ⟨0x20F00104, 0x40, 32, 0x4, 1, 0x0#32, [⟨1, 1, .w1s⟩, ⟨0, 0, .rw⟩]⟩,
  ⟨0x20F00108, 0x40, 32, 0x4, 1, 0x0#32, [⟨31, 31, .ro⟩, ⟨30, 30, .ro⟩, ⟨22, 16, .ro⟩, ⟨14, 8, .ro⟩, ⟨6, 0, .ro⟩]⟩,
  ⟨0x20F0010C, 0x40, 32, 0x4, 1, 0x0#32, [⟨31, 16, .rc⟩, ⟨15, 0, .rc⟩]⟩,
  ⟨0x20F00110, 0x40, 32, 0x4, 1, 0x0#32, [⟨31, 16, .rc⟩, ⟨15, 0, .rc⟩]⟩,
  ⟨0x20F00114, 0x40, 32, 0x4, 1, 0x0#32, [⟨15, 0, .wo⟩]⟩,
  ⟨0x20F00118, 0x40, 32, 0x4, 1, 0x0#32, [⟨15, 0, .wo⟩]⟩,
  ⟨0x20F0011C, 0x40, 32, 0x4, 1, 0x0#32, [⟨31, 0, .ro⟩]⟩,
  ⟨0x20F00120, 0x40, 32, 0x4, 1, 0x0#32, [⟨31, 0, .ro⟩]⟩,
  ⟨0x20F00124, 0x40, 32, 0x4, 1, 0x0#32, [⟨31, 0, .ro⟩]⟩ ]

/-- Register table of the block at 0x21000000. -/
def lifeRegs : List RegRow :=
  [
  ⟨0x21000000, 0x4, 1, 0x4, 1, 0x0#32, [⟨31, 31, .w1s⟩, ⟨1, 0, .rwl⟩]⟩,
  ⟨0x21000004, 0x4, 1, 0x4, 1, 0x0#32, [⟨31, 31, .ro⟩, ⟨19, 16, .ro⟩, ⟨15, 8, .ro⟩, ⟨5, 4, .ro⟩, ⟨1, 0, .ro⟩]⟩,
  ⟨0x21000008, 0x4, 1, 0x4, 1, 0x0#32, [⟨2, 2, .w1c⟩, ⟨1, 1, .w1c⟩, ⟨0, 0, .w1c⟩]⟩,
  ⟨0x2100000C, 0x4, 1, 0x4, 1, 0x0#32, [⟨2, 0, .rw⟩]⟩,
  ⟨0x21000010, 0x4, 1, 0x4, 1, 0x0#32, [⟨31, 16, .wo⟩, ⟨15, 8, .wo⟩, ⟨3, 0, .wo⟩]⟩,
  ⟨0x21000014, 0x4, 1, 0x4, 1, 0x0#32, [⟨11, 8, .ro⟩, ⟨3, 0, .ro⟩]⟩,
  ⟨0x21000018, 0x4, 1, 0x4, 1, 0x0#32, [⟨31, 0, .ro⟩]⟩,
  ⟨0x21000020, 0x4, 8, 0x4, 1, 0x0#32, [⟨31, 0, .rw⟩]⟩,
  ⟨0x21000100, 0x4, 16, 0x4, 1, 0x0#32, [⟨31, 0, .ro⟩]⟩ ]

/-- The rows of the block window that holds an address (R36). -/
def blockRegs (a : Nat) : List RegRow :=
  match a / 0x100000 with
  | 0x200 => sysRegs
  | 0x201 => sluRegs
  | 0x203 => afeRegs
  | 0x204 => vibRegs
  | 0x202 => loomRegs
  | 0x205 => dioRegs
  | 0x206 => canRegs
  | 0x207 => ethRegs
  | 0x208 => storeRegs
  | 0x209 => tickRegs
  | 0x20A => dispRegs
  | 0x20B => perfRegs
  | 0x20C => selvRegs
  | 0x20D => rvRegs
  | 0x20E => poldRegs
  | 0x20F => queueRegs
  | 0x210 => lifeRegs
  | _ => []

/-- A word of a channel's shadow or active coefficient set after reset (R128, R144): 1.0 for c[1][0], SIGSCL, TSCL, SPAN and
every GAIN[r]; every other word of every window zero. -/
def setReset (a : Nat) : Word :=
  let o := a % 0x100
  if 0x20308000 ≤ a ∧ a < 0x20310000 ∧ (o = 0x0C ∨ o = 0x40 ∨ o = 0x48 ∨ o = 0x4C ∨ (0x80 ≤ o ∧ o < 0xC0 ∧ o % 8 = 4)) then
    0x3F800000
  else 0

/-- Is address `a` one of the row's instances? -/
def RegRow.holds (r : RegRow) (a : Nat) : Bool :=
  decide (r.base ≤ a) && decide ((a - r.base) / r.s1 < r.c1) && decide (((a - r.base) % r.s1) % r.s2 = 0)
    && decide (((a - r.base) % r.s1) / r.s2 < r.c2)

/-- The row that assigns an address, if any (R38). -/
def regRow (a : Nat) : Option RegRow := (blockRegs a).find? (·.holds a)

/-- The reset value of the word at a register address: the table's, and zero where no row assigns it (R9, R38). -/
def resetVal (a : Nat) : Word := match regRow a with
  | some r => r.reset
  | none => setReset a

end Sys2Proof.Machine
end

