-- ==== Sys2Proof/Machine/TypesAfe.lean ====
section
/-! DEFINITION. The kinds of data the analog front end's state is made of (R74 to R144). -/

namespace Sys2Proof.Machine

/-- A sample record of the AFE-to-WARP sluice (R96). `pend` holds the pending mask: 1 CAL, 2 BLK, 4 RNG, 8 IMP, 16 DUP. -/
structure SampleRec where
  repl  : Bool := false
  range : Nat := 0
  gen   : Nat := 0
  pend  : Nat := 0
  qual  : Nat := 0
  chan  : Nat := 0
  value : Word := 0
  stamp : Stamp := {}
  deriving DecidableEq, Repr

/-- A clearance record (R96): kind, pending bit, channel (127 for all) and bound. -/
structure ClearRec where
  kind  : Nat
  bit   : Nat
  chan  : Nat
  bound : Stamp
  deriving DecidableEq, Repr

/-- A record on the AFE-to-WARP sluice. -/
inductive AfeRec where
  | sample (r : SampleRec)
  | clear (r : ClearRec)
  deriving DecidableEq, Repr

/-- What the AFE sends to REEVE for a settled conversion of a designated channel (R109). -/
structure RvCode where
  chan  : Nat
  code  : Int
  range : Nat
  deriving DecidableEq, Repr

/-- An entry of the retention ring (R102, R137): the conversion, its type and excitation level, and the reference temperature and
loop resistance in force at its stamp. -/
structure RingEntry where
  chan  : Nat
  stamp : Stamp
  code  : Int
  range : Nat
  typ   : Nat
  exc   : Nat
  tref  : Word
  rimp  : Word
  deriving DecidableEq, Repr

/-- A delivered sample with pending bits: what the AFE needs to settle it (R86, R107, R134, R142). `src` is the stamp of the
conversion whose code its value was computed from, `win` the window it was delivered under (R108), `rimp` the loop resistance of
an impedance replacement (R142). -/
structure OpenSample where
  chan  : Nat
  stamp : Stamp
  src   : Stamp
  pend  : Nat
  qual  : Nat
  gen   : Nat
  value : Word
  range : Nat
  win   : Nat
  rimp  : Option Word := none
  deriving DecidableEq, Repr

/-- The conversion a range check decides on (R86): its code, range, type, excitation level, whether it was below clip, and the
generation it was delivered under (R138). -/
structure Trig where
  code  : Int
  range : Nat
  typ   : Nat
  exc   : Nat
  top   : Bool
  gen   : Nat
  deriving DecidableEq, Repr

/-- What a visit does (R80, R119, R121, R139). -/
inductive AfeKind where
  | live | zero | gain | cj | ref | imp | impSelf
  deriving DecidableEq, Repr

/-- A visit in progress: `req` conversions of the required discard count are still to come, `idx` have ended, `done` were
delivered, `ins` are settle discards of a range check (R85); `acc` are the codes a measuring visit averages, `need` of them. -/
structure AfeVisit where
  kind  : AfeKind := .live
  input : Nat := 0
  step  : Word := 0
  range : Nat := 0
  req   : Nat := 0
  idx   : Nat := 0
  done  : Nat := 0
  ins   : Nat := 0
  check : Bool := false
  open_ : List Stamp := []
  trig  : Option Trig := none
  cut   : Bool := false
  rev   : Nat := 0
  acc   : List Int := []
  need  : Nat := 0
  deriving DecidableEq, Repr

/-- What a group's step arbiter granted at the end of a visit (R92, R124). -/
inductive AfeGrant where
  | live
  | cj
  | cal (n : Nat)
  deriving DecidableEq, Repr

/-- A modulator group: its step queue (R91), the visit in progress, a pinned step that a calibration visit interrupted with the
conversions it has delivered, the input converted last while it converts (R80), whether a live visit is owed (R125), the rate in
force, the stock program's round, whether its sequencer was stopped, its modulator's fault, and the cold-junction request. -/
structure AfeGrp where
  on      : Bool := false
  queue   : List Word := []
  visit   : Option AfeVisit := none
  granted : Option AfeGrant := none
  resume  : Option (Word × Nat) := none
  last    : Option Nat := none
  owed    : Bool := false
  odr     : Nat := 0
  round   : Nat := 0
  stop    : Bool := false
  modFlt  : Bool := false
  cjFrom  : Nat := 0
  cjBase  : Nat := 0
  cjLev   : Nat := 3
  cjLvl   : Nat := 3
  cjLim   : Nat := 0
  deriving DecidableEq, Repr

/-- A rota request that waits: its effective level, and the programmed level and limit in force when it began to wait (R34, R123). -/
structure RotaReq where
  lvl : Nat
  lev : Nat
  lim : Nat
  deriving DecidableEq, Repr

/-- A channel beyond its registers: profile, excitation (TYPE, EXCLVL, BURN) and range in force (R79), range and rate of its previous
conversion (R81), a change that waits, the low-band run (R87), polarity and latest code of each polarity (R78), the last GOOD
value (R99), where its staleness interval began (R104), the stage (R129), the rota calibration in progress with its zero visit's
sum and count (R118), the rota request and the age's origin, none from the island's release on (R122), and the impedance check (R139 to R142). -/
structure AfeCh where
  cfg      : Word := 0
  rng      : Word := 0x107700
  exc      : Option (Nat × Nat × Bool) := none
  range    : Nat := 0
  prev     : Option (Nat × Nat) := none
  change   : Bool := false
  lowRun   : Nat := 0
  pol      : Bool := false
  codeP    : Option Int := none
  codeN    : Option Int := none
  good     : Word := 0x7FC00000
  stale    : Nat := 0
  stage    : Option Nat := none
  rota     : Option (Nat × Option (Int × Nat)) := none
  req      : Option RotaReq := none
  ageBase  : Nat := 0
  ageFrom  : Option Tick := none
  impReq   : Bool := false
  impOpen  : Bool := false
  impOff   : Option Nat := none
  impEnd   : Option Stamp := none
  impRes   : Word × Word := (0, 0)
  impOld   : Word := 0
  oldSets  : Tab (List Word) := []
  deriving DecidableEq, Repr

/-- The analog front end beyond its registers: groups, channels, the records on their way to WARP and REEVE, the retention ring, newest
first (R102), the delivered samples still pending, asserted pins and the sequencers' software sources (R105), holds in progress by
source as 1 + the edge of the release, held and pending calibration commands (R129, R132), and the shadow at the island's release (R122). -/
structure AfeSt where
  grp    : Tab AfeGrp := []
  ch     : Tab AfeCh := []
  out    : List AfeRec := []
  rvOut  : List RvCode := []
  ring   : List RingEntry := []
  pend   : List OpenSample := []
  pins   : Nat := 0
  seqSb  : Tab Nat := []
  hold   : Tab Nat := []
  held   : List (Nat × Nat) := []
  staged : List Nat := []
  rel    : Tick := 0
  deriving DecidableEq, Repr

end Sys2Proof.Machine
end

