-- ==== Sys2Proof/Machine/State.lean ====
section
/-! DEFINITION. The machine's state as plain data, what can stop a command, and the state right after power-on reset. -/

namespace Sys2Proof.Machine

/-- Why a command can stop the block with a fault. No command of the spec does: the type has the one reason that no
meaning raises, kept so that it is not empty. -/
inductive Fault where
  /-- Raised by no meaning. Safe: nothing follows from it. -/
  | none
  deriving DecidableEq, Repr

/-- Why a command can be refused. -/
inductive Refusal where
  /-- Raised by a dispatch arm whose command has no meaning yet, by the command's name in the table. Safe: the run stops. -/
  | notModelled (mnemonic : String)
  deriving DecidableEq, Repr

/-- The machine (R14, R36): the words of its registers by address, what the two initiators of accesses were last answered, what SYS, the
sluices, TICK, LIFE, the debug port, STORE with its NAND, AFE, VIB, HOST, the sequencers, the shuttles, WARP with its queues, DIOL with the
field side, COMMS with the controllers whose packets are on their way, SELV, DISP, the polder with its NOR, the Reeve with its triggers on their way, and PERF hold beyond their registers,
and the commands that wait, first in, first out. -/
structure State where
  regs    : Tab Word := []
  hostBus : BusReply := {}
  dbgBus  : BusReply := {}
  sys     : SysSt := {}
  slu     : SluSt := {}
  tick    : TickSt := {}
  life    : LifeSt := {}
  dbg     : DbgSt := {}
  store   : StoreSt := {}
  nand    : NandSt := {}
  afe     : AfeSt := {}
  vib     : VibSt := {}
  cpu     : HostSt := {}
  seq     : Tab Core := []
  sh      : Tab Shuttle := []
  loom    : LoomSt := {}
  que     : Tab Queue := []
  dio     : DioSt := {}
  comms   : List Nat := []
  can     : Tab CanSt := []
  links   : LinkSt := {}
  selv    : SelvSt := {}
  disp    : DispSt := {}
  pol     : PolSt := {}
  nor     : PolNor := {}
  rv      : RvSt := {}
  rvTrig  : List RvCause := []
  perf    : PerfSt := {}
  pending : List Instr := []
  deriving DecidableEq, Repr

/-- Right after a power-on reset of a CX-6416-M: SYS and TICK run, every other island is OFF, both main supplies are good, every register is at
its reset value, and no command waits (R9, R61, R62, R65). -/
def State.reset : State := { regs := [(SYS_SUPSTAT, 5)] }

end Sys2Proof.Machine
end

