-- ==== Sys2Proof/Machine/Tab.lean ====
section
/-! DEFINITION. Sparse tables: look a key up, store at a key. `d` is what an unlisted key reads as; storing it removes
the entry, so that equal contents are equal lists. -/

namespace Sys2Proof

/-- The value listed at key `i`, if any. -/
def tabFind {α : Type} : Tab α → Nat → Option α
  | [], _ => none
  | (k, v) :: t, i => if k = i then some v else tabFind t i

/-- The value at key `i`: the listed one, else `d i`. -/
def tabGet {α : Type} (d : Nat → α) (t : Tab α) (i : Nat) : α := (tabFind t i).getD (d i)

/-- List `v` at key `i`, in key order. -/
def tabPut {α : Type} : Tab α → Nat → α → Tab α
  | [], i, v => [(i, v)]
  | (k, w) :: t, i, v =>
    if i < k then (i, v) :: (k, w) :: t
    else if i = k then (i, v) :: t
    else (k, w) :: tabPut t i v

/-- Remove the entry at key `i`. -/
def tabDrop {α : Type} : Tab α → Nat → Tab α
  | [], _ => []
  | (k, w) :: t, i => if k = i then tabDrop t i else (k, w) :: tabDrop t i

/-- Store `v` at key `i`. -/
def tabSet {α : Type} [DecidableEq α] (d : Nat → α) (t : Tab α) (i : Nat) (v : α) : Tab α :=
  if v = d i then tabDrop t i else tabPut t i v

/-- Remove every entry whose key satisfies `p`. -/
def tabClear {α : Type} (p : Nat → Bool) (t : Tab α) : Tab α := t.filter (fun e => !p e.1)

/-- Change every listed value by `f`; an entry that comes to read as unlisted is removed. -/
def tabMap {α : Type} [DecidableEq α] (d : Nat → α) (f : Nat → α → α) (t : Tab α) : Tab α :=
  (t.map (fun e => (e.1, f e.1 e.2))).filter (fun e => decide (e.2 ≠ d e.1))

/-- Keys strictly rising. -/
def tabRising {α : Type} : Tab α → Bool
  | [] => true
  | [_] => true
  | (k, _) :: (l, w) :: t => decide (k < l) && tabRising ((l, w) :: t)

/-- The canonical form: keys strictly rising, no entry equal to what its key reads as unlisted. -/
def tabWf {α : Type} [DecidableEq α] (d : Nat → α) (t : Tab α) : Bool :=
  tabRising t && t.all (fun e => decide (e.2 ≠ d e.1))

end Sys2Proof
end

