-- ==== Sys2Proof/Machine/Ops.lean ====
section
/-! DEFINITION. The named operations over registers, flags, counters, stamps and islands that every meaning is built of. -/

namespace Sys2Proof.Machine

/-! ### Words and fields -/

/-- The bits of a field, all ones. -/
def Fld.mask (F : Fld) : Word := BitVec.ofNat 32 (2 ^ (F.hi + 1) - 2 ^ F.lo)

/-- The field [hi:lo] of a word. -/
def wget (w : Word) (hi lo : Nat) : Nat := w.toNat / 2 ^ lo % 2 ^ (hi + 1 - lo)

/-- A word with its field [hi:lo] replaced. -/
def wset (w : Word) (hi lo v : Nat) : Word :=
  let m : Word := BitVec.ofNat 32 (2 ^ (hi + 1) - 2 ^ lo)
  (w &&& ~~~m) ||| (BitVec.ofNat 32 (v % 2 ^ (hi + 1 - lo) * 2 ^ lo) &&& m)

/-- The word at a register address (R8, R9, R38). -/
def rd (s : State) (a : Nat) : Word := tabGet resetVal s.regs a

/-- The word at a register address replaced, whatever its access code: what hardware does to its own registers. -/
def wr (s : State) (a : Nat) (v : Word) : State := { s with regs := tabSet resetVal s.regs a v }

/-- The value of a field. -/
def fget (s : State) (F : Fld) : Nat := wget (rd s F.addr) F.hi F.lo

/-- A field replaced. -/
def fset (s : State) (F : Fld) (v : Nat) : State := wr s F.addr (wset (rd s F.addr) F.hi F.lo v)

/-- Is a one-bit field set? -/
def flag (s : State) (F : Fld) : Bool := decide (fget s F = 1)

/-- A one-bit field set. -/
def setF (s : State) (F : Fld) : State := fset s F 1

/-- A one-bit field cleared. -/
def clrF (s : State) (F : Fld) : State := fset s F 0

/-- A one-bit field at a truth value. -/
def putF (s : State) (F : Fld) (b : Bool) : State := fset s F b.toNat

/-- Bit `i` of a field of flags set (R11). -/
def setBit (s : State) (F : Fld) (i : Nat) : State := fset s F (fget s F ||| 2 ^ i)

/-- Bit `i` of a field of flags cleared. -/
def clrBit (s : State) (F : Fld) (i : Nat) : State := 
  if (fget s F).testBit i then fset s F (fget s F - 2 ^ i) else s

/-- Is bit `i` of a field set? -/
def getBit (s : State) (F : Fld) (i : Nat) : Bool := (fget s F).testBit i

/-- A count of events raised by `n`, saturating at the largest value of its field (R43). -/
def bumpBy (s : State) (F : Fld) (n : Nat) : State := fset s F (min (fget s F + n) (2 ^ (F.hi + 1 - F.lo) - 1))

/-- A count of events raised by one, saturating (R43). -/
def bump (s : State) (F : Fld) : State := bumpBy s F 1

/-- A state change made only if a condition holds. -/
def onlyIf (c : Bool) (f : State → State) (s : State) : State := if c then f s else s

/-- A state change made for every number below `n`, in rising order. -/
def forN (n : Nat) (f : Nat → State → State) (s : State) : State := (List.range n).foldl (fun s i => f i s) s

/-- A state change made for every item of a list, in order. -/
def forL {α : Type} (l : List α) (f : α → State → State) (s : State) : State := l.foldl (fun s x => f x s) s

/-! ### Islands, tick shadows and stamps (R14, R28 to R31, R53) -/

/-- The power state of an island. -/
def power (s : State) (i : Nat) : Power := tabGet (fun _ => .off) s.sys.power i

/-- An island's power state replaced. -/
def setPower (s : State) (i : Nat) (p : Power) : State :=
  { s with sys := { s.sys with power := tabSet (fun _ => .off) s.sys.power i p } }

/-- Is the island released and supplied? Islands 18 to 26 as DIOL sees them (R46). -/
def islUp (s : State) (i : Nat) : Bool := decide (power s i ≠ .off)

/-- An island's shadow of the tick count (R29). -/
def shadow (s : State) (i : Nat) : Tick := tabGet (fun _ => 0) s.sys.shadow i

/-- How many tick edges an island has recognised: what timers in tick periods count (R22, R382). -/
def edges (s : State) (i : Nat) : Nat := tabGet (fun _ => 0) s.sys.edges i

/-- Have `us` microseconds passed on island `i` since its tick edge `e`? The moments lie anywhere in their tick periods. -/
def lapsed (s : State) (i e us : Nat) : Bool := decide (us * 512 ≤ (edges s i + 1 - e) * 15625)

/-- An island's sub-tick count (R30). -/
def subTick (s : State) (i : Nat) : BitVec 16 := tabGet (fun _ => 0) s.sys.sub i

/-- The sub-tick count an event of the island occurs at. -/
def atSub (i : Nat) (b : BitVec 16) (s : State) : State :=
  { s with sys := { s.sys with sub := tabSet (fun _ => 0) s.sys.sub i b } }

/-- The stamp an island gives to an event now (R12). -/
def stampOf (s : State) (i : Nat) : Stamp := ⟨shadow s i, subTick s i⟩

/-- The messages on their way from TICK to an island. -/
def inbox (s : State) (i : Nat) : List TickMsg := tabGet (fun _ => []) s.sys.inbox i

def setInbox (s : State) (i : Nat) (l : List TickMsg) : State :=
  { s with sys := { s.sys with inbox := tabSet (fun _ => []) s.sys.inbox i l } }

def setShadow (s : State) (i : Nat) (t : Tick) : State :=
  { s with sys := { s.sys with shadow := tabSet (fun _ => 0) s.sys.shadow i t } }

def setEdges (s : State) (i : Nat) (n : Nat) : State :=
  { s with sys := { s.sys with edges := tabSet (fun _ => 0) s.sys.edges i n } }

/-- Does island `i` hold a tick shadow (R29)? -/
def hasShadow (i : Nat) : Bool := i == 0 || (2 ≤ i && i ≤ 16)

/-- Was the count loaded while the island slept (R29)? -/
def loadSeen (s : State) (i : Nat) : Bool := tabGet (fun _ => false) s.sys.loadSeen i

def setLoadSeen (s : State) (i : Nat) (b : Bool) : State :=
  { s with sys := { s.sys with loadSeen := tabSet (fun _ => false) s.sys.loadSeen i b } }

/-- An island's own event returns it from IDLE to RUN (R53). -/
def stir (i : Nat) (s : State) : State := if power s i = .idle then setPower s i .run else s

/-- Does an island run: its clock runs, or is only gated (R53)? Islands 18 to 26 run on their field supplies (R316). -/
def running (s : State) (i : Nat) : Bool :=
  if 18 ≤ i ∧ i ≤ 26 then (tabGet (fun _ => {}) s.dio.banks (i - 18)).on else power s i == .run || power s i == .idle

/-- The tick edges by which a source counts its handshakes' timeouts; POLDER recognises none and SYS counts for it (R22, R28; DESIGN CHOICE). -/
def waitEdges (s : State) (src : Nat) : Nat := edges s (if src = 17 then 0 else src)

/-- An island becomes awake: the timeouts of the words that wait for it are counted from now (R22). -/
def restartWaits (i : Nat) (s : State) : State :=
  { s with slu := { s.slu with sluices := s.slu.sluices.map (fun e =>
      if e.1 % 32 == i && e.2.req && !e.2.ack then (e.1, { e.2 with since := waitEdges s (e.1 / 32) }) else e) } }

/-- An island starts to run, or wakes: its clock runs, its shadow is loaded from TICK and its sub-tick count is zero (R29, R54). -/
def runIsland (i : Nat) (s : State) : State :=
  let s := restartWaits i (setInbox (setPower s i .run) i [])
  if hasShadow i then setShadow (atSub i 0 s) i s.tick.count else s

end Sys2Proof.Machine
end

