-- ==== Sys2Proof/Machine/Access.lean ====
section
/-! DEFINITION. The host address map, what answers an access, and the errors the fabric reports (R20 to R24, R36 to R38, R46, R48). -/

namespace Sys2Proof.Machine

/-- The regions of the host address map (R36); a block is named by its window's number from 0x2000_0000. -/
inductive Region where
  | rom | sram | warp
  | block (b : Nat)
  | hole
  deriving DecidableEq, Repr

/-- The region an address falls in (R36). -/
def region (a : Nat) : Region :=
  if a < 0x10000 then .rom
  else if 0x04000000 ≤ a ∧ a < 0x04400000 then .sram
  else if 0x10000000 ≤ a ∧ a < 0x10200000 then .warp
  else if 0x20000000 ≤ a ∧ a < 0x21100000 then .block ((a - 0x20000000) / 0x100000)
  else .hole

/-- The island that answers a block's window (R36). -/
def blockIsland (b : Nat) : Nat :=
  match b with
  | 2 => 3 | 3 => 8 | 4 => 9 | 5 => 10 | 6 => 11 | 7 => 11 | 8 => 12 | 10 => 13 | 11 => 15 | 12 => 14 | 13 => 16 | 15 => 3
  | _ => 0

/-- The island that answers an address. -/
def addrIsland (a : Nat) : Nat :=
  match region a with
  | .warp => 3
  | .block b => blockIsland b
  | .hole => Config.holeIsland (BitVec.ofNat 32 a) % 32
  | _ => 2

/-- The source island of an initiator's accesses. -/
def iniIsland : Initiator → Nat
  | .host => 2
  | .debug => 0

/-- The debug access level: 0 OFF, 1 BASIC, 2 EXPERT (R374, R527). -/
def dbgMax (s : State) : Nat :=
  match s.life.state with
  | .blank => 2
  | .develop => 2
  | .field => fget s LIFE_CTL_DBGGRANT
  | .custody => 1

def dbgLevel (s : State) : Nat :=
  if dbgMax s = 0 then 0 else if s.dbg.expert && dbgMax s == 2 then 2 else 1

/-- An initiator's reply replaced. -/
def setReply (i : Initiator) (r : BusReply) (s : State) : State :=
  match i with
  | .host => { s with hostBus := r }
  | .debug => { s with dbgBus := r }

/-- An error of the fabric: its SLU_ERRSTAT bit, and the capture of the first (R46, R48). -/
def sluError (kind src dst : Nat) (addr : Word) (s : State) : State :=
  let s' := wr s SLU_ERRSTAT (rd s SLU_ERRSTAT ||| BitVec.ofNat 32 (2 ^ kind))
  if flag s SLU_ERRINFO_VALID then s'
  else wr (wr s' SLU_ERRINFO (BitVec.ofNat 32 (0x80000000 + dst % 32 * 65536 + src % 32 * 256 + kind))) SLU_ERRADDR addr

/-- An access that ends with a bus error (R23, R24). -/
def busError (i : Initiator) (e : BusErr) (a : Nat) (s : State) : State :=
  let s := setReply i ⟨0, some e⟩ s
  let addr := BitVec.ofNat 32 a
  match e with
  | .timeout => bump (sluError 0 (iniIsland i) (addrIsland a) addr s) SLU_TMOCNT_COUNT
  | .offacc => sluError 2 (iniIsland i) (addrIsland a) addr s
  | .unmapped => sluError 3 (iniIsland i) (addrIsland a) addr s
  | .accerr => sluError 4 (iniIsland i) (addrIsland a) addr s
  | .other => s

/-- Both ends of every sluice of an island are reset (R19). -/
def dropSluices (i : Nat) (s : State) : State :=
  { s with slu := { s.slu with
      sluices := tabClear (fun k => k / 32 == i || k % 32 == i) s.slu.sluices
      open_ := s.slu.open_.filter (fun r => r.src != i && r.dst != i) } }

/-- The bus error, if any, that the fabric answers an access to an address with (R24, R38), whatever its width. -/
def accError (s : State) (a : Nat) : Option BusErr :=
  match region a with
  | .hole => some .unmapped
  | .block b => if b = 14 ∧ s.sys.variantM = false then some .offacc
                else if islUp s (blockIsland b) then none else some .offacc
  | .warp => if islUp s 3 then none else some .offacc
  | _ => if islUp s 2 then none else some .offacc

/-- STORE's calendar advanced by one second, kept among the latest 64 with the number of its second (R413). -/
def storeSecond (sec : Nat) (s : State) : State :=
  let c := (nextSecond s.store.cal).1
  { s with store := { s.store with cal := c, secs := ((sec, c) :: s.store.secs).take 64 } }

/-- STORE's calendar advanced by the `n` seconds that end with second `last` (R413). -/
def storeSeconds : Nat → Nat → State → State
  | 0, _, s => s
  | n + 1, last, s => storeSecond last (storeSeconds n (last - 1) s)

/-- STORE learns of a count load: CALV and the 64 seconds are cleared and CALINV is set (R413). -/
def storeCalInvalid (s : State) : State :=
  setF { clrF s REC_STAT_CALV with store := { s.store with secs := [] } } STORE_EVT_CALINV

/-- STORE's calendar at a shadow that goes from `a` to `b` by counting (R413). -/
def storeCalStep (a b : Tick) (s : State) : State :=
  if flag s REC_STAT_CALV then storeSeconds (secondsIn a b) (b.toNat / 32768) s else s

/-- Period clock `n` at a shadow that goes from `a` to `b`, by a count load or by counting (R407): a crossed multiple makes its close
due, and so does every edge that STORE recognises where PER is zero. -/
def periodStep (edge load : Bool) (a b : Tick) (n : Nat) (s : State) : State :=
  let m := fget s ⟨REC_PER0 + 4 * n, 19, 0⟩ * 32768
  let hit := (m == 0 && edge) || (m != 0 && decide (a.toNat < b.toNat) && decide (a.toNat / m < b.toNat / m))
  if getBit s ⟨REC_PER0 + 4 * n, 31, 0⟩ 31 && !flag s REC_STAT_FROZEN && hit then
    let d := tabGet (fun _ => {}) s.store.due n
    { s with store := { s.store with due := tabSet (fun _ => {}) s.store.due n ⟨true, d.skip || (load && m != 0)⟩ } }
  else s

/-- STORE's calendar and period clocks at a shadow that goes from `a` to `b`, at a tick edge or at a wake (R407, R413). -/
def storeStep (edge load : Bool) (a b : Tick) (s : State) : State :=
  let s := if load then storeCalInvalid s else storeCalStep a b s
  periodStep edge load a b 1 (periodStep edge load a b 0 s)

/-- A sleeping island wakes: it runs with its shadow loaded, and STORE treats its calendar and period clocks by whether a count load was missed
(R29, R54, R413). -/
def wakeIsland (i : Nat) (s : State) : State :=
  let old := shadow s i
  let seen := loadSeen s i
  let s := setLoadSeen (runIsland i s) i false
  if i = 12 then storeStep false seen old s.tick.count s else s

/-- A sluice request reaches an island: it wakes from SLEEP and returns to RUN from IDLE (R22, R53). -/
def rouse (i : Nat) (s : State) : State :=
  match power s i with
  | .sleep => wakeIsland i s
  | .idle => setPower s i .run
  | _ => s

/-- What a control word of the host holds after reset (R168). -/
def cwReset (n : Nat) : Word := if n = 0x100 then 4 else if n = 0x104 then 0x40 else 0

def cwGet (s : State) (n : Nat) : Word := tabGet cwReset s.cpu.cw n

/-- Is the host in privileged mode (R182)? -/
def hostPriv (s : State) : Bool := wget (cwGet s 0x100) 2 2 == 1

/-- May user mode read an address of the PERF window while UREAD is set (R523)? -/
def perfUser (a : Nat) : Bool :=
  a == PERF_STAT || (decide (PERF_VAL 0 ≤ a) && decide (a < PERF_VAL 64)) || (decide (PERF_BWWORDS 0 ≤ a) && decide (a < PERF_BWSTALL 8))

/-- The bus error, if any, of an access by an initiator: the fabric's, or PERF's to user mode (R24, R38, R523). -/
def busFault (i : Initiator) (write : Bool) (s : State) (a : Nat) : Option BusErr :=
  match accError s a with
  | some e => some e
  | none =>
    if i = .host ∧ hostPriv s = false ∧ region a = .block 11 ∧ (write || !(flag s PERF_CTL_UREAD && perfUser a)) then some .other
    else none

/-- A write that ends with a bus error; the host takes the first at a boundary between instructions (R24, R185). -/
def writeError (i : Initiator) (e : BusErr) (a : Nat) (s : State) : State :=
  let s := busError i e a s
  if i = .host ∧ s.cpu.posted = none then { s with cpu := { s.cpu with posted := some (BitVec.ofNat 32 a) } } else s

/-- May an initiator make a write (R374, R527)? -/
def mayWrite (i : Initiator) (s : State) : Bool :=
  match i with
  | .host => true
  | .debug => decide (dbgLevel s ≥ 1) && decide (s.life.state ≠ .custody)

/-- Must an access wait: for the initiator's own read that STORE or TICK has not yet answered (R20, R381, R415), or for warp memory to be cleared
(R227)? Until then the command of it has no effect (DESIGN CHOICE). -/
def behindRead (i : Initiator) (a : Nat) (s : State) : Bool :=
  (region a == .warp && flag s LOOM_STAT_CLR) || (region a == .block 8 && s.store.held.any (fun h => h.1 == i)) || (region a == .block 9 && s.tick.reads.any (fun r => r.1 == i))

/-- The access of a word on a sluice ends with a bus error (R23, R185). -/
def wordError (e : BusErr) (w : SluiceWord) (s : State) : State :=
  match w.acc with
  | some (ini, a) => if w.wr then writeError ini e a.toNat s else busError ini e a.toNat s
  | none => s

/-- A word write by an initiator to an address, whose effect in the block is `f` (R20, R24). -/
def access (i : Initiator) (a : Nat) (f : State → State) (s : State) : State :=
  if mayWrite i s then
    match busFault i true s a with
    | some e => writeError i e a s
    | none => if behindRead i a s then s else f (setReply i ⟨0, none⟩ (rouse (addrIsland a) s))
  else s

/-- A word read by an initiator from an address, whose value and effect in the block `f` gives (R20, R24). -/
def accessRead (i : Initiator) (a : Nat) (f : State → Word × State) (s : State) : State :=
  if i = .host ∨ dbgLevel s ≥ 1 then
    match busFault i false s a with
    | some e => busError i e a s
    | none => if behindRead i a s then s else let p := f (rouse (addrIsland a) s); setReply i ⟨p.1, none⟩ p.2
  else s

/-- What an unlisted byte of host SRAM reads as: zero, or in the boot ROM's working space, once used, a free value (R529). -/
def sramFill (boots o : Nat) : Byte := if boots = 0 ∨ o < 0x3C0000 then 0 else Config.bootScratch boots o

end Sys2Proof.Machine
end

