-- ==== Sys2Proof/Machine/Float.lean ====
section
/-! DEFINITION. IEEE 754 arithmetic rounded to nearest, ties to even, subnormals kept, NaN results canonical (R113, R177 to
R181), for binary32 and, in the polder, binary64. Flags are NV 16, DZ 8, OF 4, UF 2, NX 1. -/

namespace Sys2Proof.Machine

/-- A binary interchange format: mantissa bits and exponent bits. -/
structure Fmt where
  mb : Nat
  eb : Nat
  deriving DecidableEq, Repr

def f32 : Fmt := ⟨23, 8⟩
def f64 : Fmt := ⟨52, 11⟩

/-- A floating-point value: a NaN (signalling or not), an infinity, or ±m × 2^e. -/
inductive FpVal where
  | nan (signalling : Bool)
  | inf (neg : Bool)
  | fin (neg : Bool) (m : Nat) (e : Int)
  deriving DecidableEq, Repr

/-- The bias of the exponent. -/
def Fmt.bias (F : Fmt) : Nat := 2 ^ (F.eb - 1) - 1

/-- The least exponent of a unit in the last place. -/
def Fmt.qmin (F : Fmt) : Int := 1 - (F.bias : Int) - F.mb

def fpQNaN (F : Fmt) : Nat := (2 ^ F.eb - 1) * 2 ^ F.mb + 2 ^ (F.mb - 1)
def fpSign (F : Fmt) (neg : Bool) : Nat := if neg then 2 ^ (F.mb + F.eb) else 0
def fpInf (F : Fmt) (neg : Bool) : Nat := fpSign F neg + (2 ^ F.eb - 1) * 2 ^ F.mb

/-- The value that a bit pattern spells. -/
def fpUnpack (F : Fmt) (b : Nat) : FpVal :=
  let neg := b.testBit (F.mb + F.eb)
  let ex := b / 2 ^ F.mb % 2 ^ F.eb
  let m := b % 2 ^ F.mb
  if ex = 2 ^ F.eb - 1 then (if m = 0 then .inf neg else .nan (!m.testBit (F.mb - 1)))
  else if ex = 0 then .fin neg m F.qmin
  else .fin neg (m + 2 ^ F.mb) (F.qmin + ex - 1)

/-- m × 2^e at the quantum 2^q, rounded to nearest even: the integer multiple of the quantum, and whether it is inexact. -/
def fpQuantize (m : Nat) (e q : Int) : Nat × Bool :=
  if q ≤ e then (m * 2 ^ (e - q).toNat, false)
  else
    let d := 2 ^ (q - e).toNat
    let n := m / d
    let r := m % d
    (if r * 2 > d ∨ (r * 2 = d ∧ n % 2 = 1) then n + 1 else n, decide (r ≠ 0))

/-- ±m × 2^e rounded into the format, with its flags; tiny is decided after rounding (R180). -/
def fpRound (F : Fmt) (neg : Bool) (m : Nat) (e : Int) : Nat × Nat :=
  if m = 0 then (fpSign F neg, 0)
  else
    let E : Int := m.log2 + e
    let q0 : Int := E - F.mb
    let q := max q0 F.qmin
    let r := fpQuantize m e q
    let n := if r.1 = 2 ^ (F.mb + 1) then 2 ^ F.mb else r.1
    let q := if r.1 = 2 ^ (F.mb + 1) then q + 1 else q
    let tiny := decide (q0 < F.qmin) && decide ((fpQuantize m e q0).1 < 2 ^ (F.mb + 1) ∨ q0 + 1 < F.qmin)
    let ex : Int := q - F.qmin + 1
    if n < 2 ^ F.mb then (fpSign F neg + n, if r.2 then 3 else 0)
    else if ex ≥ 2 ^ F.eb - 1 then (fpInf F neg, 5)
    else (fpSign F neg + ex.toNat * 2 ^ F.mb + (n - 2 ^ F.mb), (if r.2 then 1 else 0) + (if r.2 && tiny then 2 else 0))

/-- Is the bit pattern a signalling NaN? -/
def fpSnan (F : Fmt) (a : Nat) : Bool := match fpUnpack F a with
  | .nan s => s
  | _ => false

/-- The canonical NaN, with NV if an operand was signalling. -/
def fpNan2 (F : Fmt) (a b : Nat) : Nat × Nat := (fpQNaN F, if fpSnan F a || fpSnan F b then 16 else 0)

def fpNeg (F : Fmt) (a : Nat) : Nat := a ^^^ 2 ^ (F.mb + F.eb)

def fpAdd (F : Fmt) (a b : Nat) : Nat × Nat :=
  match fpUnpack F a, fpUnpack F b with
  | .nan _, _ => fpNan2 F a b
  | _, .nan _ => fpNan2 F a b
  | .inf s, .inf t => if s = t then (fpInf F s, 0) else (fpQNaN F, 16)
  | .inf s, _ => (fpInf F s, 0)
  | _, .inf t => (fpInf F t, 0)
  | .fin s m e, .fin t n f =>
    let g := min e f
    let x : Int := (if s then -1 else 1) * (m * 2 ^ (e - g).toNat : Nat)
    let y : Int := (if t then -1 else 1) * (n * 2 ^ (f - g).toNat : Nat)
    let z := x + y
    if z = 0 then (fpSign F (s && t), 0) else fpRound F (decide (z < 0)) z.natAbs g

def fpSub (F : Fmt) (a b : Nat) : Nat × Nat :=
  match fpUnpack F b with
  | .nan _ => fpNan2 F a b
  | _ => fpAdd F a (fpNeg F b)

def fpMul (F : Fmt) (a b : Nat) : Nat × Nat :=
  match fpUnpack F a, fpUnpack F b with
  | .nan _, _ => fpNan2 F a b
  | _, .nan _ => fpNan2 F a b
  | .inf s, .inf t => (fpInf F (s != t), 0)
  | .inf s, .fin t n _ => if n = 0 then (fpQNaN F, 16) else (fpInf F (s != t), 0)
  | .fin s m _, .inf t => if m = 0 then (fpQNaN F, 16) else (fpInf F (s != t), 0)
  | .fin s m e, .fin t n f => fpRound F (s != t) (m * n) (e + f)

def fpDiv (F : Fmt) (a b : Nat) : Nat × Nat :=
  match fpUnpack F a, fpUnpack F b with
  | .nan _, _ => fpNan2 F a b
  | _, .nan _ => fpNan2 F a b
  | .inf _, .inf _ => (fpQNaN F, 16)
  | .inf s, .fin t _ _ => (fpInf F (s != t), 0)
  | .fin s _ _, .inf t => (fpSign F (s != t), 0)
  | .fin s m e, .fin t n f =>
    if n = 0 then (if m = 0 then (fpQNaN F, 16) else (fpInf F (s != t), 8))
    else
      let k := 3 * F.mb + 8
      let p := m * 2 ^ k
      fpRound F (s != t) (2 * (p / n) + (if p % n = 0 then 0 else 1)) (e - f - k - 1)

/-- The integer square root of `n`, below 2^k. -/
def isqrt (n : Nat) : Nat → Nat → Nat
  | 0, r => r
  | k + 1, r => isqrt n k (if (r + 2 ^ k) * (r + 2 ^ k) ≤ n then r + 2 ^ k else r)

def fpSqrt (F : Fmt) (a : Nat) : Nat × Nat :=
  match fpUnpack F a with
  | .nan _ => fpNan2 F a 0
  | .inf false => (fpInf F false, 0)
  | .inf true => (fpQNaN F, 16)
  | .fin s m e =>
    if m = 0 then (a, 0)
    else if s then (fpQNaN F, 16)
    else
      let k := 2 * F.mb + 8 + (if (e - (2 * F.mb + 8 : Nat)) % 2 = 0 then 0 else 1)
      let p := m * 2 ^ k
      let r := isqrt p (p.log2 / 2 + 1) 0
      fpRound F false (2 * r + (if r * r = p then 0 else 1)) ((e - k) / 2 - 1)

/-- Order of two values neither of which is a NaN: less, equal. -/
def fpOrder (F : Fmt) (a b : Nat) : Bool × Bool :=
  match fpUnpack F a, fpUnpack F b with
  | .inf s, .inf t => (s && !t, s == t)
  | .inf s, _ => (s, false)
  | _, .inf t => (!t, false)
  | .fin s m e, .fin t n f =>
    let g := min e f
    let x : Int := (if s then -1 else 1) * (m * 2 ^ (e - g).toNat : Nat)
    let y : Int := (if t then -1 else 1) * (n * 2 ^ (f - g).toNat : Nat)
    (decide (x < y), decide (x = y))
  | _, _ => (false, false)

def fpIsNan (F : Fmt) (a : Nat) : Bool := match fpUnpack F a with
  | .nan _ => true
  | _ => false

/-- Is the value finite? -/
def fpFinite (F : Fmt) (a : Nat) : Bool := match fpUnpack F a with
  | .fin _ _ _ => true
  | _ => false

def fpIsZero (F : Fmt) (a : Nat) : Bool := match fpUnpack F a with
  | .fin _ m _ => decide (m = 0)
  | _ => false

/-- a < b, NV for any NaN (R180). -/
def fpLt (F : Fmt) (a b : Nat) : Bool × Nat :=
  if fpIsNan F a || fpIsNan F b then (false, 16) else ((fpOrder F a b).1, 0)

def fpLe (F : Fmt) (a b : Nat) : Bool × Nat :=
  if fpIsNan F a || fpIsNan F b then (false, 16) else ((fpOrder F a b).1 || (fpOrder F a b).2, 0)

/-- a = b, NV for a signalling NaN only (R180). -/
def fpEq (F : Fmt) (a b : Nat) : Bool × Nat :=
  if fpIsNan F a || fpIsNan F b then (false, if fpSnan F a || fpSnan F b then 16 else 0) else ((fpOrder F a b).2, 0)

/-- fmin and fmax (R179): −0 is less than +0, one NaN gives the other operand, two give the canonical NaN. -/
def fpMin (F : Fmt) (a b : Nat) : Nat × Nat :=
  let fl := if fpSnan F a || fpSnan F b then 16 else 0
  if fpIsNan F a then (if fpIsNan F b then (fpQNaN F, fl) else (b, fl))
  else if fpIsNan F b then (a, fl)
  else
    let o := fpOrder F a b
    (if o.1 || (o.2 && a.testBit (F.mb + F.eb)) then a else b, fl)

def fpMax (F : Fmt) (a b : Nat) : Nat × Nat :=
  let fl := if fpSnan F a || fpSnan F b then 16 else 0
  if fpIsNan F a then (if fpIsNan F b then (fpQNaN F, fl) else (b, fl))
  else if fpIsNan F b then (a, fl)
  else
    let o := fpOrder F a b
    (if o.1 || (o.2 && a.testBit (F.mb + F.eb)) then b else a, fl)

/-- class of fcls: 0 zero, 1 subnormal, 2 normal, 3 infinity, 4 quiet NaN, 5 signalling NaN. -/
def fpClass (F : Fmt) (a : Nat) : Nat :=
  match fpUnpack F a with
  | .nan s => if s then 5 else 4
  | .inf _ => 3
  | .fin _ m _ => if m = 0 then 0 else if m < 2 ^ F.mb then 1 else 2

/-- An integer converted. -/
def fpOfInt (F : Fmt) (z : Int) : Nat × Nat := fpRound F (decide (z < 0)) z.natAbs 0

/-- A value truncated towards zero, or none for a NaN or an infinity; and whether a fraction was cut. -/
def fpTrunc (F : Fmt) (a : Nat) : Option Int × Bool :=
  match fpUnpack F a with
  | .fin s m e =>
    let p : Nat × Bool := if 0 ≤ e then (m * 2 ^ e.toNat, false)
      else (m / 2 ^ (-e).toNat, decide (m % 2 ^ (-e).toNat ≠ 0))
    (some (if s then -(p.1 : Int) else p.1), p.2)
  | _ => (none, false)

/-- fcvtws: saturating conversion to a signed integer (R179, R180). -/
def fpToS32 (F : Fmt) (a : Nat) : Word × Nat :=
  match fpUnpack F a with
  | .nan _ => (0x7FFFFFFF, 16)
  | .inf s => (if s then 0x80000000 else 0x7FFFFFFF, 16)
  | .fin _ _ _ =>
    match fpTrunc F a with
    | (some z, fr) =>
      if z ≥ 2147483648 then (0x7FFFFFFF, 16)
      else if z < -2147483648 ∨ (z = -2147483648 ∧ fr) then (0x80000000, 16)
      else (BitVec.ofInt 32 z, if fr then 1 else 0)
    | (none, _) => (0x7FFFFFFF, 16)

/-- fcvtwu: saturating conversion to an unsigned integer (R179, R180). -/
def fpToU32 (F : Fmt) (a : Nat) : Word × Nat :=
  match fpUnpack F a with
  | .nan _ => (0xFFFFFFFF, 16)
  | .inf s => (if s then 0 else 0xFFFFFFFF, 16)
  | .fin _ _ _ =>
    match fpTrunc F a with
    | (some z, fr) =>
      if z ≥ 4294967296 then (0xFFFFFFFF, 16)
      else if z < 0 then (0, 16)
      else (BitVec.ofInt 32 z, if fr then 1 else 0)
    | (none, _) => (0xFFFFFFFF, 16)

/-- A value as an exact fraction, zero for a NaN or an infinity. -/
def fpRat (F : Fmt) (a : Nat) : Int × Nat :=
  match fpUnpack F a with
  | .fin s m e =>
    let z : Int := if s then -(m : Int) else m
    if 0 ≤ e then (z * 2 ^ e.toNat, 1) else (z, 2 ^ (-e).toNat)
  | _ => (0, 1)

/-- The fraction n/d, rounded into the format. -/
def fpOfRat (F : Fmt) (n : Int) (d : Nat) : Nat × Nat :=
  let k := 2 * F.mb + 8 + d.log2 + 1
  let p := n.natAbs * 2 ^ k
  fpRound F (decide (n < 0)) (2 * (p / d) + (if p % d = 0 then 0 else 1)) (-(k : Int) - 1)

/-- The square root of the fraction n/d, rounded into the format. -/
def fpSqrtRat (F : Fmt) (n d : Nat) : Nat × Nat :=
  let k := F.mb + 8 + d.log2 + 1
  let p := n * 4 ^ k / d
  let r := isqrt p (p.log2 / 2 + 1) 0
  fpRound F false (2 * r + (if r * r = p ∧ n * 4 ^ k % d = 0 then 0 else 1)) (-(k : Int) - 1)

/-! ### Words -/

abbrev qnan : Word := 0x7FC00000#32

def wAdd (a b : Word) : Word := BitVec.ofNat 32 (fpAdd f32 a.toNat b.toNat).1
def wSub (a b : Word) : Word := BitVec.ofNat 32 (fpSub f32 a.toNat b.toNat).1
def wMul (a b : Word) : Word := BitVec.ofNat 32 (fpMul f32 a.toNat b.toNat).1
def wDiv (a b : Word) : Word := BitVec.ofNat 32 (fpDiv f32 a.toNat b.toNat).1
def wLt (a b : Word) : Bool := (fpLt f32 a.toNat b.toNat).1
def wLe (a b : Word) : Bool := (fpLe f32 a.toNat b.toNat).1
def wEq (a b : Word) : Bool := (fpEq f32 a.toNat b.toNat).1
def wNan (a : Word) : Bool := fpIsNan f32 a.toNat
def wFinite (a : Word) : Bool := fpFinite f32 a.toNat
def wAbs (a : Word) : Word := a &&& 0x7FFFFFFF
def wOfInt (z : Int) : Word := BitVec.ofNat 32 (fpOfInt f32 z).1
def wSqrtRat (n d : Nat) : Word := BitVec.ofNat 32 (fpSqrtRat f32 n d).1
def wOfRat (n : Int) (d : Nat) : Word := BitVec.ofNat 32 (fpOfRat f32 n d).1

end Sys2Proof.Machine
end

