-- ==== Sys2Proof/Machine/AfeBase.lean ====
section
/-! DEFINITION. The analog front end's shared operations: groups and channels, ranges and full scales, linearisation, quality codes,
and the records it sends (R74 to R116). -/

namespace Sys2Proof.Machine

/-! ### Groups, channels, stamps -/

def afeGrp (s : State) (g : Nat) : AfeGrp := tabGet (fun _ => {}) s.afe.grp g

def setAfeGrp (g : Nat) (x : AfeGrp) (s : State) : State :=
  { s with afe := { s.afe with grp := tabSet (fun _ => {}) s.afe.grp g x } }

def afeCh (s : State) (n : Nat) : AfeCh := tabGet (fun _ => {}) s.afe.ch n

def setAfeCh (n : Nat) (x : AfeCh) (s : State) : State :=
  { s with afe := { s.afe with ch := tabSet (fun _ => {}) s.afe.ch n x } }

/-- The AFE's stamp of this moment (R97). -/
def afeNow (s : State) : Stamp := stampOf s 8

/-- A stamp as the 64-bit number its record carries (R96). -/
def Stamp.key (t : Stamp) : Nat := t.tick.toNat * 65536 + t.sub.toNat

def Stamp.le (a b : Stamp) : Bool := decide (a.key ≤ b.key)

/-- AFE cycles up to a stamp, 750 to a tick period. -/
def afeCycles (t : Stamp) : Nat := t.tick.toNat * 750 + t.sub.toNat

/-- A stamp less a number of AFE cycles (R107, R108). -/
def afeBack (t : Stamp) (w : Nat) : Stamp :=
  let c := afeCycles t - w
  ⟨BitVec.ofNat 48 (c / 750), BitVec.ofNat 16 (c % 750)⟩

/-- AFE cycles of an output period (R75). -/
def afePeriod (odr : Nat) : Nat := 1536 * 2 ^ odr

/-! ### Ranges and full scales (R76, R84, R88, R114) -/

def codeClip : Nat := 0x7C0000
def codeTop  : Nat := 0x700000
def codeLow  : Nat := 0x300000
def codeFull : Nat := 8388607

/-- The permitted ranges of a type (R76). -/
def permRange (t : Nat) : Nat × Nat :=
  match t with
  | 2 => (3, 7) | 3 => (0, 6) | 4 => (0, 6) | 5 => (0, 6) | 6 => (3, 7) | 7 => (0, 1) | 8 => (0, 1) | _ => (0, 7)

def clampRange (t r : Nat) : Nat := min (max r (permRange t).1) (permRange t).2

/-- The full scale of a range in the type's unit, as a fraction: V, Ω by the nominal excitation current, mV/V or mA (R76, R114). -/
def fullScale (t exc r : Nat) : Nat × Nat :=
  match t with
  | 1 => (5, 2 * 2 ^ r)
  | 2 => (5, 2 * 2 ^ r)
  | 3 => ([25000, 10000, 5000, 2500].getD exc 0, 2 ^ r)
  | 4 => ([25000, 10000, 5000, 2500].getD exc 0, 2 ^ r)
  | 5 => ([25000, 10000, 5000, 2500].getD exc 0, 2 ^ r)
  | 6 => (500, 2 ^ r)
  | 7 => (50, 2 ^ r)
  | 8 => (50, 2 ^ r)
  | _ => (0, 1)

/-- A channel's TYPE and EXCLVL: those in force, and before its first visit those written (R79). -/
def chCfg (s : State) (n : Nat) : Word := if (afeCh s n).exc = none then rd s (AFE_CHCFG n) else (afeCh s n).cfg

def cfgType (w : Word) : Nat := wget w 3 0
def cfgExc (w : Word) : Nat := wget w 5 4

/-- Is a code's signal below a limit of `a` / `b` in the type's unit? -/
def codeBelow (t exc r : Nat) (code : Int) (a b : Nat) : Bool :=
  let f := fullScale t exc r
  decide (code * (f.1 * b : Nat) < (a * f.2 * codeFull : Nat))

/-- Is a code's signal above a limit of `a` / `b` in the type's unit? -/
def codeAbove (t exc r : Nat) (code : Int) (a b : Nat) : Bool :=
  let f := fullScale t exc r
  decide (code * (f.1 * b : Nat) > (a * f.2 * codeFull : Nat))

/-- The nearest code to a mean `sum` / `cnt`; half way the spec gives no choice. -/
def meanCode (site : Nat) (sum : Int) (cnt : Nat) : Int :=
  let q := sum.fdiv cnt
  let r := sum.fmod cnt
  if 2 * r < cnt then q else if 2 * r > cnt then q + 1 else if Config.halfUp site (2 * q + 1) then q + 1 else q

/-! ### Linearisation (R113 to R116) -/

def activeBase (n : Nat) : Nat := 0x20308100 + 0x200 * n
def shadowBase (n : Nat) : Nat := 0x20308000 + 0x200 * n

/-- The words of a coefficient set, by word offset (R144). -/
def setWord (s : State) (base i : Nat) : Word := rd s (base + 4 * i)

/-- The 64 words of a channel's active set. -/
def activeSet (s : State) (n : Nat) : List Word := (List.range 64).map (setWord s (activeBase n))

def setAt (S : List Word) (i : Nat) : Word := S.getD i 0

/-- R113 with R115: the engineering value of a code under a coefficient set. -/
def linearise (S : List Word) (t exc r : Nat) (q : Int) (tref rimp kimp : Word) : Word :=
  let f := fullScale t exc r
  let u := wMul (wOfInt q) (wOfRat f.1 (f.2 * codeFull))
  let v := wMul (wSub u (setAt S (32 + 2 * r))) (setAt S (33 + 2 * r))
  let v := wSub v (wMul kimp rimp)
  let x := wDiv (wSub v (setAt S 15)) (setAt S 16)
  let tn := wDiv (wSub tref (setAt S 17)) (setAt S 18)
  let p := fun i => wAdd (setAt S (3 * i)) (wMul tn (wAdd (setAt S (3 * i + 1)) (wMul tn (setAt S (3 * i + 2)))))
  let y := wAdd (p 3) (wMul x (p 4))
  let y := wAdd (p 2) (wMul x y)
  let y := wAdd (p 1) (wMul x y)
  let y := wAdd (p 0) (wMul x y)
  if wFinite y then y else if y = 0xFF800000 then 0xFF7FFFFF else 0x7F7FFFFF

/-- The reference temperature in force for a channel (R116). -/
def trefOf (s : State) (n : Nat) : Word :=
  if flag s (AFE_CHCAL_TREF n) then rd s AFE_MODTEMP else rd s (AFE_CJTEMP (n / 4))

/-! ### Quality (R76, R98) -/

/-- The code used where several apply (R98). -/
def worstQual (l : List Nat) : Nat := ([15, 5, 6, 7, 2, 3, 4].find? (l.contains ·)).getD 0

/-- The codes a conversion carries by its sensor (R76) and by a clip (R88). `op` and `lim` are the analog comparators of R76: the source
out of compliance or the excitation current below its minimum, and a current at its limit. -/
def sensorQual (t exc r rmin : Nat) (burn : Bool) (code : Int) (op lim : Bool) : List Nat :=
  let clip := if code.natAbs ≥ codeClip then [if code > 0 then 3 else 4] else []
  match t with
  | 2 => if burn && decide (code ≥ codeClip) && r == rmin then 5 :: clip else clip
  | 3 => if op then 5 :: clip else if codeBelow t exc r code 5 1 then 6 :: clip else clip
  | 4 => if op then 5 :: clip else if codeBelow t exc r code 5 1 then 6 :: clip else clip
  | 5 => if op then 5 :: clip else if codeBelow t exc r code 5 1 then 6 :: clip else clip
  | 6 => if op then 5 :: clip else if lim then 6 :: clip else clip
  | 7 => if lim then 6 :: clip else if codeBelow t exc r code 1 1 then 5 :: clip
         else if codeBelow t exc r code 38 10 then 4 :: clip else if codeAbove t exc r code 205 10 then 3 :: clip else clip
  | 8 => if codeAbove t exc r code 225 10 then 6 :: clip else if codeBelow t exc r code 1 1 then 5 :: clip
         else if codeBelow t exc r code 38 10 then 4 :: clip else if codeAbove t exc r code 205 10 then 3 :: clip else clip
  | _ => clip

/-- A quality whose VALUE is the linearised value (R99). -/
def qualValued (q : Nat) : Bool := q == 0 || q == 2 || q == 3 || q == 4

/-! ### Records (R96, R101, R557) -/

def afeSend (r : AfeRec) (s : State) : State := { s with afe := { s.afe with out := s.afe.out ++ [r] } }

/-- A sample record enters the sluice: LASTQ follows it, and a GOOD value is remembered (R99, R557). -/
def sendSample (r : SampleRec) (s : State) : State :=
  let s := fset s (AFE_CHSTAT_LASTQ r.chan) r.qual
  let s := if r.qual = 0 then setAfeCh r.chan { afeCh s r.chan with good := r.value } s else s
  afeSend (.sample r) s

/-- Does a clearance record of a kind with a bound cover a stamp (R96)? -/
def clearCovers (kind : Nat) (bound t : Stamp) : Bool :=
  match kind with
  | 0 => t.le bound
  | 1 => bound.le t
  | _ => decide (t = bound)

/-- A clearance record enters the sluice, and the AFE's own account of pending samples follows it (R96, R101). -/
def sendClear (kind bit chan : Nat) (bound : Stamp) (s : State) : State :=
  let hit := fun (x : OpenSample) => (chan == 127 || x.chan == chan) && x.pend.testBit bit && clearCovers kind bound x.stamp
  let pend := if kind = 0 ∨ kind = 2 then
      (s.afe.pend.map (fun x => if hit x then { x with pend := x.pend - 2 ^ bit } else x)).filter (fun x => x.pend != 0)
    else s.afe.pend.filter (fun x => !hit x)
  afeSend (.clear ⟨kind, bit, chan, bound⟩) { s with afe := { s.afe with pend := pend } }

/-- The pending sample of a channel with a stamp. -/
def openSample (s : State) (n : Nat) (t : Stamp) : Option OpenSample :=
  s.afe.pend.find? (fun x => x.chan == n && x.stamp == t)

/-- A replacement of a pending sample (R86, R135, R142): a record with REPL, and the account follows it. -/
def sendReplacement (old new : OpenSample) (s : State) : State :=
  let pend := (s.afe.pend.map (fun x => if x.chan == old.chan && x.stamp == old.stamp then new else x)).filter
    (fun x => x.pend != 0)
  sendSample ⟨true, new.range, new.gen, new.pend, new.qual, new.chan, new.value, new.stamp⟩
    { s with afe := { s.afe with pend := pend } }

/-- The ring entry of a conversion, if it is still held (R102). -/
def ringFind (s : State) (n : Nat) (t : Stamp) : Option RingEntry :=
  s.afe.ring.find? (fun e => e.chan == n && e.stamp == t)

/-- Word 0 of a clearance record (R96). -/
def clearWord (r : ClearRec) : BitVec 64 :=
  BitVec.ofNat 64 (2 ^ 62 + r.kind % 4 * 2 ^ 60 + r.bit % 8 * 2 ^ 52 + r.chan % 128 * 2 ^ 38)

/-- The clearance record of a word 0 and a bound (R96). -/
def clearOfWord (w : BitVec 64) (bound : Stamp) : ClearRec :=
  ⟨w.toNat / 2 ^ 60 % 4, w.toNat / 2 ^ 52 % 8, w.toNat / 2 ^ 38 % 128, bound⟩

/-! ### Blanking state (R100, R105, R108) -/

/-- Does source `src` map channel `n`? -/
def blkMaps (s : State) (src n : Nat) : Bool :=
  if n < 32 then getBit s (AFE_BLKMAPLO_CH src) n else getBit s (AFE_BLKMAPHI_CH src) (n - 32)

/-- Is source `src` asserted: a pin, or a software source by the host or a sequencer (R105)? -/
def blkAsserted (s : State) (src : Nat) : Bool :=
  if src < 4 then s.afe.pins.testBit src
  else getBit s AFE_BLKSW_SB (src - 4) || (List.range 4).any (fun k => (tabGet (fun _ => 0) s.afe.seqSb k).testBit (src - 4))

/-- Is channel `n` blanked (R105)? -/
def chBlanked (s : State) (n : Nat) : Bool :=
  (List.range 8).any (fun src => getBit s AFE_BLKSTAT_ACT src && blkMaps s src n)

/-- The effective window (R108). -/
def effWindow (s : State) : Nat :=
  s.afe.pend.foldl (fun w x => if x.pend.testBit 1 then max w x.win else w) (fget s AFE_BLKWIN_WIN)

/-- BLK at delivery (R100): mapped to an enabled source, and the window is not zero. -/
def blkPend (s : State) (n : Nat) : Bool :=
  decide (fget s AFE_BLKWIN_WIN ≠ 0) && (List.range 8).any (fun src => flag s (AFE_BLKCFG_EN src) && blkMaps s src n)

/-- The clearance of BLK at an AFE tick edge (R108). -/
def blankTick (s : State) : State := sendClear 0 1 127 (afeBack (afeNow s) (effWindow s)) s

/-! ### The impedance window (R141) -/

/-- Does the impedance window of a channel overlap the filter span of a conversion that ends now? -/
def impOverlap (s : State) (n odr : Nat) : Bool :=
  let c := afeCh s n
  c.impOpen || (match c.impEnd with
    | some t => decide (afeCycles (afeNow s) < afeCycles t + 3 * afePeriod odr)
    | none => false)

/-- The applied loop resistance for such a conversion: within the window as it stood before the check (R141, R142). -/
def rimpOf (s : State) (n : Nat) (imp : Bool) : Word :=
  if imp && !(afeCh s n).impOpen then (afeCh s n).impOld else rd s (AFE_IMPR n)

/-! ### Delivery (R96 to R102, R557) -/

/-- What a conversion is delivered with. -/
structure Delivery where
  chan  : Nat
  code  : Int
  range : Nat
  odr   : Nat
  qual  : Nat
  rng   : Bool
  deriving DecidableEq, Repr

/-- CAL at delivery: the generation is uncommitted (R100, R128, R129). -/
def calPend (s : State) (n : Nat) : Bool := decide (fget s (AFE_CALSTAT_STATE n) ≠ 1)

/-- The sample a delivery makes: its record, its account and its place in the ring. -/
def sampleOf (d : Delivery) (s : State) : OpenSample × RingEntry :=
  let n := d.chan
  let c := afeCh s n
  let imp := impOverlap s n d.odr
  let rimp := rimpOf s n imp
  let tref := trefOf s n
  let t := cfgType c.cfg
  let v := if qualValued d.qual then linearise (activeSet s n) t (cfgExc c.cfg) d.range d.code tref rimp (rd s (AFE_IMPK n))
    else qnan
  let pend := (calPend s n).toNat + 2 * (blkPend s n).toNat + 4 * d.rng.toNat + 8 * imp.toNat
  (⟨n, afeNow s, afeNow s, pend, d.qual, fget s (AFE_CALSTAT_GEN n), v, d.range, fget s AFE_BLKWIN_WIN, none⟩,
    ⟨n, afeNow s, d.code, d.range, t, cfgExc c.cfg, tref, rimp⟩)

/-- The flags a sample record of a new conversion sets (R76, R82, R557). -/
def sampleFlags (n q : Nat) (s : State) : State :=
  let g := n / 4
  match q with
  | 2 => setF (setF s (AFE_CHSTAT_UNSET n)) (AFE_GSTAT_UNSET g)
  | 3 => setF s (AFE_CHSTAT_OVR n)
  | 4 => setF s (AFE_CHSTAT_UND n)
  | 5 => setF (setF s (AFE_CHSTAT_OPEN n)) (AFE_GSTAT_OPEN g)
  | 6 => setF (setF s (AFE_CHSTAT_SHORT n)) (AFE_GSTAT_SHORT g)
  | _ => s

/-- A conversion is delivered: the record, its flags, the ring, the pending account, and the staleness interval (R96 to R104). -/
def deliver (d : Delivery) (s : State) : State :=
  let p := sampleOf d s
  let o := p.1
  let s := sampleFlags d.chan d.qual s
  let s := setAfeCh d.chan { afeCh s d.chan with stale := edges s 8 } s
  let pend := if o.pend = 0 then s.afe.pend else s.afe.pend ++ [o]
  let s := { s with afe := { s.afe with ring := (p.2 :: s.afe.ring).take 8192, pend := pend } }
  sendSample ⟨false, d.range, o.gen, o.pend, d.qual, d.chan, o.value, o.stamp⟩ s

/-- A settled conversion of a designated channel goes to REEVE (R109). -/
def reeveFeed (n : Nat) (code : Int) (range : Nat) (s : State) : State :=
  let des := (List.range 16).any (fun d =>
    getBit s ⟨AFE_RVMAP (d / 4), 31, 0⟩ (8 * (d % 4) + 7) && fget s ⟨AFE_RVMAP (d / 4), 8 * (d % 4) + 5, 8 * (d % 4)⟩ == n)
  if des then { s with afe := { s.afe with rvOut := s.afe.rvOut ++ [⟨n, code, range⟩] } } else s

end Sys2Proof.Machine
end

