-- ==== Sys2Proof/Machine/AfeCal.lean ====
section
/-! DEFINITION. Calibration: ages and requests of the rota, stages, commits and their settlement, calibration commands and the
impedance window (R117 to R142). -/

namespace Sys2Proof.Machine

/-! ### Ages and requests (R122 to R126) -/

/-- Whole seconds since the channel's last calibration ended, or since the island's release (R122), saturating. -/
def calAge (s : State) (n : Nat) : Nat :=
  let c := afeCh s n
  min (c.ageBase + ((shadow s 8).toNat - (c.ageFrom.getD s.afe.rel).toNat) / 32768) 0xFFFF

/-- The level of a request by its age: one up at its limit, 0 at twice its limit (R33, R34). -/
def agedLevel (age lvl lim : Nat) : Nat := if age ≥ 2 * lim then 0 else if age ≥ lim then lvl - 1 else lvl

/-- Does a channel take part in the rota (R122)? -/
def inRota (s : State) (n : Nat) : Bool :=
  getBit s AFE_CALCTL_ROTA (n / 16) && flag s (AFE_CHCAL_CALEN n) && decide (cfgType (chCfg s n) ≠ 0)
    && decide (fget s (AFE_CALSTAT_STATE n) ≠ 0)

/-- The effective level of a channel's request, and AFE_CALSTATn.EFF (R123). -/
def setReq (n : Nat) (r : Option RotaReq) (s : State) : State :=
  let s := setAfeCh n { afeCh s n with req := r } s
  match r with
  | some q => fset s (AFE_CALSTAT_EFF n) q.lvl
  | none => fset s (AFE_CALSTAT_EFF n) (fget s AFE_CALCTL_LEVEL)

/-- The cold-junction request's age in tick periods (R122). -/
def cjAge (s : State) (g : Nat) : Nat := (afeGrp s g).cjBase + (edges s 8 - (afeGrp s g).cjFrom)

/-- The cold-junction request starts to wait at age `base` (R117, R123). -/
def cjStart (g base : Nat) (s : State) : State :=
  let lim := fget s AFE_CJCFG_CJLIM
  let lvl := fget s AFE_CALCTL_LEVEL
  setAfeGrp g { afeGrp s g with cjBase := base, cjFrom := edges s 8, cjLim := lim, cjLev := lvl, cjLvl := agedLevel base lvl lim } s

/-- The level a channel is offered at, if it requests anything: a calibration, the rest of one, or an impedance check (R122, R126,
R140). -/
def chOffer (s : State) (n : Nat) : Option Nat :=
  let c := afeCh s n
  if c.impReq && c.rota.isNone then some 0
  else match c.req with
    | some q => if c.rota.isSome || inRota s n then some q.lvl else none
    | none => none

/-- The better of two offers: by level, then the greater age, then the lower channel (R123). -/
def betterOffer (s : State) (a b : Option (Nat × Nat)) : Option (Nat × Nat) :=
  match a, b with
  | some x, some y => if y.1 < x.1 ∨ (y.1 = x.1 ∧ calAge s y.2 > calAge s x.2) then b else a
  | none, _ => b
  | _, none => a

/-- What the rota of a group offers: effective level and request (R123). A rota that is not enabled (R143) raises no cold-junction request. -/
def rotaOffer (s : State) (g : Nat) : Option (Nat × AfeGrant) :=
  let chs := (List.range 4).foldl (fun a i =>
    let n := 4 * g + i
    betterOffer s a ((chOffer s n).map (fun l => (l, n)))) none
  let G := afeGrp s g
  let on := getBit s AFE_CALCTL_ROTA (g / 4)
  let due := decide (cjAge s g ≥ G.cjLim)
  match chs with
  | none => if on then some (G.cjLvl, .cj) else none
  | some (l, n) => if on && due && decide (G.cjLvl ≤ l) then some (G.cjLvl, .cj) else some (l, .cal n)

/-! ### Stages (R129, R130, R133) -/

/-- AFE_CALCMD.BUSY: a command is held or a STAGE awaits its boundary (R132). -/
def calBusy (s : State) : State := putF s AFE_CALCMD_BUSY (!s.afe.held.isEmpty || !s.afe.staged.isEmpty)

/-- A STAGE that awaited its boundary does so no longer. -/
def unStage (n : Nat) (s : State) : State :=
  calBusy { s with afe := { s.afe with staged := s.afe.staged.filter (· != n) } }

/-- The channel becomes STAGED; a stage in force goes on, and an UNCOMMITTED channel is not staged (R129, R133). -/
def beginStage (n : Nat) (s : State) : State :=
  if fget s (AFE_CALSTAT_STATE n) = 1 then
    setAfeCh n { afeCh s n with stage := some (edges s 8) } (fset s (AFE_CALSTAT_STATE n) 2)
  else s

/-- A stage ends without a commit: CAL is cleared up to this moment's stamp (R130). -/
def endStage (n : Nat) (s : State) : State :=
  let s := unStage n s
  if fget s (AFE_CALSTAT_STATE n) = 2 then
    sendClear 0 0 n (afeNow s) (setAfeCh n { afeCh s n with stage := none } (fset s (AFE_CALSTAT_STATE n) 1))
  else s

/-! ### Settlement (R134 to R136, R142) -/

/-- |a − b| of two values as an exact fraction, and whether it exceeds `num` / `den`. -/
def diffExceeds (a b : Word) (num den : Nat) : Bool :=
  let x := fpRat f32 a.toNat
  let y := fpRat f32 b.toNat
  decide ((x.1 * y.2 - y.1 * x.2).natAbs * den > num * (x.2 * y.2))

/-- Does a change of value exceed the channel's tolerance, TOL × SPAN × 10⁻⁵ (R135)? -/
def beyondTol (s : State) (n : Nat) (span a b : Word) : Bool :=
  let p := fpRat f32 span.toNat
  diffExceeds a b (fget s (AFE_CHCAL_TOL n) * p.1.natAbs) (100000 * p.2)

/-- The value of a pending sample under a coefficient set, from the ring (R134, R137). -/
def recompute (s : State) (S : List Word) (rimp : Option Word) (x : OpenSample) : Option Word :=
  (ringFind s x.chan x.src).map (fun e =>
    if qualValued x.qual then linearise S e.typ e.exc e.range e.code e.tref ((rimp.or x.rimp).getD e.rimp) (rd s (AFE_IMPK x.chan))
    else qnan)

/-- The samples a commit settles are settled: those gone from the ring are rejected, the others confirmed together or each replaced
(R134 to R136). -/
def settleCommit (n : Nat) (at_ : Stamp) (S : List Word) (s : State) : State :=
  let all := s.afe.pend.filter (fun x => x.chan == n && x.pend.testBit 0 && x.stamp.le at_)
  let gone := all.filter (fun x => (ringFind s n x.src).isNone)
  let held := all.filter (fun x => (ringFind s n x.src).isSome)
  let s := forL gone (fun x s => setF (sendClear 3 0 n x.stamp s) AFE_CALEVT_CALLOST) s
  let far := held.any (fun x => qualValued x.qual && beyondTol s n (setAt S 19) ((recompute s S none x).getD x.value) x.value)
  if far then
    forL held (fun x s => sendReplacement x
      { x with pend := x.pend - 1, gen := fget s (AFE_CALSTAT_GEN n), value := (recompute s S none x).getD x.value } s)
      (setF s AFE_CALEVT_CALREPL)
  else sendClear 0 0 n at_ s

/-- Is a set fit to be committed (R131)? -/
def setFit (S : List Word) : Bool :=
  let fin := fun i => wFinite (setAt S i)
  let nz := fun i => wFinite (setAt S i) && decide (wAbs (setAt S i) ≠ 0)
  (List.range 15).all fin && fin 15 && fin 17 && nz 16 && nz 18
    && (List.range 8).all (fun r => fin (32 + 2 * r) && nz (33 + 2 * r))
    && nz 19 && decide ((setAt S 19).toNat < 0x80000000)

/-- A set's 64 words stored at a base. -/
def storeSet (base : Nat) (S : List Word) (s : State) : State := forN 64 (fun i s => wr s (base + 4 * i) (setAt S i)) s

/-- The generation after another (R127). -/
def nextGen (g : Nat) : Nat := if g = 255 then 1 else g + 1

/-- A set becomes active with the next generation, and the samples of the stage are settled (R127, R128, R134). -/
def commitSet (n : Nat) (S : List Word) (s : State) : State :=
  let s := unStage n s
  let st := fget s (AFE_CALSTAT_STATE n)
  let old := activeSet s n
  let gen := fget s (AFE_CALSTAT_GEN n)
  let keep := s.afe.pend.any (fun x => x.chan == n && x.pend.testBit 3 && x.gen == gen)
  let c := afeCh s n
  let c := { c with stage := none, oldSets := if keep then tabPut c.oldSets gen old else c.oldSets }
  let s := storeSet (activeBase n) S (setAfeCh n c s)
  let s := fset (fset s (AFE_CALSTAT_GEN n) (nextGen gen)) (AFE_CALSTAT_STATE n) 1
  if st = 1 then s else settleCommit n (afeNow s) S s

/-- COMMIT of the host (R131, R134): the shadow set, or a refusal. -/
def hostCommit (n : Nat) (s : State) : State :=
  let S := (List.range 64).map (setWord s (shadowBase n))
  if setFit S then commitSet n S s else endStage n (setF s AFE_CALEVT_CALREJ)

/-! ### Commands (R129 to R132, R139, R140) -/

/-- Can an impedance check be made by a group (R139)? -/
def impPossible (s : State) (g : Nat) : Bool := decide (fget s AFE_IMPCFG_CYC ≠ 0) && decide (fget s (AFE_GCFG_ODR g) ≤ 2)

/-- One command on one channel. -/
def calDo (op n : Nat) (s : State) : State :=
  match op with
  | 1 => if fget s (AFE_CALSTAT_STATE n) = 1 then calBusy { s with afe := { s.afe with staged := s.afe.staged ++ [n] } } else s
  | 2 => hostCommit n s
  | 3 => if fget s (AFE_CALSTAT_STATE n) = 0 then s else endStage n s
  | 4 => setAfeCh n { afeCh s n with ageBase := 2 * fget s AFE_CALLIM_LIMIT, ageFrom := some (shadow s 8) } s
  | 5 => if impPossible s (n / 4) then setAfeCh n { afeCh s n with impReq := true } s else setF s AFE_CALEVT_IMPSKIP
  | _ => s

/-- Commands are performed in order until one is held by a rota calibration of its channel (R132). -/
def calRun : List (Nat × Nat) → State → State
  | [], s => calBusy { s with afe := { s.afe with held := [] } }
  | (op, n) :: l, s =>
    if op ≤ 3 ∧ (afeCh s n).rota.isSome then calBusy { s with afe := { s.afe with held := (op, n) :: l } }
    else calRun l (calDo op n s)

/-- A write to AFE_CALCMD (R132, R143). -/
def calCmdWrite (v : Word) (s : State) : State :=
  let op := wget v 2 0
  let c := wget v 14 8
  if op = 0 ∨ op ≥ 6 ∨ (64 ≤ c ∧ c ≤ 126) then s
  else if flag s AFE_CALCMD_BUSY then setF s AFE_CALEVT_CMDLOST
  else calRun (if c = 127 then (List.range 64).map (fun n => (op, n)) else [(op, c)]) s

/-- A rota calibration of a channel ends: its request and age start afresh unless it was cut short, and held commands are
performed (R123, R132, R138). -/
def endRota (n : Nat) (keepAge : Bool) (s : State) : State :=
  let s := clrF (setAfeCh n { afeCh s n with rota := none } s) (AFE_CALSTAT_ROTA n)
  let s := if keepAge then s else
    setReq n none (setAfeCh n { afeCh s n with ageBase := 0, ageFrom := some (shadow s 8) } s)
  calRun s.afe.held s

/-- A calibration fails (R120). -/
def failRota (n : Nat) (s : State) : State :=
  endRota n false (endStage n (setF (bump s (AFE_CALSTAT_FAILS n)) AFE_CALEVT_CALFAIL))

/-- A calibration is cut short by its sequencer (R138). -/
def cutRota (n : Nat) (s : State) : State :=
  if (afeCh s n).rota.isSome then endRota n true (endStage n s) else s

/-- Does a code of a calibration visit reach the top band or clip, or is there none (R120)? -/
def calBad (acc : List Int) : Bool := acc.isEmpty || acc.any (fun c => decide (c.natAbs ≥ codeTop))

/-- The end of a zero visit: the offset is kept, or the calibration fails (R118, R120). -/
def zeroEnd (n : Nat) (acc : List Int) (s : State) : State :=
  let c := afeCh s n
  match c.rota with
  | none => s
  | some (r, _) =>
    if calBad acc || decide (acc.sum.natAbs * 100 > acc.length * codeFull) then failRota n s
    else setAfeCh n { c with rota := some (r, some (acc.sum, acc.length)) } s

/-- The value presented in a gain visit, in the type's unit, as a fraction (R118). -/
def gainRef (s : State) (n t exc r : Nat) : Nat × Nat :=
  if 3 ≤ t ∧ t ≤ 5 then (if flag s (AFE_CHCAL_RTDREF n) then (350, 1) else (100, 1))
  else if t = 7 ∨ t = 8 then (10, 1)
  else (3 * (fullScale t exc r).1, 4 * (fullScale t exc r).2)

/-- The end of a gain visit: the calibration commits the measured trims, or fails (R118, R120, R133); INITCAL's mark (R126), and the
impedance check that follows (R140). -/
def gainEnd (n : Nat) (acc : List Int) (s : State) : State :=
  let c := afeCh s n
  match c.rota with
  | some (r, some (z, k)) =>
    let t := cfgType (chCfg s n)
    let e := cfgExc (chCfg s n)
    let s := if 3 ≤ t ∧ t ≤ 5 then setAfeCh n { c with change := true } s else s
    let f := fullScale t e r
    let ref := gainRef s n t e r
    let num : Int := (ref.1 * f.2 * codeFull * k * acc.length : Nat)
    let den : Int := (acc.sum * k - z * acc.length) * (ref.2 * f.1 : Nat)
    if calBad acc || decide (den ≤ 0) || decide ((num - den).natAbs * 50 > den.natAbs) then failRota n s
    else
      let ofs := wOfRat (z * f.1) (k * f.2 * codeFull)
      let gain := wOfRat num den.natAbs
      let S := ((activeSet s n).set (32 + 2 * r) ofs).set (33 + 2 * r) gain
      let s := commitSet n S s
      let s := wr (wr s (shadowBase n + 0x80 + 8 * r) ofs) (shadowBase n + 0x84 + 8 * r) gain
      let s := setBit s (AFE_CALSTAT_MEAS n) r
      let s := onlyIf (flag s (AFE_CHCAL_IMPEN n)) (calDo 5 n) s
      endRota n false s
  | _ => s

/-- A cold-junction visit ends: the reading and the module temperature, unless CJAVG was zero, and the request is granted (R116, R117). -/
def cjEnd (g : Nat) (acc : List Int) (s : State) : State :=
  let s := if acc.isEmpty then s else
    let s := wr s (AFE_CJTEMP g) (Config.cjCelsius g acc)
    let l := (List.range 16).filterMap (fun h => let w := rd s (AFE_CJTEMP h); if wNan w then none else some (fpRat f32 w.toNat))
    let sum := l.foldl (fun (a p : Int × Nat) => (a.1 * (p.2 : Int) + p.1 * (a.2 : Int), a.2 * p.2)) (0, 1)
    if l.isEmpty then s else wr s AFE_MODTEMP (wOfRat sum.1 (sum.2 * l.length))
  cjStart g 0 s

/-- A reference measurement of a scan step is stored (R121). -/
def refEnd (g : Nat) (v : AfeVisit) (s : State) : State :=
  if v.acc.isEmpty then s
  else
    let m := meanCode 1 v.acc.sum v.acc.length
    wr s (AFE_REFRES g) (BitVec.ofNat 32 (0x80000000 + v.range % 8 * 2 ^ 28 + (v.input - 8) % 16 * 2 ^ 24
      + (BitVec.ofInt 24 m).toNat))

/-! ### The impedance window closes (R142) -/

/-- A check failed: IMP samples are replaced under IMPEDANCE_FAULT. -/
def impFail (n : Nat) (s : State) : State :=
  let s := setF (setF s (AFE_CALSTAT_IMPBAD n)) AFE_CALEVT_IMPFAIL
  forL (s.afe.pend.filter (fun x => x.chan == n && x.pend.testBit 3)) (fun x s =>
    let q := worstQual [x.qual, 7]
    sendReplacement x { x with pend := x.pend - 8, qual := q, value := if qualValued q then x.value else qnan } s) s

/-- A check passed: the resistance is applied, and IMP samples are confirmed or replaced. -/
def impPass (n : Nat) (s : State) : State :=
  let c := afeCh s n
  let s := setAfeCh n { c with impOld := rd s (AFE_IMPR n) } s
  let s := clrF (wr (wr s (AFE_IMPR n) c.impRes.1) (AFE_IMPX n) c.impRes.2) (AFE_CALSTAT_IMPBAD n)
  let l := s.afe.pend.filter (fun x => x.chan == n && x.pend.testBit 3)
  let setOf := fun (x : OpenSample) => (tabFind c.oldSets x.gen).getD (activeSet s n)
  let val := fun (x : OpenSample) => (recompute s (setOf x) (some c.impRes.1) x).getD x.value
  let far := l.any (fun x => qualValued x.qual && beyondTol s n (setAt (activeSet s n) 19) (val x) x.value)
  if far then forL l (fun x s => sendReplacement x { x with pend := x.pend - 8, value := val x, rimp := some c.impRes.1 } s) (setF s AFE_CALEVT_IMPREPL)
  else sendClear 0 3 n (afeNow s) s

/-- The window closes TAIL tick periods after the tone went off (R141, R142). -/
def impClose (n : Nat) (s : State) : State :=
  let c := afeCh s n
  match c.impOff with
  | some e =>
    if edges s 8 - e ≥ fget s AFE_IMPCFG_TAIL then
      let bad := wLt c.impRes.1 (rd s (AFE_IMPLO n)) || wLt (rd s (AFE_IMPHI n)) c.impRes.1
      let s := setAfeCh n { c with impOpen := false, impOff := none, impEnd := some (afeNow s), impOld := rd s (AFE_IMPR n) } s
      let s := if bad then impFail n s else impPass n s
      setAfeCh n { afeCh s n with oldSets := [] } s
    else s
  | none => s

end Sys2Proof.Machine
end

