-- ==== Sys2Proof/Machine/AfeScan.lean ====
section
/-! DEFINITION. The analog front end's sequencers, visits, conversions, ranging and blanking, and the commands of the AFE (R74 to
R144, R556, R557). -/

namespace Sys2Proof.Machine

/-! ### Step words (R90) -/

def stepInput (w : Word) : Nat := wget w 4 0
def stepCount (w : Word) : Nat := wget w 15 8
def stepDisc  (w : Word) : Nat := wget w 19 16
def stepPin   (w : Word) : Bool := wget w 20 20 == 1
def stepSlot  (w : Word) : Nat := wget w 22 21
def stepFixr  (w : Word) : Bool := wget w 23 23 == 1
def stepRng   (w : Word) : Nat := wget w 26 24

/-- Is a step word's encoding one of those R90 and R121 give? -/
def stepLegal (w : Word) : Bool :=
  let i := stepInput w
  let slot := stepSlot w
  wget w 31 27 == 0 && wget w 7 5 == 0 && slot != 3
    && (decide (i ≤ 3) || (slot == 1 && decide (8 ≤ i) && decide (i ≤ 13)) || (slot == 2 && (i == 10 || i == 11)))

/-- A live step word of the stock program (R94). -/
def stockStep (input : Nat) (pin : Bool) : Word :=
  BitVec.ofNat 32 ((if pin then 2 ^ 20 else 0) + 15 * 2 ^ 16 + 2 ^ 8 + input)

/-- The group of a sequencer is disabled: queued steps are discarded (R93, R95). -/
def dropSteps (g : Nat) (s : State) : State :=
  setAfeGrp g { afeGrp s g with queue := [], resume := none, granted := none, stop := true } s

/-- LOOPON follows the excitation in force (R110, R112). -/
def loopLive (s : State) : State :=
  putF s AFE_STAT_LOOPON ((List.range 64).any (fun n => match (afeCh s n).exc with | some e => e.1 == 7 | none => false))

/-- A group whose sequencer stopped and whose visit has ended: rota calibrations end without a commit, and excitation is off (R95,
R138). -/
def groupOff (g : Nat) (s : State) : State :=
  let s := setAfeGrp g { afeGrp s g with on := false, stop := false, visit := none, granted := none, last := none } s
  let s := forN 4 (fun i s => let n := 4 * g + i; let s := cutRota n s; setAfeCh n { afeCh s n with exc := none } s) s
  loopLive s

/-- A sequencer stops: its groups complete the visit in progress (R93, R95). -/
def seqHalt (k : Nat) (s : State) : State :=
  let s := clrF (clrF s (AFE_SCANCTL_EN k)) (AFE_SEQSTAT_RUN k)
  forN 4 (fun i s =>
    let g := 4 * k + i
    let s := dropSteps g s
    if (afeGrp s g).visit.isNone then groupOff g s else s) s

/-- A sequencer starts (R89, R94, R104, R117, R165); a rota calibration that the stop before had ended does not go on (R138). -/
def seqBegin (k : Nat) (s : State) : State :=
  let s := setF (setF s (AFE_SCANCTL_EN k)) (AFE_SEQSTAT_RUN k)
  let s := fset (fset (clrF s (AFE_SEQSTAT_FAULT k)) (AFE_SEQSTAT_CAUSE k) 0) (AFE_SEQSTAT_PC k) 0
  let c : Core := tabGet (fun _ => {}) s.seq k
  let s := { s with seq := tabSet (fun _ => {}) s.seq k { c with g := [], pc := 0 } }
  forN 4 (fun i s =>
    let g := 4 * k + i
    let s := onlyIf (afeGrp s g).stop (forN 4 (fun j s => cutRota (4 * g + j) s)) s
    let s := setAfeGrp g { afeGrp s g with on := true, stop := false, round := 0, owed := false } s
    let s := cjStart g (2 * fget s AFE_CJCFG_CJLIM) s
    forN 4 (fun j s => let n := 4 * g + j; setAfeCh n { afeCh s n with stale := edges s 8 } s) s) s

/-- A write to AFE_SCANCTLk (R89, R95). -/
def scanCtlWrite (k : Nat) (v : Word) (s : State) : State :=
  if flag s (AFE_SCANCTL_EN k) then (if wget v 0 0 = 1 then s else seqHalt k s)
  else
    let s := fset s (AFE_SCANCTL_MODE k) (wget v 1 1)
    if wget v 0 0 = 1 then seqBegin k s else s

/-- A sequencer halts with a fault (R93). -/
def seqFault (k cause pc : Nat) (s : State) : State :=
  let s := seqHalt k s
  setBit (fset (fset (setF s (AFE_SEQSTAT_FAULT k)) (AFE_SEQSTAT_CAUSE k) cause) (AFE_SEQSTAT_PC k) pc) AFE_EVT_SEQFLT k

/-! ### The stock program (R94) -/

/-- Is a channel scanned? -/
def chScanned (s : State) (n : Nat) : Bool := flag s (AFE_CHSCAN_EN n) && decide (fget s (AFE_CHCFG_TYPE n) ≠ 0)

/-- The stock program's next steps for a group. A pinned channel takes one pinned step; else a round visits the scanned channels whose
turn it is. -/
def stockRound (g : Nat) (s : State) : State :=
  let G := afeGrp s g
  if flag s (AFE_SCANCTL_EN (g / 4)) && !flag s (AFE_SCANCTL_MODE (g / 4)) && G.on && G.queue.isEmpty && G.resume.isNone then
    let chs := (List.range 4).map (4 * g + ·)
    let pins := chs.filter (fun n => chScanned s n && flag s (AFE_CHSCAN_PIN n))
    let s := onlyIf (decide (pins.length > 1)) (setF · (AFE_GSTAT_PINCONF g)) s
    let pinned := match pins.head? with
      | some n => if chBlanked s n then none else some n
      | none => none
    match pinned with
    | some n =>
      let here : Bool := match G.visit with
        | some v => v.kind == .live && stepPin v.step && 4 * g + v.input == n
        | none => false
      if here then s else setAfeGrp g { G with queue := [stockStep (n % 4) true] } s
    | none =>
      let l := chs.filter (fun n => chScanned s n && G.round % 2 ^ fget s (AFE_CHSCAN_RATE n) == 0)
      setAfeGrp g { G with queue := l.map (fun n => stockStep (n % 4) false), round := G.round + 1 } s
  else s

/-! ### The step arbiter (R91, R92, R124, R125) -/

/-- Is a step a live visit of a blanked channel, which the group skips (R106)? -/
def stepSkipped (s : State) (g : Nat) (w : Word) : Bool :=
  stepSlot w == 0 && decide (stepInput w ≤ 3) && chBlanked s (4 * g + stepInput w)

/-- Live steps that stand at the head for blanked channels are dropped. -/
def dropSkipped (g : Nat) (s : State) : State :=
  let G := afeGrp s g
  let r := match G.resume with
    | some p => if stepSkipped s g p.1 then none else some p
    | none => none
  setAfeGrp g { G with resume := r, queue := G.queue.dropWhile (stepSkipped s g) } s

/-- The arbiter chooses between the next live step and the rota (R124, R125). -/
def arbitrate (g : Nat) (s : State) : State :=
  let s := dropSkipped g s
  let G := afeGrp s g
  let live := G.resume.isSome || !G.queue.isEmpty
  let idle := if live then some AfeGrant.live else none
  let pick := match rotaOffer s g with
    | some o => if G.on && !G.stop && !(live && G.owed) && (!live || decide (o.1 ≤ 2)) then some o.2 else idle
    | none => idle
  setAfeGrp g { G with granted := pick } s

/-- A visit ends (R80, R91, R95, R125): the input it leaves behind, whether a live visit is owed, and the next grant. -/
def endVisit (g : Nat) (v : AfeVisit) (s : State) : State :=
  let G := afeGrp s g
  let rota := v.kind == .zero || v.kind == .gain || v.kind == .cj || v.kind == .imp
  let last := if v.kind == .live || v.kind == .ref then some v.input else none
  let owed := if v.kind == .live then false else if rota then true else G.owed
  let s := setAfeGrp g { G with visit := none, last := last, owed := owed } s
  if G.stop then groupOff g s
  else
    let s := arbitrate g s
    if (afeGrp s g).granted.isNone then setAfeGrp g { afeGrp s g with last := none } s else s

/-! ### Beginning a visit (R78 to R81, R119, R139) -/

/-- The excitation of a profile: TYPE, the level of a type that has one, and the burnout current (R76, R81). -/
def excOf (cfg : Word) : Option (Nat × Nat × Bool) :=
  let t := cfgType cfg
  if t = 0 then none else some (t, if 3 ≤ t ∧ t ≤ 6 then cfgExc cfg else 0, t == 2 && wget cfg 7 7 == 1)

/-- The rate of a group comes into force: a change for each of its channels (R79, R81). -/
def turnOdr (g odr : Nat) (s : State) : State :=
  let G := afeGrp s g
  let s := setAfeGrp g { G with odr := odr } s
  if odr = G.odr then s
  else forN 4 (fun i s => setAfeCh (4 * g + i) { afeCh s (4 * g + i) with change := true } s) s

/-- Has a visit made its conversions (R82, R90)? -/
def visitDone (v : AfeVisit) : Bool :=
  !v.check && decide (v.done ≥ stepCount v.step)
    && (decide (stepCount v.step ≠ 0) || (if stepDisc v.step = 15 then v.req == 0 else decide (v.idx ≥ stepDisc v.step)))

/-- The profile of a channel takes effect (R79, R88, R112): the range of the visit, and whether it is a change under R81. -/
def applyProfile (n odr : Nat) (fixr : Bool) (rng : Nat) (s : State) : State × Nat × Bool :=
  let c := afeCh s n
  let cfg := rd s (AFE_CHCFG n)
  let w := rd s (AFE_CHRNG n)
  let t := cfgType cfg
  let exc := excOf cfg
  let lo := clampRange t (wget w 6 4)
  let hi := max lo (clampRange t (wget w 10 8))
  let auto := wget w 3 3 == 1
  let r0 := if c.exc = none then clampRange t (wget w 2 0) else c.range
  let r1 := if auto then min (max r0 lo) hi else clampRange t (wget w 2 0)
  let r := if fixr then clampRange t rng else r1
  let change := c.change || decide (c.exc ≠ exc) || decide (c.prev ≠ some (r, odr))
  let s := onlyIf (match c.prev with | some p => p.1 != r | none => false) (bump · (AFE_CHSTAT_RNGCNT n)) s
  let run := if r1 = c.range then c.lowRun else 0
  let s := setAfeCh n { c with
    cfg := cfg, rng := w, exc := exc, range := r1, change := false, lowRun := run
    codeP := if change then none else c.codeP, codeN := if change then none else c.codeN } s
  (loopLive s, r, change)

/-- A channel whose TYPE is OFF loses its excitation (R79). -/
def dropOffChannels (g : Nat) (s : State) : State :=
  forN 4 (fun i s =>
    let n := 4 * g + i
    if fget s (AFE_CHCFG_TYPE n) = 0 then setAfeCh n { afeCh s n with exc := none } s else s) s |> loopLive

/-- A live visit begins (R78, R79, R80, R81). One that delivers nothing and has nothing to discard ends with no conversion (R90). -/
def beginLive (g : Nat) (w : Word) (done : Nat) (s : State) : State :=
  let n := 4 * g + stepInput w
  let G := afeGrp s g
  let sw := decide (G.last ≠ some (stepInput w))
  let p := applyProfile n G.odr (stepFixr w) (stepRng w) s
  let s := p.1
  let c := afeCh s n
  let bridge := cfgType c.cfg == 6 && wget c.cfg 6 6 == 1
  let s := setAfeCh n { c with pol := if sw && bridge then !c.pol else c.pol } s
  let req := if p.2.2 then 3 else if sw then 2 else 0
  let v : AfeVisit := { kind := .live, input := stepInput w, step := w, range := p.2.1, req := req, done := done }
  if visitDone v && !stepPin w then
    let s := endVisit g v s
    onlyIf (afeGrp s g).granted.isSome (fun s => setAfeGrp g { afeGrp s g with last := G.last } s) s
  else setAfeGrp g { afeGrp s g with visit := some v } s

/-- A calibration visit of a channel begins: an impedance check, the zero visit or the gain visit (R118, R119, R133, R139). -/
def beginCal (g n : Nat) (s : State) : State :=
  let c := afeCh s n
  let r := fget s (AFE_CHRNG_CUR n)
  let avg := fget s AFE_CALCTL_AVG
  match c.rota with
  | some (r, some _) => setAfeGrp g { afeGrp s g with visit := some { kind := .gain, input := n % 4, range := r, req := 3, need := avg } } s
  | some (r, none) => setAfeGrp g { afeGrp s g with visit := some { kind := .zero, input := n % 4, range := r, req := 3, need := avg } } s
  | none =>
    let s := beginStage n (setF (setAfeCh n { c with rota := some (r, none) } s) (AFE_CALSTAT_ROTA n))
    setAfeGrp g { afeGrp s g with visit := some { kind := .zero, input := n % 4, range := r, req := 3, need := avg } } s

/-- An impedance check begins, with its tone and window, if one can be made (R139, R141). -/
def beginImp (g n : Nat) (s : State) : State :=
  let c := afeCh s n
  let s := setAfeCh n { c with impReq := false } s
  if impPossible s g then
    let s := setAfeCh n { afeCh s n with impOpen := true, impOff := none } s
    setAfeGrp g { afeGrp s g with visit := some { kind := .imp, input := n % 4, range := fget s (AFE_CHRNG_CUR n), req := 3,
                                                  need := fget s AFE_IMPCFG_CYC * (16 / 2 ^ (afeGrp s g).odr) } } s
  else setF s AFE_CALEVT_IMPSKIP

/-- A step of the live queue begins (R90, R121). -/
def beginStep (g : Nat) (w : Word) (done : Nat) (s : State) : State :=
  let i := stepInput w
  match stepSlot w with
  | 0 => beginLive g w done s
  | 1 =>
    if i ≤ 3 then beginCal g (4 * g + i) s
    else
      setAfeGrp g { afeGrp s g with visit := some { kind := .ref, input := i, step := w, range := stepRng w,
                                                    req := if stepDisc w = 15 then 3 else stepDisc w, need := stepCount w } } s
  | _ =>
    if i ≤ 3 then beginImp g (4 * g + i) s
    else if impPossible s g then
      setAfeGrp g { afeGrp s g with visit := some { kind := .impSelf, input := i, step := w, range := stepRng w, req := 3,
                                                    need := fget s AFE_IMPCFG_CYC * (16 / 2 ^ (afeGrp s g).odr) } } s
    else setF s AFE_CALEVT_IMPSKIP

/-- A group begins a visit at an output-period boundary: what the arbiter granted, or what it grants a group that was paused. -/
def visitStart (g : Nat) (s : State) : State :=
  if (afeGrp s g).on && !(afeGrp s g).stop && (afeGrp s g).visit.isNone then
    let s := dropOffChannels g (turnOdr g (fget s (AFE_GCFG_ODR g)) s)
    let s := if (afeGrp s g).granted.isNone then arbitrate g s else dropSkipped g s
    let G := afeGrp s g
    let s := setAfeGrp g { G with granted := none } s
    match G.granted with
    | none => s
    | some .cj =>
      setAfeGrp g { afeGrp s g with visit := some { kind := .cj, input := 13, req := 3, need := fget s AFE_CJCFG_CJAVG } } s
    | some (.cal n) => if (afeCh s n).impReq && (afeCh s n).rota.isNone then beginImp g n s else beginCal g n s
    | some .live =>
      match G.resume, G.queue with
      | some p, _ => beginStep g p.1 p.2 (setAfeGrp g { afeGrp s g with resume := none } s)
      | none, w :: l => beginStep g w 0 (setAfeGrp g { afeGrp s g with queue := l } s)
      | none, [] => s
  else s

/-! ### Conversions (R80 to R88, R96 to R102, R106, R109) -/

/-- Triggers whose check will not be made: their RNG is cleared and they stand (R86). -/
def releaseTriggers (n : Nat) (l : List Stamp) (s : State) : State :=
  forL l (fun t s => if (openSample s n t).isSome then sendClear 2 2 n t s else s) s

/-- A triggering sample is resolved by its check conversion (R86, R138): all that wait with it alike. The result tells which stamps
wait on with the check. -/
def resolveTriggers (n : Nat) (l : List Stamp) (t : Option Trig) (d : Delivery) (s : State) : State × List Stamp :=
  match t with
  | none => (s, [])
  | some t =>
    let c := afeCh s n
    let o := (sampleOf d s).1
    let f := fullScale t.typ t.exc t.range
    let h := fullScale (cfgType c.cfg) (cfgExc c.cfg) d.range
    let agree := t.top && decide ((t.code * (f.1 * h.2 : Nat) - d.code * (h.1 * f.2 : Nat)).natAbs * 1024
      ≤ wget c.rng 23 16 * codeFull * (f.1 * h.2))
    if agree then (releaseTriggers n l s, [])
    else
      let s := forL l (fun u s => match openSample s n u with
        | some x =>
          let cal := if t.gen = o.gen then x.pend % 2 else o.pend % 2
          let keep := x.pend - x.pend % 2 - (if x.pend.testBit 2 then 4 else 0)
          let s := setF (setF s (AFE_CHSTAT_RNGREP n)) (AFE_GSTAT_RNGREP (n / 4))
          sendReplacement x { x with
            src := o.stamp, pend := keep + cal + 4 * d.rng.toNat, qual := o.qual, gen := o.gen
            value := o.value, range := d.range, rimp := none } s
        | none => s) s
      (s, if d.rng then l else [])

/-- Is a channel in force a switched bridge (R78)? -/
def isSwitched (c : AfeCh) : Bool := cfgType c.cfg == 6 && wget c.cfg 6 6 == 1

/-- A conversion's own code, the polarity of a switched bridge's excitation taken out (R78). -/
def ownCode (c : AfeCh) (code : Int) : Int := if isSwitched c && c.pol then -code else code

/-- The code a sample's value is computed from: the clip value itself where its quality is that of a clip (R99), else for a switched bridge
the mean with the latest of the other polarity (R78); and the channel with its latest codes. -/
def bridgeCode (c : AfeCh) (code : Int) (qual : Nat) : Int × AfeCh :=
  let held := code.natAbs ≥ codeClip && (qual == 3 || qual == 4)
  let x := if held then (if code < 0 then -(codeClip : Int) else codeClip) else code
  if isSwitched c then
    let opp := if c.pol then c.codeP else c.codeN
    let c' := if c.pol then { c with codeN := some x } else { c with codeP := some x }
    match opp with
    | some y => (if held then x else meanCode 0 (x + y) 2, c')
    | none => (x, c')
  else (x, c)

/-- What a delivered conversion decides about the range (R85, R87): an up-range within the visit, or a lower-band run. -/
def upRange (s : State) (n : Nat) (v : AfeVisit) (code : Int) : Option Nat :=
  let w := (afeCh s n).rng
  let lo := clampRange (cfgType (afeCh s n).cfg) (wget w 6 4)
  if wget w 3 3 == 1 && !stepFixr v.step && decide (v.range > lo) then
    if code.natAbs ≥ codeClip then some lo else if code.natAbs ≥ codeTop then some (v.range - 1) else none
  else none

/-- The low-band run after a settled sample, and the down-range it makes (R87). -/
def downRange (n : Nat) (v : AfeVisit) (code : Int) (s : State) : State :=
  let c := afeCh s n
  let w := c.rng
  let t := cfgType c.cfg
  let hi := max (clampRange t (wget w 6 4)) (clampRange t (wget w 10 8))
  if code.natAbs < codeLow then
    if wget w 3 3 == 1 && !stepFixr v.step && decide (c.lowRun ≥ wget w 15 12) && decide (v.range < hi) then
      setAfeCh n { c with range := v.range + 1, lowRun := 0 } s
    else setAfeCh n { c with lowRun := c.lowRun + 1 } s
  else setAfeCh n { c with lowRun := 0 } s

/-- A conversion of a live visit is delivered: quality, ranging, the records, the Reeve feed (R76, R82, R85, R86, R87, R96, R109). -/
def deliverLive (g n : Nat) (v : AfeVisit) (unsettled : Bool) (code0 : Int) (op lim : Bool) (s : State) : State × AfeVisit :=
  let G := afeGrp s g
  let c := afeCh s n
  let own := ownCode c code0
  let t := cfgType c.cfg
  let lo := clampRange t (wget c.rng 6 4)
  let inv := if t = 0 || G.modFlt || !flag s AFE_STAT_REFOK then [15] else []
  let bad := if flag s (AFE_CALSTAT_IMPBAD n) then [7] else []
  let qual := worstQual (inv ++ bad ++ (if unsettled then [2] else [])
    ++ sensorQual t (cfgExc c.cfg) v.range lo (wget c.cfg 7 7 == 1) own op lim)
  let b := bridgeCode c own qual
  let s := setAfeCh n b.2 s
  let up := if unsettled then none else upRange s n v own
  let d : Delivery := ⟨n, b.1, v.range, G.odr, qual, unsettled || up.isSome⟩
  let r := if v.check then resolveTriggers n v.open_ v.trig d s else (s, [])
  let s := deliver d r.1
  let s := if unsettled then sendClear 3 2 n (afeNow s) s else reeveFeed n own v.range s
  let s := if unsettled then s else downRange n v own s
  let v := { v with done := v.done + 1, check := false, open_ := [], trig := none }
  match up with
  | none => (s, v)
  | some r' =>
    let s := bump (setAfeCh n { afeCh s n with
      range := r', lowRun := 0, codeP := none, codeN := none, prev := some (r', G.odr) } s) (AFE_CHSTAT_RNGCNT n)
    (s, { v with
      check := true, ins := 3, range := r', open_ := r.2 ++ [afeNow s]
      trig := some ⟨b.1, v.range, t, cfgExc c.cfg, decide (own.natAbs < codeClip), fget s (AFE_CALSTAT_GEN n)⟩ })

/-- A pinned visit goes on at a boundary: pending settings take effect (R79, R87), and a switched bridge is reversed (R78). -/
def pinnedGoesOn (g n : Nat) (v : AfeVisit) (s : State) : State :=
  let p := applyProfile n (afeGrp s g).odr (stepFixr v.step) (stepRng v.step) s
  let s := p.1
  let c := afeCh s n
  let turn := cfgType c.cfg == 6 && wget c.cfg 6 6 == 1 && decide (v.rev ≥ 2 ^ wget c.cfg 15 12)
  if p.2.2 then setAfeGrp g { afeGrp s g with visit := some { v with req := 3, rev := 0, range := p.2.1 } } s
  else if turn then
    setAfeGrp g { afeGrp s g with visit := some { v with req := max v.req 2, rev := 0 } } (setAfeCh n { c with pol := !c.pol } s)
  else setAfeGrp g { afeGrp s g with visit := some v } s

/-- A pinned visit that is completing an up-range check goes on: a change of its settings restarts the settle discards (R79, R81). -/
def pinnedCheck (g n : Nat) (v : AfeVisit) (s : State) : State :=
  let p := applyProfile n (afeGrp s g).odr (stepFixr v.step) (stepRng v.step) s
  setAfeGrp g { afeGrp p.1 g with visit := some (if p.2.2 then { v with ins := 3, range := p.2.1 } else v) } p.1

/-- What follows a conversion of a live visit at its boundary (R79, R90, R125). `odr` is the rate in force from this boundary, and
`sent` says that the conversion was delivered. -/
def afterLive (g n : Nat) (v : AfeVisit) (odr : Nat) (sent : Bool) (s : State) : State :=
  let G := afeGrp s g
  let turned := decide (odr ≠ G.odr)
  let s := turnOdr g odr (setAfeGrp g { G with owed := if stepPin v.step && sent then false else G.owed } s)
  let s := if turned then setAfeCh n { afeCh s n with codeP := none, codeN := none } s else s
  let v := if !turned then v else if v.check then { v with ins := 3 } else { v with req := 3 }
  let G := afeGrp s g
  if stepPin v.step then
    if v.check then pinnedCheck g n v s
    else if visitDone v && (!G.queue.isEmpty || G.stop) then endVisit g v s
    else if !G.stop && !G.owed && (rotaOffer s g).any (·.1 == 0) then
      endVisit g v (setAfeGrp g { G with resume := some (v.step, v.done) } s)
    else pinnedGoesOn g n v s
  else if visitDone v then endVisit g v s
  else setAfeGrp g { G with visit := some v } (if turned then setAfeCh n { afeCh s n with change := false } s else s)

/-- A conversion of a live visit ends. -/
def liveConversion (g : Nat) (v : AfeVisit) (code : Int) (op lim : Bool) (s : State) : State :=
  let n := 4 * g + v.input
  let s := fset s (AFE_CHRNG_CUR n) v.range
  let t := cfgType (afeCh s n).cfg
  let s := onlyIf (lim && (t == 6 || t == 7)) (setF · (AFE_GSTAT_EXCFLT g)) s
  if v.cut || chBlanked s n then endVisit g v (releaseTriggers n v.open_ s)
  else
    let odr := fget s (AFE_GCFG_ODR g)
    let c := afeCh s n
    let s := setAfeCh n { c with prev := some (v.range, (afeGrp s g).odr) } s
    let raise := flag s (AFE_CHCAL_INITCAL n) && !getBit s (AFE_CALSTAT_MEAS n) v.range && inRota s n
    let s := if raise then setReq n (some ⟨0, fget s AFE_CALCTL_LEVEL, fget s AFE_CALLIM_LIMIT⟩) s else s
    let d := stepDisc v.step
    let insd := decide (v.ins > 0)
    let disc := insd || stepCount v.step == 0 || (if d = 15 then decide (v.req > 0) else decide (v.idx < d))
    let unsettled := !disc && decide (v.req > 0)
    let v' := { v with idx := v.idx + 1, req := v.req - 1, ins := v.ins - 1 }
    if disc then
      afterLive g n v' odr false (onlyIf (!insd && v.req == 0) (reeveFeed n (ownCode c code) v.range) s)
    else
      let p := deliverLive g n { v' with rev := v'.rev + 1 } unsettled code op lim s
      afterLive g n p.2 odr true p.1

/-- A conversion of a measuring visit ends: discarded, or one of those averaged (R117, R119, R121, R139). -/
def measConversion (g : Nat) (v : AfeVisit) (code : Int) (s : State) : State :=
  let G := afeGrp s g
  let odr := fget s (AFE_GCFG_ODR g)
  let v := if v.req > 0 then { v with req := v.req - 1 }
    else if v.acc.length < v.need then { v with acc := v.acc ++ [code] } else v
  let v := if odr ≠ G.odr ∧ v.acc.length < v.need then
      { v with req := 3, acc := [], need := if v.kind == .imp || v.kind == .impSelf then v.need * 2 ^ G.odr / 2 ^ odr else v.need }
    else v
  setAfeGrp g { G with odr := odr, visit := some v } s

/-- A group's conversion completes (R96). -/
def afeConversion (g : Nat) (code : Int) (op lim : Bool) (s : State) : State :=
  match (afeGrp s g).visit with
  | none => s
  | some v => if v.kind = .live then liveConversion g v code op lim s else measConversion g v code s

/-- A measuring visit has made its conversions. -/
def measDone (v : AfeVisit) : Bool := v.req == 0 && decide (v.acc.length ≥ v.need)

/-- A calibration visit ends (R117 to R121, R133); once the sequencer is disabled a channel's calibration ends without a result (R138). -/
def calVisitEnd (g : Nat) (s : State) : State :=
  match (afeGrp s g).visit with
  | none => s
  | some v =>
    let n := 4 * g + v.input
    if measDone v then
      match v.kind with
      | .zero => endVisit g v (if (afeGrp s g).stop then s else zeroEnd n v.acc s)
      | .gain => endVisit g v (if (afeGrp s g).stop then s else gainEnd n v.acc s)
      | .cj => endVisit g v (cjEnd g v.acc s)
      | .ref => endVisit g v (refEnd g v s)
      | _ => s
    else s

/-- An impedance check's visit ends: the tone goes off, which is an excitation change; a precision resistor's result is stored
(R121, R139). -/
def impVisitEnd (g : Nat) (ri x : Word) (s : State) : State :=
  match (afeGrp s g).visit with
  | none => s
  | some v =>
    let n := 4 * g + v.input
    if measDone v then
      match v.kind with
      | .imp => endVisit g v (setAfeCh n { afeCh s n with impOff := some (edges s 8), impRes := (ri, x), change := true } s)
      | .impSelf => endVisit g v (wr s (AFE_IMPSELF g) ri)
      | _ => s
    else s

/-! ### Blanking (R105 to R107, R556) -/

/-- A channel becomes blanked: its visit will end, its BLANKED record and the rejection of R107 with its bound are sent, and the sources
that now assert learn whether a sample was rejected. -/
def blankChannel (srcs n : Nat) (bound : Stamp) (s : State) : State :=
  let g := n / 4
  let G := afeGrp s g
  let s := match G.visit with
    | some v => if v.kind = .live ∧ 4 * g + v.input = n then setAfeGrp g { G with visit := some { v with cut := true } } s else s
    | none => s
  let hit := s.afe.pend.any (fun x => x.chan == n && x.pend.testBit 1 && bound.le x.stamp)
  let s := sendSample ⟨false, (afeCh s n).range, fget s (AFE_CALSTAT_GEN n), 0, 9, n, (afeCh s n).good, afeNow s⟩ s
  let s := sendClear 1 1 n bound s
  if hit then fset s AFE_EVT_BLKRETRO (fget s AFE_EVT_BLKRETRO ||| srcs) else s

/-- A channel is released: its next visit is a change, and its staleness interval starts afresh (R104, R106). -/
def unblankChannel (n : Nat) (s : State) : State := setAfeCh n { afeCh s n with change := true, stale := edges s 8 } s

/-- A change of what blanks: channels newly blanked and newly released follow it. -/
def reblank (srcs : Nat) (f : State → State) (s : State) : State :=
  let before := (List.range 64).map (chBlanked s)
  let bound := afeBack (afeNow s) (effWindow s)
  let s := f s
  let after := (List.range 64).map (chBlanked s)
  let s := forN 64 (fun n s => if after.getD n false && !before.getD n false then blankChannel srcs n bound s else s) s
  forN 64 (fun n s => if before.getD n false && !after.getD n false then unblankChannel n s else s) s

/-- The hold of a source: 1 + the edge of its release, or 0 (R105). -/
def setHold (src h : Nat) (s : State) : State :=
  { s with afe := { s.afe with hold := tabSet (fun _ => 0) s.afe.hold src h } }

/-- A source asserts (R105): if enabled it is blanking and BLKON is set. -/
def sourceAsserts (src : Nat) (s : State) : State :=
  if flag s (AFE_BLKCFG_EN src) then
    reblank (2 ^ src) (fun s => setHold src 0 (setBit s AFE_BLKSTAT_ACT src)) (setBit s AFE_EVT_BLKON src)
  else s

/-- A source stops blanking: its hold has ended or its EN was cleared (R105, R556). -/
def sourceEnds (src : Nat) (s : State) : State := reblank 0 (fun s => setHold src 0 (clrBit s AFE_BLKSTAT_ACT src)) s

/-- A source is released: its hold begins, and ends at once with a HOLD of zero (R105). -/
def sourceReleases (src : Nat) (s : State) : State :=
  if getBit s AFE_BLKSTAT_ACT src then
    if fget s (AFE_BLKCFG_HOLD src) = 0 then sourceEnds src s else setHold src (1 + edges s 8) s
  else s

/-- A software source follows its asserters (R105). -/
def softSource (j : Nat) (f : State → State) (s : State) : State :=
  let before := blkAsserted s (4 + j)
  let s := f s
  let after := blkAsserted s (4 + j)
  if after && !before then sourceAsserts (4 + j) s else if before && !after then sourceReleases (4 + j) s else s

/-- A write to AFE_BLKSW (R105, R556). -/
def blkSwWrite (v : Word) (s : State) : State :=
  forN 4 (fun j s => softSource j (fun s =>
    if v.toNat.testBit j then setBit s AFE_BLKSW_SB j else clrBit s AFE_BLKSW_SB j) s) s

/-- A sequencer asserts or releases a software source (R91). -/
def seqBlank (k j : Nat) (on : Bool) (s : State) : State :=
  let s := softSource j (fun s =>
    let m := tabGet (fun _ => 0) s.afe.seqSb k
    let m' := if on then m ||| 2 ^ j else if m.testBit j then m - 2 ^ j else m
    { s with afe := { s.afe with seqSb := tabSet (fun _ => 0) s.afe.seqSb k m' } }) s
  fset s AFE_BLKSTAT_SEQSB ((List.range 4).foldl (fun m k => m ||| tabGet (fun _ => 0) s.afe.seqSb k) 0)

/-- A write to AFE_BLKCFGs (R105, R556). -/
def blkCfgWrite (src : Nat) (v : Word) (s : State) : State :=
  if flag s AFE_CTL_LOCK then s
  else
    let was := flag s (AFE_BLKCFG_EN src)
    let on := wget v 0 0 == 1
    let s := fset s (AFE_BLKCFG_HOLD src) (wget v 31 16)
    let s := if src < 4 then fset s (AFE_BLKCFG_POL src) (wget v 1 1) else s
    let s := if was && !on then sourceEnds src s else s
    let s := putF s (AFE_BLKCFG_EN src) on
    if on && !was && blkAsserted s src then sourceAsserts src s else s

/-- A write to AFE_BLKMAPLOs or AFE_BLKMAPHIs (R556). -/
def blkMapWrite (a src : Nat) (v : Word) (s : State) : State :=
  if flag s AFE_CTL_LOCK then s else reblank (2 ^ src) (fun s => wr s a v) s

/-- A write to AFE_BLKWIN (R108). -/
def blkWinWrite (v : Word) (s : State) : State :=
  if flag s AFE_CTL_LOCK then s else fset s AFE_BLKWIN_WIN (min (wget v 15 0) 0xC000)

/-- A hold in progress has run out (R105, R556). -/
def holdExpiry (src : Nat) (s : State) : State :=
  let h := tabGet (fun _ => 0) s.afe.hold src
  if h ≠ 0 ∧ edges s 8 + 1 - h ≥ fget s (AFE_BLKCFG_HOLD src) then sourceEnds src s else s

/-! ### Staleness (R104) and profiles (R79, R88) -/

/-- A STALE record falls due (R104). -/
def staleRecord (n : Nat) (s : State) : State :=
  let c := afeCh s n
  let gap := max 1 (32 * fget s (AFE_CHSCAN_STALE n))
  if flag s (AFE_CHSCAN_STALEEN n) && flag s (AFE_SCANCTL_EN (n / 16)) && !chBlanked s n && decide (edges s 8 - c.stale ≥ gap) then
    let s := setF (setF s (AFE_CHSTAT_STALEF n)) (AFE_GSTAT_STALE (n / 4))
    let s := setAfeCh n { c with stale := edges s 8 } s
    sendSample ⟨false, c.range, fget s (AFE_CALSTAT_GEN n), 0, 8, n, c.good, afeNow s⟩ s
  else s

/-- A write to AFE_CHCFGn: a reserved TYPE is ignored (R76, R112). -/
def chCfgWrite (n : Nat) (v : Word) (s : State) : State :=
  let t := if wget v 3 0 ≤ 8 then wget v 3 0 else fget s (AFE_CHCFG_TYPE n)
  wr s (AFE_CHCFG n) (wset (v &&& 0xF1FF) 3 0 t)

/-- A write to AFE_CHRNGn: RMIN above RMAX leaves both (R88). -/
def chRngWrite (n : Nat) (v : Word) (s : State) : State :=
  let old := rd s (AFE_CHRNG n)
  let w := wset (wset (wset (wset old 23 16 (wget v 23 16)) 15 12 (wget v 15 12)) 3 3 (wget v 3 3)) 2 0 (wget v 2 0)
  wr s (AFE_CHRNG n) (if wget v 6 4 > wget v 10 8 then w else wset (wset w 10 8 (wget v 10 8)) 6 4 (wget v 6 4))

/-- A write to AFE_GCFGn: a reserved ODR is ignored (R8, R112). -/
def odrWrite (g : Nat) (v : Word) (s : State) : State :=
  if wget v 2 0 ≤ 4 then fset s (AFE_GCFG_ODR g) (wget v 2 0) else s

/-! ### The commands -/

/-- Does the AFE run, so that its events can come about (R53)? -/
def afeUp (s : State) : Bool := power s 8 == .run || power s 8 == .idle

/-- An event of the AFE at a sub-tick count. -/
def afeEvent (sub : BitVec 16) (f : State → State) (s : State) : State := if afeUp s then f (atSub 8 sub (stir 8 s)) else s

def execSequencerEnable (i : Initiator) (k : Fin 4) (expert : Bool) (s : State) : Host.Outcome State Fault Refusal :=
  .next (access i (AFE_SCANCTL k.val) (scanCtlWrite k.val (if expert then 3 else 1)) s)

def execSequencerDisable (i : Initiator) (k : Fin 4) (expert : Bool) (s : State) : Host.Outcome State Fault Refusal :=
  .next (access i (AFE_SCANCTL k.val) (scanCtlWrite k.val (if expert then 2 else 0)) s)

def execStockRound (g : Fin 16) (s : State) : Host.Outcome State Fault Refusal :=
  .next (if afeUp s then stockRound g.val (stir 8 s) else s)

def execVisitStart (g : Fin 16) (sub : BitVec 16) (s : State) : Host.Outcome State Fault Refusal :=
  .next (afeEvent sub (visitStart g.val) s)

def execConversionEnd (g : Fin 16) (sub : BitVec 16) (code : BitVec 24) (op lim : Bool) (s : State) :
    Host.Outcome State Fault Refusal :=
  .next (afeEvent sub (afeConversion g.val code.toInt op lim) s)

def execStaleRecord (n : Fin 64) (sub : BitVec 16) (s : State) : Host.Outcome State Fault Refusal :=
  .next (afeEvent sub (staleRecord n.val) s)

/-- A blanking pin changes, which wakes AFE (R53, R98). -/
def afePin (sub : BitVec 16) (f : State → State) (s : State) : State := if islUp s 8 then f (atSub 8 sub (rouse 8 s)) else s

def execBlankAssert (pin : Fin 4) (sub : BitVec 16) (s : State) : Host.Outcome State Fault Refusal :=
  .next (afePin sub (fun s =>
    if s.afe.pins.testBit pin.val then s
    else sourceAsserts pin.val { s with afe := { s.afe with pins := s.afe.pins ||| 2 ^ pin.val } }) s)

def execBlankRelease (pin : Fin 4) (sub : BitVec 16) (s : State) : Host.Outcome State Fault Refusal :=
  .next (afePin sub (fun s =>
    if s.afe.pins.testBit pin.val then
      sourceReleases pin.val { s with afe := { s.afe with pins := s.afe.pins - 2 ^ pin.val } }
    else s) s)

def execBlankHoldExpiry (src : Fin 8) (sub : BitVec 16) (s : State) : Host.Outcome State Fault Refusal :=
  .next (afeEvent sub (holdExpiry src.val) s)

def execBlankConfigWrite (i : Initiator) (r : BlankReg) (src : Fin 8) (v : Word) (sub : BitVec 16) (s : State) :
    Host.Outcome State Fault Refusal :=
  let p : Nat × (State → State) := match r with
    | .cfg => (AFE_BLKCFG src.val, blkCfgWrite src.val v)
    | .mapLo => (AFE_BLKMAPLO src.val, blkMapWrite (AFE_BLKMAPLO src.val) src.val v)
    | .mapHi => (AFE_BLKMAPHI src.val, blkMapWrite (AFE_BLKMAPHI src.val) src.val v)
    | .sw => (AFE_BLKSW, blkSwWrite v)
  .next (access i p.1 (fun s => p.2 (atSub 8 sub s)) s)

def execBlankWindowWrite (i : Initiator) (v : Word) (s : State) : Host.Outcome State Fault Refusal :=
  .next (access i AFE_BLKWIN (blkWinWrite v) s)

def execChannelConfigWrite (i : Initiator) (n : Fin 64) (rng : Bool) (v : Word) (s : State) : Host.Outcome State Fault Refusal :=
  .next (if rng then access i (AFE_CHRNG n.val) (chRngWrite n.val v) s else access i (AFE_CHCFG n.val) (chCfgWrite n.val v) s)

def execGroupOdrWrite (i : Initiator) (g : Fin 16) (v : Word) (s : State) : Host.Outcome State Fault Refusal :=
  .next (access i (AFE_GCFG g.val) (odrWrite g.val v) s)

def execModulatorFault (g : Fin 16) (s : State) : Host.Outcome State Fault Refusal :=
  .next (if afeUp s then setF (setAfeGrp g.val { afeGrp s g.val with modFlt := true } (stir 8 s)) (AFE_GSTAT_MODFLT g.val) else s)

def execModulatorFaultEnd (g : Fin 16) (s : State) : Host.Outcome State Fault Refusal :=
  .next (setAfeGrp g.val { afeGrp s g.val with modFlt := false } s)

def execReferenceFault (s : State) : Host.Outcome State Fault Refusal :=
  .next (onlyIf (flag s AFE_STAT_REFOK && islUp s 8) (setF · AFE_EVT_REFFLT) (clrF s AFE_STAT_REFOK))

def execReferenceFaultEnd (s : State) : Host.Outcome State Fault Refusal := .next (setF s AFE_STAT_REFOK)

/-- The loop supply's current and whether it is at its total limit (R77, R112). -/
def execLoopOverload (mA : BitVec 8) (limit : Bool) (s : State) : Host.Outcome State Fault Refusal :=
  .next (if afeUp s then
    let s' := putF (fset (stir 8 s) AFE_STAT_LOOPI mA.toNat) AFE_STAT_LOOPOL limit
    onlyIf (limit && !flag s AFE_STAT_LOOPOL) (setF · AFE_EVT_LOOPOL) s'
  else s)

def execCalibrationVisitEnd (g : Fin 16) (sub : BitVec 16) (s : State) : Host.Outcome State Fault Refusal :=
  .next (afeEvent sub (calVisitEnd g.val) s)

/-- A rota channel's age has reached MINAGE: its request is raised (R34, R122). -/
def execCalibrationRequest (n : Fin 64) (s : State) : Host.Outcome State Fault Refusal :=
  .next (if afeUp s && inRota s n.val && (afeCh s n.val).req.isNone
      && decide (calAge s n.val ≥ fget s AFE_CALLIM_MINAGE) then
    let lim := fget s AFE_CALLIM_LIMIT
    setReq n.val (some ⟨agedLevel (calAge s n.val) (fget s AFE_CALCTL_LEVEL) lim, fget s AFE_CALCTL_LEVEL, lim⟩) (stir 8 s)
  else s)

/-- A waiting rota request is promoted by its age: a channel's, or a group's cold-junction request (R33, R123). -/
def execRotaAgePromotion (who : RotaWho) (s : State) : Host.Outcome State Fault Refusal :=
  .next (if afeUp s then match who with
    | .channel n => match (afeCh s n.val).req with
      | some q => setReq n.val (some ⟨min q.lvl (agedLevel (calAge s n.val) q.lev q.lim), q.lev, q.lim⟩) (stir 8 s)
      | none => s
    | .junction g =>
      let G := afeGrp s g.val
      setAfeGrp g.val { G with cjLvl := min G.cjLvl (agedLevel (cjAge s g.val) G.cjLev G.cjLim) } (stir 8 s)
  else s)

/-- A channel outside the rota has reached twice LIMIT (R126). -/
def execCaldue (n : Fin 64) (s : State) : Host.Outcome State Fault Refusal :=
  .next (if afeUp s && !getBit s AFE_CALCTL_ROTA (n.val / 16) && decide (calAge s n.val ≥ 2 * fget s AFE_CALLIM_LIMIT) then
    setF (stir 8 s) AFE_CALEVT_CALDUE
  else s)

/-- A write of one command to AFE_CALCMD. -/
def calCommand (i : Initiator) (op : Nat) (chan : BitVec 7) (sub : BitVec 16) (s : State) : State :=
  access i AFE_CALCMD (fun s => calCmdWrite (BitVec.ofNat 32 (256 * chan.toNat + op)) (atSub 8 sub s)) s

def execStage (i : Initiator) (chan : BitVec 7) (sub : BitVec 16) (s : State) : Host.Outcome State Fault Refusal :=
  .next (calCommand i 1 chan sub s)

def execStageEffect (n : Fin 64) (sub : BitVec 16) (s : State) : Host.Outcome State Fault Refusal :=
  .next (afeEvent sub (fun s => if s.afe.staged.contains n.val then beginStage n.val (unStage n.val s) else s) s)

def execCommit (i : Initiator) (chan : BitVec 7) (sub : BitVec 16) (s : State) : Host.Outcome State Fault Refusal :=
  .next (calCommand i 2 chan sub s)

def execAbort (i : Initiator) (chan : BitVec 7) (sub : BitVec 16) (s : State) : Host.Outcome State Fault Refusal :=
  .next (calCommand i 3 chan sub s)

/-- A stage has lasted STGMAX tick periods (R130, R133). -/
def execStageTimeout (n : Fin 64) (sub : BitVec 16) (s : State) : Host.Outcome State Fault Refusal :=
  .next (afeEvent sub (fun s => match (afeCh s n.val).stage with
    | some e => if edges s 8 - e ≥ max 1 (fget s AFE_CALCTL_STGMAX) then endStage n.val (setF s AFE_CALEVT_CALABORT) else s
    | none => s) s)

def execCalnow (i : Initiator) (chan : BitVec 7) (sub : BitVec 16) (s : State) : Host.Outcome State Fault Refusal :=
  .next (calCommand i 4 chan sub s)

def execImpnow (i : Initiator) (chan : BitVec 7) (sub : BitVec 16) (s : State) : Host.Outcome State Fault Refusal :=
  .next (calCommand i 5 chan sub s)

def execImpedanceCheckEnd (g : Fin 16) (sub : BitVec 16) (ri x : Word) (s : State) : Host.Outcome State Fault Refusal :=
  .next (afeEvent sub (impVisitEnd g.val ri x) s)

def execImpWindowClose (n : Fin 64) (sub : BitVec 16) (s : State) : Host.Outcome State Fault Refusal :=
  .next (afeEvent sub (impClose n.val) s)

end Sys2Proof.Machine
end

