-- ==== Sys2Proof/Machine/Codes.lean ====
section
/-! DEFINITION. What a register does by its table alone: access codes, locks, and encodings that a field ignores (R8 to R10). -/

namespace Sys2Proof.Machine

/-- The address of a block's lock bit, bit 31 of the word (R10). -/
def lockReg (b : Nat) : Option Nat :=
  match b with
  | 0 => some SYS_CTL | 1 => some SLU_CTL | 2 => some LOOM_CTL | 3 => some AFE_CTL | 4 => some VIB_CTL | 5 => some DIO_CTL
  | 6 => some CAN_GCTL | 7 => some ETH_GCTL | 8 => some STORE_CTL | 9 => some TICK_CTL | 10 => some DISP_CTL
  | 11 => some PERF_CTL | 12 => some SELV_CTL | 14 => some POLD_CTL | 15 => some QUEUE_CTLG | 16 => some LIFE_CTL
  | _ => none

/-- Is the lock of the block at an address set (R10)? -/
def locked (s : State) (a : Nat) : Bool :=
  match lockReg (a / 0x100000 - 0x200) with
  | some l => (rd s l).toNat.testBit 31
  | none => false

/-- A field whose encodings from `top` on are reserved and ignored (R8): its first instance, the step to the next and their number. -/
structure EncRow where
  base : Nat
  step : Nat
  cnt  : Nat
  hi   : Nat
  lo   : Nat
  top  : Nat
  deriving DecidableEq, Repr

/-- The fields with reserved encodings to which their tables give no effect (R8). -/
def encRows : List EncRow :=
  [⟨DIO_IBANK 0, 0x10, 6, 15, 12, 7⟩, ⟨DIO_IBANK 0, 0x10, 6, 11, 8, 13⟩, ⟨DIO_IBANK 0, 0x10, 6, 7, 6, 3⟩,
   ⟨DIO_INCFG 0, 0x10, 48, 15, 12, 7⟩, ⟨DIO_INCFG 0, 0x10, 48, 11, 8, 13⟩, ⟨DIO_INCFG 0, 0x10, 48, 7, 6, 3⟩,
   ⟨LIFE_CTL, 4, 1, 1, 0, 3⟩]

/-- Does a field take a value written to it (R8)? -/
def encOk (a hi lo v : Nat) : Bool :=
  encRows.all (fun r => !(r.base ≤ a && (a - r.base) / r.step < r.cnt && (a - r.base) % r.step == 0 && r.hi == hi && r.lo == lo
    && r.top ≤ v))

/-- What a write of `v` makes of a word's field by its access code (R9). -/
def fieldWrite (lock : Bool) (a : Nat) (f : FieldRow) (v cur : Word) : Word :=
  let new := wget v f.hi f.lo
  let old := wget cur f.hi f.lo
  match f.acc with
  | .rw => if encOk a f.hi f.lo new then wset cur f.hi f.lo new else cur
  | .rwl => if !lock && encOk a f.hi f.lo new then wset cur f.hi f.lo new else cur
  | .w1c => wset cur f.hi f.lo (old - (old &&& new))
  | .w1s => wset cur f.hi f.lo (old ||| new)
  | _ => cur

/-- A write of `v` to a register whose fields have no behaviour of their own (R9, R10). -/
def codeWrite (a : Nat) (v : Word) (s : State) : State :=
  match regRow a with
  | some r => wr s a (r.fields.foldl (fun cur f => fieldWrite (locked s a) a f v cur) (rd s a))
  | none => s

/-- A read clears the RC fields (R9). -/
def readClear (a : Nat) (s : State) : State :=
  match regRow a with
  | some r => wr s a (r.fields.foldl (fun cur f => if f.acc = .rc then wset cur f.hi f.lo 0 else cur) (rd s a))
  | none => s

end Sys2Proof.Machine
end

