-- ==== Sys2Proof/Machine/DioBase.lean ====
section
/-! DEFINITION. The banks of the isolated digital outputs: targets, actual states, HOLD, the enable and the loss of DIOL (R314 to R338, R69,
R70). -/

namespace Sys2Proof.Machine

/-! ### Banks, inputs and outputs -/

def dioUp (s : State) : Bool := power s 10 == .run || power s 10 == .idle

def dioBank (s : State) (k : Nat) : DioBank := tabGet (fun _ => {}) s.dio.banks k
def setBank (k : Nat) (b : DioBank) (s : State) : State :=
  { s with dio := { s.dio with banks := tabSet (fun _ => {}) s.dio.banks k b } }

def dioIn (s : State) (n : Nat) : DioIn := tabGet (fun _ => {}) s.dio.ins n
def setIn (n : Nat) (x : DioIn) (s : State) : State := { s with dio := { s.dio with ins := tabSet (fun _ => {}) s.dio.ins n x } }

def dioOut (s : State) (m : Nat) : DioOut := tabGet (fun _ => {}) s.dio.outs m
def setOut (m : Nat) (x : DioOut) (s : State) : State := { s with dio := { s.dio with outs := tabSet (fun _ => {}) s.dio.outs m x } }

/-- Is a bank marked up (R317)? -/
def bankUp (s : State) (k : Nat) : Bool := getBit s DIO_STAT_UP k

/-- The word whose fields apply to an input, by PROF as its bank applies it (R318). -/
def inCfg (s : State) (n : Nat) : Word :=
  let c := (dioBank s (n / 8)).cfg
  if (dioIn s n).prof then c.words.getD (n % 8) 0 else c.bank

def inEn (s : State) (n : Nat) : Bool := wget (inCfg s n) 0 0 == 1

/-- Flags that a bank reports with its next status word. -/
def bankFlag (k : Nat) (mask : Nat) (s : State) : State :=
  let b := dioBank s k
  setBank k { b with evt := b.evt ||| mask } s

/-! ### Outputs (R318, R329, R335 to R338) -/

/-- The fields an output bank applies. -/
def outBankCfg (s : State) (b : Nat) : Word := (dioBank s (6 + b)).cfg.bank

def outCfg (s : State) (m : Nat) : Word := (dioBank s (6 + m / 8)).cfg.words.getD (m % 8) 0

/-- The commanded states as a bank has them, bit j for output j. -/
def bankCmd (s : State) (b : Nat) : Nat := (dioBank s (6 + b)).cfg.cmd

/-- The fields of a bank as DIOL holds them (R342). -/
def diolFields (s : State) (k : Nat) : DioCfg :=
  if k < 6 then ⟨rd s (DIO_IBANK k), (List.range 8).map (fun j => rd s (DIO_INCFG (8 * k + j))), 0⟩
  else ⟨rd s (DIO_OBANK (k - 6)), (List.range 8).map (fun j => rd s (DIO_OUTCFG (8 * (k - 6) + j))),
    fget s DIO_OSTATE_OUT / 2 ^ (8 * (k - 6)) % 256⟩

/-- DIOL forwards the fields of a bank to it while it is up (R317, R342). -/
def loadBank (k : Nat) (s : State) : State :=
  if bankUp s k then setBank k { dioBank s k with cfg := diolFields s k } s else s

/-- FAIL of an output, by PROF as its bank applies it (R318, R336). -/
def outFail (s : State) (m : Nat) : Nat :=
  if (dioOut s m).prof then wget (outCfg s m) 1 0 else wget (outBankCfg s (m / 8)) 1 0

/-- Is an output commanded by the host, by PROF as DIOL applies it (R318, R328)? -/
def outHost (s : State) (m : Nat) : Bool :=
  if s.dio.prof.testBit m then wget (rd s (DIO_OUTCFG m)) 2 2 == 1 else flag s (DIO_OBANK_SRC (m / 8))

def outPar (s : State) (m : Nat) : Bool := wget (outCfg s m) 3 3 == 1

/-- The state that the bank gives an output before undervoltage and switch faults (R329, R335, R336, R338). -/
def outTarget (s : State) (m : Nat) : Bool :=
  let k := dioBank s (6 + m / 8)
  match k.state with
  | 1 => if s.dio.rel && outPar s m then false else (bankCmd s (m / 8)).testBit (m % 8)
  | 2 => k.held.testBit (m % 8)
  | 3 => !outPar s m && (match outFail s m with
    | 1 => true
    | 2 => k.held.testBit (m % 8)
    | _ => false)
  | _ => false

/-- The actual state of an output (R329). -/
def outActual (s : State) (m : Nat) : Bool :=
  let k := dioBank s (6 + m / 8)
  let x := dioOut s m
  k.on && !k.uv && x.fault != .thermal && x.fault != .latched && outTarget s m

/-- What follows at an output from a change: a commanded off ends a fault's sequence, an output that is not on is not in limit, and one
that is on sees no foreign drive (R332, R333). -/
def outSettle (m : Nat) (s : State) : State :=
  let x := dioOut s m
  let off := (dioBank s (6 + m / 8)).state == 1 && (bankCmd s (m / 8)).testBit (m % 8) == false
  let x := if x.fault ≠ .latched ∧ (off ∨ (x.fault = .curlim ∧ outActual s m = false)) then { x with fault := .none } else x
  let s := setOut m x s
  if outActual s m then setOut m { x with fdrv := false } s else s

def bankSettle (b : Nat) (s : State) : State := forN 8 (fun j => outSettle (8 * b + j)) s

/-- An output bank enters HOLD (R335). -/
def bankHold (b : Nat) (s : State) : State :=
  let k := dioBank s (6 + b)
  if k.on ∧ k.state = 1 then
    let s := setBank (6 + b) { k with state := 2, held := bankCmd s b, evt := k.evt ||| 2 ^ 19 } s
    bankSettle b (clrBit s DIO_STAT_OEN b)
  else s

/-- An output bank is enabled: its outputs take their latest commanded states (R69, R70, R337). -/
def bankEnable (b : Nat) (s : State) : State :=
  let k := dioBank s (6 + b)
  if k.on ∧ bankUp s (6 + b) then bankSettle b (setBit (setBank (6 + b) { k with state := 1, held := 0 } s) DIO_STAT_OEN b) else s

/-- The takeover signal of the Reeve reaches DIOL (R338). -/
def dioTakeover (s : State) : State :=
  if islUp s 10 then setF (setF (forN 3 bankHold s) DIO_STAT_TAKEN) DIO_EVT_TAKEOVER else s

/-- The reset of DIOL: no bank is up, and the field side keeps what it holds, a release among it (R61, R317, R338, R341, R342). -/
def dioReset (s : State) : State :=
  let s := { s with regs := tabClear (fun a => a / 0x100000 == 0x205) s.regs }
  let s := forN 9 (fun k s => setPower s (18 + k) .off) s
  { s with dio := { s.dio with prof := 0, hist := [], out := [], rvOut := [] } }

end Sys2Proof.Machine
end

