-- ==== Sys2Proof/Machine/PerfBase.lean ====
section
/-! DEFINITION. The performance samples of R521; which sluices there are (R25, R35, R554); the order of arbitration (R32, R33). -/

namespace Sys2Proof.Machine

/-- A sample arrives at PERF with its engine and pc (R521). -/
def sampleSend (isl unit : Nat) (pc : Word) (s : State) : State :=
  if flag s PERF_SMPENG_SMPV then bump s PERF_SMPCNT_SMPLOST
  else setF (wr (wr s PERF_SMPENG (BitVec.ofNat 32 (2 ^ 31 + isl % 32 * 65536 + unit % 16))) PERF_SMPPC pc) PERF_EVT_SMP

/-- A sample of a squashed evaluation is discarded (R521). -/
def sampleSquash (s : State) : State := bump s PERF_SMPCNT_SMPSQ

/-- The island that counter `k` selects (R515). -/
def perfIsl (s : State) (k : Nat) : Nat := fget s (PERF_SEL_ISL k)

/-- An island enters SLEEP once more (R517). -/
def sleepCount (i : Nat) (s : State) : State :=
  { s with perf := { s.perf with sleeps := tabSet (fun _ => 0) s.perf.sleeps i (tabGet (fun _ => 0) s.perf.sleeps i + 1) } }

/-- A reset of an island zeroes its units, and what of them is still to be gathered (R516, R525). -/
def perfIslandReset (i : Nat) (s : State) : State :=
  { s with perf := { s.perf with units := tabClear (fun k => perfIsl s k == i) s.perf.units,
                                 base := tabClear (fun k => perfIsl s k == i) s.perf.base,
                                 sleeps := tabSet (fun _ => 0) s.perf.sleeps i 0,
                                 snap := tabClear (fun k => perfIsl s k == i) s.perf.snap } }

/-- The HOST group: islands 0 and 2 to 16 (R25). -/
def hostGroup (i : Nat) : Bool := i == 0 || (2 ≤ i && i ≤ 16)

/-- Is an island one of LQ0 to LQ3? -/
def isQuadrant (i : Nat) : Bool := 4 ≤ i && i ≤ 7

/-- The level after reset of the sluice from one island to another, the most urgent of the rows that name the pair, if there is one
(R25, R35, R554). Register responses run to HOST. -/
def sluiceLevel (m : Bool) (src dst : Nat) : Option Nat :=
  if src = dst ∨ 27 ≤ src ∨ 27 ≤ dst then none
  else if (dst = 3 && (src = 8 || src = 9 || src = 10 || src = 14 || isQuadrant src)) || (src = 3 && isQuadrant dst) then some 0
  else if src = 2 then (if dst = 1 ∨ dst = 17 then none else some 1)
  else if dst = 2 then (if src = 1 ∨ src = 17 then none else some (if src = 12 then 1 else 2))
  else if (dst = 15 && hostGroup src) || (isQuadrant src && dst = 0) then some 3
  else if (src = 11 && dst = 3) || (src = 3 && (dst = 0 || (10 ≤ dst && dst ≤ 14)))
      || (m && ((src = 0 && dst = 17) || (src = 17 && dst = 0))) || ((src = 8 || src = 10) && dst = 16)
      || (src = 16 && dst = 13) || (src = 13 && dst = 0) || (src = 0 && dst = 13) || (src = 15 && hostGroup dst)
      || (src = 10 && 18 ≤ dst) || (18 ≤ src && dst = 10) then some 2
  else none

/-- The effective level of a requester with a programmed level, a limit and an age (R33, R34). -/
def effLevel (lvl lim age : Nat) : Nat :=
  if lim = 0 ∨ 2 * lim ≤ age then 0 else if lim ≤ age then lvl - 1 else lvl

/-- Is requester `a` granted before `b`: effective level, then age, then source number (R32)? -/
def before (la aa na lb ab nb : Nat) : Bool := la < lb || (la == lb && (aa > ab || (aa == ab && na < nb)))

end Sys2Proof.Machine
end

