-- ==== Sys2Proof/Machine/Queue.lean ====
section
/-! DEFINITION. The queue fabric: packets written, checked, committed, made visible, taken and flushed (R299 to R312). -/

namespace Sys2Proof.Machine

def que (s : State) (q : Nat) : Queue := tabGet (fun _ => {}) s.que q

def setQue (q : Nat) (x : Queue) (s : State) : State := { s with que := tabSet (fun _ => {}) s.que q x }

/-- Stages that hold `n` bytes (R302). -/
def stagesOf (n : Nat) : Nat := (n + 7) / 8

/-- Stages of a queue in use: visible words, committed words, the open packet and tentatively taken words (R309). -/
def queueUsed (x : Queue) : Nat :=
  x.visible.length + (x.commits.map List.length).sum + stagesOf (x.open_.getD []).length + x.tent.length

/-- A word of up to eight bytes, lowest first. -/
def wordOfBytes : List Byte → Nat
  | [] => 0
  | b :: l => b.toNat + 256 * wordOfBytes l

/-- The words a packet's bytes are packed into, the last padded with zeros (R302). -/
def packWords (first : Bool) : Nat → List Byte → List QWord
  | 0, _ => []
  | n + 1, l =>
    let h := l.take 8
    ⟨BitVec.ofNat 64 (wordOfBytes h), first, l.length ≤ 8, h.length⟩ :: (if l.length ≤ 8 then [] else packWords false n (l.drop 8))

/-- LEN of a packet, once bytes 2 and 3 are there (R303). -/
def packetLen (l : List Byte) : Option Nat :=
  match l with
  | _ :: _ :: b2 :: b3 :: _ => some (b2.toNat + 256 * b3.toNat)
  | _ => none

/-- A bad packet rewinds (R305); `more` tells whether writes of it are still to come. -/
def queueBad (q : Nat) (more : Bool) (s : State) : State :=
  let s := setBit (bump s (QUEUE_CNT_BAD q)) QUEUE_BADEVT_Q q
  setQue q { que s q with open_ := none, disc := more } s

/-- A packet whose LEN does not fit is rejected (R303). -/
def queueOversize (q : Nat) (s : State) : State :=
  let s := setBit (bump s (QUEUE_CNT_OVERSIZE q)) QUEUE_OVSZEVT_Q q
  setQue q { que s q with open_ := none, disc := true } s

/-- The open packet commits with the bytes `l` (R304). -/
def queueCommitted (q : Nat) (l : List Byte) (s : State) : State :=
  let x := que s q
  setQue q { x with open_ := none, commits := x.commits ++ [packWords true 64 l] } s

/-- The checks on the bytes of a packet as they stand after a write (R303): bad, oversize, or still open. -/
def queueLenCheck (q : Nat) (old new : List Byte) (s : State) : State :=
  match packetLen old, packetLen new with
  | none, some n =>
    if n < 4 then queueBad q true s
    else if n > 8 * fget s (QUEUE_CFG_DEPTH q) then queueOversize q s
    else setQue q { que s q with open_ := some new } s
  | _, _ => setQue q { que s q with open_ := some new } s

/-- A write to a queue with EN clear is discarded, counted once per packet (R306). -/
def queueOffWrite (q : Nat) (first : Bool) (s : State) : State :=
  let x := que s q
  if x.disc && !first then s
  else if first || !x.offPkt then setQue q { x with offPkt := true, disc := false } (setF (bump s QUEUE_OFFCNT_COUNT) QUEUE_EVT_OFFWR)
  else s

/-- Does a write of a packet that holds `l` need a new stage (R302), and is none free? -/
def queueFull (s : State) (q : Nat) (l : List Byte) : Bool :=
  l.length % 8 == 0 && decide (queueUsed (que s q) ≥ fget s (QUEUE_CFG_DEPTH q))

/-- A write by a shuttle or the host: one byte, or two where WIDTH is 1 (R302, R304, R306). -/
def queueWrite (q : Nat) (v : Word) (s : State) : State :=
  let b := if flag s (QUEUE_CFG_WIDTH q) then [v.truncate 8, (v >>> 8).truncate 8] else [v.truncate 8]
  if !flag s (QUEUE_CTL_EN q) then queueOffWrite q false s
  else
    let x := { que s q with offPkt := false }
    let s := setQue q x s
    if x.disc then s
    else
      let l := x.open_.getD []
      if (packetLen l).any (fun n => l.length ≥ n) then queueBad q true s
      else if queueFull s q l then queueBad q true s
      else queueLenCheck q l (l ++ b) s

/-- A commit by a shuttle or the host (R304, R305). -/
def queueCommit (q : Nat) (s : State) : State :=
  let x := que s q
  if x.disc ∨ x.offPkt then setQue q { x with disc := false, offPkt := false } s
  else match x.open_ with
    | none => s
    | some l => match packetLen l with
      | some n => if l.length < n then queueBad q false s else queueCommitted q (l.take n) s
      | none => queueBad q false s

/-- An abort by a shuttle or the host (R304, R305). -/
def queueAbort (q : Nat) (s : State) : State :=
  let x := que s q
  if x.disc ∨ x.offPkt then setQue q { x with disc := false, offPkt := false } s
  else match x.open_ with
    | none => s
    | some _ => queueBad q false s

/-- A write of VIB or COMMS with its first-of-packet mark (R302 to R306). The flag of the answer tells that it was taken: a write that
finds no free stage is refused, and the writer holds it. -/
def queueFront (q : Nat) (src : Nat) (first : Bool) (b : List Byte) (s : State) : State × Bool :=
  if fget s (QUEUE_CFG_WSRC q) ≠ src then (s, true)
  else if !flag s (QUEUE_CTL_EN q) then (queueOffWrite q first s, true)
  else
    let x := que s q
    let x := if first then { x with disc := false, offPkt := false } else x
    if x.disc ∨ x.offPkt then (s, true)
    else if x.open_.isNone && !first then (s, true)
    else
      let l := if first then [] else x.open_.getD []
      let w := flag s (QUEUE_CFG_WIDTH q)
      if b.length ≠ (if w then 2 else 1) then (queueBad q true (setQue q { x with open_ := none } s), true)
      else if queueFull (setQue q { x with open_ := some l } s) q l then (s, false)
      else
        let s := queueLenCheck q l (l ++ b) (setQue q x s)
        match (que s q).open_ with
        | some m => match packetLen m with
          | some n => if m.length ≥ n then (queueCommitted q (m.take n) s, true) else (s, true)
          | none => (s, true)
        | none => (s, true)

/-- The tag of a taken word (R308). -/
def queueTag (w : QWord) : Word :=
  BitVec.ofNat 32 (0x80000000 + w.first.toNat * 2 ^ 30 + w.last.toNat * 2 ^ 29 + w.bytes)

/-- The word at the read end leaves it (R308); with a take it stays at its stage, tentatively (R309). -/
def queueTake (q : Nat) (tent : Option (Nat × Nat)) (s : State) : State × Option QWord :=
  let x := que s q
  match x.visible with
  | [] => (s, none)
  | w :: l =>
    let t := match tent with
      | some (sh, e) => x.tent ++ [⟨sh, e, w⟩]
      | none => x.tent
    (setQue q { x with visible := l, tent := t } s, some w)

/-- Tentative takes of an evaluation commit in every queue (R197, R309). -/
def queueConfirmTakes (sh e : Nat) (s : State) : State :=
  { s with que := tabMap (fun _ => {}) (fun _ x => { x with tent := x.tent.filter (fun t => !(t.sh == sh && t.entry == e)) }) s.que }

/-- Tentative takes that `p` selects are undone in every queue: their words return to the read end in their order (R198, R309). -/
def queueUndoTakes (p : QTake → Bool) (s : State) : State :=
  { s with que := tabMap (fun _ => {}) (fun _ x => { x with
      visible := (x.tent.filter p).map (·.word) ++ x.visible, tent := x.tent.filter (fun t => !p t) }) s.que }

/-- A queue is emptied (R311). -/
def queueFlush (q : Nat) (s : State) : State :=
  let x := que s q
  let n := (x.visible.filter (·.last)).length + x.commits.length
  let s := bumpBy s (QUEUE_FCNT_FLUSHED q) n
  let s := onlyIf x.open_.isSome (bump · (QUEUE_FCNT_PARTIAL q)) s
  setQue q { x with visible := [], commits := [], open_ := none, disc := x.disc || x.open_.isSome, tent := [] } s

/-- A writer's island is reset: open packets of the queues it writes turn bad (R304). -/
def queueWriterReset (p : Nat → Nat → Bool) (s : State) : State :=
  forN 32 (fun q s =>
    if p (fget s (QUEUE_CFG_WSRC q)) (fget s (QUEUE_CFG_WSH q)) && (que s q).open_.isSome then queueBad q true s else s) s

/-- The sum of the stages of all queues (R300). -/
def queuePool (s : State) : Nat := ((List.range 32).map (fun q => fget s (QUEUE_CFG_DEPTH q))).sum

/-- A write to QUEUE_CFGq (R300). -/
def queueCfgWrite (q : Nat) (v : Word) (s : State) : State :=
  if flag s QUEUE_CTLG_LOCK || flag s (QUEUE_CTL_EN q) then s
  else
    let d := wget v 6 0
    if d < 8 ∨ d > 64 ∨ queuePool s - fget s (QUEUE_CFG_DEPTH q) + d > 1024 then setF s QUEUE_EVT_CFGERR
    else
      let s := wr s (QUEUE_CFG q) (v &&& 0xCF3F107F)
      fset s QUEUE_POOL_USED (queuePool s)

/-- A write to QUEUE_CTLq (R311): FLUSH flushes, and clearing EN flushes. -/
def queueCtlWrite (q : Nat) (v : Word) (s : State) : State :=
  let was := flag s (QUEUE_CTL_EN q)
  let on := wget v 0 0 == 1
  let s := onlyIf (wget v 1 1 == 1 || (was && !on)) (queueFlush q) s
  putF s (QUEUE_CTL_EN q) on

/-- A host write to QUEUE_WRq (R301, R313). -/
def queueWrWrite (q : Nat) (v : Word) (s : State) : State :=
  if fget s (QUEUE_CFG_WSRC q) = 1 ∧ wget v 31 16 = 0 then queueWrite q v s else s

/-- A host write to QUEUE_WCMDq (R301, R304, R313). -/
def queueWcmdWrite (q : Nat) (v : Word) (s : State) : State :=
  if fget s (QUEUE_CFG_WSRC q) = 1 ∧ wget v 31 16 = 0 then
    match wget v 1 0 with
    | 1 => queueCommit q s
    | 2 => queueAbort q s
    | _ => s
  else s

/-- A read of QUEUE_RDTAGq: a host read takes the word, a debug read does not (R301, R308). -/
def queueRdtag (i : Initiator) (q : Nat) (s : State) : Word × State :=
  match i with
  | .debug => (((que s q).visible.head?.map queueTag).getD 0, s)
  | .host =>
    if flag s (QUEUE_CFG_RHOST q) then
      match queueTake q none s with
      | (s, some w) => (queueTag w, wr (wr s (QUEUE_RDLO q) (w.data.truncate 32)) (QUEUE_RDHI q) ((w.data >>> 32).truncate 32))
      | (s, none) => (0, wr (wr s (QUEUE_RDLO q) 0) (QUEUE_RDHI q) 0)
    else (0, s)

/-- QUEUE_STATq as it reads (R313). -/
def queueStat (s : State) (q : Nat) : Word :=
  let x := que s q
  BitVec.ofNat 32 (x.open_.isSome.toNat * 2 ^ 31 + x.disc.toNat * 2 ^ 30 + (x.visible.filter (·.last)).length * 2 ^ 16
    + x.tent.length * 256 + queueUsed x)

end Sys2Proof.Machine
end

