-- ==== Sys2Proof/Machine/Held.lean ====
section
/-! DEFINITION. Records and held entries of the loom: clearances, replacements, agreements and the deadline (R219, R245 to R259). -/

namespace Sys2Proof.Machine

/-- The field [hi:lo] of a 64-bit record word. -/
def lget (w : BitVec 64) (hi lo : Nat) : Nat := w.toNat / 2 ^ lo % 2 ^ (hi + 1 - lo)

/-- A 64-bit record word with its field [hi:lo] replaced. -/
def lset (w : BitVec 64) (hi lo v : Nat) : BitVec 64 :=
  BitVec.ofNat 64 (w.toNat - lget w hi lo * 2 ^ lo + v % 2 ^ (hi + 1 - lo) * 2 ^ lo)

def recPend (w : BitVec 64) : Nat := lget w 46 42
def recQual (w : BitVec 64) : Nat := lget w 41 38

/-- The source of a sample or an input record, numbered as LOOM_ROUTEs are (R218). -/
def recSrc (w : BitVec 64) : Option Nat :=
  match lget w 63 62 with
  | 0 => some (lget w 37 32)
  | 2 => some (64 + lget w 37 32)
  | _ => none

/-- Is it a pick record (R219)? -/
def recIsPick (w : BitVec 64) : Bool := lget w 63 62 == 3 && lget w 61 58 == 0

/-- A stamp as word 1 of a record (R219). -/
def stampWord (t : Stamp) : BitVec 64 := BitVec.ofNat 64 (t.tick.toNat * 65536 + t.sub.toNat)

/-- Word 0 of a sample record (R96). -/
def sampleWord (r : SampleRec) : BitVec 64 :=
  BitVec.ofNat 64 (r.repl.toNat * 2 ^ 58 + r.range % 8 * 2 ^ 55 + r.gen % 256 * 2 ^ 47 + r.pend % 32 * 2 ^ 42
    + r.qual % 16 * 2 ^ 38 + r.chan % 64 * 2 ^ 32 + r.value.toNat)

/-! ### Held entries -/

def heldOf (s : State) (n : Nat) : List Held := tabGet (fun _ => []) s.loom.held n

def setHeld (n : Nat) (l : List Held) (s : State) : State :=
  { s with loom := { s.loom with held := tabSet (fun _ => []) s.loom.held n l } }

def shuttle (s : State) (n : Nat) : Shuttle := tabGet (fun _ => {}) s.sh n

def setShuttle (n : Nat) (x : Shuttle) (s : State) : State := { s with sh := tabSet (fun _ => {}) s.sh n x }

/-- An entry of a shuttle, by its number. -/
def heldFind (s : State) (n id : Nat) : Option Held := (heldOf s n).find? (fun h => h.id == id)

/-- An entry of a shuttle changed. -/
def heldSet (n : Nat) (x : Held) (s : State) : State := setHeld n ((heldOf s n).map (fun h => if h.id = x.id then x else h)) s

/-- An entry of a shuttle ends. -/
def heldEnd (n id : Nat) (s : State) : State := setHeld n ((heldOf s n).filter (fun h => h.id != id)) s

/-- A notice leaves WARP for a shuttle (R251). -/
def sendNotice (n : Nat) (x : Notice) (s : State) : State :=
  let c := shuttle s n
  setShuttle n { c with notices := c.notices ++ [x] } s

/-- Bits of an entry's mask are cleared; a taken entry whose mask becomes zero gives a clear notice (R248, R251). -/
def heldClear (n : Nat) (h : Held) (mask : Nat) (s : State) : State :=
  let m := recPend h.w0 - (recPend h.w0 &&& mask)
  let s := heldSet n { h with w0 := lset h.w0 46 42 m } s
  if m = 0 ∧ recPend h.w0 ≠ 0 ∧ h.taken ∧ h.reject = none then sendNotice n (.clear h.id) s else s

/-- An entry is rejected for drop (R250, R251). -/
def heldDrop (n : Nat) (h : Held) (s : State) : State :=
  if h.taken then sendNotice n (.squash h.id) (bump (heldSet n { h with reject := some true } s) (LOOM_SQCNT_DROP n))
  else heldEnd n h.id s

/-- An entry is rejected for replay with new words (R250, R251). -/
def heldReplay (n : Nat) (h : Held) (w0 w1 : BitVec 64) (s : State) : State :=
  if h.taken then
    sendNotice n (.squash h.id) (bump (heldSet n { h with w0 := w0, w1 := w1, reject := some false } s) (LOOM_SQCNT_REPLAY n))
  else heldSet n { h with w0 := w0, w1 := w1 } s

/-- A record addresses an entry resolved at the deadline (R258). -/
def heldLate (n : Nat) (h : Held) (bits : Nat) (s : State) : State :=
  setF (heldSet n { h with resolved := h.resolved.map (fun m => m - (m &&& bits)) } s) LOOM_PVEVT_DLLATE

/-- Does a clearance record of a kind with a bound cover a stamp (R248)? -/
def boundCovers (kind : Nat) (bound t : BitVec 64) : Bool :=
  match kind with
  | 0 => decide (t.toNat ≤ bound.toNat)
  | 1 => decide (bound.toNat ≤ t.toNat)
  | _ => decide (t = bound)

/-- A clearance record meets an entry (R248). -/
def clearanceAt (r : ClearRec) (n : Nat) (h : Held) (s : State) : State :=
  if lget h.w0 63 62 = 0 ∧ (r.chan = 127 ∨ recSrc h.w0 = some r.chan) ∧ boundCovers r.kind (stampWord r.bound) h.w1 then
    match h.resolved with
    | some m => if m.testBit r.bit then heldLate n h (2 ^ r.bit) s else s
    | none =>
      if h.reject = some true ∨ (recPend h.w0).testBit r.bit = false then s
      else if r.kind = 0 ∨ r.kind = 2 then heldClear n h (2 ^ r.bit) s
      else heldDrop n h s
  else s

/-- WARP applies a clearance record to every held sample entry (R248). -/
def applyClearance (r : ClearRec) (s : State) : State :=
  forN 16 (fun n s => forL (heldOf s n) (clearanceAt r n) s) s

/-- A replacement meets an entry (R248): its words become the replacement's, but DUP stays until an agreement clears it (R249, R492). -/
def replacementAt (r : SampleRec) (n : Nat) (h : Held) (s : State) : State :=
  if recSrc h.w0 = some r.chan ∧ lget h.w0 63 62 = 0 ∧ h.w1 = stampWord r.stamp then
    if h.resolved.isSome then heldLate n h 0 s
    else if h.reject = some true then s
    else heldReplay n h (lset (sampleWord r) 46 42 (r.pend % 32 ||| (recPend h.w0 &&& 16))) (stampWord r.stamp) s
  else s

/-- WARP applies a replacement to the held entry of its channel and stamp in every shuttle (R248). -/
def applyReplacement (r : SampleRec) (s : State) : State :=
  forN 16 (fun n s => forL (heldOf s n) (replacementAt r n) s) s

/-- An agreement clears DUP on the entry it addresses (R249, R492, R498). -/
def agreementAt (src : Nat) (w1 : BitVec 64) (n : Nat) (h : Held) (s : State) : State :=
  if recSrc h.w0 = some src ∧ h.w1 = w1 then
    if h.resolved.isSome then heldLate n h 16 s else heldClear n h 16 s
  else s

def applyAgreement (src : Nat) (w1 : BitVec 64) (s : State) : State :=
  forN 16 (fun n s => forL (heldOf s n) (agreementAt src w1 n) s) s

/-- Confirmed-duplex mode ends: DUP is cleared on every held entry (R249). -/
def clearDup (s : State) : State := forN 16 (fun n s => forL (heldOf s n) (fun h s => heldClear n h 16 s) s) s

/-! ### The confirmation deadline (R257, R258) -/

/-- An entry ages at a tick edge WARP recognises (R257). -/
def heldAge (dl : Nat) (h : Held) : Held :=
  if recIsPick h.w0 then h
  else
    let a := min (h.age + 1) dl
    { h with age := a, due := h.due || (a == dl && recPend h.w0 != 0 && h.resolved.isNone && recSrc h.w0 != none) }

/-- Every held entry ages (R257). -/
def ageHeld (s : State) : State :=
  let dl := fget s LOOM_DEADLINE_DL
  { s with loom := { s.loom with held := s.loom.held.map (fun e => (e.1, e.2.map (heldAge dl))) } }

/-- An entry is resolved at the deadline (R258). -/
def heldResolve (n : Nat) (h : Held) (s : State) : State :=
  let q := recQual h.w0
  let m := recPend h.w0
  let h := { h with resolved := some m, due := false }
  let s := heldSet n h s
  let s := bump s (LOOM_DLCNT_RESOLVED n)
  let s := wr s LOOM_DLLAST (BitVec.ofNat 32 (2 ^ 31 + n * 2 ^ 27 + m * 2 ^ 22 + q * 2 ^ 18 + (recSrc h.w0).getD 0))
  let s := setF s LOOM_PVEVT_DLRES
  if q = 0 ∨ q = 3 ∨ q = 4 then heldReplay n h (lset (lset h.w0 46 42 0) 41 38 1) h.w1 s
  else if q = 2 then heldDrop n h (setF (bump s (LOOM_DLCNT_DROPPED n)) LOOM_PVEVT_DLDROP)
  else heldClear n h 31 s

/-- The first entry of a shuttle that an edge found due is resolved (R257, R262). -/
def resolveDue (n : Nat) (s : State) : State :=
  match (heldOf s n).find? (fun h => h.due && recPend h.w0 != 0 && h.resolved.isNone && h.reject != some true) with
  | some h => heldResolve n h s
  | none => s

end Sys2Proof.Machine
end

