-- ==== Sys2Proof/Machine/SelvBase.lean ====
section
/-! DEFINITION. The selvedge link: roles, orders to DIOL, confirmed-duplex mode and votes, as far as WARP meets them
(R484, R485, R491, R492, R496). -/

namespace Sys2Proof.Machine

/-- The code of a role in SELV_STAT (R501). -/
def Role.code : Role → Nat
  | .none => 0 | .standby => 1 | .active => 2 | .demoted => 3

/-- The module's role. -/
def selvRoleOf (s : State) : Role :=
  match fget s SELV_STAT_ROLE with
  | 0 => .none | 1 => .standby | 2 => .active | _ => .demoted

def setSelv (x : SelvSt) (s : State) : State := { s with selv := x }

/-- The module's epoch. -/
def selvEpoch (s : State) : BitVec 16 := BitVec.ofNat 16 (fget s SELV_EPOCH_EPOCH)

/-- Does SELV run? -/
def selvUp (s : State) : Bool := power s 14 == .run || power s 14 == .idle

/-- SELV_ROLEO is driven high (R485). -/
def roleoHigh (s : State) : Bool := islUp s 14 && selvRoleOf s == .active

/-- SELV sends a keepalive (R483). -/
def sendKeepalive (s : State) : State :=
  setSelv { s.selv with sentKeep := some ⟨fget s SELV_CFG_UNIT, selvRoleOf s, selvEpoch s, fget s LOOM_PICKCFG_PICKUS, flag s SELV_CTL_CDUP,
    flag s SELV_STAT_COPYOK⟩ } s

def egPath (s : State) (p : Nat) : EgPath := tabGet (fun _ => {}) s.loom.egress p

def setEgPath (p : Nat) (x : EgPath) (s : State) : State :=
  { s with loom := { s.loom with egress := tabSet (fun _ => {}) s.loom.egress p x } }

/-- WARP relays an item to DIOL ahead of the waiting output entries (R496). -/
def relayDiol (x : EgItem) (s : State) : State :=
  let e := egPath s 3
  setEgPath 3 { e with sent := e.sent ++ [⟨x, .marker, e.seq⟩] } s

/-- Does the record of the opened pick wait for SELV: at a boundary of a STANDBY module that SELV has yet to judge, and in a takeover until the
copy is complete (R494)? -/
def pickAwaits (s : State) : Bool :=
  s.selv.taking || (selvUp s && flag s SELV_CTL_EN && selvRoleOf s == .standby && !s.selv.bounds.isEmpty)

/-- The conditions of confirmed-duplex mode (R491). -/
def cdupHolds (s : State) : Bool :=
  flag s SELV_CTL_CDUP && (s.selv.peer.map (·.cdup)).getD false && flag s SELV_STAT_PAIRED
    && (fget s SELV_STAT_ROLE == 1 || fget s SELV_STAT_ROLE == 2) && (fget s SELV_STAT_PROLE == 1 || fget s SELV_STAT_PROLE == 2)

/-- Confirmed-duplex mode is entered or left with its conditions (R249, R491, R498). -/
def cdupUpdate (s : State) : State :=
  let on := cdupHolds s
  if on == flag s SELV_STAT_CDUPON then s
  else if on then
    let s := setF s SELV_STAT_CDUPON
    { s with loom := { s.loom with cdup := true } }
  else
    let s := setSelv { s.selv with votes := [], agree := [] } (clrF s SELV_STAT_CDUPON)
    clearDup { s with loom := { s.loom with cdup := false } }

/-- A copy in progress, and one that waits, is abandoned (R489). -/
def copyAbandon (s : State) : State := setSelv { s.selv with sending := none, wait := none } s

/-- The role changes (R484, R489, R496). An epoch, TAKEOVER and ASSUME are the caller's. -/
def selvRole (r : Role) (s : State) : State :=
  if selvRoleOf s = r then s
  else
    let s := onlyIf (selvRoleOf s == .active) copyAbandon s
    let s := setF (fset s SELV_STAT_ROLE r.code) SELV_EVT_ROLECHG
    let s := onlyIf (r == .demoted) (setF · SELV_EVT_DEMOTED) s
    let s := onlyIf (r == .standby) (relayDiol .release) s
    let s := setSelv { s.selv with request := false, giving := false, due := none, granted := false, taking := false } s
    cdupUpdate (sendKeepalive (onlyIf (r != .standby) (fset · SELV_STAT_MISS 0) s))

/-- A fatal loom fault, or the takeover signal of the Reeve, demotes the module (R484). -/
def selvDemote (s : State) : State :=
  if selvRoleOf s = .active ∨ selvRoleOf s = .standby then selvRole .demoted s else s

/-! ### Pairing and the way out of NONE (R483, R484) -/

/-- Signed 16-bit comparison of epochs: is `a` greater than `b` (R484)? -/
def epochGreater (a b : BitVec 16) : Bool := decide (0 < (a - b).toInt)

/-- A module that becomes ACTIVE takes a greater epoch than both have (R484). -/
def nextEpoch (s : State) : BitVec 16 :=
  let own := selvEpoch s
  let his := BitVec.ofNat 16 (fget s SELV_EPOCH_PEPOCH)
  (if epochGreater his own then his else own) + 1

/-- The module becomes ACTIVE (R484). -/
def becomeActive (s : State) : State := selvRole .active (fset s SELV_EPOCH_EPOCH (nextEpoch s).toNat)

/-- The module leaves NONE as the paired partner's role lets it (R484, R496). -/
def leaveNone (s : State) : State :=
  if selvRoleOf s = .none ∧ flag s SELV_CTL_EN ∧ flag s SELV_STAT_PAIRED then
    if fget s SELV_STAT_PROLE = 2 then selvRole .standby s
    else if fget s SELV_STAT_PROLE = 0 ∧ fget s SELV_CFG_UNIT = 0 then relayDiol .assume (becomeActive s)
    else s
  else s

/-- Do UNIT and PICKUS let the modules pair (R483)? -/
def peerFits (s : State) (k : Keepalive) : Bool := k.unit != fget s SELV_CFG_UNIT && k.pickus == fget s LOOM_PICKCFG_PICKUS

/-- PAIRED follows its conditions (R483), and what depends on it follows PAIRED (R484, R491). -/
def pairUpdate (s : State) : State :=
  let near := match s.selv.heard with
    | some e => flag s SELV_CTL_EN && (flag s SELV_STAT_LANE0 || flag s SELV_STAT_LANE1) && decide (edges s 14 < e + 96)
    | none => false
  let s := match s.selv.peer with
    | some k => onlyIf (near && !peerFits s k) (setF · SELV_EVT_PAIRERR) s
    | none => s
  let on := near && (s.selv.peer.map (peerFits s)).getD false
  let was := flag s SELV_STAT_PAIRED
  let s := putF s SELV_STAT_PAIRED on
  let s := onlyIf (on && !was) (setF · SELV_EVT_PAIRUP) s
  let s := onlyIf (was && !on) (setF · SELV_EVT_PAIRDN) s
  cdupUpdate (leaveNone s)

/-! ### Votes (R492) -/

/-- The VALUE of a vote as a binary32 number (R272, R492). -/
def voteValue (v : Vote) : Word :=
  if v.src < 64 ∨ v.kind = 2 then v.value else wOfInt v.value.toNat

/-- Do a local and a partner vote of one source agree, arrival apart (R492)? -/
def votesAgree (s : State) (a b : Vote) : Bool :=
  a.qual == b.qual && a.kind == b.kind &&
    (if a.src ≥ 64 ∧ a.kind = 0 then a.value == b.value
     else (wNan (voteValue a) && wNan (voteValue b))
       || wLe (wAbs (wSub (voteValue a) (voteValue b))) (rd s (SELV_DUPTOL a.src)))

/-- SELV finds a local vote in agreement and tells WARP (R492). -/
def voteAgreed (v : Vote) (s : State) : State := setSelv { s.selv with agree := s.selv.agree ++ [(v.src, v.stamp)] } s

/-- SELV finds a local vote without agreement (R492). -/
def voteDisagreed (s : State) : State := setF (bump s SELV_AGRCNT_DISAGREE) SELV_EVT_DISAGREE

/-- Two votes of one source are compared (R492). -/
def compareVotes (loc rem : Vote) (s : State) : State :=
  if votesAgree s loc rem then voteAgreed loc s else voteDisagreed s

/-- A local vote arrives at SELV (R492). -/
def localVote (v : Vote) (s : State) : State :=
  let s := setSelv { s.selv with sentVote := some v } s
  let near := match tabFind s.selv.pvotes v.src with
    | some p => if v.at_ - p.at_ ≤ fget s SELV_AGRCFG_AGRWIN then some p else none
    | none => none
  match near with
  | some p => compareVotes v p s
  | none =>
    if s.selv.votes.length < 512 then setSelv { s.selv with votes := s.selv.votes ++ [v] } s
    else setF (bump s SELV_AGRCNT_AGROVF) SELV_EVT_AGROVF

end Sys2Proof.Machine
end

