-- ==== Sys2Proof/Machine/Shuttle.lean ====
section
/-! DEFINITION. What a shuttle does with tags, slots, stores and gated instructions, how evaluations confirm and are squashed, and how
shuttles and the loom fail (R189 to R200, R212, R213, R235 to R238, R252 to R256). -/

namespace Sys2Proof.Machine

/-- The pc replaced. -/
def Core.setPc (c : Core) (a : Word) : Core := { c with pc := a }

/-- A general register read (R164). -/
def Core.get (c : Core) (n : Nat) : Word := if n = 0 then 0 else tabGet (fun _ => 0) c.g n

/-- A general register written (R164). -/
def Core.set (c : Core) (n : Nat) (v : Word) : Core :=
  if n = 0 then c else { c with g := tabSet (fun _ => 0) c.g n v }

/-- The states of LOOM_SHSTATn.STATE (R241). -/
def shStopped : Nat := 0
def shRunning : Nat := 1
def shFaulted : Nat := 2
def shLoading : Nat := 3

def isRunning (s : State) (n : Nat) : Bool := fget s (LOOM_SHSTAT_STATE n) == shRunning

/-- The state of a shuttle, with its bit in LOOM_STAT. -/
def setShState (n st : Nat) (s : State) : State :=
  let s := fset s (LOOM_SHSTAT_STATE n) st
  if st = shRunning then setBit s LOOM_STAT_RUN n else clrBit s LOOM_STAT_RUN n

/-! ### Evaluations (R189, R191, R192) -/

/-- The unconfirmed evaluation a shuttle executes, if it is provisional. -/
def Shuttle.curEval (x : Shuttle) : Option Eval :=
  match x.cur with
  | some id => x.evals.find? (fun e => e.entry == id)
  | none => none

/-- PROV (R191). -/
def Shuttle.prov (x : Shuttle) : Bool := x.curEval.isSome

/-- Slots in use, continuations included (R191). -/
def Shuttle.slots (x : Shuttle) : List Nat := x.evals.flatMap (fun e => e.slot :: e.conts.map (·.1))

/-- The tag that a register or word written now is given (R192): 0 confirmed, else 1 + the evaluation's entry. -/
def Shuttle.tagNow (x : Shuttle) : Nat :=
  match x.curEval with
  | some e => e.entry + 1
  | none => 0

/-- Does a tag read as provisional (R192)? -/
def Shuttle.tagProv (x : Shuttle) (t : Nat) : Bool := x.evals.any (fun e => e.entry + 1 == t)

/-- A general register written with its tag (R192). -/
def Shuttle.setReg (x : Shuttle) (n : Nat) (v : Word) : Shuttle :=
  if n = 0 then x else { x with core := x.core.set n v, rtag := tabSet (fun _ => 0) x.rtag n x.tagNow }

/-- A free slot, if there is one (R201). -/
def Shuttle.freeSlot (x : Shuttle) (n id : Nat) : Option Nat :=
  let used := x.slots
  let free := (List.range 8).filter (fun k => !used.contains k)
  let mask := ((List.range 8).map (fun k => if used.contains k then 2 ^ k else 0)).sum
  free[Config.pickSlot n mask id % free.length]?

/-- The evaluation that is executed changed. -/
def Shuttle.setEval (x : Shuttle) (e : Eval) : Shuttle :=
  { x with evals := x.evals.map (fun y => if y.entry = e.entry then e else y) }

/-- An event of R517 counted `n` times, by its code. -/
def Shuttle.count (evt n : Nat) (x : Shuttle) : Shuttle :=
  { x with cnt := tabSet (fun _ => 0) x.cnt evt (tabGet (fun _ => 0) x.cnt evt + n) }

/-- An instruction is issued (R517, R518): with PROV clear it is RETIRED at once, in a provisional evaluation it is held there. -/
def Shuttle.issue (x : Shuttle) : Shuttle :=
  match x.curEval with
  | some e => (x.setEval { e with issued := e.issued + 1 }).count 0x26 1
  | none => (x.count 0x20 1).count 0x25 1

/-- A snapshot of now (R190). -/
def Shuttle.snapNow (x : Shuttle) : Snap := ⟨x.core.g, x.rtag, x.core.fflags, x.core.pc, x.lst⟩

/-! ### Stores (R194, R195, R208, R229) -/

/-- Where shuttle addresses lead (R208): the instruction store, local data, warp memory by offset, or nowhere. -/
inductive ShPlace where
  | imem (o : Nat) | local_ (o : Nat) | warp (o : Nat) | none
  deriving DecidableEq, Repr

def shPlace (a : Nat) : ShPlace :=
  if a < 0x10000 then .imem a
  else if a < 0x18000 then .local_ (a - 0x10000)
  else if 0x10000000 ≤ a ∧ a < 0x10200000 then .warp (a - 0x10000000)
  else .none

/-- Is a warp offset within the published alarm table buffers (R232)? -/
def inPublished (s : State) (o : Nat) : Bool :=
  let base := wget s.loom.atcfg 21 16 * 0x8000
  decide (base + 0x8000 ≤ o) && decide (o < base + 0x18000)

/-- A byte of a table of bytes. -/
def byteAt (t : Tab Byte) (a : Nat) : Byte := tabGet (fun _ => 0) t a

/-- `n` bytes of a table from an address, lowest first. -/
def bytesAt (t : Tab Byte) (a n : Nat) : List Byte := (List.range n).map (fun i => byteAt t (a + i))

/-- Bytes stored from an address on. -/
def putBytes : Tab Byte → Nat → List Byte → Tab Byte
  | t, _, [] => t
  | t, a, b :: l => putBytes (tabSet (fun _ => 0) t a b) (a + 1) l

/-- The lowest `n` bytes of a number, lowest first. -/
def bytesOf : Nat → Nat → List Byte
  | 0, _ => []
  | n + 1, v => BitVec.ofNat 8 v :: bytesOf n (v / 256)

/-- What an unlisted byte of an instruction store reads as: zero (R209), or the library's image where it was loaded (R211), whose routine table
has zeros from word 7 on (R264). -/
def imemDefault (s : State) (n a : Nat) : Byte :=
  if (shuttle s n).lib ∧ a < 4 * fget s LOOM_LIBID_SIZE ∧ ¬(0x5C ≤ a ∧ a < 0xC0) then (Config.libImage (a / 4) >>> (8 * (a % 4))).truncate 8 else 0

/-- A byte of a shuttle's instruction store. -/
def imemByte (s : State) (n a : Nat) : Byte := tabGet (imemDefault s n) (shuttle s n).imem a

/-- A byte of warp memory as a shuttle's loads see it (R194): the youngest store of its unconfirmed evaluations, else its own confirmed
stores on their way (R229), else the memory. -/
def warpByteFor (s : State) (n : Nat) (o : Nat) : Byte :=
  let hit := fun (addr size : Nat) (data : Word) =>
    if addr ≤ o ∧ o < addr + size then some (BitVec.ofNat 8 (data.toNat / 256 ^ (o - addr))) else none
  let prov := ((shuttle s n).evals.flatMap (·.stores)).reverse.findSome? (fun e => match e with
    | .warp a z d => hit a z d
    | .localData _ _ _ => none)
  let sent := (s.loom.wstores.filter (fun w => w.sh == n)).reverse.findSome? (fun w => hit w.addr w.size w.data)
  match prov with
  | some b => b
  | none => match sent with
    | some b => b
    | none => byteAt s.loom.warp o

/-- Does a local data offset hold the stock library's own state, whose layout the spec does not give (R266)? -/
def libKeeps (s : State) (n o : Nat) : Bool := (shuttle s n).lib && decide (o < 0x6000) && (shuttle s n).lst != {}

/-- What a shuttle's load of `size` bytes returns (R175, R194). -/
def shLoad (s : State) (n : Nat) (p : ShPlace) (size : Nat) : Word :=
  BitVec.ofNat 32 (match p with
    | .imem o => wordOfBytes ((List.range size).map (fun i => imemByte s n (o + i)))
    | .local_ o => wordOfBytes ((List.range size).map (fun i => if libKeeps s n (o + i) then Config.libLocal n (shuttle s n).cnt (o + i)
        else byteAt (shuttle s n).dmem (o + i)))
    | .warp o => wordOfBytes ((List.range size).map (fun i => warpByteFor s n (o + i)))
    | .none => 0)

/-! ### The quadrant's outgoing sluice and the banks (R206, R227, R228) -/

/-- The oldest confirmed store of a shuttle that is on its way. -/
def firstStore (s : State) (n : Nat) : Option WarpStore := s.loom.wstores.find? (fun w => w.sh == n)

/-- Has a shuttle words for its quadrant's outgoing sluice? -/
def hasWords (s : State) (n : Nat) : Bool := (firstStore s n).isSome || s.loom.issued.any (fun p => p.1 == n)

/-- The age of a shuttle that waits for its quadrant's outgoing sluice. -/
def shAge (s : State) (n : Nat) : Nat := tabGet (fun _ => 0) s.loom.shAge n

/-- The shuttle that a quadrant's outgoing sluice is granted to: all request at level 0, so the oldest, and among equal ages the lowest number
(R32, R206). -/
def quadTurn (s : State) (q : Nat) : Option Nat :=
  let l := ((List.range 4).map (4 * q + ·)).filter (hasWords s)
  let best := l.foldl (fun m n => match m with
    | none => some n
    | some k => if shAge s n > shAge s k then some n else m) none
  match tabGet (fun _ => 0) s.loom.turn q with
  | 0 => best
  | m + 1 => if l.contains m then some m else best

/-- The bank of a warp offset (R227). -/
def bankOf (o : Nat) : Nat := o / 8 % 8

def bankReq (s : State) (b r : Nat) : BankReq := tabGet (fun _ => {}) s.loom.bankReq (8 * b + r)

def setBankReq (b r : Nat) (x : BankReq) (s : State) : State :=
  { s with loom := { s.loom with bankReq := tabSet (fun _ => {}) s.loom.bankReq (8 * b + r) x } }

/-- Does a requester wait at a bank? -/
def bankWaits (s : State) (b r : Nat) : Bool := (bankReq s b r).on

/-- A requester begins to wait at a bank, under the level and limit in force now (R34). -/
def bankAsk (b r : Nat) (s : State) : State :=
  if bankWaits s b r then s
  else setBankReq b r ⟨true, 0, fget s (LOOM_ARBCFG_LEVEL r), fget s (LOOM_ARBCFG_LIMIT r)⟩ s

/-- The effective level of a requester that waits at a bank (R33, R34, R228). -/
def bankLevel (s : State) (b r : Nat) : Nat := let x := bankReq s b r; effLevel x.lvl x.lim x.age

/-- Does the arbiter of a bank grant a waiting requester now (R32, R228)? -/
def bankGrants (s : State) (b r : Nat) : Bool :=
  (List.range 8).all (fun o => o == r || !bankWaits s b o
    || before (bankLevel s b r) (bankReq s b r).age r (bankLevel s b o) (bankReq s b o).age o)

/-- A quadrant's outgoing sluice is granted anew, and a store that is granted it waits at its bank. -/
def quadNext (q : Nat) (s : State) : State :=
  match quadTurn s q with
  | none => { s with loom := { s.loom with turn := tabSet (fun _ => 0) s.loom.turn q 0 } }
  | some n =>
    let s := { s with loom := { s.loom with turn := tabSet (fun _ => 0) s.loom.turn q (n + 1), shAge := tabSet (fun _ => 0) s.loom.shAge n 0 } }
    match firstStore s n with
    | some w => bankAsk (bankOf w.addr) (4 + q) s
    | none => s

/-- An access of requester `r` at a bank is over; a store of its quadrant waits there again. -/
def bankDone (b r : Nat) (s : State) : State :=
  let s := setBankReq b r {} s
  if isQuadrant r then quadNext (r - 4) s else s

/-- Words of a quadrant's sluice have been taken: the grant passes on (R34). -/
def quadTook (q : Nat) (s : State) : State :=
  quadNext q { s with loom := { s.loom with turn := tabSet (fun _ => 0) s.loom.turn q 0 } }

/-- A shuttle abandons the access it waits to make: its quadrant's requests end, but for a store's. -/
def bankDrop (n : Nat) (s : State) : State :=
  let keep := ((quadTurn s (n / 4)).bind (firstStore s)).map (fun w => bankOf w.addr)
  { s with loom := { s.loom with bankReq := tabClear (fun k => k % 8 == 4 + n / 4 && keep != some (k / 8)) s.loom.bankReq } }

/-- A confirmed store of a shuttle leaves for warp memory (R194, R229). -/
def warpSend (n o size : Nat) (v : Word) (s : State) : State :=
  quadNext (n / 4) { s with loom := { s.loom with wstores := s.loom.wstores ++ [⟨n, o, size, v⟩] } }

/-- What stands in the 64-bit word of warp memory at an offset (R227). -/
def warpBad (s : State) (o : Nat) : Ecc := tabGet (fun _ => .clean) s.loom.bad (o / 8)

def setWarpBad (o : Nat) (e : Ecc) (s : State) : State :=
  { s with loom := { s.loom with bad := tabSet (fun _ => .clean) s.loom.bad (o / 8) e } }

/-- A single-bit error of warp memory is corrected, written back and counted (R227). -/
def warpCorrected (o : Nat) (s : State) : State := setF (bump (setWarpBad o .clean s) LOOM_ECCSTAT_WCOR) LOOM_EVT_ECCCOR

/-- Local data words of a store change their bytes and tag; a whole word is written with valid ECC. -/
def Shuttle.putLocal (x : Shuttle) (o : Nat) (l : List Byte) (tag : Nat) : Shuttle :=
  { x with dmem := putBytes x.dmem o l, ltag := tabSet (fun _ => 0) x.ltag (o / 4) tag
           dbad := if l.length = 4 then tabSet (fun _ => .clean) x.dbad (o / 4) .clean else x.dbad }

/-- A store of a shuttle (R194, R195); none where it needs a continuation and no slot is free. -/
def shStore (n : Nat) (p : ShPlace) (size : Nat) (v : Word) (s : State) : Option State :=
  let x := shuttle s n
  match x.curEval with
  | none =>
    match p with
    | .local_ o => some (setShuttle n (x.putLocal o (bytesOf size v.toNat) 0) s)
    | .warp o => some (warpSend n o size v s)
    | _ => some s
  | some e =>
    let put := fun (e : Eval) =>
      match p with
      | .local_ o =>
        let y := x.setEval { e with stores := e.stores ++ [.localData o (bytesAt x.dmem o size) (tabGet (fun _ => 0) x.ltag (o / 4))] }
        setShuttle n (y.putLocal o (bytesOf size v.toNat) x.tagNow) s
      | .warp o => setShuttle n (x.setEval { e with stores := e.stores ++ [.warp o size v] }) s
      | _ => s
    if e.stores.length < 64 * (1 + e.conts.length) then some (put e)
    else match x.freeSlot n e.entry with
      | some k =>
        let s := put { e with conts := e.conts ++ [(k, x.snapNow)] }
        some (setShuttle n ((shuttle s n).count 0x2A 1) s)
      | none => none

/-! ### Gated instructions (R193, R202) -/

/-- A gated operation leaves a shuttle (R193): to the queue fabric, to its interrupt flags, or to the egress of WARP. -/
def issueOp (n : Nat) (op : GateOp) (s : State) : State :=
  match op with
  | .qwr q v => queueWrite q v s
  | .qcmt q => queueCommit q s
  | .qabt q => queueAbort q s
  | .hirq m => fset s (LOOM_SHIRQ_FLAG n) (fget s (LOOM_SHIRQ_FLAG n) ||| m)
  | op => quadNext (n / 4) { s with loom := { s.loom with issued := s.loom.issued ++ [(n, op)] } }

/-- The head of a shuttle's gate queue issues if its tag reads as confirmed (R193). -/
def gateIssue (n : Nat) (s : State) : State :=
  let x := shuttle s n
  match x.gate with
  | g :: l => if x.tagProv g.tag then s else issueOp n g.op (setShuttle n { x with gate := l } s)
  | [] => s

/-- A gated instruction executes (R193); none where the gate queue is full. -/
def gated (n : Nat) (op : GateOp) (s : State) : Option State :=
  let x := shuttle s n
  if x.prov ∨ x.gate ≠ [] then
    if x.gate.length ≥ 16 then none
    else some (setShuttle n (Shuttle.count 0x2B 1 { x with gate := x.gate ++ [⟨op, x.tagNow, x.pick⟩] }) s)
  else some (issueOp n op s)

/-! ### Squash (R198, R255) -/

/-- One store buffer entry undone (R198). -/
def Shuttle.undoStore (x : Shuttle) (e : StoreEnt) : Shuttle :=
  match e with
  | .localData o old tag => x.putLocal o old tag
  | .warp _ _ _ => x

/-- Steps 2 and 3 of R198 for the evaluations `dead`, oldest first, which leave the shuttle. -/
def squashEvals (n : Nat) (dead : List Eval) (s : State) : State :=
  let ids := dead.map (·.entry)
  let s := onlyIf (dead.any (·.fault.isSome)) (setF · LOOM_PVEVT_DEFDISC) s
  let x := shuttle s n
  let x := (dead.flatMap (·.stores)).reverse.foldl Shuttle.undoStore x
  let x := { x with
    lst := match dead with
      | e :: _ => e.snap.lst
      | [] => x.lst
    evals := x.evals.filter (fun e => !ids.contains e.entry)
    gate := x.gate.filter (fun g => !(ids.map (· + 1)).contains g.tag) }
  let x := ((x.count 0x21 (dead.map (·.issued)).sum).count 0x29 dead.length).count 0x2C ((shuttle s n).gate.length - x.gate.length)
  let s := forL (dead.flatMap (·.smps)) (fun _ => sampleSquash) s
  queueUndoTakes (fun t => t.sh == n && ids.contains t.entry) (setShuttle n x s)

/-- WARP re-delivers the records of squashed evaluations (R245, R255): their entries stay taken; a drop is skipped and its entry ends. -/
def redeliver (n : Nat) (ids : List Nat) (s : State) : State :=
  setHeld n (((heldOf s n).filter (fun h => !(ids.contains h.id && h.reject == some true))).map (fun h =>
    if ids.contains h.id then { h with again := true, reject := none } else h)) s

/-- An evaluation is squashed with every younger one, and the shuttle stands at its sget (R198). -/
def squashFrom (n id : Nat) (s : State) : State :=
  let x := shuttle s n
  match x.evals.find? (fun e => e.entry == id) with
  | none => s
  | some e =>
    let dead := x.evals.dropWhile (fun y => y.entry != id)
    -- a younger evaluation that is not provisional cannot stand behind an unconfirmed one (R189)
    let ids := dead.map (·.entry)
    let s := redeliver n ids (squashEvals n dead (bankDrop n s))
    let y := shuttle s n
    setShuttle n { y with
      core := { y.core with g := e.snap.g, fflags := e.snap.fflags, pc := e.snap.pc }, rtag := e.snap.tags, cur := none } s

/-! ### Stops and faults (R213, R236, R238) -/

/-- WARP releases the records it holds for a shuttle (R213, R262). -/
def releaseHeld (n : Nat) (s : State) : State :=
  let x := shuttle s n
  let s := setShuttle n { x with notices := [], cur := none } (setHeld n [] s)
  { s with loom := { s.loom with started := tabSet (fun _ => false) s.loom.started n false,
                                 drops := tabSet (fun _ => 0) s.loom.drops n 0 } }

/-- All gate queue entries of a shuttle issue in order: they are confirmed once no evaluation is unconfirmed (R213). -/
def issueAll (n : Nat) (s : State) : State :=
  let l := (shuttle s n).gate
  forL l (fun g s => issueOp n g.op s) (setShuttle n { shuttle s n with gate := [] } s)

/-- The sequence of STOP (R213), which ends in the state `st`. -/
def stopShuttle (n st : Nat) (s : State) : State :=
  let s := squashEvals n (shuttle s n).evals (bankDrop n s)
  let s := issueAll n s
  let s := setShState n st s
  releaseHeld n (wr s (LOOM_SHPC n) (shuttle s n).core.pc)

/-- A shuttle ends with a fatal loom fault (R238): its gate queue entries are discarded, and a library copy under way is abandoned. -/
def fatalStop (n st : Nat) (s : State) : State :=
  let s := squashEvals n (shuttle s n).evals (bankDrop n s)
  let s := setShuttle n (Shuttle.count 0x2C (shuttle s n).gate.length { shuttle s n with gate := [] }) s
  let s := if isRunning s n then setShState n st (wr s (LOOM_SHPC n) (shuttle s n).core.pc)
    else if fget s (LOOM_SHSTAT_STATE n) = shLoading then setShState n shStopped (clrF s (LOOM_SHCMD_BUSY n)) else s
  releaseHeld n s

/-- Is a gated operation an output command? -/
def GateOp.isDout : GateOp → Bool
  | .dout _ _ => true
  | _ => false

/-- Is an item of path 3 an output command? -/
def EgItem.isOut : EgItem → Bool
  | .out _ _ => true
  | _ => false

/-- A fatal loom fault (R238), with the shuttle concerned for causes 3 to 5; a later one sets EVT.FATAL again. -/
def fatalFault (cause : Nat) (sh : Option Nat) (s : State) : State :=
  if flag s LOOM_STAT_FATAL then setF s LOOM_EVT_FATAL
  else
    let s := setF (setF s LOOM_STAT_FATAL) LOOM_EVT_FATAL
    let s := wr s LOOM_FSTAT (BitVec.ofNat 32 (2 ^ 31 + sh.getD 0 * 256 + cause))
    let s := forN 16 (fun n => fatalStop n (if sh = some n then shFaulted else shStopped)) s
    let s := { s with loom := { s.loom with sched := false, pubNext := none, copyReq := [],
                                            bankReq := tabClear (fun k => k % 8 == 3) s.loom.bankReq,
                                            issued := s.loom.issued.filter (fun p => !p.2.isDout) } }
    let e := egPath s 3
    let s := setEgPath 3 { e with wait := [], sent := e.sent.filter (fun x => !x.item.isOut) } s
    selvDemote { s with rvTrig := s.rvTrig ++ [.fatal] }

/-- A fault of a shuttle takes effect at the loom: fatal, or the shuttle isolated (R235, R236). `code` is LOOM_SHSTATn.CAUSE,
`fatal` LOOM_FSTAT.CAUSE. -/
def shuttleFails (n code fatal : Nat) (s : State) : State :=
  let s := fset s (LOOM_SHSTAT_CAUSE n) code
  if flag s (LOOM_SHCFG_FPOL n) then setF (stopShuttle n shFaulted s) LOOM_EVT_SHFLT
  else fatalFault fatal (some n) s

/-- A shuttle fault takes effect (R199, R235); causes 1 to 5, 9 for a memory error (R209), and 10 for an armed ebreak's halt, which no
register shows (R376). -/
def shuttleFaultNow (n cause : Nat) (s : State) : State :=
  if cause = 9 then shuttleFails n 9 4 s
  else if cause = 10 then
    let x := shuttle s n
    setShuttle n { x with core := { x.core with halted := true } } s
  else
    let x := shuttle s n
    shuttleFails n cause 3 (setShuttle n { x with scause := BitVec.ofNat 32 cause, sepc := x.core.pc } s)

/-- A shuttle raises a fault: deferred while PROV is set (R199, R200). -/
def shuttleFault (n cause : Nat) (s : State) : State :=
  let x := shuttle s n
  match x.curEval with
  | some e => setShuttle n (x.setEval { e with fault := some cause }) s
  | none => shuttleFaultNow n cause s

/-! ### Warp memory as its banks serve it (R227 to R229) -/

/-- An access to the 64-bit word at an offset finds `e` there besides what stands there: a single-bit error is corrected and the access `f` is
made, an uncorrectable one is a fatal loom fault (R227). -/
def warpCheck (e : Ecc) (o : Nat) (f : State → State) (s : State) : State :=
  match e.join (warpBad s o) with
  | .clean => f s
  | .corrected => f (warpCorrected o s)
  | .uncorrectable => fatalFault 2 none s

/-- Bytes are written to warp memory: less than 64 bits, so the word is read first (R227). -/
def warpStore (o : Nat) (l : List Byte) (s : State) : State :=
  warpCheck .clean o (fun s => { s with loom := { s.loom with warp := putBytes s.loom.warp o l } }) s

/-- The oldest confirmed store of a shuttle is applied to warp memory, once its quadrant's sluice is granted to it and its bank's arbiter grants
it (R206, R228, R229). -/
def warpApply (n : Nat) (s : State) : State :=
  match firstStore s n with
  | some w =>
    let b := bankOf w.addr
    if quadTurn s (n / 4) = some n ∧ bankGrants s b (4 + n / 4) then
      let s := setBankReq b (4 + n / 4) {} { s with loom := { s.loom with wstores := s.loom.wstores.erase w } }
      warpStore w.addr (bytesOf w.size w.data.toNat) (quadTook (n / 4) s)
    else s
  | none => s

/-! ### Confirmation (R197, R252 to R254) -/

/-- The oldest unconfirmed evaluation confirms (R197); a fault held on it takes effect (R200). -/
def confirmOne (n : Nat) (e : Eval) (s : State) : State :=
  let s := forL e.stores (fun t s => match t with
    | .warp a z d => warpSend n a z d s
    | .localData _ _ _ => s) s
  let s := forL e.smps (sampleSend (4 + n / 4) (n % 4)) (queueConfirmTakes n e.entry s)
  let x := shuttle s n
  let x : Shuttle := { x with evals := x.evals.filter (fun y => y.entry != e.entry) }
  let x := (x.count 0x20 e.issued).count 0x28 1
  let s := heldEnd n e.entry (setShuttle n x s)
  match e.fault with
  | some c => shuttleFaultNow n c s
  | none => s

/-- Evaluations confirm in order while the oldest is clear (R254). -/
def confirmLoop : Nat → Nat → State → State
  | 0, _, s => s
  | k + 1, n, s =>
    match (shuttle s n).evals with
    | e :: _ => if e.clear then confirmLoop k n (confirmOne n e s) else s
    | [] => s

/-- A clear notice names an entry (R251, R254). -/
def noticeClear (n id : Nat) (s : State) : State :=
  match heldFind s n id with
  | some h =>
    if h.taken ∧ h.reject = none ∧ recPend h.w0 = 0 then
      let x := shuttle s n
      let x := { x with evals := x.evals.map (fun e => if e.entry = id then { e with clear := true } else e) }
      confirmLoop 9 n (setShuttle n x s)
    else s
  | none => s

/-- A squash notice names an entry (R251, R262). -/
def noticeSquash (n id : Nat) (s : State) : State :=
  match heldFind s n id with
  | some h => if h.taken ∧ h.reject.isSome then squashFrom n id s else s
  | none => s

end Sys2Proof.Machine
end

