-- ==== Sys2Proof/Machine/Egress.lean ====
section
/-! DEFINITION. The egress of WARP: paths, coalescing, shedding, FLOOD entries and sending (R291 to R298). -/

namespace Sys2Proof.Machine

/-- FIFO capacity of a path (R292). -/
def fifoCap : Nat → Nat
  | 0 => 512 | 1 => 128 | 2 => 64 | _ => 0

/-- Does a class wait in the FIFO (R293)? -/
def EgCls.inFifo : EgCls → Bool
  | .state | .diag | .hist | .extr => true
  | _ => false

/-- The class of a state change by its identifier (R293). -/
def srecClass (id : Nat) : EgCls := if id < 0x1000 then .alarm else if id < 0x8000 then .state else .diag

/-- An item is placed with the next sequence number (R293). -/
def egPlace (p : Nat) (x : EgItem) (c : EgCls) (s : State) : State :=
  let e := egPath s p
  setEgPath p { e with wait := e.wait ++ [⟨x, c, e.seq⟩], seq := e.seq + 1 } s

/-- An item of a path is shed: counted in its registers and in the FLOOD accumulation (R295, R296). -/
def egShed (p : Nat) (c : EgCls) (s : State) : State :=
  let s := setBit s LOOM_EGEVT_SHED p
  let s := match c with
    | .diag => bump s (LOOM_SHEDA_DIAG p)
    | .hist => bump s (LOOM_SHEDA_HIST p)
    | .extr => bump s (LOOM_SHEDB_EXTR p)
    | _ => bump s (LOOM_SHEDB_STATE p)
  let e := egPath s p
  let now := stampOf s 3
  let pick := rd s LOOM_PICKNUM
  let a := e.acc.getD { path := p, first := now, pick0 := pick }
  let up := fun (n : Nat) => min (n + 1) 0xFFFF
  let a := match c with
    | .diag => { a with diag := up a.diag }
    | .hist => { a with hist := up a.hist }
    | .extr => { a with extr := up a.extr }
    | _ => { a with state := up a.state }
  setEgPath p { e with acc := some { a with last := now, pick1 := pick } } s

/-- The class that a full FIFO with an arriving item sheds: the lowest present in the order D, H, X, S (R295). -/
def shedClass (l : List EgCls) : EgCls := (([.diag, .hist, .extr] : List EgCls).find? (l.contains ·)).getD .state

/-- The waiting entries without the youngest of a class. -/
def dropYoungest (c : EgCls) (l : List EgEnt) : List EgEnt :=
  match l.reverse.find? (fun e => e.cls == c) with
  | some e => l.erase e
  | none => l

/-- A FIFO item arrives at a path (R295). -/
def egFifo (p : Nat) (x : EgItem) (c : EgCls) (s : State) : State :=
  let e := egPath s p
  let fifo := e.wait.filter (fun y => y.cls.inFifo)
  if fifo.length < fifoCap p then egPlace p x c s
  else
    let k := shedClass (c :: fifo.map (·.cls))
    if k = c then egShed p k s
    else egPlace p x c (egShed p k (setEgPath p { e with wait := dropYoungest k e.wait } s))

/-- An item merged into a waiting one of the path (R294). -/
def egMerged (p : Nat) (s : State) : State := setBit (bump s (LOOM_EGCNT_COAL p)) LOOM_EGEVT_COAL p

/-- The merge of an alarm state change into the waiting entry of its identifier (R294). -/
def mergeAlarm (id : Nat) (st : Word) (stamp : BitVec 64) (x : EgItem) : EgItem :=
  match x with
  | .state i _ f _ n fan => if i = id then .state i st f stamp (min (n + 1) 0xFFFF) fan else x
  | x => x

/-- A state change arrives at a path (R293 to R295). -/
def egState (p id : Nat) (st : Word) (stamp : BitVec 64) (fan : Word) (s : State) : State :=
  let e := egPath s p
  match srecClass id with
  | .alarm =>
    if e.wait.any (fun y => match y.item with
        | .state i _ _ _ _ _ => i == id && y.cls == .alarm
        | _ => false) then
      egMerged p (setEgPath p { e with wait := e.wait.map (fun y =>
        if y.cls = .alarm then { y with item := mergeAlarm id st stamp y.item } else y) } s)
    else egPlace p (.state id st stamp stamp 1 fan) .alarm s
  | c => egFifo p (.state id st stamp stamp 1 fan) c s

/-- The merge of an output command (R294). -/
def mergeOut (o : Nat) (on : Bool) (x : EgItem) : EgItem :=
  match x with
  | .out i v => if i = o then .out i on else .out i v
  | x => x

/-- An output command arrives at path 3 (R292, R294, R488). -/
def egOut (o : Nat) (on : Bool) (s : State) : State :=
  let m := s.loom.outsh - (if s.loom.outsh.testBit o then 2 ^ o else 0) + (if on then 2 ^ o else 0)
  let s := { s with loom := { s.loom with outsh := m } }
  let e := egPath s 3
  if e.wait.any (fun y => match y.item with
      | .out i _ => i == o
      | _ => false) then
    egMerged 3 (setEgPath 3 { e with wait := e.wait.map (fun y => { y with item := mergeOut o on y.item }) } s)
  else egPlace 3 (.out o on) .out s

/-- The fan-out word of an identifier (R291). -/
def fanWord (s : State) (id : Nat) : Word :=
  BitVec.ofNat 32 (wordOfBytes (bytesAt s.loom.warp (fget s LOOM_FANCFG_BLK * 0x8000 + 4 * id) 4))

/-- An issued operation enters the egress (R291 to R295). -/
def egAccept (op : GateOp) (s : State) : State :=
  match op with
  | .dout o on => egOut o on s
  | .hinc r b => egFifo 0 (.hist r b) .hist s
  | .xupd r v t => egFifo 0 (.extreme r v t) .extr s
  | .srec id st t =>
    let s := egState 0 id st t 0 s
    if flag s LOOM_FANCFG_EN ∧ id ≤ 0x1FFF then
      let w := fanWord s id
      let s := onlyIf (wget w 31 31 == 1 && wget w 29 28 != 3) (egState 1 id st t w) s
      onlyIf (wget w 15 15 == 1) (egState 2 id st t w) s
    else s
  | _ => s

/-- The oldest issued operation of a shuttle is accepted, once its quadrant's sluice is granted to it (R206, R292). -/
def egressAccept (n : Nat) (s : State) : State :=
  match s.loom.issued.find? (fun p => p.1 == n) with
  | some p =>
    if quadTurn s (n / 4) = some n then
      egAccept p.2 (quadTook (n / 4) { s with loom := { s.loom with issued := s.loom.issued.erase p } })
    else s
  | none => s

/-- Two FLOOD accumulations merged (R296). -/
def mergeFlood (a b : Flood) : Flood :=
  let add := fun (x y : Nat) => min (x + y) 0xFFFF
  { a with diag := add a.diag b.diag, hist := add a.hist b.hist, extr := add a.extr b.extr, state := add a.state b.state
           last := b.last, pick1 := b.pick1 }

/-- A path places or extends its FLOOD entry at a pick completion (R296). -/
def egFlood (p : Nat) (s : State) : State :=
  let e := egPath s p
  match e.acc with
  | none => s
  | some b =>
    let s := setBit (setEgPath p { e with acc := none } s) LOOM_EGEVT_FLOOD p
    let e := egPath s p
    if e.wait.any (fun y => y.cls == .flood) then
      setEgPath p { e with wait := e.wait.map (fun y => match y.item with
        | .flood a => { y with item := .flood (mergeFlood a b) }
        | _ => y) } s
    else bump (egPlace p (.flood b) .flood s) (LOOM_EGCNT_FLOODS p)

/-- The waiting entry with the lowest sequence number (R293). -/
def egNext (l : List EgEnt) : Option EgEnt :=
  l.foldl (fun m e => match m with
    | some x => if e.seq < x.seq then some e else m
    | none => some e) none

/-- The words of an item on the sluice of a path; a word crosses to DISP as two (R292). -/
def egWords (p : Nat) (x : EgItem) : Nat :=
  (if p = 2 then 2 else 1) * (match x with
    | .extreme _ _ _ => 2
    | .state _ _ _ _ _ _ => 3
    | .flood _ => 4
    | _ => 1)

/-- Have the items on their way left a place for the next item's first word: at most one word is in its handshake and two are in the receive
register, and a path sends one item at a time (R292, R553)? -/
def egRoom (p : Nat) (e : EgPath) : Bool := decide ((e.sent.map (fun y => egWords p y.item)).sum < 3)

/-- A path sends its next item (R292, R293). -/
def egressSend (p : Nat) (s : State) : State :=
  let e := egPath s p
  match egNext e.wait with
  | some x => if egRoom p e then setEgPath p { e with wait := e.wait.erase x, sent := e.sent ++ [x] } s else s
  | none => s

/-- The next item on its way from a path to its destination, with its sequence number. -/
def egTake (p : Nat) (s : State) : Option EgEnt × State :=
  let e := egPath s p
  match e.sent with
  | x :: l => (some x, setEgPath p { e with sent := l } s)
  | [] => (none, s)

/-- LOOM_EGSTATp as it reads (R298). -/
def egStat (s : State) (p : Nat) : Word :=
  let e := egPath s p
  let cnt := fun (f : EgCls → Bool) => (e.wait.filter (fun y => f y.cls)).length
  BitVec.ofNat 32 ((e.wait.any (fun y => y.cls == .flood)).toNat * 2 ^ 31 + e.acc.isSome.toNat * 2 ^ 30
    + cnt (fun c => c == .alarm || c == .out) * 2 ^ 16 + cnt EgCls.inFifo)

/-! ### The commands -/

/-- The egress accepts a shuttle's operation at a sub-tick count of WARP, which stamps what is shed (R296). -/
def execEgressAccept (a : ShuttleAt) (s : State) : Host.Outcome State Fault Refusal :=
  .next (if islUp s 3 then egressAccept a.n.val (atSub 3 a.sub s) else s)

def execEgressSend (p : Fin 4) (s : State) : Host.Outcome State Fault Refusal :=
  .next (if islUp s 3 then egressSend p.val s else s)

end Sys2Proof.Machine
end

