-- ==== Sys2Proof/Machine/NandBase.lean ====
section
/-! DEFINITION. The NAND die: blocks, pages, the block status table and contents the spec leaves open (R418, R420). -/

namespace Sys2Proof.Machine

def setStore (x : StoreSt) (s : State) : State := { s with store := x }
def setNand (x : NandSt) (s : State) : State := { s with nand := x }

/-- A physical block's byte of the block status table (R420): 0xFF good. -/
def blockByte (s : State) (b : Nat) : Byte := tabGet (fun _ => 0xFF) s.nand.bst b

def blockGood (s : State) (b : Nat) : Bool := blockByte s b == 0xFF

/-- Is no page of a block programmed? -/
def blockErased (s : State) (b : Nat) : Bool := s.nand.pages.all (fun e => e.1 / 32 != b)

/-- A page of the die, programmed. -/
def nandPut (page : Nat) (p : NandPage) (s : State) : State := setNand { s.nand with pages := tabPut s.nand.pages page p } s

/-- A block of the die, erased. -/
def nandErase (b : Nat) (s : State) : State := setNand { s.nand with pages := tabClear (fun k => k / 32 == b) s.nand.pages } s

/-- A page whose content the spec leaves open. -/
def lostPage (n page : Nat) : NandPage :=
  ⟨(List.range 4096).map (Config.lostByte n page), (List.range 16).map (fun i => Config.lostByte n page (4096 + i))⟩

/-- A page of the die comes to hold a content that the spec leaves open. -/
def nandLose (page : Nat) (s : State) : State :=
  let n := s.nand.cuts
  nandPut page (lostPage n page) (setNand { s.nand with cuts := n + 1 } s)

/-- A program or erase cut off by a reset of STORE: what it leaves is open. -/
def nandCut (s : State) : State :=
  match s.store.op with
  | some (.hostProgram page _) => nandLose page s
  | some (.program page) => nandLose page s
  | some (.hostErase b) => forN 32 (fun i => nandLose (32 * b + i)) s
  | some (.erase b) => forN 32 (fun i => nandLose (32 * b + i)) s
  | _ => s

/-- A block is marked grown bad, in both copies of the table (R420). -/
def retireBlock (b : Nat) (s : State) : State :=
  setF (bump (setNand { s.nand with bst := tabSet (fun _ => 0xFF) s.nand.bst b 0x01 } s) STORE_WEAR_RETIRED) STORE_EVT_GROWN

end Sys2Proof.Machine
end

