-- ==== Sys2Proof/Machine/Reset.lean ====
section
/-! DEFINITION. What the reset of an island does (R9, R23, R61, R401), and the resets built of it. -/

namespace Sys2Proof.Machine

/-- The registers of a block's window at their reset values. -/
def clearBlock (b : Nat) (s : State) : State :=
  { s with regs := tabClear (fun a => a / 0x100000 == 0x200 + b) s.regs }

/-- The accesses open towards an island that is reset or loses its supply end with a bus error: a word that has not completed phase 2, and the
reads not yet answered (R23). -/
def abortOpen (i : Nat) (s : State) : State :=
  let s := forL s.slu.sluices (fun e s =>
    match e.2.word with
    | some w => if e.1 % 32 = i ∧ e.2.dead = false ∧ e.2.ack = false then wordError .offacc w s else s
    | none => s) s
  forL s.slu.open_ (fun r => onlyIf (r.dst == i) (busError r.ini .offacc r.addr.toNat)) s

/-- The requests of an initiator at the banks of warp memory end (R228). -/
def bankLeave (r : Nat) (s : State) : State := { s with loom := { s.loom with bankReq := tabClear (fun k => k % 8 == r) s.loom.bankReq } }

/-- Registers of the SYS island back at their reset values: SYS, SLU, POLD, LIFE, and of TICK the lock and the enables; the
live supply bits and SYS_RSTCAUSE stay (R62, R73, R401). The watchdog, the temperature warnings and the arbiter settings return to
reset. -/
def resetSysIsland (s : State) : State :=
  let sup := rd s SYS_SUPSTAT
  let cause := rd s SYS_RSTCAUSE
  let s := clearBlock 16 (clearBlock 14 (clearBlock 1 (clearBlock 0 s)))
  let s := bankLeave 0 (wr (wr s SYS_SUPSTAT sup) SYS_RSTCAUSE cause)
  let s := wr (clrF s TICK_CTL_LOCK) TICK_IEN 0
  { s with tick := { s.tick with reads := [] }, slu := { s.slu with arb := [] },
           sys := { s.sys with wdCount := 0, lockWait := false, warnA := true, warnB := true, relBusy := false },
           life := { s.life with cmd := none }, dbg := {},
           pol := { s.pol with out := [], timeRq := false, warnTx := false } }

/-- Registers and working state of WARP back at reset; a DEMOTED module leaves that role (R484), and SELV tells WARP again whether
confirmed-duplex mode is on. -/
def resetWarp (s : State) : State :=
  let s := { clearBlock 15 (clearBlock 2 s) with loom := {}, que := [] }
  let s := onlyIf (selvRoleOf s == .demoted) (selvRole .none) s
  { s with loom := { s.loom with cdup := flag s SELV_STAT_CDUPON } }

/-- The shuttles of a quadrant back at reset; it counts pick boundaries anew (R240). -/
def resetQuadrant (i : Nat) (s : State) : State :=
  { s with sh := tabClear (fun n => 4 + n / 4 == i) s.sh
           loom := { s.loom with quiet := tabSet (fun _ => 0) s.loom.quiet (i - 4) 0
                                 bankReq := tabClear (fun k => k % 8 == i) s.loom.bankReq } }

/-- Open packets of the queues written by a source (1 HOST, 2 VIB, 3 COMMS) whose island is reset turn bad (R304). -/
def writerReset (src : Nat) (s : State) : State := onlyIf (islUp s 3) (queueWriterReset (fun w _ => w == src)) s

/-- What an egress path had sent towards an island that is reset is lost (R19). -/
def dropSent (p : Nat) (s : State) : State := setEgPath p { egPath s p with sent := [] } s

/-- The state an island holds, back at reset. -/
def resetIslandState (i : Nat) (s : State) : State :=
  match i with
  | 0 => resetSysIsland s
  | 2 =>
    let s := bankLeave 2 (writerReset 1 s)
    { s with cpu := {}, tick := { s.tick with reads := s.tick.reads.filter (fun r => r.1 != .host) } }
  | 3 => resetWarp s
  | 4 => resetQuadrant 4 s
  | 5 => resetQuadrant 5 s
  | 6 => resetQuadrant 6 s
  | 7 => resetQuadrant 7 s
  | 8 => let ref := flag s AFE_STAT_REFOK
         putF { clearBlock 3 s with afe := {}, seq := [] } AFE_STAT_REFOK ref
  | 9 => { clearBlock 4 (writerReset 2 s) with vib := {} }
  | 10 => dropSent 3 (dioReset s)
  | 11 => { clearBlock 7 (clearBlock 6 (dropSent 1 (writerReset 3 s))) with comms := [], can := [], links := {} }
  | 14 =>
    let s := { clearBlock 12 s with selv := {} }
    onlyIf s.loom.cdup (fun s => clearDup { s with loom := { s.loom with cdup := false } }) s
  | 15 => { clearBlock 11 s with perf := { units := s.perf.units, base := s.perf.base, sleeps := s.perf.sleeps } }
  | 12 =>
    let s := forL s.store.held (fun h s => busError h.1 .offacc (0x20800800 + 4 * h.2) s) s
    { clearBlock 8 (nandCut (dropSent 0 s)) with store := {} }
  | 13 =>
    let s := { clearBlock 10 (dropSent 2 s) with disp := {} }
    { s with rv := { s.rv with segs := [] } }
  | 17 => { s with pol := {} }
  | 16 => { clearBlock 13 s with rv := {}, rvTrig := [] }
  | _ => s

/-- An island is reset: it is OFF, its sluices and open accesses end, its state is at reset; a fall of its SLU_ISLUP bit sets
ISLDOWN unless a SYS reset is its cause, which resets neither the Reeve nor the polder (R53, R61, R73). -/
def resetIsland (i : Nat) (s : State) : State :=
  let up := islUp s i
  let s := setInbox (setPower (dropSluices i (abortOpen i s)) i .off) i []
  let s := perfIslandReset i (resetIslandState i s)
  if up && (i == 16 || i == 17) then setF s SYS_EVT_ISLDOWN else s

/-- The islands of one list reset. -/
def resetIslands (l : List Nat) (s : State) : State := forL l resetIsland s

/-- The logic islands (R61). -/
def logicIslands : List Nat := [2, 3, 4, 5, 6, 7, 8, 9, 10, 11, 12, 13, 14, 15]

/-- The Reeve is told of a reset of logic islands, if one was released since the preceding one or since VREEVE arrived (R503). -/
def noteReset (s : State) : State :=
  let t := s.rv.relsd && islUp s 16
  { s with rv := { s.rv with relsd := false }, rvTrig := if t then s.rvTrig ++ [.reset] else s.rvTrig }

/-- The islands of die A and die B that a thermal reset resets (R58). -/
def dieIslands (b : Bool) : List Nat := if b then [3, 4, 5, 6, 7, 8, 9, 10] else [2, 11, 12, 13, 14, 15]

/-- Start-up resumes at the earliest step that contains a reset island; a reset of HOST clears GO and RECOVER (R63, R67). -/
def restartFrom (step : Nat) (s : State) : State :=
  let s := { s with sys := { s.sys with relBusy := false } }
  let s := if step ≤ 2 then fset (wr s SYS_STARTCTL 0) SYS_STARTSTAT_RECMODE 0 else s
  fset s SYS_STARTSTAT_STEP (min (fget s SYS_STARTSTAT_STEP) (step - 1))

/-- A reset of all logic islands with its cause (R61, R63); the watchdog restarts (R71). -/
def resetLogic (cause : Fld) (s : State) : State :=
  let s := setF (restartFrom 2 (noteReset (resetIslands logicIslands s))) cause
  { s with sys := { s.sys with wdCount := 0, lockWait := false } }

/-- SYS comes out of reset: the supply warnings of that moment are flagged (R73). -/
def releaseSys (s : State) : State :=
  let s := setPower (atSub 0 0 (setShadow s 0 s.tick.count)) 0 .run
  let s := onlyIf (flag s SYS_SUPSTAT_VMAINWARN || flag s SYS_SUPSTAT_VMAINOV) (setF · SYS_EVT_VMAINW) s
  let s := onlyIf (flag s SYS_SUPSTAT_VAUXWARN) (setF · SYS_EVT_VAUXW) s
  onlyIf (flag s SYS_SUPSTAT_VBATLOW) (setF · SYS_EVT_VBATLOW) s

/-- Are both supplies of the first release step good, VAUX having been so since it was last below 2.50 V (R61, R65)? -/
def suppliesGood (s : State) : Bool := flag s SYS_SUPSTAT_VMAINOK && flag s SYS_SUPSTAT_VAUXOK && !s.sys.porPending

/-- A reset of SYS and all logic islands; SYS is released at once where both supplies are good, else once they are (R61, R65). -/
def resetAll (s : State) : State :=
  let s := resetIsland 0 (noteReset (resetIslands logicIslands s))
  if suppliesGood s then releaseSys s else s

end Sys2Proof.Machine
end

