-- ==== Sys2Proof/Machine/Sys.lean ====
section
/-! DEFINITION. SYS: supplies, power states, die temperatures, resets, start-up and the watchdog (R49 to R73). -/

namespace Sys2Proof.Machine

/-- The islands of a release step (R65). -/
def stepIslands : Nat → List Nat
  | 2 => [2]
  | 3 => [12]
  | 4 => [3, 4, 5, 6, 7]
  | 5 => [8, 9]
  | 6 => [10, 11, 13, 14, 15]
  | _ => []

/-- Does a release step wait for a thermally held die (R58)? -/
def stepHeld (s : State) (n : Nat) : Bool :=
  (s.sys.holdA && (n == 2 || n == 3 || n == 6)) || (s.sys.holdB && (n == 4 || n == 5 || n == 6))

/-- A step is complete: STEP shows it, and step 6 sets GODONE (R65, R73). -/
def stepDone (n : Nat) (s : State) : State :=
  onlyIf (n == 6) (setF · SYS_EVT_GODONE) (fset { s with sys := { s.sys with relBusy := false } } SYS_STARTSTAT_STEP n)

/-- DISP is released (R442, R511): a set marker brings a clearing refresh, and the Reeve sends its latest word again. -/
def dispRelease (s : State) : State :=
  let s := { s with rv := { s.rv with segs := if islUp s 16 then [s.rv.word] else [] } }
  if s.tick.marker then
    let s := setF (setF s DISP_STAT_MARKSEEN) DISP_STAT_CLEARING
    { fset s DISP_STAT_LBAND 3 with disp := { s.disp with clear := .marking } }
  else s

/-- An island is released by SYS (R65): it runs with every register at its reset value; STORE has no calendar then (R413), and in
CUSTODY it is frozen (R531). -/
def releaseIsland (i : Nat) (s : State) : State :=
  if islUp s i then s
  else
    let s := runIsland i s
    let s := if logicIslands.contains i then { s with rv := { s.rv with relsd := true } } else s
    match i with
    | 8 => { s with afe := { s.afe with rel := shadow s 8 } }
    | 12 => onlyIf (s.life.state == .custody) (setF · REC_STAT_FROZEN) (storeCalInvalid s)
    | 13 => dispRelease s
    | _ => s

/-- A release step (R65, R66): it begins once the step before is complete, step 4 once GO is set; its islands are released together
and those already awake are passed over (R67). Step 4 is complete once WARP has cleared its memory (R227). -/
def releaseStep (n : Nat) (s : State) : State :=
  if 2 ≤ n ∧ n ≤ 6 ∧ fget s SYS_STARTSTAT_STEP = n - 1 ∧ s.sys.relBusy = false ∧ flag s SYS_SUPSTAT_VMAINOK
      ∧ flag s SYS_SUPSTAT_VAUXOK ∧ (n = 4 → flag s SYS_STARTCTL_GO) ∧ stepHeld s n = false then
    let warpNew := n == 4 && !islUp s 3
    let s := forL (stepIslands n) releaseIsland s
    if warpNew then { s with sys := { s.sys with relBusy := true } } else stepDone n s
  else s

def execReleaseStep (step : Fin 7) (s : State) : Host.Outcome State Fault Refusal := .next (releaseStep step.val s)

/-! ### Supplies (R50, R61, R73) -/

/-- The flag of SYS_SUPSTAT that says a supply is good. -/
def supOk : Supply → Fld
  | .vmain => SYS_SUPSTAT_VMAINOK
  | .vaux => SYS_SUPSTAT_VAUXOK

/-- A supply becomes good, VMAIN only at or below its overvoltage threshold (R50); after VAUX has been below 2.50 V, both good are a power-on
reset with only POR recorded (R61, R62), and a SYS that waits for its supplies is released (R65). -/
def supplyGood (sup : Supply) (s : State) : State :=
  if sup == .vmain && flag s SYS_SUPSTAT_VMAINOV then s
  else
    let s := setF s (supOk sup)
    if flag s SYS_SUPSTAT_VMAINOK && flag s SYS_SUPSTAT_VAUXOK then
      if s.sys.porPending then
        wr (resetAll { s with sys := { s.sys with porPending := false, holdA := false, holdB := false } }) SYS_RSTCAUSE 1
      else if islUp s 0 then s else releaseSys s
    else s

def execSupplyGood (sup : Supply) (s : State) : Host.Outcome State Fault Refusal := .next (supplyGood sup s)

/-- A supply fails: a brown-out while VAUX stays above 2.50 V, else SYS too loses its state and a power-on reset is due (R50, R61); the Reeve is told
(R503). -/
def supplyFail (sup : Supply) (deep : Bool) (s : State) : State :=
  let s := onlyIf (islUp s 16) (fun s => { s with rvTrig := s.rvTrig ++ [.supply] }) (clrF s (supOk sup))
  if deep && sup == .vaux then
    let s := resetIsland 0 (noteReset (resetIslands logicIslands s))
    { s with sys := { s.sys with porPending := true, holdA := false, holdB := false } }
  else resetLogic SYS_RSTCAUSE_BOD s

def execSupplyFail (sup : Supply) (deep : Bool) (s : State) : Host.Outcome State Fault Refusal := .next (supplyFail sup deep s)

/-- A warning comparison of SYS changes (R50, R73). -/
def supplyWarning (w : SupplyWarn) (on : Bool) (s : State) : State :=
  match w with
  | .vmainLow => onlyIf on (setF · SYS_EVT_VMAINW) (putF s SYS_SUPSTAT_VMAINWARN on)
  | .vmainOver => onlyIf on (setF · SYS_EVT_VMAINW) (putF s SYS_SUPSTAT_VMAINOV on)
  | .vauxLow => onlyIf on (setF · SYS_EVT_VAUXW) (putF s SYS_SUPSTAT_VAUXWARN on)
  | .vbatLow => onlyIf on (setF · SYS_EVT_VBATLOW) (putF s SYS_SUPSTAT_VBATLOW on)

def execSupplyWarning (w : SupplyWarn) (on : Bool) (s : State) : Host.Outcome State Fault Refusal := .next (supplyWarning w on s)

/-- VBAT falls below 2.20 V (R50, R73); the warning of VBAT that ends says that it is above it again. -/
def execVbatLow (s : State) : Host.Outcome State Fault Refusal := .next (supplyWarning .vbatLow true s)

/-! ### Power states (R53 to R56) -/

/-- Has no record been dispatched to a quadrant for 16 consecutive picks (R56, R240)? -/
def quietLong (s : State) (q : Nat) : Bool := decide (16 ≤ tabGet (fun _ => 0) s.loom.quiet q)

/-- Does the SLEEP condition that R56 gives an island hold, as far as its registers tell? The waiting times of R56 have passed. -/
def sleepOk (s : State) (i : Nat) : Bool :=
  match i with
  | 2 => s.cpu.wfi
  | 4 => quietLong s 0
  | 5 => quietLong s 1
  | 6 => quietLong s 2
  | 7 => quietLong s 3
  | 8 => (List.range 4).all (fun k => !flag s (AFE_SCANCTL_EN k)) && s.afe.grp.all (fun e => e.2.visit.isNone)
  | 9 => (List.range 8).all (fun n => fget s (VIB_CHSTAT_STATE n) == 0)
  | 11 => (List.range 3).all (fun k => !flag s (CAN_CTL_EN k)) && (List.range 2).all (fun p => !flag s (ETH_CTL_EN p))
      && !flag s SPI_CTL_EN && !flag s UART_CTL_EN
  | 12 => fget s STORE_STAT_STGPG == 0
  | 13 => !flag s DISP_CTL_LCDEN && !flag s DISP_STAT_MAINUPD && !flag s DISP_STAT_REEVEUPD && !flag s DISP_STAT_CLEARING
      && !flag s DISP_LCDSTAT_RUN
  | 14 => !flag s SELV_CTL_EN
  | 15 => (List.range 64).all (fun k => !flag s (PERF_SEL_EN k)) && !flag s PERF_STAT_BUSY
  | _ => false

/-- An island with no work for 16 of its cycles gates its clock (R53). -/
def execIslandIdle (isl : Fin 27) (s : State) : Host.Outcome State Fault Refusal :=
  if power s isl.val = .run then .next (setPower s isl.val .idle) else .next s

/-- An island whose SLEEP condition holds stops its clock and keeps its state; a count load on its way to it is told it at its wake (R29, R53,
R55, R56). -/
def islandSleep (i : Nat) (s : State) : State :=
  if (power s i = .run ∨ power s i = .idle) ∧ sleepOk s i ∧ getBit s SYS_NOSLEEP_ISL i = false then
    let s := if (inbox s i).any TickMsg.isLoad then setLoadSeen s i true else s
    sleepCount i (setInbox (setPower s i .sleep) i [])
  else s

def execIslandSleep (isl : Fin 27) (s : State) : Host.Outcome State Fault Refusal := .next (islandSleep isl.val s)

/-- A sleeping island completes its wake (R53, R54). -/
def execIslandWake (isl : Fin 27) (s : State) : Host.Outcome State Fault Refusal := .next (rouse isl.val s)

/-- The islands that have a SLEEP state (R56). -/
def sleepMask : Nat := 0xFBF4

/-- A write to SYS_NOSLEEP: islands asleep whose bit is set wake (R55, R73). -/
def nosleepWrite (v : Word) (s : State) : State :=
  if flag s SYS_CTL_LOCK then s
  else
    let m := wget v 26 0 &&& sleepMask
    let s := fset s SYS_NOSLEEP_ISL m
    forN 16 (fun i s => if m.testBit i && power s i == .sleep then wakeIsland i s else s) s

def execNosleepWrite (ini : Initiator) (v : Word) (s : State) : Host.Outcome State Fault Refusal :=
  .next (access ini SYS_NOSLEEP (nosleepWrite v) s)

/-! ### Die temperatures (R57, R58) -/

/-- A 12-bit temperature in steps of 0.25 °C as a signed number. -/
def tempValue (t : BitVec 12) : Int := t.toInt

/-- A thermal reset of a die: its islands are reset and held, start-up resumes at the earliest step that holds one, and the watchdog restarts
(R58, R63, R71, R503). -/
def thermalReset (b : Bool) (s : State) : State :=
  let s := noteReset (resetIslands (dieIslands b) s)
  let s := restartFrom (if b then 4 else 2) s
  let s := setF s SYS_RSTCAUSE_THERM
  let s := { s with sys := { s.sys with wdCount := 0, lockWait := s.sys.lockWait && b } }
  if b then { s with sys := { s.sys with holdB := true } } else { s with sys := { s.sys with holdA := true } }

/-- SYS samples the sensors of both dies (R57, R58). -/
def dieTemperature (a b : BitVec 12) (s : State) : State :=
  if islUp s 0 then
    let warn := (BitVec.ofNat 12 (fget s SYS_THCFG_WARN)).toInt
    let s := wr s SYS_TEMPA (BitVec.ofNat 32 (0x80000000 + a.toNat))
    let s := wr s SYS_TEMPB (BitVec.ofNat 32 (0x80000000 + b.toNat))
    let s := onlyIf (decide (tempValue a ≥ warn) && s.sys.warnA) (setF · SYS_EVT_TWARNA) s
    let s := onlyIf (decide (tempValue b ≥ warn) && s.sys.warnB) (setF · SYS_EVT_TWARNB) s
    let wa := if tempValue a ≥ warn then false else if tempValue a ≤ warn - 20 then true else s.sys.warnA
    let wb := if tempValue b ≥ warn then false else if tempValue b ≤ warn - 20 then true else s.sys.warnB
    let s := { s with sys := { s.sys with warnA := wa, warnB := wb } }
    let s := onlyIf (decide (tempValue a ≥ 640) && !s.sys.holdA) (thermalReset false) s
    onlyIf (decide (tempValue b ≥ 640) && !s.sys.holdB) (thermalReset true) s
  else s

def execDieTemperatureSample (a b : BitVec 12) (s : State) : Host.Outcome State Fault Refusal := .next (dieTemperature a b s)

/-- The reading of a die has been below 145 °C for 100 ms: its islands may be released again (R58). -/
def thermalRelease (b : Bool) (s : State) : State :=
  let t := BitVec.ofNat 12 (if b then fget s SYS_TEMPB_TEMP else fget s SYS_TEMPA_TEMP)
  if tempValue t < 580 then
    if b then { s with sys := { s.sys with holdB := false } } else { s with sys := { s.sys with holdA := false } }
  else s

def execThermalRelease (dieB : Bool) (s : State) : Host.Outcome State Fault Refusal := .next (thermalRelease dieB s)

/-! ### Resets (R61, R62) -/

def execExternalReset (s : State) : Host.Outcome State Fault Refusal := .next (setF (resetAll s) SYS_RSTCAUSE_EXT)

/-- A write to SYS_SWRST (R61, R73). -/
def swrstWrite (v : Word) (s : State) : State := if v = 0xA5C3#32 then resetLogic SYS_RSTCAUSE_SWRST s else s

def execSoftwareReset (ini : Initiator) (v : Word) (s : State) : Host.Outcome State Fault Refusal :=
  .next (access ini SYS_SWRST (swrstWrite v) s)

/-- A reset command through the IEEE 1149.1 port, where the port is permitted access (R61, R374). -/
def debugReset (s : State) : State := if dbgLevel s ≥ 1 then resetLogic SYS_RSTCAUSE_DBG s else s

def execDebugReset (s : State) : Host.Outcome State Fault Refusal := .next (debugReset s)

/-! ### Start-up control (R67) -/

/-- A write of 1 to GO by an instruction fetched from the boot ROM (R67). -/
def goWrite (rom : Bool) (s : State) : State :=
  if rom then clrF (setF s SYS_STARTCTL_GO) SYS_STARTSTAT_RECMODE else s

/-- A write of 1 to RECOVER by an instruction fetched from the boot ROM releases COMMS alone (R67, R73); the boot ROM enables the SPI
target (R533). -/
def recoverWrite (rom : Bool) (s : State) : State :=
  if rom then
    let s := setF s SYS_STARTCTL_RECOVER
    let s := if s.sys.holdA then s else setF (setF (releaseIsland 11 s) SYS_EVT_RECOVDONE) SPI_CTL_EN
    if flag s SYS_STARTCTL_GO then s else setF s SYS_STARTSTAT_RECMODE
  else s

def startctlWrite (rom : Bool) (v : Word) (s : State) : State :=
  onlyIf (wget v 1 1 == 1) (recoverWrite rom) (onlyIf (wget v 0 0 == 1) (goWrite rom) s)

def execGo (ini : Initiator) (fromRom : Bool) (s : State) : Host.Outcome State Fault Refusal :=
  .next (access ini SYS_STARTCTL (goWrite (fromRom && ini == .host)) s)

def execRecover (ini : Initiator) (fromRom : Bool) (s : State) : Host.Outcome State Fault Refusal :=
  .next (access ini SYS_STARTCTL (recoverWrite (fromRom && ini == .host)) s)

/-! ### The watchdog (R71) -/

/-- A write to SYS_WDCTL: EN from 0 to 1 restarts the count (R71). -/
def wdctlWrite (v : Word) (s : State) : State :=
  if flag s SYS_CTL_LOCK then s
  else
    let was := flag s SYS_WDCTL_EN
    let s := fset (fset s SYS_WDCTL_EN (wget v 31 31)) SYS_WDCTL_TIMEOUT (wget v 23 0)
    if !was && wget v 31 31 == 1 then { s with sys := { s.sys with wdCount := 0 } } else s

def execWatchdogConfigWrite (ini : Initiator) (v : Word) (s : State) : Host.Outcome State Fault Refusal :=
  .next (access ini SYS_WDCTL (wdctlWrite v) s)

/-- A write to SYS_WDKICK (R71). -/
def wdkickWrite (v : Word) (s : State) : State :=
  if v = 0x3C96#32 ∧ flag s SYS_WDCTL_EN then { s with sys := { s.sys with wdCount := 0 } } else s

def execWatchdogKick (ini : Initiator) (v : Word) (s : State) : Host.Outcome State Fault Refusal :=
  .next (access ini SYS_WDKICK (wdkickWrite v) s)

/-- The count at which the watchdog warns (R71). -/
def wdHalf (s : State) : Nat := max 1 ((fget s SYS_WDCTL_TIMEOUT + 1) / 2)

/-- The count reaches half its timeout (R71). -/
def execWatchdogWarning (s : State) : Host.Outcome State Fault Refusal :=
  if flag s SYS_WDCTL_EN ∧ s.sys.wdCount = wdHalf s then .next (setF s SYS_EVT_WDWARN) else .next s

/-- The count stands at or beyond the timeout at an edge (R71). -/
def execWatchdogReset (s : State) : Host.Outcome State Fault Refusal :=
  if flag s SYS_WDCTL_EN ∧ s.sys.wdCount ≥ max 1 (fget s SYS_WDCTL_TIMEOUT) then .next (resetLogic SYS_RSTCAUSE_WDOG s)
  else .next s

/-- The watchdog counts a tick edge that SYS recognises (R71). -/
def wdTick (s : State) : State :=
  if flag s SYS_WDCTL_EN then { s with sys := { s.sys with wdCount := s.sys.wdCount + 1 } } else s

end Sys2Proof.Machine
end

