-- ==== Sys2Proof/Machine/TickBlk.lean ====
section
/-! DEFINITION. TICK: the count, the calendar, loads, halts, captures, alarms, trim, MAINSREF and OSF (R381 to R402). A write
to the TICK window takes effect at the next edge (R381); it is applied when it is made, and the coincidences of R399 that
tell the two apart are kept apart here. -/

namespace Sys2Proof.Machine

/-- OSF is set: SETSEEN falls and OSFSET is set (R396, R397). -/
def setOsf (s : State) : State :=
  let s := setF (clrF (setF s TICK_STAT_OSF) TICK_STAT_SETSEEN) TICK_EVT_OSFSET
  { s with tick := { s.tick with osfClr := false } }

/-- A capture trigger of a slot reaches TICK with its tag (R389). -/
def capTrigger (slot : Nat) (tag : Nat) (s : State) : State :=
  { s with tick := { s.tick with capReq := tabSet (fun _ => 0) s.tick.capReq slot (1 + tag % 65536) } }

/-- HALT written (R388); that it changed since the latest edge is kept for a count load of the next one (R399). -/
def tickHalt (on : Bool) (s : State) : State :=
  match flag s TICK_CTL_HALT, on with
  | false, true => { wr (setF s TICK_CTL_HALT) TICK_MISSED 0 with tick := { s.tick with haltNext := true, haltEnd := false } }
  | true, false => { clrF s TICK_CTL_HALT with tick := { s.tick with haltNext := false, haltEnd := !s.tick.haltNext } }
  | _, _ => s

/-- Is the count halted at the next edge? A count load there meets the halt that was in force before it (R388, R399). -/
def edgeHalt (s : State) : Bool :=
  if flag s TICK_CMD_LOADCNT then (flag s TICK_CTL_HALT && !s.tick.haltNext) || s.tick.haltEnd else flag s TICK_CTL_HALT

/-- A write to TICK_CTL. -/
def tickCtlWrite (v : Word) (s : State) : State :=
  let s := onlyIf (wget v 2 2 == 1 && !flag s TICK_CTL_MREFEN) (fun s =>
    let s := clrF s TICK_MREFRES_VALID
    { s with tick := { s.tick with mrefOpen := false, mrefCyc := 0, mrefTick := 0 } }) s
  let s := fset (fset s TICK_CTL_MREFEN (wget v 2 2)) TICK_CTL_ADDMISS (wget v 1 1)
  let s := tickHalt (wget v 0 0 == 1) s
  onlyIf (wget v 31 31 == 1) (setF · TICK_CTL_LOCK) s

/-- A write to TICK_CMD: loads and captures requested, or a refused load (R387, R389). -/
def tickCmdWrite (v : Word) (s : State) : State :=
  let c := fget s TICK_CMD_LOADCNT ||| wget v 0 0
  let d := fget s TICK_CMD_LOADCAL ||| wget v 1 1
  let s := onlyIf (wget v 2 2 == 1) (fun s => capTrigger 0 0 (setF s TICK_CMD_CAP0)) s
  if (wget v 0 0 == 1 || wget v 1 1 == 1) && c == 1 && d == 1 && flag s TICK_CTL_ADDMISS && (flag s TICK_CTL_HALT || s.tick.haltEnd)
      && decide (fget s TICK_MISSED_MISSED > 32767) then
    setF (clrF (clrF (clrF s TICK_CMD_LOADCNT) TICK_CMD_LOADCAL) TICK_STAT_LOADPEND) TICK_EVT_LOADERR
  else
    putF (fset (fset s TICK_CMD_LOADCNT c) TICK_CMD_LOADCAL d) TICK_STAT_LOADPEND (c == 1 || d == 1)

/-- A write to TICK_TRIM: RWL, and −1024 has no effect (R394). -/
def tickTrimWrite (v : Word) (s : State) : State :=
  if flag s TICK_CTL_LOCK || wget v 10 0 == 0x400 then s else fset s TICK_TRIM_TRIM (wget v 10 0)

/-- The value of alarm `n` (R392). -/
def alarmValue (s : State) (n : Nat) : Nat := fget s (TICK_ALMHI_ALM n) * 2 ^ 32 + fget s (TICK_ALMLO_ALM n)

/-- A write to TICK_ALMHIn: with ARM set the alarm is armed, late if the count already reaches it (R392). -/
def tickAlarmWrite (n : Nat) (v : Word) (s : State) : State :=
  let s := fset (fset s (TICK_ALMHI_ALM n) (wget v 15 0)) (TICK_ALMHI_ARM n) (wget v 31 31)
  let l := wget v 31 31 == 1 && decide (s.tick.count.toNat ≥ alarmValue s n)
  { s with tick := { s.tick with late := tabSet (fun _ => false) s.tick.late n l,
                                 due := tabSet (fun _ => {}) s.tick.due n {} } }

/-- OSF cleared with SETSEEN (R397). -/
def osfClear (s : State) : State := clrF (clrF s TICK_STAT_OSF) TICK_STAT_SETSEEN

/-- A write to TICK_STAT: a host write of 1 to OSF clears it at the next edge if SETSEEN is set there, a count load of that edge counting
(R397, R399). -/
def tickStatWrite (i : Initiator) (v : Word) (s : State) : State :=
  if i = .host ∧ wget v 31 31 = 1 then { s with tick := { s.tick with osfClr := true } } else s

/-- A capture slot takes values (R390). -/
def capture (slot : Nat) (count : Tick) (cal : Cal) (osf halt : Bool) (tag : Nat) (s : State) : State :=
  let s := wr s (TICK_CAPT slot) (count.truncate 32)
  let s := wr s (TICK_CAPTHI slot) (BitVec.ofNat 32 (tag % 65536 * 65536 + count.toNat / 2 ^ 32))
  let s := wr (wr s (TICK_CAPTIME slot) (timeWord cal)) (TICK_CAPDATE slot) (dateWord cal)
  let seq := (fget s (TICK_CAPSTAT_SEQ slot) + 1) % 65536
  wr s (TICK_CAPSTAT slot) (BitVec.ofNat 32 (0x80000000 + osf.toNat * 2 ^ 30 + halt.toNat * 2 ^ 29 + seq))

/-- What one edge adds to the count and leaves in the accumulator (R383, step 2). -/
def tickInc (halt : Bool) (acc trim : Int) : Fin 3 × Int :=
  if halt then (0, acc)
  else
    let a := acc + trim
    if a ≥ 1048576 then (2, a - 1048576) else if a ≤ -1048576 then (0, a + 1048576) else (1, a)

/-- TRIM as a signed number. -/
def trimValue (s : State) : Int :=
  let n := fget s TICK_TRIM_TRIM
  if n ≥ 1024 then (n : Int) - 2048 else n

/-- The edge leaves TICK for an island: increment or loaded count; an island in SLEEP learns of a load at its wake (R29, R382). -/
def sendEdge (m : TickMsg) (i : Nat) (s : State) : State :=
  if running s i then setInbox s i (inbox s i ++ [m])
  else if power s i = .sleep ∧ m.isLoad then setLoadSeen s i true
  else s

/-- The islands a tick edge reaches: every island but TICK itself and POLDER (R28). -/
def edgeIslands : List Nat := [0, 2, 3, 4, 5, 6, 7, 8, 9, 10, 11, 12, 13, 14, 15, 16, 18, 19, 20, 21, 22, 23, 24, 25, 26]

/-- Step 5 of R383 for alarm `n`: whether the edge fires it, and how (R393). -/
def alarmCheck (old : Tick) (load : Bool) (n : Nat) (s : State) : State :=
  let v := alarmValue s n
  let crossed := decide (old.toNat < v) && decide (v ≤ s.tick.count.toNat)
  let l := tabGet (fun _ => false) s.tick.late n
  if flag s (TICK_ALMHI_ARM n) && (crossed || l) then
    { s with tick := { s.tick with due := tabSet (fun _ => {}) s.tick.due n ⟨true, l, load && crossed⟩ } }
  else s

/-- How many consecutive high samples qualify a rising edge of MAINSREF, and how many edges without one abandon a window (R395). -/
def mrefSamples : Nat := 33
def mrefLimit : Nat := 3277

/-- The MAINSREF land is sampled at an oscillator edge, and an open window counts it; nothing is measured while MREFEN is clear or VAUX is not good
(R395). -/
def mrefSample (s : State) : State :=
  let t := s.tick
  let high := if Config.mainsLevel t.mrefN then min (t.mrefHigh + 1) (mrefSamples + 1) else 0
  let on := flag s TICK_CTL_MREFEN && flag s SYS_SUPSTAT_VAUXOK
  { s with tick := { t with
    mrefN := t.mrefN + 1, mrefHigh := high, mrefQual := on && high == mrefSamples
    mrefOpen := t.mrefOpen && on, mrefCyc := if on then t.mrefCyc else 0
    mrefTick := if t.mrefOpen && on then t.mrefTick + 1 else 0
    mrefGap := if on then t.mrefGap + 1 else 0 } }

/-- The reads of the TICK window that an edge answers (R381). -/
def tickAnswers (s : State) : State :=
  let s' := forL s.tick.reads (fun r s => setReply r.1 ⟨rd s r.2, none⟩ s) s
  { s' with tick := { s'.tick with reads := [] } }

/-- One edge of the tick oscillator (R383, R395). -/
def tickEdge (s : State) : State :=
  let halt := edgeHalt s
  let s := onlyIf halt (bump · TICK_MISSED_MISSED) s
  let p := tickInc halt s.tick.acc s.tick.trim
  let old := s.tick.count
  let oldCal := s.tick.cal
  let oldOsf := s.tick.lastOsf
  let oldHalt := s.tick.lastHalt
  let loadcnt := flag s TICK_CMD_LOADCNT
  let loadcal := flag s TICK_CMD_LOADCAL
  let addmiss := flag s TICK_CTL_ADDMISS
  let setcnt : Tick := BitVec.ofNat 48 (fget s TICK_SETHI_SETCNT * 2 ^ 32 + fget s TICK_SETLO_SETCNT)
  let new : Tick := if loadcnt then setcnt + BitVec.ofNat 48 (if addmiss && halt then fget s TICK_MISSED_MISSED else 0)
    else old + BitVec.ofNat 48 p.1.val
  let setcal := calOfWords (rd s TICK_SETTIME) (rd s TICK_SETDATE)
  let q : Cal × Bool :=
    if loadcal then (if loadcnt && addmiss && crosses setcnt new then nextSecond setcal else (setcal, false))
    else if !loadcnt && crosses old new then nextSecond oldCal else (oldCal, false)
  let s := { s with tick := { s.tick with acc := p.2, count := new, cal := q.1 } }
  let s := onlyIf q.2 (setF · TICK_EVT_CALWRAP) s
  let s := onlyIf loadcnt (fun s => setF (if s.tick.haltNext then s else clrF s TICK_CTL_HALT) TICK_STAT_SETSEEN) s
  let s := onlyIf (s.tick.osfClr && flag s TICK_STAT_SETSEEN) osfClear s
  let s := onlyIf (loadcnt || loadcal) (fun s =>
    setF (clrF (clrF (clrF s TICK_CMD_LOADCNT) TICK_CMD_LOADCAL) TICK_STAT_LOADPEND) TICK_EVT_LOADDONE) s
  let osf := flag s TICK_STAT_OSF
  let haltAfter := flag s TICK_CTL_HALT && !(loadcnt && s.tick.haltNext)
  let s := forN 4 (alarmCheck old loadcnt) s
  let s := forN 4 (fun slot s =>
    let t := tabGet (fun _ => 0) s.tick.capReq slot
    if t = 0 then s
    else if slot = 1 then capture 1 old oldCal oldOsf oldHalt (t - 1) s
    else capture slot new q.1 osf haltAfter (t - 1) s) s
  let s := onlyIf (tabGet (fun _ => 0) s.tick.capReq 0 ≠ 0) (clrF · TICK_CMD_CAP0) s
  let s := mrefSample { s with tick := { s.tick with
    capReq := [], haltNext := false, haltEnd := false, osfClr := false, lastOsf := osf, lastHalt := haltAfter
    trim := trimValue s } }
  tickAnswers (forL edgeIslands (sendEdge (if loadcnt then .load new else .inc p.1)) s)

/-- A TICK reset (R61, R398, R401): every register of the window but the lock, the enables and the live ONVBAT, the count, the calendar and the
accumulator; OSF, OSFSET and the annunciator's marker are set. -/
def resetTick (s : State) : State :=
  let lock := fget s TICK_CTL_LOCK
  let ien := rd s TICK_IEN
  let bat := flag s TICK_STAT_ONVBAT
  let s := clearBlock 9 s
  { putF (fset (wr s TICK_IEN ien) TICK_CTL_LOCK lock) TICK_STAT_ONVBAT bat with tick := { reads := s.tick.reads, mrefN := s.tick.mrefN } }

/-! ### The commands -/

def execTickEdge (s : State) : Host.Outcome State Fault Refusal := .next (tickEdge s)

def execLoadcnt (i : Initiator) (s : State) : Host.Outcome State Fault Refusal :=
  .next (access i TICK_CMD (tickCmdWrite 1) s)

def execLoadcal (i : Initiator) (s : State) : Host.Outcome State Fault Refusal :=
  .next (access i TICK_CMD (tickCmdWrite 2) s)

def execCap0 (i : Initiator) (s : State) : Host.Outcome State Fault Refusal :=
  .next (access i TICK_CMD (tickCmdWrite 4) s)

def execHaltSet (i : Initiator) (s : State) : Host.Outcome State Fault Refusal :=
  .next (access i TICK_CTL (tickHalt true) s)

def execHaltClear (i : Initiator) (s : State) : Host.Outcome State Fault Refusal :=
  .next (access i TICK_CTL (tickHalt false) s)

def execTrimWrite (i : Initiator) (v : Word) (s : State) : Host.Outcome State Fault Refusal :=
  .next (access i TICK_TRIM (tickTrimWrite v) s)

def execTickAlarmArm (i : Initiator) (n : Fin 4) (v : Word) (s : State) : Host.Outcome State Fault Refusal :=
  .next (access i (TICK_ALMHI n.val) (tickAlarmWrite n.val v) s)

/-- An alarm that the latest edge crossed or found late fires (R393). -/
def execTickAlarmFire (n : Fin 4) (s : State) : Host.Outcome State Fault Refusal :=
  let d := tabGet (fun _ => {}) s.tick.due n.val
  if d.due && flag s (TICK_ALMHI_ARM n.val) then
    let s := setBit (clrF s (TICK_ALMHI_ARM n.val)) TICK_EVT_ALM n.val
    let s := fset s ⟨TICK_ALMSTAT, 4 * n.val + 1, 4 * n.val⟩ (2 * d.past.toNat + d.skipped.toNat)
    .next { s with tick := { s.tick with due := tabSet (fun _ => {}) s.tick.due n.val {},
                                         late := tabSet (fun _ => false) s.tick.late n.val false } }
  else .next s

/-- A window opens or closes at the rising edge that the latest oscillator edge qualified (R395). -/
def execMainsrefEdge (s : State) : Host.Outcome State Fault Refusal :=
  if flag s TICK_CTL_MREFEN && flag s SYS_SUPSTAT_VAUXOK && s.tick.mrefQual then
    let s := { s with tick := { s.tick with mrefQual := false, mrefGap := 0 } }
    let cyc := fget s TICK_MREFCFG_CYC
    let close := fun (s : State) (n : Nat) => setF (setF (fset s TICK_MREFRES_TICKS n) TICK_MREFRES_VALID) TICK_EVT_MREFDONE
    if cyc = 0 then .next { close s 0 with tick := { s.tick with mrefOpen := true, mrefCyc := 0, mrefTick := 0 } }
    else if s.tick.mrefOpen then
      if s.tick.mrefCyc + 1 ≥ cyc then
        .next { close s s.tick.mrefTick with tick := { s.tick with mrefOpen := true, mrefCyc := 0, mrefTick := 0 } }
      else .next { s with tick := { s.tick with mrefCyc := s.tick.mrefCyc + 1 } }
    else .next { s with tick := { s.tick with mrefOpen := true, mrefCyc := 0, mrefTick := 0 } }
  else .next s

/-- No qualified edge for 100 ms: the window is abandoned (R395). -/
def execMainsrefLoss (s : State) : Host.Outcome State Fault Refusal :=
  if flag s TICK_CTL_MREFEN && flag s SYS_SUPSTAT_VAUXOK && s.tick.mrefOpen && decide (s.tick.mrefGap ≥ mrefLimit) then
    .next { setF s TICK_EVT_MREFLOSS with tick := { s.tick with mrefOpen := false, mrefCyc := 0, mrefTick := 0 } }
  else .next s

def execOscDetectorTimeout (s : State) : Host.Outcome State Fault Refusal := .next (setOsf s)

def execSysTickLoss (s : State) : Host.Outcome State Fault Refusal :=
  if islUp s 0 then .next (setOsf s) else .next s

def execOsfClear (i : Initiator) (s : State) : Host.Outcome State Fault Refusal :=
  .next (access i TICK_STAT (tickStatWrite i 0x80000000) s)

def execTickSupplyChangeover (toBat : Bool) (s : State) : Host.Outcome State Fault Refusal :=
  .next (putF s TICK_STAT_ONVBAT toBat)

def execTickOscillatorStop (s : State) : Host.Outcome State Fault Refusal := .next (resetTick s)

end Sys2Proof.Machine
end

