-- ==== Sys2Proof/Machine/Loom.lean ====
section
/-! DEFINITION. The loom: shuttle commands, picks, dispatch, completion, the alarm table and warp memory (R209 to R241, R245 to R259). -/

namespace Sys2Proof.Machine

/-! ### The alarm table (R232, R233) -/

/-- A publication begins: the copy engine asks for every bank that holds an entry (R228, R233). -/
def publishBegin (k cfg : Word) (s : State) : State :=
  forN (min 8 (wget cfg 12 0)) (fun b => bankAsk b 3) (setF { s with loom := { s.loom with pub := some (k, cfg) } } LOOM_ATSTAT_BUSY)

/-- A publication begins, or waits for the one under way (R233). -/
def publish (k : Word) (s : State) : State :=
  match s.loom.pub with
  | none => publishBegin k s.loom.atcfg s
  | some _ => { s with loom := { s.loom with pubNext := some (k, s.loom.atcfg) } }

/-- Is publication due at the completion of pick `k` (R233)? -/
def publishDue (s : State) (k : Word) : Bool :=
  wget s.loom.atcfg 12 0 != 0 && k.toNat % 2 ^ wget s.loom.atcfg 27 24 == 0

/-- An entry of the working table is copied and compared (R233), unless an uncorrectable error has ended the loom (R227, R238). -/
def publishEntry (work dst cur i : Nat) (s : State) : State :=
  let copy := fun (s : State) =>
    let new := bytesAt s.loom.warp (work + 8 * i) 8
    let s' := setWarpBad (dst + 8 * i) .clean { s with loom := { s.loom with warp := putBytes s.loom.warp (dst + 8 * i) new } }
    if new = bytesAt s.loom.warp (cur + 8 * i) 8 then s' else setF (setBit s' (LOOM_ATCHG_CHG (i / 32)) (i % 32)) LOOM_EVT_ALMCHG
  if flag s LOOM_STAT_FATAL then s else warpCheck .clean (work + 8 * i) (warpCheck .clean (cur + 8 * i) copy) s

/-- The copy engine finishes a publication, once the banks grant it its accesses (R228, R233). -/
def publicationDone (s : State) : State :=
  match s.loom.pub with
  | none => s
  | some (k, cfg) =>
    let banks := min 8 (wget cfg 12 0)
    if flag s LOOM_STAT_FATAL || !(List.range banks).all (fun b => bankGrants s b 3) then s
    else
      let s := forN banks (fun b => bankDone b 3) s
      let base := wget cfg 21 16 * 0x8000
      let cur := fget s LOOM_ATSTAT_CUR
      let s := forN (wget cfg 12 0) (publishEntry base (base + 0x8000 * (2 - cur)) (base + 0x8000 * (1 + cur))) s
      if flag s LOOM_STAT_FATAL then s
      else
        let s := fset s LOOM_ATSTAT_CUR (1 - cur)
        let s := wr s LOOM_ATPICK k
        let s := clrF (fset s LOOM_ATSTAT_SEQ (fget s LOOM_ATSTAT_SEQ + 1)) LOOM_ATSTAT_BUSY
        let next := s.loom.pubNext
        let s := { s with loom := { s.loom with pub := none, pubNext := none } }
        match next with
        | some (k, cfg) => publishBegin k cfg s
        | none => s

/-! ### Completion (R224, R225) -/

/-- The latest pick that has ended. -/
def endedPick (s : State) : Word := if flag s LOOM_STAT_PICKON then rd s LOOM_PICKNUM - 1 else rd s LOOM_PICKNUM

/-- The pick a shuttle counts as having reported (R224). -/
def repOf (s : State) (n : Nat) : Word := tabGet (fun _ => 0) s.loom.rep n

/-- How many ended picks every RUNNING shuttle has not reported, at most (R224). -/
def repLag (s : State) : Nat :=
  (List.range 16).foldl (fun m n =>
    if isRunning s n then max m ((endedPick s - repOf s n).toInt.toNat) else m) 0

/-- Steps 1 to 3 of R225 for pick `k`, and a write to LOOM_ATCFG takes effect (R232). -/
def completePick (k : Word) (s : State) : State :=
  let s := setF (wr s LOOM_PICKDONE k) LOOM_STAT_DONEV
  let s := if s.loom.mark then setF (egPlace 3 .marker .marker { s with loom := { s.loom with mark := false } }) LOOM_EVT_FIRSTDONE else s
  let snap := if flag s POLD_CTL_SNAPEN && k.toNat % 2 ^ fget s POLD_CTL_PDIV == 0 then s.loom.snapReq ++ [k] else s.loom.snapReq
  { s with loom := { s.loom with
      copyReq := if islUp s 14 then s.loom.copyReq ++ [(k, s.loom.outsh)] else s.loom.copyReq
      snapReq := snap, atcfg := rd s LOOM_ATCFG } }

/-- `m` picks after pick `k` complete in order, with the latest for which publication is due (R225). -/
def completeSeq : Nat → Word → Option Word → State → State × Option Word
  | 0, _, due, s => (s, due)
  | m + 1, k, due, s =>
    let s := completePick (k + 1) s
    completeSeq m (k + 1) (if publishDue s (k + 1) then some (k + 1) else due) s

/-- Picks complete as far as R224 allows (R225, R296). -/
def completePicks (s : State) : State :=
  if flag s LOOM_STAT_FATAL then s
  else
    let done := rd s LOOM_PICKDONE
    let m := (endedPick s - done).toInt.toNat - repLag s
    if m = 0 then s
    else
      let p := completeSeq m done none s
      let s := match p.2 with
        | some k => publish k p.1
        | none => p.1
      egFlood 2 (egFlood 1 (egFlood 0 s))

/-! ### Dispatch (R218 to R222) -/

/-- Records of a shuttle that count against its 64 places (R221). -/
def heldCount (s : State) (n : Nat) : Nat := ((heldOf s n).filter (fun h => !recIsPick h.w0)).length

def isStarted (s : State) (n : Nat) : Bool := tabGet (fun _ => false) s.loom.started n

/-- A held entry is placed behind a shuttle's others (R222, R245); its quadrant counts pick boundaries anew (R240). -/
def placeHeld (n : Nat) (w0 w1 : BitVec 64) (age : Nat) (s : State) : State :=
  let h : Held := { id := s.loom.nextId, w0 := w0, w1 := w1, pick := rd s LOOM_PICKNUM, age := age }
  let s := setHeld n (heldOf s n ++ [h]) s
  { s with loom := { s.loom with nextId := s.loom.nextId + 1, quiet := tabSet (fun _ => 0) s.loom.quiet (n / 4) 0 } }

/-- The age of an entry at acceptance (R257). -/
def acceptAge (s : State) (w1 : BitVec 64) : Nat :=
  let now := (shadow s 3).toNat
  let t := w1.toNat / 65536
  if now ≥ t then min (now - t) (fget s LOOM_DEADLINE_DL) else 0

/-- A record is placed for a shuttle, or dropped at its full dispatch queue (R221). -/
def placeRecord (w0 w1 : BitVec 64) (n : Nat) (s : State) : State :=
  if heldCount s n ≥ 64 then
    let s := setF (bump s (LOOM_SHSTAT_DROPS n)) LOOM_EVT_DISPOVF
    { s with loom := { s.loom with drops := tabSet (fun _ => 0) s.loom.drops n (tabGet (fun _ => 0) s.loom.drops n + 1) } }
  else placeHeld n w0 w1 (acceptAge s w1) s

/-- Does WARP dispatch records now (R218, R238)? From the setting of PICKEN on, even before its first boundary. -/
def dispatching (s : State) : Bool := flag s LOOM_CTL_PICKEN && !flag s LOOM_STAT_FATAL

/-- A shuttle that counts as RUNNING for dispatch (R218). -/
def receives (s : State) (n : Nat) : Bool := isRunning s n && isStarted s n

/-- The vote for an accepted record (R492). -/
def voteOf (s : State) (src : Nat) (w0 w1 : BitVec 64) : Vote :=
  ⟨src, w1, recQual w0, if src < 64 then 0 else lget w0 61 60, w0.truncate 32, edges s 14⟩

/-- WARP accepts a sample or an input record (R218, R220, R492). -/
def acceptRecord (w0 w1 : BitVec 64) (s : State) : State :=
  match recSrc w0 with
  | none => s
  | some src =>
    let s := if s.loom.cdup ∧ flag s LOOM_STAT_FATAL = false then localVote (voteOf s src w0 w1) s else s
    let w0 := if s.loom.cdup then lset w0 46 42 (recPend w0 ||| 16) else w0
    if dispatching s then
      let l := (List.range 16).filter (fun n => getBit s (LOOM_ROUTE_MASK src) n && receives s n)
      if l.isEmpty then setF (bump s LOOM_UNRCNT_COUNT) LOOM_EVT_UNROUTED
      else forL l (placeRecord w0 w1) s
    else s

/-- A queue record is dispatched to the reader shuttle (R219, R310). -/
def queueRecord (q len : Nat) (s : State) : State :=
  let n := fget s (QUEUE_CFG_RSH q)
  let w0 := BitVec.ofNat 64 (3 * 2 ^ 62 + 2 ^ 58 + q % 32 * 2 ^ 32 + len % 65536)
  if dispatching s && receives s n then placeRecord w0 (stampWord (stampOf s 3)) n s else s

/-- A committed packet becomes visible (R307, R310). -/
def packetVisible (q : Nat) (s : State) : State :=
  let x := que s q
  match x.commits with
  | [] => s
  | p :: l =>
    let s := setQue q { x with commits := l, visible := x.visible ++ p } s
    if flag s (QUEUE_CFG_NOTIFY q) && !flag s (QUEUE_CFG_RHOST q) then queueRecord q (p.map (·.bytes)).sum s else s

/-! ### Picks (R215 to R217, R226, R237) -/

/-- A write to LOOM_CTL: setting PICKEN starts the scheduler (R215). -/
def loomCtlWrite (v : Word) (s : State) : State :=
  let was := flag s LOOM_CTL_PICKEN
  let on := wget v 0 0 == 1
  let s := onlyIf (wget v 31 31 == 1) (setF · LOOM_CTL_LOCK) (putF s LOOM_CTL_PICKEN on)
  if on && !was then
    let us := fget s LOOM_PICKCFG_PICKUS
    { s with loom := { s.loom with pickus := us, acc := us * 512 - 15625, sched := !flag s LOOM_STAT_FATAL, first := true, mark := true } }
  else s

/-- A write to LOOM_PICKCFG (R216, R241). -/
def pickCfgWrite (v : Word) (s : State) : State :=
  let n := wget v 13 0
  if flag s LOOM_CTL_LOCK ∨ n < 250 ∨ n > 10000 then s else pairUpdate (fset s LOOM_PICKCFG_PICKUS n)

/-- A pick boundary counts for the SLEEP condition of every quadrant (R56, R240). -/
def quietBump (l : LoomSt) : LoomSt :=
  { l with quiet := (List.range 4).foldl (fun t q => tabSet (fun _ => 0) t q (min 16 (tabGet (fun _ => 0) t q + 1))) l.quiet }

/-- The pick accumulator at a tick edge WARP recognises (R215); while no boundaries are run, those that R215 would produce at PICKUS are counted
(R240). -/
def pickTick (s : State) : State :=
  let l := { s.loom with acc := s.loom.acc + 15625 }
  let p := fget s LOOM_PICKCFG_PICKUS * 512
  { s with loom := if !l.sched && decide (l.acc ≥ p) then quietBump { l with acc := l.acc - p } else l }

/-- An ECC error strikes a word of warp memory in a tick period (R227): the environment brings it. -/
def upsetWarp (s : State) : State :=
  let n := edges s 3
  let o := Config.upsetWord 3 n % 262144
  setWarpBad (8 * o) ((Ecc.ofCode (Config.upsetKind 3 n)).join (warpBad s (8 * o))) s

/-- An ECC error strikes a word of a shuttle's memories in a tick period (R209): words 0 to 16,383 are its instruction store, the others its local
data. -/
def Shuttle.upset (x : Shuttle) (word : Nat) (e : Ecc) : Shuttle :=
  let at_ := fun (t : Tab Ecc) (o : Nat) => tabSet (fun _ => .clean) t o (e.join (tabGet (fun _ => .clean) t o))
  { x with ibad := if word < 16384 then at_ x.ibad word else x.ibad
           dbad := if word < 16384 then x.dbad else at_ x.dbad (word - 16384) }

/-- The errors that a tick period brings to the memories of a quadrant's shuttles (R209). -/
def upsetQuadrant (i : Nat) (s : State) : State :=
  forN 4 (fun j s =>
    let n := 4 * (i - 4) + j
    setShuttle n ((shuttle s n).upset (Config.upsetWord (16 + n) (edges s i) % 24576) (Ecc.ofCode (Config.upsetKind (16 + n) (edges s i)))) s) s

/-- A pick record for a RUNNING shuttle (R219, R221). -/
def placePick (p : Word) (w1 : BitVec 64) (late : Bool) (n : Nat) (s : State) : State :=
  if isRunning s n then
    let d := min (tabGet (fun _ => 0) s.loom.drops n) 1023
    let w0 := BitVec.ofNat 64 (3 * 2 ^ 62 + s.loom.first.toNat * 2 ^ 57 + late.toNat * 2 ^ 56 + d * 2 ^ 32 + p.toNat)
    let s := placeHeld n w0 w1 0 s
    { s with loom := { s.loom with started := tabSet (fun _ => false) s.loom.started n true
                                   drops := tabSet (fun _ => 0) s.loom.drops n 0 } }
  else s

/-- The hang check of a shuttle when pick `p` opens (R237). -/
def hangCheck (p : Word) (n : Nat) (s : State) : State :=
  if isRunning s n then
    match (heldOf s n).find? (fun h => recIsPick h.w0 && !h.taken) with
    | some h => if (p - h.pick).toInt.toNat ≥ fget s LOOM_PICKLAG_HANG then shuttleFails n 8 5 s else s
    | none => s
  else s

/-- A pick opens (R215, R217, R219, R226, R237, R389, R486). -/
def openPick (s : State) : State :=
  let p := rd s LOOM_PICKNUM + 1
  let s := setF (wr s LOOM_PICKNUM p) LOOM_STAT_PICKON
  let lag := (p - 1 - rd s LOOM_PICKDONE).toNat
  let late := decide (lag > fget s LOOM_PICKLAG_LAGMAX)
  let s := onlyIf late (setF · LOOM_EVT_PICKLATE) s
  if flag s LOOM_PICKLAG_FATALEN && decide (lag ≥ fget s LOOM_PICKLAG_LAGFATAL) then fatalFault 6 none s
  else
    let s := forN 16 (placePick p (BitVec.ofNat 64 ((shadow s 3).toNat * 65536)) late) s
    let s := { s with loom := { s.loom with first := false, pickus := fget s LOOM_PICKCFG_PICKUS } }
    let s := capTrigger 1 p.toNat s
    let s := if islUp s 14 then setSelv { s.selv with bounds := s.selv.bounds ++ [p] } s else s
    forN 16 (hangCheck p) s

/-- A pick boundary (R215, R216, R225). -/
def pickBoundary (s : State) : State :=
  if s.loom.sched ∧ s.loom.acc ≥ s.loom.pickus * 512 then
    let s := { s with loom := quietBump { s.loom with acc := s.loom.acc - s.loom.pickus * 512 } }
    if flag s LOOM_CTL_PICKEN then completePicks (openPick s)
    else completePicks { clrF s LOOM_STAT_PICKON with loom := { s.loom with sched := false } }
  else s

/-- The latest pick a shuttle can report (R223). -/
def reportable (s : State) (n : Nat) : Word :=
  let p := rd s LOOM_PICKNUM
  let dist := fun (x : Word) => (p - x).toInt.toNat
  let wait := match (heldOf s n).find? (fun h => recIsPick h.w0 && !h.taken) with
    | some h => dist h.pick + 2
    | none => 1
  let held := (heldOf s n).foldl (fun m h => max m (dist h.pick + 1)) wait
  p - BitVec.ofNat 32 ((shuttle s n).gate.foldl (fun m g => max m (dist g.pick + 1)) held)

/-- A shuttle reports the picks it has completed (R223). -/
def pickReport (n : Nat) (s : State) : State :=
  let k := reportable s n
  if receives s n ∧ flag s LOOM_STAT_FATAL = false ∧ s.loom.issued.all (fun p => p.1 != n) ∧ s.loom.wstores.all (fun w => w.sh != n)
      ∧ 0 < (k - repOf s n).toInt then
    let s := wr s (LOOM_SHDONE n) k
    completePicks { s with loom := { s.loom with rep := tabSet (fun _ => 0) s.loom.rep n k } }
  else s

/-! ### Shuttle commands and windows (R210 to R214) -/

/-- START (R212, R224). -/
def shuttleStart (n : Nat) (s : State) : State :=
  let x := shuttle s n
  let s := fset s (LOOM_SHSTAT_CAUSE n) 0
  let s := setShuttle n { x with core := { x.core with g := [], fflags := 0, pc := BitVec.ofNat 32 (4 * fget s (LOOM_SHCFG_ENTRY n)) }
                                 rtag := [], evals := [], gate := [], notices := [], cur := none
                                 lst := { x.lst with
                                   begun := false, worked := false, hook := none, outer := [], base := none, ret := none, words := none
                                   descs := tabMap (fun _ => {}) (fun _ d => { d with ref := none }) x.lst.descs } } s
  let s := { s with loom := { s.loom with rep := tabSet (fun _ => 0) s.loom.rep n (endedPick s)
                                          started := tabSet (fun _ => false) s.loom.started n false } }
  setShState n shRunning s

/-- A write to LOOM_SHCMDn (R211 to R214). -/
def shCmdWrite (n : Nat) (v : Word) (s : State) : State :=
  let st := fget s (LOOM_SHSTAT_STATE n)
  let lost := setF s LOOM_EVT_CMDLOST
  let idle := st == shStopped || st == shFaulted
  if wget v 1 0 = 0 then s
  else if flag s (LOOM_SHCMD_BUSY n) then lost
  else match wget v 1 0 with
    | 1 => if idle && !flag s LOOM_STAT_FATAL then shuttleStart n s else lost
    | 2 => if st = shRunning then completePicks (stopShuttle n shStopped s) else lost
    | _ => if idle then setShState n shLoading (setF s (LOOM_SHCMD_BUSY n)) else lost

/-- The library copy completes (R211). -/
def loadlibDone (n : Nat) (s : State) : State :=
  if fget s (LOOM_SHSTAT_STATE n) = shLoading then
    let x := shuttle s n
    let top := 4 * fget s LOOM_LIBID_SIZE
    let x : Shuttle := { x with lib := true, imem := tabClear (fun a => decide (a < top)) x.imem
                                ibad := tabClear (fun k => decide (4 * k < top)) x.ibad }
    setShState n shStopped (clrF (setShuttle n x s) (LOOM_SHCMD_BUSY n))
  else s

/-- Are the windows of the selected shuttle open (R210)? -/
def windowOpen (s : State) : Bool :=
  let st := fget s (LOOM_SHSTAT_STATE (fget s LOOM_SHSEL_SEL))
  st == shStopped || st == shFaulted

/-- The ECC errors of a shuttle's memory at a place (R209). -/
def shBad (s : State) (n : Nat) (p : ShPlace) : Ecc :=
  match p with
  | .imem o => tabGet (fun _ => .clean) (shuttle s n).ibad (o / 4)
  | .local_ o => tabGet (fun _ => .clean) (shuttle s n).dbad (o / 4)
  | _ => .clean

/-- A word of a shuttle's memory is written with valid ECC. -/
def shMend (n : Nat) (p : ShPlace) (s : State) : State :=
  let x := shuttle s n
  match p with
  | .imem o => setShuttle n { x with ibad := tabSet (fun _ => .clean) x.ibad (o / 4) .clean } s
  | .local_ o => setShuttle n { x with dbad := tabSet (fun _ => .clean) x.dbad (o / 4) .clean } s
  | _ => s

/-- A single-bit error of a shuttle's memory is corrected, written back and counted (R209). -/
def shCorrected (n : Nat) (p : ShPlace) (s : State) : State := bump (shMend n p s) LOOM_ECCSTAT_SCOR

/-- The place that an offset of the LOOM block names in a shuttle window (R210). -/
def windowPlace (off : Nat) : ShPlace := if off < 0x50000 then .imem (off - 0x40000) else .local_ (off - 0x50000)

/-- A word read through a shuttle window at an offset of the LOOM block (R209, R210). -/
def windowRead (off : Nat) (s : State) : Word × State :=
  let n := fget s LOOM_SHSEL_SEL
  let s := rouse (4 + n / 4) s
  if windowOpen s then
    let p := windowPlace off
    match shBad s n p with
    | .clean => (shLoad s n p 4, s)
    | .corrected => (shLoad s n p 4, shCorrected n p s)
    | .uncorrectable => (Config.badShuttle n off, s)
  else (0, s)

/-- A word written through a shuttle window (R210). -/
def windowWrite (off : Nat) (v : Word) (s : State) : State :=
  let n := fget s LOOM_SHSEL_SEL
  let s := rouse (4 + n / 4) s
  if windowOpen s then
    let s := shMend n (windowPlace off) s
    let x := shuttle s n
    let put := fun (d : Nat → Byte) (t : Tab Byte) (a : Nat) =>
      (List.range 4).foldl (fun t i => tabSet d t (a + i) (BitVec.ofNat 8 (v.toNat / 256 ^ i))) t
    if off < 0x50000 then setShuttle n { x with imem := put (imemDefault s n) x.imem (off - 0x40000) } s
    else setShuttle n { x with dmem := put (fun _ => 0) x.dmem (off - 0x50000) } s
  else s

/-- Is an offset of the LOOM block within a shuttle window (R210)? -/
def inWindow (off : Nat) : Bool := decide (0x40000 ≤ off) && decide (off < 0x58000)

/-! ### Warp memory (R227, R230) -/

/-- Is a host or debug write at a warp offset refused (R230, R238)? -/
def warpRefused (s : State) (o : Nat) : Bool :=
  flag s LOOM_STAT_FATAL || inPublished s o ||
    (flag s LOOM_STAT_PICKON && !(decide (fget s LOOM_HWWIN_BASE ≤ o / 4096) && decide (o / 4096 ≤ fget s LOOM_HWWIN_LIMIT)))

def Size.bytes : Size → Nat
  | .byte => 1 | .half => 2 | .word => 4

/-- The number of an initiator as a requester at the banks (R228). -/
def bankIni : Initiator → Nat
  | .host => 2
  | .debug => 0

/-- Must an access to warp memory wait for the grant of its bank (R228)? Its command then makes the request, and the access takes place when the
command comes again. -/
def bankBlocks (i : Initiator) (a : Nat) (s : State) : Bool :=
  let b := bankOf (a - 0x10000000)
  !bankGrants (bankAsk b (bankIni i) s) b (bankIni i)

def bankWait (i : Initiator) (a : Nat) (s : State) : State := bankAsk (bankOf (a - 0x10000000)) (bankIni i) s

/-- A host or debug write to warp memory, which is up and may be written (R228, R230). -/
def warpPut (i : Initiator) (a : Nat) (size : Size) (v : Word) (s : State) : State :=
  let o := a - 0x10000000
  if a % size.bytes ≠ 0 then writeError i .accerr a s
  else if warpRefused s o then writeError i .other a (setF s LOOM_EVT_HWREJ)
  else if bankBlocks i a s then bankWait i a s
  else warpStore o (bytesOf size.bytes v.toNat) (bankDone (bankOf o) (bankIni i) s)

/-- WARP has cleared its memory and is awake (R22, R227): start-up step 4 is complete (R65). -/
def warpCleared (s : State) : State :=
  if islUp s 3 ∧ flag s LOOM_STAT_CLR then
    let s := restartWaits 3 (clrF { s with loom := { s.loom with warp := [], bad := [] } } LOOM_STAT_CLR)
    if s.sys.relBusy then stepDone 4 s else s
  else s

/-! ### The commands -/

/-- Does WARP run? -/
def warpUp (s : State) : Bool := power s 3 == .run || power s 3 == .idle

/-- An event of WARP. -/
def inWarp (f : State → State) (s : State) : Host.Outcome State Fault Refusal := .next (if warpUp s then f (stir 3 s) else s)

def execGateQueueIssue (n : Fin 16) (s : State) : Host.Outcome State Fault Refusal := inWarp (gateIssue n.val) s

def execStart (i : Initiator) (n : Fin 16) (s : State) : Host.Outcome State Fault Refusal :=
  .next (access i (LOOM_SHCMD n.val) (shCmdWrite n.val 1) s)

def execStop (i : Initiator) (n : Fin 16) (s : State) : Host.Outcome State Fault Refusal :=
  .next (access i (LOOM_SHCMD n.val) (shCmdWrite n.val 2) s)

def execLoadlib (i : Initiator) (n : Fin 16) (s : State) : Host.Outcome State Fault Refusal :=
  .next (access i (LOOM_SHCMD n.val) (shCmdWrite n.val 3) s)

def execLoadlibComplete (n : Fin 16) (s : State) : Host.Outcome State Fault Refusal := inWarp (loadlibDone n.val) s

/-- An access to a word of a shuttle window: a read, or a write of `v` (R210). -/
def execShuttleWindowAccess (i : Initiator) (off : Fin 24576) (v : Option Word) (s : State) : Host.Outcome State Fault Refusal :=
  let o := 0x40000 + 4 * off.val
  .next (match v with
    | some w => access i (0x20200000 + o) (windowWrite o w) s
    | none => accessRead i (0x20200000 + o) (windowRead o) s)

def execPickEnable (i : Initiator) (s : State) : Host.Outcome State Fault Refusal :=
  .next (access i LOOM_CTL (loomCtlWrite 1) s)

def execPickDisable (i : Initiator) (s : State) : Host.Outcome State Fault Refusal :=
  .next (access i LOOM_CTL (loomCtlWrite 0) s)

def execPickConfigWrite (i : Initiator) (v : Word) (s : State) : Host.Outcome State Fault Refusal :=
  .next (access i LOOM_PICKCFG (pickCfgWrite v) s)

def execPickBoundary (s : State) : Host.Outcome State Fault Refusal := inWarp pickBoundary s

/-- WARP recognises no tick edge for 1 ms while PICKEN is set (R235). -/
def execWarpTickLoss (s : State) : Host.Outcome State Fault Refusal :=
  inWarp (fun s => if flag s LOOM_CTL_PICKEN then fatalFault 7 none s else s) s

def execPickReport (n : Fin 16) (s : State) : Host.Outcome State Fault Refusal := inWarp (pickReport n.val) s

def execPublicationComplete (s : State) : Host.Outcome State Fault Refusal := inWarp publicationDone s

def execWarpStoreApply (n : Fin 16) (s : State) : Host.Outcome State Fault Refusal := inWarp (warpApply n.val) s

/-- A host or debug write to warp memory at an offset (R230). -/
def execWarpHostWrite (i : Initiator) (off : BitVec 21) (size : Size) (v : Word) (s : State) : Host.Outcome State Fault Refusal :=
  let a := 0x10000000 + off.toNat
  .next (access i a (warpPut i a size v) s)

def execWarpClearComplete (s : State) : Host.Outcome State Fault Refusal := .next (warpCleared s)

/-- The clearance record that is next on the AFE-to-WARP sluice (R248). -/
def execClearanceRecord (s : State) : Host.Outcome State Fault Refusal :=
  inWarp (fun s => match s.afe.out with
    | .clear r :: l => applyClearance r { s with afe := { s.afe with out := l } }
    | _ => s) s

/-- The replacement that is next on the AFE-to-WARP sluice (R248). -/
def execReplacementRecord (s : State) : Host.Outcome State Fault Refusal :=
  inWarp (fun s => match s.afe.out with
    | .sample r :: l => if r.repl then applyReplacement r { s with afe := { s.afe with out := l } } else s
    | _ => s) s

/-- The agreement that is next on the SELV-to-WARP sluice (R249, R492). -/
def execDupAgreement (s : State) : Host.Outcome State Fault Refusal :=
  inWarp (fun s => match s.selv.agree with
    | (src, w1) :: l => applyAgreement src w1 (setSelv { s.selv with agree := l } s)
    | [] => s) s

/-- Does the quadrant of a shuttle run? -/
def quadUp (s : State) (n : Nat) : Bool := power s (4 + n / 4) == .run || power s (4 + n / 4) == .idle

/-- The clear notice that is next on its way to a shuttle (R251). -/
def execClearNotice (n : Fin 16) (s : State) : Host.Outcome State Fault Refusal :=
  .next (match (shuttle s n.val).notices with
    | .clear id :: l => completePicks (noticeClear n.val id (setShuttle n.val { shuttle s n.val with notices := l } s))
    | _ => s)

/-- The squash notice that is next on its way to a shuttle (R251). -/
def execSquashNotice (n : Fin 16) (s : State) : Host.Outcome State Fault Refusal :=
  .next (match (shuttle s n.val).notices with
    | .squash id :: l => noticeSquash n.val id (setShuttle n.val { shuttle s n.val with notices := l } s)
    | _ => s)

def execDeadlineResolution (n : Fin 16) (s : State) : Host.Outcome State Fault Refusal := inWarp (resolveDue n.val) s

end Sys2Proof.Machine
end

