-- ==== Sys2Proof/Machine/Dio.lean ====
section
/-! DEFINITION. Isolated digital inputs and outputs: commands, inputs, status words and the events of the field side (R314 to R342, R69). -/

namespace Sys2Proof.Machine

/-! ### Commands of outputs (R328 to R332) -/

/-- A command sets an output's commanded state, in DIOL and in its bank (R328, R339). -/
def outCommand (m : Nat) (on : Bool) (s : State) : State :=
  let s := if on then setBit s DIO_OSTATE_OUT m else clrBit s DIO_OSTATE_OUT m
  outSettle m (loadBank (6 + m / 8) (putF s (DIO_OUTSTAT_CMD m) on))

/-- Does DIOL accept commands (R338)? -/
def accepting (s : State) : Bool := !flag s DIO_STAT_TAKEN

/-- A write to DIO_OCMD (R328, R342). -/
def ocmdWrite (v : Word) (s : State) : State :=
  let m := wget v 12 8
  if wget v 31 16 ≠ 0 ∨ m ≥ 24 then s
  else if outHost s m = false then setF s DIO_EVT_OCMDREJ
  else onlyIf (accepting s) (outCommand m (wget v 0 0 == 1)) s

/-- Undervoltage ends (R330). -/
def bankRestore (b : Nat) (s : State) : State :=
  let k := dioBank s (6 + b)
  bankSettle b (setBank (6 + b) { k with uv := false, ready := false, evt := k.evt ||| 2 ^ 16 } s)

/-- CLRLATCH: an output that is still above 160 °C waits as in a retry (R332, R339). -/
def outUnlatch (m : Nat) (s : State) : State :=
  let x := dioOut s m
  if x.fault = .latched then outSettle m (setOut m { x with fault := if x.hot then .thermal else .none } s) else s

/-- A write to DIO_OxCMD (R330, R332, R342); it reaches a bank that is up. -/
def oxcmdWrite (b : Nat) (v : Word) (s : State) : State :=
  let k := dioBank s (6 + b)
  if wget v 31 2 ≠ 0 ∨ !bankUp s (6 + b) ∨ !k.on then s
  else
    let s := onlyIf (wget v 1 1 == 1) (forN 8 (fun j => outUnlatch (8 * b + j))) s
    onlyIf (wget v 0 0 == 1 && k.uv && k.ready) (bankRestore b) s

/-- A write to DIO_OxBANK: a HOLD outside 1 to 1,000 makes it ineffective (R342); AUTORST set under UV restores a bank whose 10 ms have
passed (R330). -/
def obankWrite (b : Nat) (v : Word) (s : State) : State :=
  if wget v 25 16 < 1 ∨ wget v 25 16 > 1000 then s
  else
    let s := bankSettle b (loadBank (6 + b) (codeWrite (DIO_OBANK b) v s))
    let k := dioBank s (6 + b)
    if k.on ∧ k.uv ∧ k.ready ∧ wget (outBankCfg s b) 3 3 = 1 then bankRestore b s else s

/-- A write to DIO_OUTCFGm: an output under foreign drive that loses PAR reads STUCK_ON, with its FLT flag (R333). -/
def outcfgWrite (m : Nat) (v : Word) (s : State) : State :=
  let par := outPar s m
  let s := loadBank (6 + m / 8) (codeWrite (DIO_OUTCFG m) v s)
  outSettle m (onlyIf (par && !outPar s m && (dioOut s m).fdrv) (bankFlag (6 + m / 8) (2 ^ (m % 8))) s)

/-- A write to DIO_RVMAPk: an input above 47 makes it ineffective (R342). -/
def rvmapWrite (k : Nat) (v : Word) (s : State) : State :=
  if wget v 29 24 > 47 ∨ wget v 21 16 > 47 ∨ wget v 13 8 > 47 ∨ wget v 5 0 > 47 then s else codeWrite (DIO_RVMAP k) v s

/-! ### Inputs (R319 to R327) -/

/-- An input's state (R321). -/
def inState (s : State) (n : Nat) : Bool := !(dioIn s n).wb && ((dioIn s n).level != (wget (inCfg s n) 5 5 == 1))

/-- An input record enters the DIOL-to-WARP sluice, if DIOL sees the bank (R219, R324, R326). -/
def sendInput (n kind qual : Nat) (v : Word) (stamp : BitVec 64) (s : State) : State :=
  if dioUp s then
    let w0 := BitVec.ofNat 64 (2 * 2 ^ 62 + kind % 4 * 2 ^ 60 + qual % 16 * 2 ^ 38 + n % 64 * 2 ^ 32 + v.toNat)
    wr { s with dio := { s.dio with out := s.dio.out ++ [(w0, stamp)] } } (DIO_INSTAT n)
      (wset (rd s (DIO_INSTAT n)) 7 4 qual)
  else s

/-- The input of a designation of the Reeve, if it is in use (R327, R342). -/
def rvInputOf (s : State) (d : Nat) : Option Nat :=
  let w := rd s (DIO_RVMAP (d / 4))
  let o := 8 * (d % 4)
  if wget w (o + 7) (o + 7) = 1 then some (wget w (o + 5) o) else none

/-- What DIOL tells the Reeve of a designated input now (R327). -/
def tellReeve (d : Nat) (s : State) : State :=
  match rvInputOf s d with
  | some n =>
    if dioUp s then
      { s with dio := { s.dio with rvOut := s.dio.rvOut ++ [⟨d, inState s n, (dioIn s n).wb, !bankUp s (n / 8)⟩] } }
    else s
  | none => s

/-- The Reeve is told of an input wherever it is designated (R327). -/
def tellInput (n : Nat) (s : State) : State := forN 8 (fun d s => if rvInputOf s d = some n then tellReeve d s else s) s

/-- A state record is due at the end of the tick period, with the stamp of the latest change (R324). -/
def stateRecord (n : Nat) (stamp : BitVec 64) (s : State) : State :=
  if wget (inCfg s n) 1 1 = 1 ∧ bankUp s (n / 8) then setIn n { dioIn s n with chg := some stamp } s else s

/-- An edge of the state is counted (R322). -/
def countEdge (n : Nat) (s : State) : State :=
  let x := dioIn s n
  let st := inState s n
  let e := wget (inCfg s n) 7 6
  let hit := st != x.st && !x.wb && (if st then e == 0 || e == 2 else e == 1 || e == 2)
  setIn n { x with st := st, cnt := if hit then x.cnt + 1 else x.cnt } s

/-- The stamp of an event of a bank that lies `back` of its tick edges back: the latest value of DIOL's shadow, of those up to `back` edges
ago, whose low 8 bits equal the bank's count then (R325). -/
def dioStamp (s : State) (k back : Nat) (sub : BitVec 16) : BitVec 64 :=
  let c := (dioBank s k).cnt - BitVec.ofNat 8 back
  let t := shadow s 10 - BitVec.ofNat 48 back
  stampWord ⟨((s.dio.hist.drop back).find? (fun v => v.truncate 8 == c)).getD (t - ((t.truncate 8 : BitVec 8) - c).zeroExtend 48), sub⟩

/-- The time that FILT selects, in µs (R321). -/
def filterTime (f : Nat) : Nat := [0, 10, 20, 50, 100, 200, 500, 1000, 2000, 5000, 10000, 20000, 50000].getD f 0

/-- Can the filter of an input have accepted a level that began `back` tick edges ago (R321)? -/
def filterPassed (s : State) (n back : Nat) : Bool :=
  decide ((back + 1) * 1000000 ≥ filterTime (wget (inCfg s n) 11 8) * 32768)

/-- An input is measured by its bank. -/
def inMeasured (s : State) (n : Nat) : Bool := (dioBank s (n / 8)).on && inEn s n

/-- The filtered level of an input changes (R321 to R324). -/
def inputChange (n : Nat) (stamp : BitVec 64) (s : State) : State :=
  if inMeasured s n then
    let x := dioIn s n
    let s := countEdge n (setIn n { x with level := !x.level } s)
    if x.wb then s else tellInput n (stateRecord n stamp s)
  else s

/-- A wire-break begins or ends (R319, R324). -/
def wireBreak (n : Nat) (wb : Bool) (stamp : BitVec 64) (s : State) : State :=
  let x := dioIn s n
  if x.wb = wb then s
  else
    let s := setIn n { x with wb := wb, gwb := x.gwb || (wb && wget (inCfg s n) 3 3 == 1) } s
    let s := countEdge n s
    let s := onlyIf wb (bankFlag (n / 8) (2 ^ (8 + n % 8))) s
    tellInput n (stateRecord n stamp s)

/-- An input follows a change of its fields: an input measured before and after may change its state (R321, R322, R324), and one that is
newly measured begins with the state it has; a gate that is newly opened has seen no wire-break before (R323). -/
def inputFollows (n : Nat) (was st freq : Bool) (stamp : BitVec 64) (s : State) : State :=
  let s := onlyIf (!freq && wget (inCfg s n) 3 3 == 1) (fun s => setIn n { dioIn s n with gwb := (dioIn s n).wb } s) s
  if inMeasured s n && bankUp s (n / 8) then
    if was then (if inState s n != st then tellInput n (stateRecord n stamp (countEdge n s)) else s)
    else setIn n { dioIn s n with st := inState s n } s
  else s

/-- A change of the fields of some inputs, which follow it. -/
def refield (l : List Nat) (stamp : BitVec 64) (f : State → State) (s : State) : State :=
  forL l (fun n => inputFollows n (inMeasured s n) (inState s n) (wget (inCfg s n) 3 3 == 1) stamp) (f s)

/-- PROF of input or output `j` of a bank, in the word that the bank holds of it. -/
def heldProf (s : State) (k j : Nat) : Bool := wget ((dioBank s k).cfg.words.getD j 0) 31 31 == 1

/-- A bank applies an input's PROF as it stands at its tick edge (R318). -/
def inputProfile (n : Nat) (s : State) : State :=
  refield [n] (dioStamp s (n / 8) 0 0) (fun s => setIn n { dioIn s n with prof := heldProf s (n / 8) (n % 8) } s) s

/-- The same for an output. -/
def outputProfile (m : Nat) (s : State) : State :=
  outSettle m (setOut m { dioOut s m with prof := heldProf s (6 + m / 8) (m % 8) } s)

/-- The state record of a tick period, with the latest state and the stamp of the latest change (R324). -/
def stateEdge (n : Nat) (edge : BitVec 64) (s : State) : State :=
  let x := dioIn s n
  let st := inState s n
  if wget (inCfg s n) 1 1 = 0 then setIn n { x with rep := none, chg := none } s
  else if x.rep ≠ some (st, x.wb) ∨ x.chg.isSome then
    sendInput n 0 (if x.wb then 5 else 0) (if st then 1 else 0) (x.chg.getD edge) (setIn n { x with rep := some (st, x.wb), chg := none } s)
  else s

/-- The count of an input's tick edges towards its count records, whose value and quality are latched at the edge (R324). -/
def countTick (n : Nat) (edge : BitVec 64) (s : State) : State :=
  let c := inCfg s n
  let x := dioIn s n
  if wget c 2 2 = 0 then setIn n { x with since := 0, due := none } s
  else if x.since + 1 ≥ max 1 (wget c 23 16 * 32) then setIn n { x with since := 0, due := some (x.cnt, x.wb, edge) } s
  else setIn n { x with since := x.since + 1 } s

/-- The tick edge at a bank, for one of its inputs: the end of a wire-break that is no longer detected, and its records (R319, R324). -/
def inputEdge (n : Nat) (s : State) : State :=
  let edge := dioStamp s (n / 8) 0 0
  if inMeasured s n = false ∨ bankUp s (n / 8) = false then
    let x := dioIn s n
    setIn n { x with rep := none, chg := none, due := none, since := 0, wb := x.wb && inMeasured s n } s
  else
    let s := if wget (inCfg s n) 4 4 = 0 then wireBreak n false edge s else s
    countTick n edge (stateEdge n edge s)

/-- A bank recognises a tick edge (R318, R324, R325). -/
def bankTick (k : Nat) (s : State) : State :=
  let s := setBank k { dioBank s k with cnt := (dioBank s k).cnt + 1 } s
  forN 8 (fun j s => if k < 6 then inputEdge (8 * k + j) (inputProfile (8 * k + j) s) else outputProfile (8 * (k - 6) + j) s) s

/-- How many values of its shadow DIOL keeps: the longest filter of R321 and one turn of the banks' counts. -/
def histMax : Nat := 2304

/-- DIOL recognises a tick edge: heartbeats keep the banks, PROF of the outputs is applied, and the Reeve is told at every 32nd (R317, R318, R325,
R327). -/
def dioTick (s : State) : State :=
  let prof := ((List.range 24).map (fun m => (flag s (DIO_OUTCFG_PROF m)).toNat * 2 ^ m)).sum
  let s := { s with dio := { s.dio with prof := prof, hist := (shadow s 10 :: s.dio.hist).take histMax } }
  if edges s 10 % 32 = 0 then forN 8 tellReeve s else s

/-- The frequency of a gate (R323): edges, the interval between the first and the last, and the gate's own length, both in cycles of the
bank, and the tick periods of the gate. -/
def gateFreq (n iv cyc ticks : Nat) : Word :=
  if n < 2 then 0 else BitVec.ofNat 32 (fpOfRat f32 (((n - 1) * cyc * 32768 : Nat) : Int) (iv * ticks)).1

/-- The length that GATE selects, in ms (R323). -/
def gateTime (g : Nat) : Nat := [10, 20, 50, 100, 200, 500, 1000].getD g 10

/-- Are the tick edges of a gate those of the length that GATE selects, to the ±5 % of the bank's oscillator (R323, R335)? -/
def gateFits (g ticks : Nat) : Bool :=
  decide (ticks * 100000 + 100000 ≥ gateTime g * 3276800 * 95 / 100) && decide (ticks * 100000 ≤ gateTime g * 3276800 * 105 / 100 + 100000)

/-- The count record that is due leaves its bank (R324). -/
def sendCount (n : Nat) (s : State) : State :=
  match (dioIn s n).due with
  | some (v, wb, t) => sendInput n 1 (if wb then 5 else 0) v t (setIn n { dioIn s n with due := none } s)
  | none => s

/-- A frequency gate ends; a count record of its tick period goes first (R323, R324, R339). -/
def gateEnd (n cnt iv cyc ticks : Nat) (sub : BitVec 16) (s : State) : State :=
  if inMeasured s n ∧ wget (inCfg s n) 3 3 = 1 ∧ gateFits (wget (inCfg s n) 15 12) ticks ∧ (cnt < 2 ∨ 0 < iv) then
    let s := sendCount n s
    let x := dioIn s n
    let bad := x.gwb || x.wb
    let f := gateFreq cnt iv cyc ticks
    let lim := if n < 16 then 0x47CD1400 else 0x46241000
    let high := !bad && (fpLt f32 lim f.toNat).1
    let s := setIn n { x with freq := if bad then x.freq else f, fovr := high, gwb := x.wb } s
    let s := onlyIf high (bankFlag (n / 8) 4) s
    if bankUp s (n / 8) then
      sendInput n 2 (if bad then 5 else if high then 3 else 0) (if bad then 0x7FC00000 else f) (dioStamp s (n / 8) 0 sub) s
    else s
  else s

/-- CLRCNT reaches the bank (R322). -/
def clrCount (n : Nat) (s : State) : State := onlyIf (bankUp s (n / 8)) (setIn n { dioIn s n with cnt := 0 }) s

/-- A write to DIO_INCFGn; CLRCNT zeroes the counter (R322, R342). -/
def incfgWrite (n : Nat) (v : Word) (s : State) : State :=
  let s := onlyIf (wget v 30 30 == 1) (clrCount n) s
  refield [n] (stampWord (stampOf s 10)) (fun s => loadBank (n / 8) (codeWrite (DIO_INCFG n) (v &&& 0xBFFFFFFF) s)) s

/-- A write to DIO_IxBANK. -/
def ibankWrite (k : Nat) (v : Word) (s : State) : State :=
  refield ((List.range 8).map (8 * k + ·)) (stampWord (stampOf s 10)) (fun s => loadBank k (codeWrite (DIO_IBANK k) v s)) s

/-! ### Supplies and status words (R316, R317, R320, R330) -/

/-- A reading of a bank's supply, in 10 mV. -/
def bankReading (k v : Nat) (s : State) : State :=
  let b := dioBank s k
  let b := { b with vsup := v }
  if k < 6 then
    let low := decide (v < 1500)
    setBank k { b with wbsup := low, evt := if low && !b.wbsup then b.evt ||| 2 else b.evt } s
  else setBank k { b with uvw := b.uvw && decide (v < 1800), ready := b.ready && decide (v > 1700) } s

/-- An output's status as its bank reports it (R342). -/
def outStatus (m : Nat) (s : State) : State :=
  let x := dioOut s m
  let act := outActual s m
  let f := if x.fdrv && !outPar s m then 4 else match x.fault with
    | .none => 0 | .curlim => 1 | .thermal => 2 | .latched => 3
  let s := bumpBy s (DIO_OUTSTAT_SHORTS m) x.shorts
  let s := fset (putF (putF (fset s (DIO_OUTSTAT_RETRIES m) x.retries) (DIO_OUTSTAT_FDRV m) x.fdrv) (DIO_OUTSTAT_ACT m) act)
    (DIO_OUTSTAT_FAULT m) f
  let s := if act then setBit s DIO_OACT_OUT m else clrBit s DIO_OACT_OUT m
  let s := if x.fdrv then setBit s DIO_OFDRV_OUT m else clrBit s DIO_OFDRV_OUT m
  setOut m { dioOut s m with shorts := 0 } s

/-- An input's status as its bank reports it (R342). -/
def inStatus (n : Nat) (s : State) : State :=
  let x := dioIn s n
  let w := wset (wset (wset (rd s (DIO_INSTAT n)) 0 0 (inState s n).toNat) 1 1 x.wb.toNat) 2 2 x.fovr.toNat
  wr (wr (wr s (DIO_INSTAT n) w) (DIO_INCNT n) x.cnt) (DIO_INFREQ n) x.freq

/-- What DIOL shows of a bank, as of its status word (R317, R342). -/
def bankStatus (k : Nat) (s : State) : State :=
  let b := dioBank s k
  if k < 6 then
    let s := wr s (DIO_ISTAT k) (BitVec.ofNat 32 (b.vsup % 65536 * 65536 + b.wbsup.toNat * 4 + (decide (b.vsup ≥ 1500)).toNat * 2 + 1))
    let s := wr s (DIO_IEVT k) (rd s (DIO_IEVT k) ||| BitVec.ofNat 32 b.evt)
    forN 8 (fun j => inStatus (8 * k + j)) s
  else
    let o := k - 6
    let s := wr s (DIO_OSTAT o) (BitVec.ofNat 32 (b.vsup % 65536 * 65536 + 128 + s.dio.rel.toNat * 64 + b.uv.toNat * 32 + b.uvw.toNat * 16
      + b.state % 4))
    let s := wr s (DIO_OEVT o) (rd s (DIO_OEVT o) ||| BitVec.ofNat 32 b.evt)
    forN 8 (fun j => outStatus (8 * o + j)) s

/-- A bank comes up: DIOL's fields and the low 8 bits of its shadow are loaded into it (R317, R325, R342). -/
def bankComesUp (k : Nat) (s : State) : State :=
  let s := setBit (setPower s (18 + k) .run) DIO_STAT_UP k
  let s := loadBank k (setBank k { dioBank s k with cnt := (shadow s 10).truncate 8 } s)
  if k < 6 then
    forN 8 (fun j s =>
      let n := 8 * k + j
      let s := setIn n { dioIn s n with prof := heldProf s k j, rep := none, chg := none, due := none, since := 0 } s
      setIn n { dioIn s n with st := inState s n } s) s
  else
    let s := forN 8 (fun j s => setOut (8 * (k - 6) + j) { dioOut s (8 * (k - 6) + j) with prof := heldProf s k j } s) s
    let s := bankSettle (k - 6) s
    if (dioBank s k).state = 1 then setBit s DIO_STAT_OEN (k - 6) else s

/-- DIOL receives a status word of a bank; once a marker has been received an output bank is enabled when it comes up, and where it is OFF (R69,
R317). -/
def statusWord (k v : Nat) (s : State) : State :=
  if dioUp s ∧ (dioBank s k).on then
    let fresh := !bankUp s k
    let s := bankReading k v (stir 10 s)
    let s := if fresh then bankComesUp k s else s
    let s := if 6 ≤ k ∧ flag s DIO_STAT_FIRSTPK ∧ accepting s ∧ (if fresh then (dioBank s k).state ≠ 1 else (dioBank s k).state = 0) then
      bankEnable (k - 6) s else s
    let s := bankStatus k s
    setBank k { dioBank s k with evt := 0, last := edges s 10 } s
  else s

/-- The INVALID record of an input whose bank goes down (R324). -/
def invalidRecord (n : Nat) (s : State) : State :=
  if inEn s n ∧ wget (inCfg s n) 1 1 = 1 then sendInput n 0 15 0 (stampWord (stampOf s 10)) s else s

/-- DIOL marks a bank down (R317, R324, R327, R73). -/
def markDown (k : Nat) (s : State) : State :=
  let s := setF (setF (setPower (clrBit s DIO_STAT_UP k) (18 + k) .off) DIO_EVT_BANKDOWN) SYS_EVT_ISLDOWN
  if k < 6 then
    let s := setBit (clrF s (DIO_ISTAT_UP k)) (DIO_IEVT_DOWN k) 0
    let s := forN 8 (fun j s =>
      invalidRecord (8 * k + j) (setIn (8 * k + j) { dioIn s (8 * k + j) with rep := none, chg := none, due := none } s)) s
    forN 8 (fun d s => if (rvInputOf s d).map (· / 8) = some k then tellReeve d s else s) s
  else clrBit (clrF s (DIO_OSTAT_UP (k - 6))) DIO_STAT_OEN (k - 6)

/-- The islands that a field supply feeds: 0 VFIELD_I, 1 to 3 VFIELD_OA to VFIELD_OC (R314). -/
def supplyBanks (v : Nat) : List Nat := if v = 0 then [0, 1, 2, 3, 4, 5] else [5 + v]

/-- A field-side island starts afresh, running or not, with the sluices of its ends reset (R19, R22, R69, R316, R337). -/
def bankFresh (on : Bool) (k : Nat) (s : State) : State :=
  let s := restartWaits (18 + k) (setInbox (dropSluices (18 + k) s) (18 + k) [])
  let s := setBank k { on := on, last := (dioBank s k).last, vsup := 0 } s
  if k < 6 then { s with dio := { s.dio with ins := tabClear (fun n => n / 8 == k) s.dio.ins } }
  else { s with dio := { s.dio with outs := tabClear (fun m => m / 8 + 6 == k) s.dio.outs } }

/-! ### The commands -/

/-- An event of DIOL. -/
def inDiol (f : State → State) (s : State) : Host.Outcome State Fault Refusal := .next (if dioUp s then f (stir 10 s) else s)

def execBankStatusWord (k : Fin 9) (v : BitVec 16) (s : State) : Host.Outcome State Fault Refusal :=
  .next (statusWord k.val v.toNat s)

def execBankDown (k : Fin 9) (s : State) : Host.Outcome State Fault Refusal :=
  inDiol (fun s => if bankUp s k.val ∧ edges s 10 ≥ (dioBank s k.val).last + 16 then markDown k.val s else s) s

/-- An output bank receives no heartbeat for 16 tick periods (R317, R335). -/
def execLogicSideLoss (b : Fin 3) (s : State) : Host.Outcome State Fault Refusal := .next (bankHold b.val s)

/-- The hold of an output bank ends (R336). -/
def execHoldExpiry (b : Fin 3) (s : State) : Host.Outcome State Fault Refusal :=
  let k := dioBank s (6 + b.val)
  .next (if k.on ∧ k.state = 2 then bankSettle b.val (setBank (6 + b.val) { k with state := 3 } s) else s)

def execFieldSupplyRelease (v : Fin 4) (s : State) : Host.Outcome State Fault Refusal :=
  .next (forL (supplyBanks v.val) (fun k s => if (dioBank s k).on then s else bankFresh true k s) s)

def execFieldSupplyLoss (v : Fin 4) (s : State) : Host.Outcome State Fault Refusal :=
  .next (forL (supplyBanks v.val) (bankFresh false) s)

def execInputChange (n : Fin 48) (back sub : BitVec 16) (s : State) : Host.Outcome State Fault Refusal :=
  .next (if filterPassed s n.val back.toNat then inputChange n.val (dioStamp s (n.val / 8) back.toNat sub) s else s)

def execWireBreak (n : Fin 48) (sub : BitVec 16) (s : State) : Host.Outcome State Fault Refusal :=
  .next (if inMeasured s n.val ∧ wget (inCfg s n.val) 4 4 = 1 ∧ (dioBank s (n.val / 8)).wbsup = false then
    wireBreak n.val true (dioStamp s (n.val / 8) 0 sub) s else s)

def execWireBreakEnd (n : Fin 48) (sub : BitVec 16) (s : State) : Host.Outcome State Fault Refusal :=
  .next (if inMeasured s n.val then wireBreak n.val false (dioStamp s (n.val / 8) 0 sub) s else s)

/-- A bank reads VFIELD_I below 15.0 V (R320); the reading is in 10 mV. -/
def execInputSupplyLow (k : Fin 6) (v : BitVec 16) (s : State) : Host.Outcome State Fault Refusal :=
  .next (if (dioBank s k.val).on ∧ v.toNat < 1500 then bankReading k.val v.toNat s else s)

/-- VFIELD_I of an input bank reads 15.0 V or more again (R320). -/
def execWireBreakSuppressionEnd (k : Fin 6) (v : BitVec 16) (s : State) : Host.Outcome State Fault Refusal :=
  .next (if (dioBank s k.val).on ∧ v.toNat ≥ 1500 then bankReading k.val v.toNat s else s)

def execCountRecord (n : Fin 48) (s : State) : Host.Outcome State Fault Refusal :=
  inDiol (sendCount n.val) s

def execFrequencyGateEnd (n : Fin 48) (cnt iv cyc : BitVec 32) (ticks sub : BitVec 16) (s : State) :
    Host.Outcome State Fault Refusal :=
  .next (gateEnd n.val cnt.toNat iv.toNat cyc.toNat ticks.toNat sub s)

def execClrcnt (i : Initiator) (n : Fin 48) (s : State) : Host.Outcome State Fault Refusal :=
  .next (access i (DIO_INCFG n.val) (clrCount n.val) s)

/-- The item that is next on path 3, if `f` takes it (R292). -/
def fromPath3 (f : EgItem → Option (State → State)) (s : State) : Host.Outcome State Fault Refusal :=
  inDiol (fun s => match egTake 3 s with
    | (some x, s') => (match f x.item with
      | some g => g s'
      | none => s)
    | (none, _) => s) s

/-- An output command of the loom (R328, R338). -/
def execOutputCommand (s : State) : Host.Outcome State Fault Refusal :=
  fromPath3 (fun x => match x with
    | .out o on => some (fun s => if o < 24 ∧ outHost s o = false ∧ accepting s then outCommand o on s else s)
    | _ => none) s

def execHostOutputCommand (i : Initiator) (v : Word) (s : State) : Host.Outcome State Fault Refusal :=
  .next (access i DIO_OCMD (ocmdWrite v) s)

def execOutputSupplyWarning (b : Fin 3) (v : BitVec 16) (s : State) : Host.Outcome State Fault Refusal :=
  let k := dioBank s (6 + b.val)
  .next (if k.on ∧ v.toNat < 1800 then setBank (6 + b.val) { k with vsup := v.toNat, uvw := true, ready := k.ready && decide (v.toNat > 1700), evt := k.evt ||| 2 ^ 17 } s else s)

def execOutputUndervoltage (b : Fin 3) (v : BitVec 16) (s : State) : Host.Outcome State Fault Refusal :=
  let k := dioBank s (6 + b.val)
  .next (if k.on ∧ v.toNat < 1600 then
    bankSettle b.val (setBank (6 + b.val) { k with vsup := v.toNat, uv := true, ready := false, evt := k.evt ||| 2 ^ 18 } s) else s)

/-- An output bank's supply has been above 17.0 V for 10 ms without a break (R330). -/
def execOutputAutoRestore (b : Fin 3) (s : State) : Host.Outcome State Fault Refusal :=
  let k := dioBank s (6 + b.val)
  .next (if k.on ∧ k.uv then
    if wget (outBankCfg s b.val) 3 3 = 1 then bankRestore b.val s else setBank (6 + b.val) { k with ready := true } s
  else s)

def execRestore (i : Initiator) (b : Fin 3) (s : State) : Host.Outcome State Fault Refusal :=
  .next (access i (DIO_OXCMD b.val) (oxcmdWrite b.val 1) s)

def execClrlatch (i : Initiator) (b : Fin 3) (s : State) : Host.Outcome State Fault Refusal :=
  .next (access i (DIO_OXCMD b.val) (oxcmdWrite b.val 2) s)

def execOutputCurrentLimit (m : Fin 24) (s : State) : Host.Outcome State Fault Refusal :=
  .next (if outActual s m.val ∧ (dioOut s m.val).fault = .none then setOut m.val { dioOut s m.val with fault := .curlim } s else s)

/-- An output has been in limit for 1 ms or its switch has reached 175 °C; `hot` says whether the switch is above 160 °C (R332). -/
def execOutputThermalShutdown (m : Fin 24) (hot : Bool) (s : State) : Host.Outcome State Fault Refusal :=
  let x := dioOut s m.val
  .next (if outActual s m.val ∧ x.fault = .curlim then
    let n := min (x.retries + 1) 255
    let f := if n ≥ wget (outBankCfg s (m.val / 8)) 7 4 then OutFault.latched else .thermal
    bankFlag (6 + m.val / 8) (2 ^ (m.val % 8)) (setOut m.val { x with fault := f, hot := hot, retries := n, shorts := x.shorts + 1 } s)
  else s)

/-- A switch that was shut down has cooled, and its retry wait has passed (R332). -/
def execOutputRetry (m : Fin 24) (s : State) : Host.Outcome State Fault Refusal :=
  let x := dioOut s m.val
  .next (match x.fault with
    | .thermal => outSettle m.val (setOut m.val { x with fault := .none, hot := false } s)
    | _ => setOut m.val { x with hot := false } s)

def execRetryCountReset (m : Fin 24) (s : State) : Host.Outcome State Fault Refusal :=
  .next (if outActual s m.val then setOut m.val { dioOut s m.val with fault := .none, retries := 0 } s else s)

def execForeignDrive (m : Fin 24) (s : State) : Host.Outcome State Fault Refusal :=
  let x := dioOut s m.val
  .next (if (dioBank s (6 + m.val / 8)).on ∧ outActual s m.val = false ∧ x.fdrv = false then
    let par := outPar s m.val
    let s := bankFlag (6 + m.val / 8) (2 ^ (8 + m.val % 8) + (if par then 0 else 2 ^ (m.val % 8))) s
    setOut m.val { x with fdrv := true } s
  else s)

def execForeignDriveEnd (m : Fin 24) (s : State) : Host.Outcome State Fault Refusal :=
  .next (setOut m.val { dioOut s m.val with fdrv := false } s)

/-- The release changes, and every output bank follows (R338). -/
def setRelease (rel : Bool) (s : State) : State :=
  let s := { s with dio := { s.dio with rel := rel } }
  forN 3 bankSettle s

def execReleaseOrder (s : State) : Host.Outcome State Fault Refusal :=
  fromPath3 (fun x => match x with
    | .release => some (setRelease true)
    | _ => none) s

def execAssumeOrder (s : State) : Host.Outcome State Fault Refusal :=
  fromPath3 (fun x => match x with
    | .assume => some (setRelease false)
    | _ => none) s

/-- The first-pick marker enables the output banks that are up, and DIOL tells the Reeve of it (R69, R70, R337, R338, R512). -/
def firstPick (s : State) : State :=
  let any := (List.range 3).any (fun b => bankUp s (6 + b) && (dioBank s (6 + b)).state != 1)
  let s := clrF (setF s DIO_STAT_FIRSTPK) DIO_STAT_TAKEN
  let s := onlyIf (islUp s 16) (fun s => { s with rv := { s.rv with marks := s.rv.marks + 1 } }) s
  let s := forN 3 bankEnable s
  onlyIf any (setF · DIO_EVT_ENABLED) s

def execFirstPickMarker (s : State) : Host.Outcome State Fault Refusal :=
  fromPath3 (fun x => match x with
    | .marker => some firstPick
    | _ => none) s

/-- WARP accepts the next record from the AFE or from DIOL (R218). -/
def execRecordAccept (src : RecSrc) (s : State) : Host.Outcome State Fault Refusal :=
  inWarp (fun s => match src with
    | .afe => (match s.afe.out with
      | .sample r :: l => if r.repl then s else acceptRecord (sampleWord r) (stampWord r.stamp) { s with afe := { s.afe with out := l } }
      | _ => s)
    | .diol => (match s.dio.out with
      | (w0, w1) :: l => acceptRecord w0 w1 { s with dio := { s.dio with out := l } }
      | [] => s)) s

end Sys2Proof.Machine
end

