-- ==== Sys2Proof/Machine/Disp.lean ====
section
/-! DEFINITION. DISP: the segment LCD, its contrast, the bistable annunciator and the glyph table (R432 to R449). -/

namespace Sys2Proof.Machine

def setDisp (x : DispSt) (s : State) : State := { s with disp := x }

/-- DISP runs: what happens on its own there happens then, and what arrives wakes it. -/
def dispUp (s : State) : Bool := power s 13 == .run || power s 13 == .idle

/-! ### The LCD (R432 to R436) -/

/-- The mode of pixel (c, g) (R432). -/
def pixelMode (s : State) (c g : Nat) : Nat := wget (rd s (DISP_LCDMODE c (g / 16))) (2 * (g % 16) + 1) (2 * (g % 16))

/-- Is a pixel on at DISP's shadow (R432)? -/
def pixelOn (s : State) (c g : Nat) : Bool :=
  match pixelMode s c g with
  | 0 => false
  | 1 => true
  | 2 => !(shadow s 13).toNat.testBit 14
  | _ => !(shadow s 13).toNat.testBit 13

/-- The level of a common's land in the slot of common `c` of frame `f`, in quarters of VLCD (R433). -/
def commonLevel (f c land : Nat) : Nat :=
  match (f + c) % 2, decide (land = c) with
  | 0, true => 4
  | 0, false => 1
  | _, true => 0
  | _, false => 3

/-- The level of a segment's land in the slot of common `c` of frame `f`, in quarters of VLCD (R433). -/
def segmentLevel (f c : Nat) (on : Bool) : Nat := if on then (if (f + c) % 2 = 0 then 0 else 4) else 2

/-- The cycles of a slot (R433); no FRATE in force lies half way between two counts. -/
def slotCycles (frate : Nat) : Nat := (2 * 1000000 + 8 * frate) / (16 * frate)

/-- CODE of the contrast DAC (R435): T is 25 °C while no reading is held. -/
def contrastCode (s : State) : Nat :=
  let w := rd s DISP_LCDCFG
  let tc := (BitVec.ofNat 8 (wget w 7 0)).toInt
  let t := if flag s DISP_STAT_TEMPV then (BitVec.ofNat 12 (fget s DISP_STAT_TEMP)).toInt else 100
  ((wget w 15 8 : Int) + meanCode 10 (tc * (t - 100)) 80 |> max 0 |> min 255).toNat

/-- Does a measured VLCD lie within ±5 % of its target (R434, R436)? Both are codes: 2.50 V + 10 mV × CODE. -/
def vlcdOk (s : State) (v : Nat) : Bool :=
  let c := fget s DISP_LCDSTAT_CODE
  decide (20 * (max v c - min v c) ≤ 250 + c)

/-- Is the resistor ladder in use (R436)? -/
def onLadder (s : State) : Bool := flag s DISP_CTL_LADDER || s.disp.failed

/-- LADDERON follows the ladder's use. -/
def ladderShow (s : State) : State := putF s DISP_STAT_LADDERON (onLadder s)

/-- FRATE and the contrast code are taken, at the start of an even frame (R433). -/
def evenFrame (s : State) : State :=
  let s := setDisp { s.disp with frate := fget s DISP_LCDCFG_FRATE, begun := edges s 13 } s
  let s := fset s DISP_LCDSTAT_CODE (contrastCode s)
  if s.disp.retry then ladderShow (setDisp { s.disp with retry := false, failed := false, bad := 0 } s) else s

/-- A write to DISP_CTL (R434, R436). -/
def dispCtlWrite (v : Word) (s : State) : State :=
  let was := flag s DISP_CTL_LCDEN
  let s := ladderShow (codeWrite DISP_CTL v s)
  if !was && flag s DISP_CTL_LCDEN && !flag s DISP_LCDSTAT_RUN then
    evenFrame (setDisp { s.disp with frame := 0, bad := 0 } s)
  else s

/-- VLCD has reached its target: frame 0 begins (R434). -/
def pumpReady (v : Nat) (s : State) : State :=
  if flag s DISP_CTL_LCDEN && !flag s DISP_LCDSTAT_RUN && (onLadder s || vlcdOk s v) then
    let s := fset s DISP_LCDSTAT_VMEAS v
    setF (putF (evenFrame (setDisp { s.disp with frame := 0, bad := 0 } s)) DISP_LCDSTAT_PUMPOK (!onLadder s)) DISP_LCDSTAT_RUN
  else s

/-- Have the eight slots of a frame passed (R433)? -/
def frameOver (s : State) : Bool := lapsed s 13 s.disp.begun (8 * slotCycles s.disp.frate)

/-- The end of a frame: VLCD is measured, 16 frames out of tolerance bring the ladder, an odd frame ends a disabled LCD, and an even
frame takes new settings (R433, R434, R436). -/
def frameEnd (v : Nat) (s : State) : State :=
  if flag s DISP_LCDSTAT_RUN && frameOver s then
    let s := fset s DISP_LCDSTAT_VMEAS v
    let ok := vlcdOk s v
    let s := putF s DISP_LCDSTAT_PUMPOK (ok && !onLadder s)
    let n := if ok ∨ onLadder s then 0 else s.disp.bad + 1
    let s := if n ≥ 16 then ladderShow (setF (setDisp { s.disp with bad := 0, failed := true } s) DISP_EVT_PUMPFLT)
      else setDisp { s.disp with bad := n } s
    let f := s.disp.frame
    if f % 2 = 1 ∧ flag s DISP_CTL_LCDEN = false then
      setDisp { s.disp with frame := 0 } (clrF (clrF s DISP_LCDSTAT_RUN) DISP_LCDSTAT_PUMPOK)
    else
      let s := setDisp { s.disp with frame := f + 1, begun := edges s 13 } s
      if f % 2 = 1 then evenFrame s else s
  else s

/-- A write to DISP_LCDCFG: an FRATE outside 64 to 128 makes it ineffective (R449). -/
def lcdcfgWrite (v : Word) (s : State) : State := if wget v 22 16 < 64 then s else codeWrite DISP_LCDCFG v s

/-! ### Temperature and bands (R435, R439) -/

/-- Threshold TH`n` in °C. -/
def bandThreshold (s : State) (n : Nat) : Int :=
  (BitVec.ofNat 8 (wget (rd s (if n < 4 then DISP_ANBAND0 else DISP_ANBAND1)) (8 * (n % 4) + 7) (8 * (n % 4)))).toInt

/-- The band of the latest reading (R439). -/
def bandOf (s : State) : Nat :=
  if flag s DISP_STAT_TEMPV then
    let t := (BitVec.ofNat 12 (fget s DISP_STAT_TEMP)).toInt
    ((List.range 7).filter (fun n => decide (4 * bandThreshold s n ≤ t))).length
  else 3

/-- DISP samples the die A sensor (R435, R439). -/
def dispTemp (t : BitVec 12) (s : State) : State :=
  let s := setF (fset s DISP_STAT_TEMP t.toNat) DISP_STAT_TEMPV
  fset s DISP_STAT_BAND (bandOf s)

/-! ### The annunciator (R437 to R442) -/

/-- A step byte of a waveform (R438): the ROM's, or the RAM's where it is selected. -/
def waveByte (s : State) (ram : Bool) (band w i : Nat) : Byte :=
  let o := 128 * band + 32 * w + i
  if ram then BitVec.ofNat 8 ((rd s (0x20A02000 + o / 4 * 4)).toNat / 2 ^ (8 * (o % 4))) else Config.waveRom o

/-- The level that a waveform drives `t` × 10 ms after its start, while it lasts (R438). -/
def waveLevel (s : State) (ram : Bool) (band w : Nat) : Nat → Nat → Nat → Option Nat
  | 0, _, _ => none
  | n + 1, i, t =>
    let b := (waveByte s ram band w i).toNat
    if b / 4 = 0 then none
    else if t < b / 4 then some (b % 4)
    else waveLevel s ram band w n (i + 1) (t - b / 4)

/-- How long a waveform of the ROM lasts, in 10 ms (R438). -/
def romTime (band w : Nat) : Nat :=
  (match w with
  | 2 => [400, 240, 160, 120, 100, 80, 70, 60]
  | 3 => [560, 360, 260, 200, 180, 140, 130, 120]
  | _ => [120, 80, 60, 40, 40, 30, 30, 30]).getD band 0

/-- How long a waveform lasts, in 10 ms: in the RAM a step of duration 0 ends it (R438). -/
def waveTime (s : State) (ram : Bool) (band w : Nat) : Nat :=
  if ram then (((List.range 32).map (fun i => (waveByte s true band w i).toNat / 4)).takeWhile (· ≠ 0)).sum else romTime band w

/-- Target and displayed pigment of a segment (R440). -/
def anTarget (s : State) (j : Nat) : Nat := wget (rd s (DISP_ANTGT (j / 16))) (2 * (j % 16) + 1) (2 * (j % 16))
def anShown (s : State) (j : Nat) : Nat := wget (rd s (DISP_ANDISP (j / 16))) (2 * (j % 16) + 1) (2 * (j % 16))

/-- The segments of an engine (R440). -/
def engineMask (reeve : Bool) : Nat := if reeve then 0xFF000000 else 0x00FFFFFF

def engine (s : State) (reeve : Bool) : DispEngine := if reeve then s.disp.reeve else s.disp.main
def setEngine (reeve : Bool) (e : DispEngine) (s : State) : State :=
  setDisp (if reeve then { s.disp with reeve := e } else { s.disp with main := e }) s

/-- Those of `d` that a waveform drives: one whose waveform is empty is not changed by it (R438). -/
def driven (s : State) (ram : Bool) (band d : Nat) : Nat :=
  (List.range 32).foldl (fun m j => if d.testBit j && waveTime s ram band (anTarget s j) != 0 then m ||| 2 ^ j else m) 0

/-- An engine starts: it takes its dirty segments with their targets, the band and the set of waveforms, and has the marker set (R438 to
R441). -/
def engineStart (reeve : Bool) (s : State) : State :=
  let d := fget s DISP_ANDIRTY_DIRTY &&& engineMask reeve
  let t : BitVec 64 := BitVec.ofNat 64 ((rd s (DISP_ANTGT 0)).toNat + (rd s (DISP_ANTGT 1)).toNat * 2 ^ 32)
  let ram := !reeve && flag s DISP_ANCFG_WFSEL
  let e : DispEngine := { run := true, segs := driven s ram (bandOf s) d, tgts := t, band := bandOf s, ram := ram }
  let s := fset s DISP_ANDIRTY_DIRTY (fget s DISP_ANDIRTY_DIRTY - d)
  let s := fset s DISP_STAT_LBAND (bandOf s)
  let s := onlyIf (!reeve) (fun s => setDisp { s.disp with dirty := none } s) s
  setF (setEngine reeve e s) (if reeve then DISP_STAT_REEVEUPD else DISP_STAT_MAINUPD)

/-- How long an update lasts: its longest waveform, in 10 ms (R440). -/
def engineTime (s : State) (e : DispEngine) : Nat :=
  (List.range 32).foldl (fun m j => if e.segs.testBit j then max m (waveTime s e.ram e.band (e.tgts.toNat / 2 ^ (2 * j) % 4)) else m) 0

/-- Has an engine driven its longest waveform to its end (R440)? -/
def engineOver (s : State) (e : DispEngine) : Bool := e.run && e.acked && lapsed s 13 e.first (10000 * engineTime s e)

/-- Has the clearing refresh driven the clear waveform to its end (R442)? -/
def clearOver (s : State) : Bool :=
  s.disp.clear == .running && lapsed s 13 s.disp.first (10000 * romTime (fget s DISP_STAT_LBAND) 3)

/-- The level on land AN`j` (R438, R440, R442): 0 is 0 V, 1 is +15 V, 2 is −15 V and 3 is +5 V. ANCOM stays at 0 V (R437). -/
def anLevel (s : State) (j : Nat) : Nat :=
  let since (e : Nat) := (edges s 13 - e) * 100 / 32768
  let e := engine s (decide (j ≥ 24))
  if s.disp.clear = .running then (waveLevel s false (fget s DISP_STAT_LBAND) 3 32 0 (since s.disp.first)).getD 0
  else if e.run && e.acked && e.segs.testBit j then
    (waveLevel s e.ram e.band (e.tgts.toNat / 2 ^ (2 * j) % 4) 32 0 (since e.first)).getD 0
  else 0

/-- The REEVE engine starts as soon as one of its segments is dirty (R440). -/
def reeveStart (s : State) : State :=
  if fget s DISP_ANDIRTY_DIRTY &&& engineMask true ≠ 0 ∧ s.disp.reeve.run = false ∧ s.disp.clear = .none then engineStart true s else s

/-- A segment becomes dirty: the first of MAIN's since its last start begins ANDLY (R440). -/
def dirtySet (j : Nat) (s : State) : State :=
  let s := setBit s DISP_ANDIRTY_DIRTY j
  onlyIf (decide (j < 24) && s.disp.dirty.isNone) (fun s => setDisp { s.disp with dirty := some (edges s 13) } s) s

/-- A target written (R440); code 3 is no pigment and changes nothing (R8). -/
def setTarget (j p : Nat) (s : State) : State :=
  if p ≥ 3 then s
  else
    let dirty := anShown s j != p || (engine s (decide (j ≥ 24))).segs.testBit j
    let s := fset s ⟨DISP_ANTGT (j / 16), 2 * (j % 16) + 1, 2 * (j % 16)⟩ p
    onlyIf dirty (dirtySet j) s

/-- A write to DISP_ANTGTLO or DISP_ANTGTHI (R440, R449). -/
def antgtWrite (k : Nat) (v : Word) (s : State) : State :=
  forN (if k = 0 then 16 else 8) (fun j => setTarget (16 * k + j) (wget v (2 * j + 1) (2 * j))) s

/-- The MAIN engine may start (R440). -/
def mainReady (s : State) : Bool := flag s DISP_CTL_ANEN && s.disp.clear == .none && !s.disp.main.run

/-- Have ANDLY × 10 ms passed since the first DIRTY bit (R440)? -/
def andlyOver (s : State) : Bool :=
  match s.disp.dirty with
  | some e => lapsed s 13 e (10000 * fget s DISP_ANCFG_ANDLY)
  | none => false

/-- A clearing refresh that was asked for starts once both engines are idle (R442). -/
def clearStart (s : State) : State :=
  if s.disp.clear = .asked ∧ s.disp.main.run = false ∧ s.disp.reeve.run = false then
    fset (setF (setDisp { s.disp with clear := .marking } s) DISP_STAT_CLEARING) DISP_STAT_LBAND (bandOf s)
  else s

/-- A clearing refresh asked for (R442). -/
def clearAsk (s : State) : State := if s.disp.clear = .none then clearStart (setDisp { s.disp with clear := .asked } s) else s

/-- A write to DISP_CMD (R436, R440, R442). -/
def dispCmdWrite (v : Word) (s : State) : State :=
  let s := onlyIf (wget v 0 0 == 1 && mainReady s) (engineStart false) s
  let s := onlyIf (wget v 1 1 == 1) clearAsk s
  onlyIf (wget v 2 2 == 1 && !flag s DISP_CTL_LADDER) (fun s => setDisp { s.disp with retry := true } s) s

/-- The marker is cleared when nothing is driven (R441). -/
def markerClear (s : State) : State :=
  if s.disp.main.run = false ∧ s.disp.reeve.run = false ∧ s.disp.clear = .none then { s with tick := { s.tick with marker := false } } else s

/-- TICK acknowledges the marker: what waited drives its first step (R441). -/
def markerAck (s : State) : State :=
  let d := s.disp
  let c := if d.clear = .marking then .running else d.clear
  let begin (e : DispEngine) : DispEngine := if e.run && !e.acked then { e with acked := true, first := edges s 13 } else e
  setDisp { d with main := begin d.main, reeve := begin d.reeve, clear := c, first := if d.clear = .marking then edges s 13 else d.first }
    { s with tick := { s.tick with marker := s.tick.marker || d.main.run || d.reeve.run || c == .running } }

/-- An update ends: its segments show their targets (R440). -/
def engineEnd (reeve : Bool) (s : State) : State :=
  let e := engine s reeve
  if engineOver s e then
    let s := forN 32 (fun j s => if e.segs.testBit j then
      fset s ⟨DISP_ANDISP (j / 16), 2 * (j % 16) + 1, 2 * (j % 16)⟩ (e.tgts.toNat / 2 ^ (2 * j) % 4) else s) s
    let s := setEngine reeve {} (clrF s (if reeve then DISP_STAT_REEVEUPD else DISP_STAT_MAINUPD))
    let s := setF (markerClear s) (if reeve then DISP_EVT_RVDONE else DISP_EVT_UPDDONE)
    reeveStart (clearStart s)
  else s

/-- A clearing refresh ends: the image is white and the Reeve's image is drawn (R442). -/
def clearEnd (s : State) : State :=
  if clearOver s then
    let s := wr (wr (clrF s DISP_STAT_CLEARING) (DISP_ANDISP 0) 0) (DISP_ANDISP 1) 0
    let s := setF (markerClear (setDisp { s.disp with clear := .none } s)) DISP_EVT_CLRDONE
    let s := forN 8 (fun k s => if anTarget s (24 + k) = 0 then clrBit s DISP_ANDIRTY_DIRTY (24 + k) else setBit s DISP_ANDIRTY_DIRTY (24 + k)) s
    reeveStart s
  else s

/-! ### Glyphs and FLOOD entries (R443, R444) -/

/-- An item is counted in BAD (R443). -/
def glyphBad (s : State) : State := setF (bump s DISP_CNT_BAD) DISP_EVT_BAD

/-- Glyph `g` applied with state `st` (R443). -/
def glyphApply (g st : Nat) (s : State) : State :=
  if st ≥ 8 then glyphBad s
  else
    let w0 := rd s (0x20A01000 + 8 * g)
    let w1 := rd s (0x20A01004 + 8 * g)
    let seg := wget w0 21 16
    let an := wget w0 12 8
    let com := wget w0 26 24
    let s := if wget w0 30 30 = 1 then
        (if seg ≥ 48 then glyphBad s
         else fset s ⟨DISP_LCDMODE com (seg / 16), 2 * (seg % 16) + 1, 2 * (seg % 16)⟩ (wget w1 (4 * st + 1) (4 * st)))
      else s
    if wget w0 31 31 = 1 then (if an ≥ 24 then glyphBad s else setTarget an (wget w1 (4 * st + 3) (4 * st + 2)) s) else s

/-- A FLOOD entry of path 2 (R444). -/
def floodApply (s : State) : State :=
  let s := setF (bump (glyphApply (fget s DISP_ANCFG_FLOODG) 1 s) DISP_CNT_FLOODS) DISP_EVT_FLOOD
  setDisp { s.disp with flood := some (edges s 13) } s

/-- The Reeve's segment word (R511): bits [2k + 1:2k] are the pigment of segment 24 + k. -/
def segmentWord (w : Nat) (s : State) : State :=
  reeveStart (forN 8 (fun k => setTarget (24 + k) (w / 2 ^ (2 * k) % 4)) s)

/-! ### The commands -/

def inDisp (f : State → State) (s : State) : Host.Outcome State Fault Refusal := .next (if dispUp s then f (stir 13 s) else s)

def execLcdEnable (i : Initiator) (s : State) : Host.Outcome State Fault Refusal :=
  .next (access i DISP_CTL (fun s => dispCtlWrite (rd s DISP_CTL ||| 1) s) s)

def execLcdPumpReady (v : BitVec 8) (s : State) : Host.Outcome State Fault Refusal := inDisp (pumpReady v.toNat) s

def execLcdDisable (i : Initiator) (s : State) : Host.Outcome State Fault Refusal :=
  .next (access i DISP_CTL (fun s => dispCtlWrite (rd s DISP_CTL &&& 0xFFFFFFFE) s) s)

def execLcdFrameEnd (v : BitVec 8) (s : State) : Host.Outcome State Fault Refusal := inDisp (frameEnd v.toNat) s

def execPumpretry (i : Initiator) (s : State) : Host.Outcome State Fault Refusal := .next (access i DISP_CMD (dispCmdWrite 4) s)

def execDieTemperatureWord (t : BitVec 12) (s : State) : Host.Outcome State Fault Refusal := inDisp (dispTemp t) s

def execAnnunciatorTargetWrite (i : Initiator) (hi : Bool) (v : Word) (s : State) : Host.Outcome State Fault Refusal :=
  .next (access i (DISP_ANTGT hi.toNat) (antgtWrite hi.toNat v) s)

/-- ANDLY × 10 ms have passed since the first DIRTY bit was set (R440). -/
def execMainUpdateStart (s : State) : Host.Outcome State Fault Refusal :=
  inDisp (fun s => if andlyOver s && mainReady s then engineStart false s else s) s

def execUpdate (i : Initiator) (s : State) : Host.Outcome State Fault Refusal := .next (access i DISP_CMD (dispCmdWrite 1) s)

def execMarkerAcknowledged (s : State) : Host.Outcome State Fault Refusal := inDisp markerAck s

def execUpdateEnd (reeve : Bool) (s : State) : Host.Outcome State Fault Refusal := inDisp (engineEnd reeve) s

def execClear (i : Initiator) (s : State) : Host.Outcome State Fault Refusal := .next (access i DISP_CMD (dispCmdWrite 2) s)

def execClearingRefreshEnd (s : State) : Host.Outcome State Fault Refusal := inDisp clearEnd s

/-- DISP takes the next item of path 2, if it is of a kind. -/
def fromPath2 (f : EgItem → Option (State → State)) (s : State) : Host.Outcome State Fault Refusal :=
  .next (if islUp s 13 then (match egTake 2 s with
    | (some x, s') => (match f x.item with
      | some g => g (rouse 13 s')
      | none => s)
    | (none, _) => s) else s)

def execGlyphItem (s : State) : Host.Outcome State Fault Refusal :=
  fromPath2 (fun x => match x with
    | .state _ st _ _ _ fan => some (glyphApply (wget fan 14 8) (wget st 3 0))
    | _ => none) s

def execDispFloodItem (s : State) : Host.Outcome State Fault Refusal :=
  fromPath2 (fun x => match x with
    | .flood _ => some floodApply
    | _ => none) s

/-- FLHOLD seconds after the latest FLOOD entry FLOODG returns to state 0 (R444). -/
def execFloodHoldExpiry (s : State) : Host.Outcome State Fault Refusal :=
  inDisp (fun s => match s.disp.flood with
    | some e =>
      if edges s 13 ≥ e + max 1 (32768 * fget s DISP_ANCFG_FLHOLD) then
        glyphApply (fget s DISP_ANCFG_FLOODG) 0 (setDisp { s.disp with flood := none } s)
      else s
    | none => s) s

/-- The Reeve's word reaches DISP, unless a clearing refresh makes it wait (R446, R511). -/
def execReeveSegmentWord (s : State) : Host.Outcome State Fault Refusal :=
  .next (match s.rv.segs with
    | w :: l =>
      if islUp s 13 && s.disp.clear == .none then segmentWord w { rouse 13 s with rv := { s.rv with segs := l } } else s
    | [] => s)

end Sys2Proof.Machine
end

