-- ==== Sys2Proof/Machine/FrambethCode.lean ====
section
/-! DEFINITION. The instruction words of Frambeth (R162, R170 to R173): the four formats, which words the tables define for which profile, and the
instruction that a word spells. -/

namespace Sys2Proof.Machine

/-! ### The four formats (R170) -/

def encR (op fn d a b : Nat) : Word := BitVec.ofNat 32 (fn * 2 ^ 21 + b * 2 ^ 16 + a * 2 ^ 11 + d * 2 ^ 6 + op)

def encI (op d a imm : Nat) : Word := BitVec.ofNat 32 (imm * 2 ^ 16 + a * 2 ^ 11 + d * 2 ^ 6 + op)

def encS (op a b imm : Nat) : Word :=
  BitVec.ofNat 32 (imm / 32 * 2 ^ 21 + b * 2 ^ 16 + a * 2 ^ 11 + imm % 32 * 2 ^ 6 + op)

def encJ (op imm : Nat) : Word := BitVec.ofNat 32 (imm * 2 ^ 6 + op)

/-- The fields of a word. -/
def wordOp (w : Word) : Nat := w.toNat % 64
def wordD (w : Word) : Fin 32 := Fin.ofNat 32 (w.toNat / 2 ^ 6)
def wordA (w : Word) : Fin 32 := Fin.ofNat 32 (w.toNat / 2 ^ 11)
def wordB (w : Word) : Fin 32 := Fin.ofNat 32 (w.toNat / 2 ^ 16)
def wordFn (w : Word) : Nat := w.toNat / 2 ^ 21
def wordImm (w : Word) : BitVec 16 := BitVec.ofNat 16 (w.toNat / 2 ^ 16)
def wordImmS (w : Word) : BitVec 16 := BitVec.ofNat 16 (wordFn w * 32 + (wordD w).val)
def wordImmJ (w : Word) : BitVec 26 := BitVec.ofNat 26 (w.toNat / 2 ^ 6)

/-! ### Availability (R172, R173) -/

/-- The profiles that have an instruction (R172, R173). -/
structure Avail where
  host    : Bool
  shuttle : Bool
  seq     : Bool
  deriving DecidableEq, Repr

def avAll : Avail := ⟨true, true, true⟩
def avHS : Avail := ⟨true, true, false⟩
def avHost : Avail := ⟨true, false, false⟩
def avShuttle : Avail := ⟨false, true, false⟩
def avSeq : Avail := ⟨false, false, true⟩

/-- Has the profile of an engine an instruction of that availability? -/
def Avail.has (v : Avail) : Engine → Bool
  | .host => v.host
  | .shuttle _ => v.shuttle
  | .seq _ => v.seq

/-- The availability of a major opcode with its function code, where the tables define them (R172, R173). -/
def opAvail (op fn : Nat) : Avail :=
  if op = 0 then (if fn ≤ 0x11 then avAll else avHS)
  else if op = 0x30 then (if fn = 1 then avAll else avHost)
  else if op = 0x38 ∨ (0x10 ≤ op ∧ op ≤ 0x13) ∨ op = 0x18 ∨ op = 0x19 ∨ (0x2D ≤ op ∧ op ≤ 0x2F) then avHS
  else if op = 0x3C then avShuttle
  else if op = 0x3E then avSeq
  else avAll

/-! ### From a word to its instruction (R162, R172, R173) -/

/-- A register field that an instruction does not use must be zero (R162, R173). -/
def unused (r : Fin 32) (i : Option Instr) : Option Instr := if r.val = 0 then i else none

/-- Integer register operations, OP 0x00. -/
def decodeInt (e : Engine) (w : Word) : Option Instr :=
  let d := wordD w
  let a := wordA w
  let b := wordB w
  match wordFn w with
  | 0x0 => some (.add e d a b)
  | 0x1 => some (.sub e d a b)
  | 0x2 => some (.and e d a b)
  | 0x3 => some (.or e d a b)
  | 0x4 => some (.xor e d a b)
  | 0x5 => some (.nor e d a b)
  | 0x8 => some (.sll e d a b)
  | 0x9 => some (.srl e d a b)
  | 0xA => some (.sra e d a b)
  | 0x10 => some (.slt e d a b)
  | 0x11 => some (.sltu e d a b)
  | 0x12 => some (.min e d a b)
  | 0x13 => some (.max e d a b)
  | 0x18 => some (.mul e d a b)
  | 0x19 => some (.mulh e d a b)
  | 0x1A => some (.mulhu e d a b)
  | 0x1C => some (.div e d a b)
  | 0x1D => some (.divu e d a b)
  | 0x1E => some (.rem e d a b)
  | 0x1F => some (.remu e d a b)
  | _ => none

/-- System operations, OP 0x30. -/
def decodeSystem (e : Engine) (w : Word) : Option Instr :=
  unused (wordD w) (unused (wordA w) (unused (wordB w) (match wordFn w with
  | 0x0 => some (.ecall e)
  | 0x1 => some (.ebreak e)
  | 0x2 => some (.eret e)
  | 0x3 => some (.wfi e)
  | _ => none)))

/-- Binary32 operations, OP 0x38. -/
def decodeFloat (e : Engine) (w : Word) : Option Instr :=
  let d := wordD w
  let a := wordA w
  let b := wordB w
  match wordFn w with
  | 0x0 => some (.fadd e d a b)
  | 0x1 => some (.fsub e d a b)
  | 0x2 => some (.fmul e d a b)
  | 0x3 => some (.fdiv e d a b)
  | 0x4 => unused b (some (.fsqrt e d a))
  | 0x5 => some (.fmin e d a b)
  | 0x6 => some (.fmax e d a b)
  | 0x8 => unused b (some (.fabs e d a))
  | 0x9 => unused b (some (.fneg e d a))
  | 0x10 => some (.feq e d a b)
  | 0x11 => some (.flt e d a b)
  | 0x12 => some (.fle e d a b)
  | 0x13 => unused b (some (.fcls e d a))
  | 0x18 => unused b (some (.fcvtsw e d a))
  | 0x19 => unused b (some (.fcvtsu e d a))
  | 0x1A => unused b (some (.fcvtws e d a))
  | 0x1B => unused b (some (.fcvtwu e d a))
  | _ => none

/-- Shuttle operations, OP 0x3C. -/
def decodeShuttle (e : Engine) (w : Word) : Option Instr :=
  let d := wordD w
  let a := wordA w
  let b := wordB w
  match wordFn w with
  | 0x0 => unused a (unused b (some (.sget e d)))
  | 0x1 => unused d (unused b (some (.spwait e a)))
  | 0x2 => unused b (some (.ptag e d a))
  | 0x8 => unused b (some (.qrd e d a))
  | 0x9 => unused d (some (.qwr e a b))
  | 0xA => unused d (unused b (some (.qcmt e a)))
  | 0xB => unused d (unused b (some (.qabt e a)))
  | 0x10 => unused d (some (.dout e a b))
  | 0x11 => unused d (unused b (some (.hirq e a)))
  | 0x12 => unused d (some (.hinc e a b))
  | 0x13 => unused d (some (.xupd e a b))
  | 0x14 => unused d (some (.srec e a b))
  | 0x18 => some (.hbin e d a b)
  | _ => none

/-- Scan operations, OP 0x3E. -/
def decodeScan (e : Engine) (w : Word) : Option Instr :=
  let d := wordD w
  let a := wordA w
  let b := wordB w
  match wordFn w with
  | 0x0 => unused d (some (.scan e a b))
  | 0x1 => unused d (some (.scanw e a b))
  | 0x2 => unused d (some (.sblank e a b))
  | 0x3 => unused d (unused b (some (.tickw e a)))
  | _ => none

/-- Shifts by an immediate, OP 0x07: IMM[6:5] selects and IMM[15:7] is zero. -/
def decodeShift (e : Engine) (w : Word) : Option Instr :=
  let i := (wordImm w).toNat
  let n := BitVec.ofNat 5 i
  match i / 32 with
  | 0 => some (.slli e (wordD w) (wordA w) n)
  | 1 => some (.srli e (wordD w) (wordA w) n)
  | 2 => some (.srai e (wordD w) (wordA w) n)
  | _ => none

/-- The instruction that the tables define for a word, whatever the profile (R172, R173); loads as an ECC check that finds nothing. -/
def decodeOp (e : Engine) (w : Word) : Option Instr :=
  let d := wordD w
  let a := wordA w
  let b := wordB w
  match wordOp w with
  | 0x00 => decodeInt e w
  | 0x01 => some (.addi e d a (wordImm w))
  | 0x02 => some (.andi e d a (wordImm w))
  | 0x03 => some (.ori e d a (wordImm w))
  | 0x04 => some (.xori e d a (wordImm w))
  | 0x05 => some (.slti e d a (wordImm w))
  | 0x06 => some (.sltiu e d a (wordImm w))
  | 0x07 => decodeShift e w
  | 0x08 => unused a (some (.lui e d (wordImm w)))
  | 0x10 => some (.lb e d a (wordImm w) .clean)
  | 0x11 => some (.lbu e d a (wordImm w) .clean)
  | 0x12 => some (.lh e d a (wordImm w) .clean)
  | 0x13 => some (.lhu e d a (wordImm w) .clean)
  | 0x14 => some (.lw e d a (wordImm w) .clean)
  | 0x18 => some (.sb e a b (wordImmS w))
  | 0x19 => some (.sh e a b (wordImmS w))
  | 0x1A => some (.sw e a b (wordImmS w))
  | 0x20 => some (.beq e a b (wordImmS w))
  | 0x21 => some (.bne e a b (wordImmS w))
  | 0x22 => some (.blt e a b (wordImmS w))
  | 0x23 => some (.bge e a b (wordImmS w))
  | 0x24 => some (.bltu e a b (wordImmS w))
  | 0x25 => some (.bgeu e a b (wordImmS w))
  | 0x28 => some (.jal e (wordImmJ w))
  | 0x29 => some (.jalr e d a (wordImm w))
  | 0x2C => unused a (some (.cwr e d (wordImm w)))
  | 0x2D => some (.cww e d a (wordImm w))
  | 0x2E => some (.cws e d a (wordImm w))
  | 0x2F => some (.cwc e d a (wordImm w))
  | 0x30 => decodeSystem e w
  | 0x38 => decodeFloat e w
  | 0x3C => decodeShuttle e w
  | 0x3E => decodeScan e w
  | _ => none

/-- The instruction that a word spells in an engine: none where the word is an illegal instruction (R162). -/
def decodeFrambeth (e : Engine) (w : Word) : Option Instr :=
  if (opAvail (wordOp w) (wordFn w)).has e then decodeOp e w else none

/-! ### From an instruction to its word (R170 to R173) -/

/-- The engine and the word of an instruction of Frambeth; no other command has one. -/
def frambethWord (i : Instr) : Option (Engine × Word) :=
  match i with
  | .add e d a b => some (e, encR 0 0x0 d.val a.val b.val)
  | .sub e d a b => some (e, encR 0 0x1 d.val a.val b.val)
  | .and e d a b => some (e, encR 0 0x2 d.val a.val b.val)
  | .or e d a b => some (e, encR 0 0x3 d.val a.val b.val)
  | .xor e d a b => some (e, encR 0 0x4 d.val a.val b.val)
  | .nor e d a b => some (e, encR 0 0x5 d.val a.val b.val)
  | .sll e d a b => some (e, encR 0 0x8 d.val a.val b.val)
  | .srl e d a b => some (e, encR 0 0x9 d.val a.val b.val)
  | .sra e d a b => some (e, encR 0 0xA d.val a.val b.val)
  | .slt e d a b => some (e, encR 0 0x10 d.val a.val b.val)
  | .sltu e d a b => some (e, encR 0 0x11 d.val a.val b.val)
  | .min e d a b => some (e, encR 0 0x12 d.val a.val b.val)
  | .max e d a b => some (e, encR 0 0x13 d.val a.val b.val)
  | .mul e d a b => some (e, encR 0 0x18 d.val a.val b.val)
  | .mulh e d a b => some (e, encR 0 0x19 d.val a.val b.val)
  | .mulhu e d a b => some (e, encR 0 0x1A d.val a.val b.val)
  | .div e d a b => some (e, encR 0 0x1C d.val a.val b.val)
  | .divu e d a b => some (e, encR 0 0x1D d.val a.val b.val)
  | .rem e d a b => some (e, encR 0 0x1E d.val a.val b.val)
  | .remu e d a b => some (e, encR 0 0x1F d.val a.val b.val)
  | .addi e d a imm => some (e, encI 0x1 d.val a.val imm.toNat)
  | .andi e d a imm => some (e, encI 0x2 d.val a.val imm.toNat)
  | .ori e d a imm => some (e, encI 0x3 d.val a.val imm.toNat)
  | .xori e d a imm => some (e, encI 0x4 d.val a.val imm.toNat)
  | .slti e d a imm => some (e, encI 0x5 d.val a.val imm.toNat)
  | .sltiu e d a imm => some (e, encI 0x6 d.val a.val imm.toNat)
  | .slli e d a n => some (e, encI 7 d.val a.val (0 + n.toNat))
  | .srli e d a n => some (e, encI 7 d.val a.val (32 + n.toNat))
  | .srai e d a n => some (e, encI 7 d.val a.val (64 + n.toNat))
  | .lui e d imm => some (e, encI 8 d.val 0 imm.toNat)
  | .lb e d a imm _ => some (e, encI 0x10 d.val a.val imm.toNat)
  | .lbu e d a imm _ => some (e, encI 0x11 d.val a.val imm.toNat)
  | .lh e d a imm _ => some (e, encI 0x12 d.val a.val imm.toNat)
  | .lhu e d a imm _ => some (e, encI 0x13 d.val a.val imm.toNat)
  | .lw e d a imm _ => some (e, encI 0x14 d.val a.val imm.toNat)
  | .sb e a b imm => some (e, encS 0x18 a.val b.val imm.toNat)
  | .sh e a b imm => some (e, encS 0x19 a.val b.val imm.toNat)
  | .sw e a b imm => some (e, encS 0x1A a.val b.val imm.toNat)
  | .beq e a b imm => some (e, encS 0x20 a.val b.val imm.toNat)
  | .bne e a b imm => some (e, encS 0x21 a.val b.val imm.toNat)
  | .blt e a b imm => some (e, encS 0x22 a.val b.val imm.toNat)
  | .bge e a b imm => some (e, encS 0x23 a.val b.val imm.toNat)
  | .bltu e a b imm => some (e, encS 0x24 a.val b.val imm.toNat)
  | .bgeu e a b imm => some (e, encS 0x25 a.val b.val imm.toNat)
  | .jal e imm => some (e, encJ 0x28 imm.toNat)
  | .jalr e d a imm => some (e, encI 0x29 d.val a.val imm.toNat)
  | .cwr e d num => some (e, encI 0x2C d.val 0 num.toNat)
  | .cww e d a num => some (e, encI 0x2D d.val a.val num.toNat)
  | .cws e d a num => some (e, encI 0x2E d.val a.val num.toNat)
  | .cwc e d a num => some (e, encI 0x2F d.val a.val num.toNat)
  | .ecall e => some (e, encR 0x30 0x0 0 0 0)
  | .ebreak e => some (e, encR 0x30 0x1 0 0 0)
  | .eret e => some (e, encR 0x30 0x2 0 0 0)
  | .wfi e => some (e, encR 0x30 0x3 0 0 0)
  | .fadd e d a b => some (e, encR 0x38 0x0 d.val a.val b.val)
  | .fsub e d a b => some (e, encR 0x38 0x1 d.val a.val b.val)
  | .fmul e d a b => some (e, encR 0x38 0x2 d.val a.val b.val)
  | .fdiv e d a b => some (e, encR 0x38 0x3 d.val a.val b.val)
  | .fmin e d a b => some (e, encR 0x38 0x5 d.val a.val b.val)
  | .fmax e d a b => some (e, encR 0x38 0x6 d.val a.val b.val)
  | .feq e d a b => some (e, encR 0x38 0x10 d.val a.val b.val)
  | .flt e d a b => some (e, encR 0x38 0x11 d.val a.val b.val)
  | .fle e d a b => some (e, encR 0x38 0x12 d.val a.val b.val)
  | .fsqrt e d a => some (e, encR 0x38 0x4 d.val a.val 0)
  | .fabs e d a => some (e, encR 0x38 0x8 d.val a.val 0)
  | .fneg e d a => some (e, encR 0x38 0x9 d.val a.val 0)
  | .fcls e d a => some (e, encR 0x38 0x13 d.val a.val 0)
  | .fcvtsw e d a => some (e, encR 0x38 0x18 d.val a.val 0)
  | .fcvtsu e d a => some (e, encR 0x38 0x19 d.val a.val 0)
  | .fcvtws e d a => some (e, encR 0x38 0x1A d.val a.val 0)
  | .fcvtwu e d a => some (e, encR 0x38 0x1B d.val a.val 0)
  | .sget e d => some (e, encR 0x3C 0x0 d.val 0 0)
  | .spwait e a => some (e, encR 0x3C 0x1 0 a.val 0)
  | .ptag e d a => some (e, encR 0x3C 0x2 d.val a.val 0)
  | .qrd e d a => some (e, encR 0x3C 0x8 d.val a.val 0)
  | .qwr e a b => some (e, encR 0x3C 0x9 0 a.val b.val)
  | .qcmt e a => some (e, encR 0x3C 0xA 0 a.val 0)
  | .qabt e a => some (e, encR 0x3C 0xB 0 a.val 0)
  | .dout e a b => some (e, encR 0x3C 0x10 0 a.val b.val)
  | .hirq e a => some (e, encR 0x3C 0x11 0 a.val 0)
  | .hinc e a b => some (e, encR 0x3C 0x12 0 a.val b.val)
  | .xupd e a b => some (e, encR 0x3C 0x13 0 a.val b.val)
  | .srec e a b => some (e, encR 0x3C 0x14 0 a.val b.val)
  | .hbin e d a b => some (e, encR 0x3C 0x18 d.val a.val b.val)
  | .scan e a b => some (e, encR 0x3E 0x0 0 a.val b.val)
  | .scanw e a b => some (e, encR 0x3E 0x1 0 a.val b.val)
  | .sblank e a b => some (e, encR 0x3E 0x2 0 a.val b.val)
  | .tickw e a => some (e, encR 0x3E 0x3 0 a.val 0)
  | _ => none

end Sys2Proof.Machine
end

