-- ==== Sys2Proof/Machine/Lines.lean ====
section
/-! DEFINITION. The 128 interrupt lines of the host (R39, R72, R111, R158, R239, R313, R360, R377, R400, R429, R447, R480, R499, R514,
R524, R534, and the DIO, SLU and calibration flags of R341, R46 and R143). -/

namespace Sys2Proof.Machine

/-- Is an enabled flag set among bits [hi:lo] of an event register? -/
def evtOn (s : State) (evt ien hi lo : Nat) : Bool := wget (rd s evt &&& rd s ien) hi lo != 0

/-- Byte `m` of an event register drives a line. -/
def evtByte (s : State) (evt ien m : Nat) : Bool := evtOn s evt ien (8 * m + 7) (8 * m)

/-- Is line `j` high (R39)? -/
def lineHigh (s : State) (j : Nat) : Bool :=
  if j = 0 then evtByte s SYS_EVT SYS_EVTIEN 0
  else if j = 1 then evtByte s SYS_EVT SYS_EVTIEN 1
  else if j = 2 then evtOn s SLU_ERRSTAT SLU_ERRIEN 4 0
  else if j = 3 then evtByte s SYS_EVT SYS_EVTIEN 2
  else if j < 8 then false
  else if j < 24 then evtOn s (LOOM_SHIRQ (j - 8)) (LOOM_SHIEN (j - 8)) 7 0
  else if j < 28 then evtByte s LOOM_EVT LOOM_EVTIEN (j - 24)
  else if j < 32 then false
  else if j < 48 then
    evtOn s (AFE_GSTAT (j - 32)) (AFE_GIEN (j - 32)) 7 0
      || (fget s AFE_CTL_GLINE == j - 32 && (evtOn s AFE_EVT AFE_EVTIEN 31 0 || evtOn s AFE_CALEVT AFE_CALIEN 31 0))
  else if j < 56 then evtOn s (VIB_CHEVT (j - 48)) (VIB_CHIEN (j - 48)) 31 0
  else if j < 62 then evtOn s (DIO_IEVT (j - 56)) (DIO_IIEN (j - 56)) 31 0
  else if j < 65 then evtOn s (DIO_OEVT (j - 62)) (DIO_OIEN (j - 62)) 31 0
  else if j = 65 then evtOn s DIO_EVT DIO_EVTIEN 31 0
  else if j < 72 then false
  else if j < 84 then evtByte s (CAN_EVT ((j - 72) / 4)) (CAN_IEN ((j - 72) / 4)) ((j - 72) % 4)
  else if j < 92 then evtByte s (ETH_EVT ((j - 84) / 4)) (ETH_IEN ((j - 84) / 4)) ((j - 84) % 4)
  else if j < 95 then evtByte s STORE_EVT STORE_IEN (j - 92)
  else if j < 100 then false
  else if j < 103 then evtByte s TICK_EVT TICK_IEN (j - 100)
  else if j = 103 then false
  else if j < 107 then evtByte s DISP_EVT DISP_IEN (j - 104)
  else if j = 107 then false
  else if j < 112 then evtByte s PERF_EVT PERF_IEN (j - 108)
  else if j < 116 then evtByte s SELV_EVT SELV_IEN (j - 112)
  else if j < 119 then evtByte s RV_EVT RV_IEN (j - 116)
  else if j = 119 then false
  else if j < 124 then evtByte s POLD_EVT POLD_IEN (j - 120)
  else if j = 124 then evtOn s LIFE_EVT LIFE_IEN 31 0
  else false

end Sys2Proof.Machine
end

