-- ==== Sys2Proof/Machine/Engine.lean ====
section
/-! DEFINITION. What the instructions of the engines share: instruction words, registers, the host's exceptions and protection, and
when an engine executes at all (R161 to R173, R182 to R188). The command of an instruction stands for the instruction that the
engine executes at its pc; where the stored word is no instruction of the engine, that is an illegal instruction (DESIGN CHOICE). -/

namespace Sys2Proof.Machine

/-! ### Registers (R164) -/

/-- What an engine holds. -/
def coreOf (s : State) (e : Engine) : Core :=
  match e with
  | .host => s.cpu.core
  | .shuttle n => (shuttle s n.val).core
  | .seq k => tabGet (fun _ => {}) s.seq k.val

/-- What an engine holds replaced; AFE_SEQSTATk shows a sequencer's pc (R93). -/
def setCore (e : Engine) (c : Core) (s : State) : State :=
  match e with
  | .host => { s with cpu := { s.cpu with core := c } }
  | .shuttle n => setShuttle n.val { shuttle s n.val with core := c } s
  | .seq k => fset { s with seq := tabSet (fun _ => {}) s.seq k.val c } (AFE_SEQSTAT_PC k.val) (c.pc.toNat / 4)

def pcOf (s : State) (e : Engine) : Word := (coreOf s e).pc

/-- An event of R517 that the host counts by instructions. -/
def hostCount (evt : Nat) (s : State) : State :=
  { s with cpu := { s.cpu with cnt := tabSet (fun _ => 0) s.cpu.cnt evt (tabGet (fun _ => 0) s.cpu.cnt evt + 1) } }

/-- The host counts an instruction that retires, a shuttle one that it has issued (R517, R518). -/
def countIssue (e : Engine) (s : State) : State :=
  match e with
  | .host => hostCount 0x10 s
  | .shuttle n => setShuttle n.val (shuttle s n.val).issue s
  | .seq _ => s

/-- The next instruction of an engine is at an address. -/
def jump (e : Engine) (a : Word) (s : State) : State := countIssue e (setCore e ((coreOf s e).setPc a) s)

/-- The next instruction of an engine follows in memory. -/
def advance (e : Engine) (s : State) : State := jump e (pcOf s e + 4) s

def regOf (s : State) (e : Engine) (n : Fin 32) : Word := (coreOf s e).get n.val

/-- A general register written; a shuttle's with its tag (R164, R192). -/
def setReg (e : Engine) (n : Fin 32) (v : Word) (s : State) : State :=
  match e with
  | .shuttle k => setShuttle k.val ((shuttle s k.val).setReg n.val v) s
  | _ => setCore e ((coreOf s e).set n.val v) s

/-- Flags of an operation accumulate (R181). -/
def addFlags (e : Engine) (fl : Nat) (s : State) : State :=
  let c := coreOf s e
  setCore e { c with fflags := c.fflags ||| fl } s

/-! ### The host's control words, exceptions and protection (R168, R182 to R187) -/

def cwPut (n : Nat) (v : Word) (s : State) : State :=
  { s with cpu := { s.cpu with cw := tabSet cwReset s.cpu.cw n v } }

/-- cw.status at the entry of an exception or interrupt (R184). -/
def statusEnter (w : Word) : Word := wset (wset (wset (wset w 1 1 (wget w 0 0)) 0 0 0) 3 3 (wget w 2 2)) 2 2 1

/-- cw.status at eret (R176). -/
def statusReturn (w : Word) : Word := wset (wset w 2 2 (wget w 3 3)) 0 0 (wget w 1 1)

/-- The host takes an exception or an interrupt (R184). -/
def hostEnter (epc cause tval : Word) (s : State) : State :=
  let s := cwPut 0x103 tval (cwPut 0x102 cause (cwPut 0x101 epc s))
  let s := cwPut 0x100 (statusEnter (cwGet s 0x100)) s
  let s := { s with cpu := { s.cpu with wfi := false } }
  hostCount (if cause.getLsbD 31 then 0x11 else 0x12) (setCore .host ((coreOf s .host).setPc (cwGet s 0x104)) s)

/-- The host returns from an exception (R176). -/
def hostReturn (s : State) : State :=
  let s := cwPut 0x100 (statusReturn (cwGet s 0x100)) s
  jump .host (cwGet s 0x101 &&& 0xFFFFFFFC) s

/-- A precise exception of the instruction at the pc (R183, R184). -/
def hostRaise (code : Nat) (tval : Word) (s : State) : State := hostEnter (pcOf s .host) (BitVec.ofNat 32 code) tval s

/-- The lowest-numbered region of the protection unit that is enabled and contains an address (R187). -/
def mpuRegion (s : State) (a : Nat) : Option Nat :=
  (List.range 8).find? (fun n =>
    let b := cwGet s (0x120 + 2 * n)
    wget b 3 3 == 1 && decide (wget b 31 12 ≤ a / 4096) && decide (a / 4096 ≤ wget (cwGet s (0x121 + 2 * n)) 31 12))

/-- May the host access an address: bit 0 load, 1 store, 2 fetch (R187)? -/
def mpuAllows (s : State) (a kind : Nat) : Bool :=
  hostPriv s || (match mpuRegion s a with
    | some n => wget (cwGet s (0x120 + 2 * n)) kind kind == 1
    | none => false)

/-- The lowest-numbered enabled line that is high (R186). -/
def claimLine (s : State) : Option Nat :=
  (List.range 128).find? (fun j => wget (cwGet s (0x108 + j / 32)) (j % 32) (j % 32) == 1 && lineHigh s j)

/-! ### Executing (R161, R162, R165, R199, R201, R205) -/

/-- Does a fault wait on an evaluation of the shuttle (R200)? -/
def Shuttle.holdsFault (x : Shuttle) : Bool := x.evals.any (·.fault.isSome)

/-- Does an engine execute its instruction at the pc? Its island is awake, no debugger has halted it, and: the host does not wait in
wfi; the shuttle is RUNNING and holds no fault; the sequencer runs in the expert mode. -/
def executes (s : State) (e : Engine) : Bool :=
  let c := coreOf s e
  (!c.halted || c.step) && (match e with
    | .host => (power s 2 == .run || power s 2 == .idle) && !s.cpu.wfi
    | .shuttle n => quadUp s n.val && isRunning s n.val && !(shuttle s n.val).holdsFault
    | .seq k => afeUp s && flag s (AFE_SCANCTL_EN k.val) && flag s (AFE_SCANCTL_MODE k.val))

/-- The island of an engine (R161). -/
def Engine.island : Engine → Nat
  | .host => 2
  | .shuttle n => 4 + n.val / 4
  | .seq _ => 8

/-- A single step is used up, and the engine's island runs (R53, R374). -/
def useStep (e : Engine) (s : State) : State :=
  let s := stir e.island s
  let c := coreOf s e
  if c.step then setCore e { c with step := false } s else s

/-- A shuttle fault, with the picks that an isolation lets complete (R199, R236). -/
def shFault (n cause : Nat) (s : State) : State := completePicks (shuttleFault n cause s)

/-- A fault of each profile: the host's exception with its cw.tval, the shuttle's cause, the sequencer's (R183, R199, R205). -/
def engineFault (e : Engine) (code : Nat) (tval : Word) (cause seqCause : Nat) (s : State) : State :=
  match e with
  | .host => hostRaise code tval s
  | .shuttle n => shFault n.val cause s
  | .seq k => seqFault k.val seqCause ((pcOf s e).toNat / 4) s

/-- What forbids the fetch at the pc (R175, R183, R199, R205). -/
def fetchFault (e : Engine) (s : State) : Option (Nat × Nat × Nat) :=
  let a := (pcOf s e).toNat
  match e with
  | .host => if !mpuAllows s a 2 then some (8, 0, 0)
             else match region a with
               | .rom => none
               | .sram => none
               | _ => some (5, 0, 0)
  | .shuttle _ => if a < 0x10000 then none else some (0, 3, 0)
  | .seq _ => if a < 0x2000 then none else some (0, 0, 1)

/-- The word stored at the pc of an engine, where its bytes are known: those of the boot ROM and of the library's image are not. -/
def storedWord (e : Engine) (s : State) : Option Word :=
  let a := (pcOf s e).toNat
  match e with
  | .host => if region a = .sram then
      some (BitVec.ofNat 32 (wordOfBytes ((List.range 4).map (fun i => tabGet (sramFill s.cpu.boots) s.cpu.sram (a - 0x04000000 + i)))))
    else none
  | .shuttle n => if (shuttle s n.val).lib ∧ a < 4 * fget s LOOM_LIBID_SIZE then none
    else some (BitVec.ofNat 32 (wordOfBytes (bytesAt (shuttle s n.val).imem a 4)))
  | .seq k => some (rd s (0x20310000 + 0x4000 * k.val + a))

/-- Is the word stored at the pc, if it is known, no instruction of the engine (R162)? -/
def illegalStored (e : Engine) (s : State) : Option Word :=
  match storedWord e s with
  | some w => if (decodeFrambeth e w).isSome then none else some w
  | none => none

/-- What the ECC check of the fetch at the pc finds (R209). -/
def fetchBad (e : Engine) (s : State) : Ecc :=
  match e with
  | .shuttle n => shBad s n.val (.imem (pcOf s e).toNat)
  | _ => .clean

/-- A single-bit error of a fetch is corrected (R209). -/
def fetchMend (e : Engine) (s : State) : State :=
  match e, fetchBad e s with
  | .shuttle n, .corrected => shCorrected n.val (.imem (pcOf s e).toNat) s
  | _, _ => s

/-- An engine executes an instruction `w` that the profiles `av` have and whose operation is `f`, unless its fetch fails (R162, R209). -/
def runOn (e : Engine) (av : Avail) (w : Word) (f : State → State) (s : State) : State :=
  if executes s e then
    let s := useStep e s
    match fetchFault e s with
    | some (c, h, q) => engineFault e c (pcOf s e) h q s
    | none =>
      if fetchBad e s = .uncorrectable then engineFault e 0 0 9 0 s
      else
        let s := fetchMend e s
        match illegalStored e s with
        | some v => engineFault e 1 v 1 1 s
        | none => if av.has e then f s else engineFault e 1 w 1 1 s
  else s

end Sys2Proof.Machine
end

