-- ==== Sys2Proof/Machine/Can.lean ====
section
/-! DEFINITION. The CAN FD controllers (R343 to R362). -/

namespace Sys2Proof.Machine

def commsUp (s : State) : Bool := power s 11 == .run || power s 11 == .idle

def can (s : State) (k : Nat) : CanSt := tabGet (fun _ => {}) s.can k
def setCan (k : Nat) (x : CanSt) (s : State) : State := { s with can := tabSet (fun _ => {}) s.can k x }

/-- The codes of CAN_STATk.STATE (R362). -/
def canOff : Nat := 0
def canIntegrating : Nat := 1
def canActive : Nat := 2
def canPassive : Nat := 3
def canBusOff : Nat := 4
def canRecovering : Nat := 5

/-- CAN_STATk, CAN_ERRk and CAN_ALMSTATk follow the controller (R362). -/
def canSync (k : Nat) (s : State) : State :=
  let x := can s k
  let st := fget s (CAN_STAT_STATE k)
  let s := wr s (CAN_STAT k) (BitVec.ofNat 32 ((decide (x.tec ≥ 96 ∨ x.rxe ≥ 96)).toNat * 128 + x.rxing.toNat * 64
    + x.bus.isSome.toNat * 32 + st))
  let s := fset (fset s (CAN_ERR_TEC k) (min x.tec 255)) (CAN_ERR_REC k) (min x.rxe 255)
  wr s (CAN_ALMSTAT k) (BitVec.ofNat 32 ((x.flood.isSome || x.late.isSome).toNat * 2 ^ 31 + x.alarms.length))

def setCanState (k st : Nat) (s : State) : State := fset s (CAN_STAT_STATE k) st

/-- Does a controller take part in the bus (R356, R358)? -/
def canOnline (s : State) (k : Nat) : Bool :=
  commsUp s && (fget s (CAN_STAT_STATE k) == canActive || fget s (CAN_STAT_STATE k) == canPassive)

/-! ### Enabling, bit timing and error confinement (R344 to R346, R356 to R358) -/

/-- The nominal timing in force: BRP, TSEG1, TSEG2, SJW (R345, R346). -/
def canNominal (s : State) (k : Nat) : Option (Nat × Nat × Nat × Nat) :=
  match fget s (CAN_CTL_RATE k) with
  | 0 => some (fget s (CAN_NBT_BRP k), fget s (CAN_NBT_TSEG1 k), fget s (CAN_NBT_TSEG2 k), fget s (CAN_NBT_SJW k))
  | 1 => some (4, 127, 32, 32)
  | 2 => some (2, 127, 32, 32)
  | 3 => some (1, 127, 32, 32)
  | 4 => some (1, 63, 16, 16)
  | _ => none

/-- The data-phase timing in force: DBRP, DTSEG1, DTSEG2, DSJW (R345, R346). -/
def canData (s : State) (k : Nat) : Nat × Nat × Nat × Nat :=
  match fget s (CAN_CTL_DRATE k) with
  | 1 => (1, 31, 8, 8)
  | 2 => (1, 15, 4, 4)
  | 3 => (1, 11, 4, 4)
  | _ => (fget s (CAN_DBT_DBRP k), fget s (CAN_DBT_DTSEG1 k), fget s (CAN_DBT_DTSEG2 k), fget s (CAN_DBT_DSJW k))

/-- Is the timing in force valid (R345)? -/
def canTimingOk (s : State) (k : Nat) : Bool :=
  match canNominal s k with
  | none => false
  | some (b, t1, t2, j) =>
    let n := b * (1 + t1 + t2)
    let (db, d1, d2, dj) := canData s k
    let d := db * (1 + d1 + d2)
    decide (1 ≤ b ∧ b ≤ 32 ∧ 2 ≤ t1 ∧ t1 ≤ 256 ∧ 1 ≤ t2 ∧ t2 ≤ 128 ∧ 1 ≤ j ∧ j ≤ 128 ∧ j ≤ t1 ∧ j ≤ t2 ∧ 80 ≤ n)
      && (!flag s (CAN_CTL_FDEN k) ||
        decide (1 ≤ db ∧ db ≤ 32 ∧ 1 ≤ d1 ∧ d1 ≤ 32 ∧ 1 ≤ d2 ∧ d2 ≤ 16 ∧ 1 ≤ dj ∧ dj ≤ 16 ∧ dj ≤ d1 ∧ dj ≤ d2 ∧ 16 ≤ d ∧ d ≤ n))

/-- Clearing EN takes effect (R358, R359). -/
def canClose (k : Nat) (s : State) : State :=
  let x := can s k
  let st := fget s (CAN_STAT_STATE k)
  let x := if st = canBusOff ∨ st = canRecovering then { x with tec := 0, rxe := 0 } else x
  canSync k (setCanState k canOff (setCan k { x with bus := none, rxing := false, closing := false } s))

/-- A write to CAN_CTLk (R345, R356, R358). -/
def canCtlWrite (k : Nat) (v : Word) (s : State) : State :=
  let was := flag s (CAN_CTL_EN k)
  let on := wget v 0 0 == 1
  let s := codeWrite (CAN_CTL k) (wset (v &&& 0xFFFFFFBF) 0 0 was.toNat) s
  let s := onlyIf (wget v 6 6 == 1 && fget s (CAN_STAT_STATE k) == canBusOff) (setCanState k canRecovering) s
  let s :=
    if on && !was then
      if canTimingOk s k then
        let s := setF s (CAN_CTL_EN k)
        if (can s k).closing then setCan k { can s k with closing := false } s else setCanState k canIntegrating s
      else setF s (CAN_EVT_CFGERR k)
    else if was && !on then
      let s := clrF s (CAN_CTL_EN k)
      if (can s k).bus.isSome || (can s k).rxing then setCan k { can s k with closing := true } s else canClose k s
    else s
  canSync k s

/-- STATE follows the counters (R356). -/
def canConfine (k : Nat) (s : State) : State :=
  let x := can s k
  let st := fget s (CAN_STAT_STATE k)
  if st ≠ canActive ∧ st ≠ canPassive then s
  else if x.tec > 255 then
    let s := bump (setF (setCanState k canBusOff s) (CAN_EVT_BOFF k)) (CAN_ERRCNT_BOFFCNT k)
    onlyIf (flag s (CAN_CTL_AUTOBO k)) (setCanState k canRecovering) s
  else if x.tec ≥ 128 ∨ x.rxe ≥ 128 then
    if st = canPassive then s else setF (setCanState k canPassive s) (CAN_EVT_EPASS k)
  else setCanState k canActive s

/-- The counters take new values (R356). -/
def canCount (k tec rec : Nat) (s : State) : State :=
  let x := can s k
  let warn := decide ((x.tec < 96 ∧ 96 ≤ tec) ∨ (x.rxe < 96 ∧ 96 ≤ rec))
  canSync k (canConfine k (onlyIf warn (setF · (CAN_EVT_EWARN k)) (setCan k { x with tec := tec, rxe := rec } s)))

/-- A frame on the bus ends; a disable that waited for it takes effect (R358). -/
def canIdle (k : Nat) (s : State) : State :=
  let x := can s k
  let s := setCan k { x with bus := none, rxing := false } s
  canSync k (if x.closing then canClose k s else s)

/-! ### Transmission (R351 to R355) -/

/-- The number of data bytes of a DLC code. -/
def canLen (fdf : Bool) (dlc : Nat) : Nat :=
  if dlc ≤ 8 then dlc
  else if !fdf then 8
  else match dlc with
    | 9 => 12 | 10 => 16 | 11 => 20 | 12 => 24 | 13 => 32 | 14 => 48 | _ => 64

def canDataAddr (k j : Nat) : Nat := 0x20602040 + 0x4000 * k + 0x80 * j

/-- A byte of a mailbox's data words. -/
def mbByte (s : State) (k j i : Nat) : Byte := BitVec.ofNat 8 ((rd s (canDataAddr k j + 4 * (i / 4))).toNat / 256 ^ (i % 4))

/-- A byte stored into a mailbox's data words. -/
def setMbByte (k j i : Nat) (b : Byte) (s : State) : State :=
  let a := canDataAddr k j + 4 * (i / 4)
  wr s a (wset (rd s a) (8 * (i % 4) + 7) (8 * (i % 4)) b.toNat)

/-- The frame of a TX host mailbox (R351). -/
def hostFrame (s : State) (k j : Nat) : CanFrame :=
  let fdf := flag s (CAN_MBCFG_FDF k j)
  let rtr := flag s (CAN_MBCFG_RTR k j) && !fdf
  let dlc := fget s (CAN_MBCFG_DLC k j)
  let ide := flag s (CAN_MBCFG_IDE k j)
  let id := fget s (CAN_MBID_ID k j)
  { id := if ide then id else id % 2048, ide := ide, rtr := rtr, fdf := fdf, brs := fdf && flag s (CAN_MBCFG_BRS k j), dlc := dlc
    data := if rtr then [] else (List.range (canLen fdf dlc)).map (mbByte s k j) }

/-- A frame of a template with a priority, an identifier's four top bits under PRIOID, and data (R353). -/
def templateFrame (s : State) (k j prio dlc : Nat) (data : List Byte) : CanFrame :=
  let ide := flag s (CAN_MBCFG_IDE k j)
  let fdf := flag s (CAN_MBCFG_FDF k j)
  let id := fget s (CAN_MBID_ID k j)
  let id := if ide then id else id % 2048
  let low := if ide then 25 else 7
  let id := if flag s (CAN_MBCFG_PRIOID k j) then id % 2 ^ low + prio % 16 * 2 ^ low else id
  { id := id, ide := ide, rtr := false, fdf := fdf, brs := fdf && flag s (CAN_MBCFG_BRS k j), dlc := dlc, data := data }

/-- Does a template give the full format (R353)? -/
def fullFmt (s : State) (k j : Nat) : Bool := flag s (CAN_MBCFG_FMT k j) && flag s (CAN_MBCFG_FDF k j)

/-- The frame of an alarm entry (R353). -/
def alarmFrame (s : State) (k id : Nat) : CanFrame :=
  let e := tabGet (fun _ => {}) (can s k).alarms id
  let full := fullFmt s k e.mbox
  let head := bytesOf 2 id ++ bytesOf 2 e.st.toNat ++ bytesOf 2 e.rep ++ bytesOf 2 (can s k).txSeq
  templateFrame s k e.mbox (wget e.st 15 12) (if full then 12 else 8)
    (if full then head ++ bytesOf 8 e.first.toNat ++ bytesOf 8 e.last.toNat else head)

/-- The frame of the FLOOD place (R354). -/
def floodFrame (s : State) (k : Nat) (f : Flood) : CanFrame :=
  let j := fget s (CAN_ALMCTL_FLOODMB k)
  let full := fullFmt s k j
  let head := bytesOf 2 f.diag ++ bytesOf 2 f.hist ++ bytesOf 2 f.extr ++ bytesOf 2 f.state
  templateFrame s k j 0 (if full then 13 else 8)
    (if full then head ++ bytesOf 8 (stampWord f.first).toNat ++ bytesOf 8 (stampWord f.last).toNat ++ bytesOf 4 f.pick0.toNat
      ++ bytesOf 4 f.pick1.toNat else head)

/-- An identifier with its format as a number: the lower one wins arbitration (R355). -/
def arbKey (f : CanFrame) : Nat :=
  if f.ide then f.id / 2 ^ 18 % 2 ^ 11 * 2 ^ 19 + 2 ^ 18 + f.id % 2 ^ 18 else f.id % 2 ^ 11 * 2 ^ 19

/-- A pair placed in a list that rises by its first component. -/
def placeBySeq (p : Nat × Nat) : List (Nat × Nat) → List (Nat × Nat)
  | [] => [p]
  | q :: l => if p.1 ≤ q.1 then p :: q :: l else q :: placeBySeq p l

/-- A controller's pending frames in the order that decides between equal identifiers; an FD frame is sent only while FDEN is set (R343, R355). -/
def canPending (s : State) (k : Nat) : List (CanWho × CanFrame) :=
  let x := can s k
  let fl := match x.flood with
    | some f => [(CanWho.flood, floodFrame s k f)]
    | none => []
  let al := x.alarms.foldr (fun e l => placeBySeq (e.2.seq, e.1) l) []
  let hosts := (List.range 64).filter (fun j => fget s (CAN_MBCFG_ROLE k j) == 2 && flag s (CAN_MBSTAT_REQ k j))
  (fl ++ al.map (fun p => (CanWho.alarm p.2, alarmFrame s k p.2)) ++ hosts.map (fun j => (CanWho.host j, hostFrame s k j))).filter
    (fun p => !p.2.fdf || flag s (CAN_CTL_FDEN k))

/-- The frame that wins arbitration; the first of those that share it (R355). -/
def canWinner (l : List (CanWho × CanFrame)) : Option (CanWho × CanFrame) :=
  l.foldl (fun m p => match m with
    | some q => if arbKey p.2 < arbKey q.2 then some p else m
    | none => some p) none

/-- A frame as it starts on the bus: an FD frame's ESI tells that its sender is error passive (R343). -/
def withEsi (s : State) (k : Nat) (f : CanFrame) : CanFrame := { f with esi := f.fdf && fget s (CAN_STAT_STATE k) == canPassive }

/-- A frame starts: the controller sends the frame it chooses, or, where another node starts one, receives (R343, R355, R362). -/
def canSelect (k : Nat) (sof : Bool) (s : State) : State :=
  let x := can s k
  let mode := fget s (CAN_CTL_MODE k)
  if canOnline s k ∧ x.bus.isNone ∧ x.rxing = false ∧ flag s (CAN_CTL_EN k) then
    match if mode = 0 ∨ mode = 3 then canWinner (canPending s k) else none with
    | some (w, f) => canSync k (setCan k { x with bus := some { who := w, frame := withEsi s k f } } (stir 11 s))
    | none => if sof ∧ mode ≠ 3 then canSync k (setCan k { x with rxing := true } (stir 11 s)) else s
  else s

/-- The FLOOD place with what came to it while its frame was on the bus (R354). -/
def mergeLate (a b : Option Flood) : Option Flood :=
  match a, b with
  | some a, some b => some (mergeFlood a b)
  | some a, none => some a
  | none, b => b

/-- A host frame ends without being sent (R351). -/
def canAborted (k j : Nat) (s : State) : State :=
  setF (setF (clrF s (CAN_MBSTAT_REQ k j)) (CAN_MBSTAT_ABTD k j)) (CAN_EVT_TXABTD k)

/-- A frame on the bus fails, by error or by a lost arbitration: what becomes of it (R351, R354, R355). -/
def canDrop (k : Nat) (t : CanTx) (s : State) : State :=
  match t.who with
  | .host j => if t.abort ∨ flag s (CAN_MBCFG_ONESHOT k j) then canAborted k j s else s
  | .alarm id =>
    let x := can s k
    let e := tabGet (fun _ => {}) x.alarms id
    setCan k { x with alarms := tabSet (fun _ => {}) x.alarms id { e with fresh := false } } s
  | .flood =>
    let x := can s k
    setCan k { x with flood := mergeLate x.flood x.late, late := none } s

/-- An error ends the frame on the bus (R351, R355, R358). -/
def canFailed (k : Nat) (s : State) : State :=
  match (can s k).bus with
  | some t => canIdle k (canDrop k t s)
  | none => s

/-- The controller loses arbitration: it receives the frame that won (R355, R358). -/
def canYield (k : Nat) (s : State) : State :=
  match (can s k).bus with
  | some t =>
    let s := canDrop k t s
    canSync k (setCan k { can s k with bus := none, rxing := true } s)
  | none => s

/-! ### Reception (R349, R350) -/

/-- Does an RX mailbox accept a frame (R349)? -/
def canMatches (s : State) (k : Nat) (f : CanFrame) (j : Nat) : Bool :=
  fget s (CAN_MBCFG_ROLE k j) == 1
    && ((f.id ^^^ fget s (CAN_MBID_ID k j)) &&& fget s (CAN_MBMASK_MASK k j)) == 0
    && (flag s (CAN_MBCFG_IDEANY k j) || f.ide == flag s (CAN_MBCFG_IDE k j))
    && (match fget s (CAN_MBCFG_FDSEL k j) with
      | 0 => true | 1 => !f.fdf | 2 => f.fdf | _ => false)

/-- The packet of an accepted frame (R350). -/
def canPacket (k j seq q : Nat) (ovr : Bool) (f : CanFrame) : FrontPacket :=
  let fl := f.ide.toNat + f.rtr.toNat * 2 + f.fdf.toNat * 4 + f.brs.toNat * 8 + f.esi.toNat * 16 + ovr.toNat * 32 + k * 64
  { queue := q
    bytes := bytesOf 8 (fl + f.dlc % 16 * 2 ^ 8 + (16 + f.data.length) * 2 ^ 16 + f.id * 2 ^ 32) ++ bytesOf 8 (j + seq % 65536 * 2 ^ 16) ++ f.data }

/-- A valid frame is offered to the mailboxes (R349, R350). -/
def canAccept (k : Nat) (f : CanFrame) (s : State) : State :=
  match (List.range 64).find? (canMatches s k f) with
  | none => bump s (CAN_CNT_NOMATCH k)
  | some j =>
    let x := can s k
    let seq := x.rxSeq
    let x := { x with rxSeq := (seq + 1) % 65536 }
    if flag s (CAN_MBCFG_QEN k j) then
      if x.held.length ≥ 4 then
        setF (bump (setCan k { x with lost := tabSet (fun _ => false) x.lost j true } s) (CAN_CNT_RXLOST k)) (CAN_EVT_RXLOST k)
      else
        let p := canPacket k j seq (fget s (CAN_MBCFG_QUEUE k j)) (tabGet (fun _ => false) x.lost j) f
        setF (setCan k { x with held := x.held ++ [p], lost := tabSet (fun _ => false) x.lost j false } s) (CAN_EVT_RXQ k)
    else
      let s := setCan k x s
      let s := onlyIf (flag s (CAN_MBSTAT_NEW k j)) (setF · (CAN_MBSTAT_OVR k j)) s
      let s := setF (fset s (CAN_MBSTAT_RXCNT k j) (fget s (CAN_MBSTAT_RXCNT k j) + 1)) (CAN_MBSTAT_NEW k j)
      let s := fset (fset s (CAN_MBSTAT_RXDLC k j) f.dlc) (CAN_MBSTAT_RXFLG k j)
        (f.ide.toNat + f.fdf.toNat * 2 + f.brs.toNat * 4 + f.esi.toNat * 8 + f.rtr.toNat * 16)
      let s := wr s (CAN_MBRX k j) (BitVec.ofNat 32 f.id)
      setF (forL f.data.zipIdx (fun p => setMbByte k j p.2 p.1) s) (CAN_EVT_RXMB k)

/-- An error is recorded (R357). -/
def canError (k code : Nat) (data : Bool) (s : State) : State :=
  setF (if data then fset s (CAN_ERR_DLEC k) code else fset s (CAN_ERR_LEC k) code) (CAN_EVT_BUSERR k)

/-- REC after a good reception (R356). -/
def recGood (r : Nat) : Nat := if r > 127 then 119 + Config.canRec r % 9 else r - 1

/-- A frame is received from the bus; an FD frame meets a form error while FDEN is clear (R343, R349, R356). A disable that waited for its end
takes effect (R358). -/
def canReceive (k : Nat) (f : CanFrame) (s : State) : State :=
  if canOnline s k ∧ fget s (CAN_CTL_MODE k) ≠ 3 ∧ (can s k).bus.isNone then
    let s := stir 11 s
    if f.fdf ∧ flag s (CAN_CTL_FDEN k) = false then canIdle k (canCount k (can s k).tec ((can s k).rxe + 1) (canError k 2 false s))
    else
      let s := canAccept k f s
      canIdle k (canCount k (can s k).tec (recGood (can s k).rxe) s)
  else s

/-- The transmitter delay is measured in an FD frame with a switched bit rate (R343, R362). -/
def canMeasure (k : Nat) (f : CanFrame) (delay : Nat) (s : State) : State :=
  if f.fdf ∧ f.brs ∧ flag s (CAN_TDC_TDCEN k) then fset s (CAN_TDC_TDCV k) delay else s

/-- A frame ends without error, its transmitter delay measured (R351, R352, R354, R356). -/
def canSent (k delay : Nat) (s : State) : State :=
  match (can s k).bus with
  | none => s
  | some t =>
    let s := canMeasure k t.frame delay s
    let x := can s k
    let s := match t.who with
      | .host j => setF (setF (clrF s (CAN_MBSTAT_REQ k j)) (CAN_MBSTAT_DONE k j)) (CAN_EVT_TXDONE k)
      | .alarm id =>
        let e := tabGet (fun _ => {}) x.alarms id
        setCan k { x with alarms := tabSet (fun _ => {}) x.alarms id (if e.fresh then { e with fresh := false } else {})
                          txSeq := (x.txSeq + 1) % 65536 } s
      | .flood => setF (setCan k { x with flood := x.late, late := none, txSeq := (x.txSeq + 1) % 65536 } s) (CAN_EVT_FLOODTX k)
    let s := if fget s (CAN_CTL_MODE k) = 3 then canAccept k t.frame s else s
    canIdle k (canCount k (x.tec - 1) (can s k).rxe s)

/-! ### Alarm items (R352, R354) -/

/-- An alarm item with its sequence number reaches a controller (R352). -/
def canItem (k id mbox : Nat) (st : Word) (first last : BitVec 64) (rep seq : Nat) (s : State) : State :=
  if fget s (CAN_MBCFG_ROLE k mbox) ≠ 3 then setF (bump s (CAN_ALMCNT_FANLOST k)) (CAN_EVT_FANLOST k)
  else
    let x := can s k
    let e := tabGet (fun _ => {}) x.alarms id
    let onBus := x.bus.map (·.who) == some (.alarm id)
    let new : CanAlarm := { st := st, rep := rep, first := first, last := last, mbox := mbox, seq := seq, fresh := onBus }
    let put := fun (e : CanAlarm) => setCan k { x with alarms := tabSet (fun _ => {}) x.alarms id e }
    canSync k (
      if e.rep = 0 ∨ (onBus ∧ !e.fresh) then put new s
      else put { e with st := st, last := last, mbox := mbox, rep := min (e.rep + rep) 0xFFFF } (bump s (CAN_ALMCNT_MERGED k)))

/-- A FLOOD entry reaches a controller (R354); the frame on the bus completes with the content it started with. -/
def canFlood (f : Flood) (k : Nat) (s : State) : State :=
  if flag s (CAN_ALMCTL_FLOODEN k) then
    let x := can s k
    if x.bus.map (·.who) = some .flood then canSync k (setCan k { x with late := mergeLate x.late (some f) } s)
    else canSync k (setCan k { x with flood := mergeLate x.flood (some f) } s)
  else s

/-- A write to CAN_ALMCTLk; FLUSH (R358). -/
def canAlmWrite (k : Nat) (v : Word) (s : State) : State :=
  let s := codeWrite (CAN_ALMCTL k) (v &&& 0xBFFFFFFF) s
  if wget v 30 30 = 1 then
    let x := can s k
    let keep := match x.bus with
      | some t => (match t.who with
        | .alarm id => some id
        | _ => none)
      | none => none
    canSync k (setCan k { x with alarms := x.alarms.filter (fun e => some e.1 == keep), flood := none, late := none } s)
  else s

/-! ### Mailbox registers (R348, R351, R358) -/

/-- A TX host mailbox whose frame is pending keeps its words (R348). -/
def mbBusy (s : State) (k j : Nat) : Bool := fget s (CAN_MBCFG_ROLE k j) == 2 && flag s (CAN_MBSTAT_REQ k j)

def mbcfgWrite (k j : Nat) (v : Word) (s : State) : State :=
  if flag s (CAN_CTL_EN k) ∨ mbBusy s k j then s else codeWrite (CAN_MBCFG k j) v s

def mbidWrite (k j : Nat) (v : Word) (s : State) : State := if mbBusy s k j then s else codeWrite (CAN_MBID k j) v s

/-- A write to a data word, read-only for RX (R348, R362). -/
def mbdataWrite (k j i : Nat) (v : Word) (s : State) : State :=
  if mbBusy s k j ∨ fget s (CAN_MBCFG_ROLE k j) = 1 then s else wr s (canDataAddr k j + 4 * i) v

/-- Timing registers can be written only while EN is clear (R358). -/
def canTimeWrite (k a : Nat) (v : Word) (s : State) : State := if flag s (CAN_CTL_EN k) then s else codeWrite a v s

/-- A write to CAN_MBSTATk_j (R351, R359). -/
def mbstatWrite (k j : Nat) (v : Word) (s : State) : State :=
  let s := codeWrite (CAN_MBSTAT k j) (v &&& 0x3FFFFFFF &&& 0xBFFFFFFF) s
  if fget s (CAN_MBCFG_ROLE k j) ≠ 2 then s
  else
    let req := wget v 31 31 == 1
    if wget v 30 30 = 1 then
      if (can s k).bus.map (·.who) = some (.host j) then
        setCan k { can s k with bus := (can s k).bus.map (fun t => { t with abort := true }) } s
      else if req ∨ flag s (CAN_MBSTAT_REQ k j) then canAborted k j s else s
    else onlyIf req (setF · (CAN_MBSTAT_REQ k j)) s

/-! ### The commands -/

/-- An event of COMMS. -/
def inComms (f : State → State) (s : State) : Host.Outcome State Fault Refusal := .next (if commsUp s then f (stir 11 s) else s)

def execCanEnable (i : Initiator) (k : Fin 3) (s : State) : Host.Outcome State Fault Refusal :=
  .next (access i (CAN_CTL k.val) (fun s => canCtlWrite k.val (rd s (CAN_CTL k.val) ||| 1) s) s)

def execCanDisable (i : Initiator) (k : Fin 3) (s : State) : Host.Outcome State Fault Refusal :=
  .next (access i (CAN_CTL k.val) (fun s => canCtlWrite k.val (rd s (CAN_CTL k.val) &&& 0xFFFFFFFE) s) s)

def execCanIntegrationComplete (k : Fin 3) (s : State) : Host.Outcome State Fault Refusal :=
  inComms (fun s => if fget s (CAN_STAT_STATE k.val) = canIntegrating then
    canSync k.val (canConfine k.val (setCanState k.val canActive s)) else s) s

def execCanRecover (i : Initiator) (k : Fin 3) (s : State) : Host.Outcome State Fault Refusal :=
  .next (access i (CAN_CTL k.val) (fun s => canCtlWrite k.val (rd s (CAN_CTL k.val) ||| 0x40) s) s)

def execCanRecoveryComplete (k : Fin 3) (s : State) : Host.Outcome State Fault Refusal :=
  inComms (fun s => if fget s (CAN_STAT_STATE k.val) = canRecovering then
    canSync k.val (setF (setCanState k.val canActive (setCan k.val { can s k.val with tec := 0, rxe := 0 } s)) (CAN_EVT_RECOVERED k.val))
  else s) s

/-- A frame ends on the bus, valid under the standard; its data bytes are the lowest bytes of `data` (R349). -/
def execCanFrameReceived (k : Fin 3) (id : BitVec 29) (ide rtr fdf brs esi : Bool) (dlc : BitVec 4) (data : BitVec 512) (s : State) :
    Host.Outcome State Fault Refusal :=
  let rtr := rtr && !fdf
  let n := if rtr then 0 else canLen fdf dlc.toNat
  .next (canReceive k.val { id := if ide then id.toNat else id.toNat % 2048, ide := ide, rtr := rtr, fdf := fdf, brs := fdf && brs
                            esi := fdf && esi, dlc := dlc.toNat, data := bytesOf n data.toNat } s)

/-- A received frame is due for its queue, behind the packet on its way; it keeps its place until its last write is taken (R350, R306). -/
def execCanRxPacketSend (k : Fin 3) (s : State) : Host.Outcome State Fault Refusal :=
  inComms (fun s => if s.comms.isEmpty && !(can s k.val).held.isEmpty then { s with comms := [k.val] } else s) s

/-- Before a start of frame the controller chooses, and another node may start a frame (R355). -/
def execCanFrameSelection (c : CanStart) (s : State) : Host.Outcome State Fault Refusal := .next (canSelect c.k.val c.sof s)

/-- A frame was transmitted (R351, R362). -/
def execCanFrameTransmitted (c : CanDone) (s : State) : Host.Outcome State Fault Refusal := inComms (canSent c.k.val c.delay.toNat) s

def execCanArbitrationLost (k : Fin 3) (s : State) : Host.Outcome State Fault Refusal := inComms (canYield k.val) s

/-- An error is detected (R357): its code, 0 for a recessive res bit of an FD frame (R343), its phase, and whether the standard counts it
as its exceptions say: by 8 for a receiver, not at all for a transmitter. -/
def execCanBusError (k : Fin 3) (code : Fin 7) (data exc : Bool) (s : State) : Host.Outcome State Fault Refusal :=
  let k := k.val
  .next (if canOnline s k then
    let s := stir 11 s
    let x := can s k
    if code.val = 0 ∧ flag s (CAN_CTL_PXE k) then
      let s := setF (bump (if x.bus.isSome then canFailed k s else canIdle k s) (CAN_ERRCNT_PXCNT k)) (CAN_EVT_PX k)
      if x.closing then s else canSync k (setCanState k canIntegrating s)
    else
      let s := canError k (if code.val = 0 then 2 else code.val) data s
      if x.bus.isSome then canFailed k (canCount k (if exc then x.tec else x.tec + 8) x.rxe s)
      else canIdle k (canCount k x.tec (x.rxe + (if exc then 8 else 1)) s)
  else s)

def execCanTxRequest (i : Initiator) (k : Fin 3) (j : Fin 64) (s : State) : Host.Outcome State Fault Refusal :=
  .next (access i (CAN_MBSTAT k.val j.val) (mbstatWrite k.val j.val 0x80000000) s)

def execCanTxAbort (i : Initiator) (k : Fin 3) (j : Fin 64) (s : State) : Host.Outcome State Fault Refusal :=
  .next (access i (CAN_MBSTAT k.val j.val) (mbstatWrite k.val j.val 0x40000000) s)

/-- The item that is next on path 1, if `f` takes it (R292). -/
def fromPath1 (f : EgEnt → Option (State → State)) (s : State) : Host.Outcome State Fault Refusal :=
  inComms (fun s => match egTake 1 s with
    | (some x, s') => (match f x with
      | some g => g s'
      | none => s)
    | (none, _) => s) s

def execCanAlarmItem (s : State) : Host.Outcome State Fault Refusal :=
  fromPath1 (fun x => match x.item with
    | .state id st first last n fan => some (canItem (wget fan 29 28) id (wget fan 21 16) st first last n x.seq)
    | _ => none) s

def execCanFloodItem (s : State) : Host.Outcome State Fault Refusal :=
  fromPath1 (fun x => match x.item with
    | .flood f => some (forN 3 (canFlood f))
    | _ => none) s

def execCanAlarmFlush (i : Initiator) (k : Fin 3) (s : State) : Host.Outcome State Fault Refusal :=
  .next (access i (CAN_ALMCTL k.val) (fun s => canAlmWrite k.val (rd s (CAN_ALMCTL k.val) ||| 0x40000000) s) s)

end Sys2Proof.Machine
end

