-- ==== Sys2Proof/Machine/Links.lean ====
section
/-! DEFINITION. The Ethernet ports, the SPI target and the UART (R363 to R372, R378 to R380). -/

namespace Sys2Proof.Machine

/-! ### The memory of the ETH window -/

def linkByte (s : State) (o : Nat) : Byte := byteAt s.links.mem o

def setLinkMem (m : Tab Byte) (s : State) : State := { s with links := { s.links with mem := m } }

/-- Offsets of a receive buffer, of a transmit slot and of the SPI mailbox (R380). -/
def rxBuf (p : Nat) : Nat := 0x10000 + 0x8000 * p
def txSlot (p k : Nat) : Nat := 0x20000 + 0x4000 * p + 0x800 * k
def spiBox : Nat := 0x30000

/-- Does an offset of the ETH window lie in one of its memories? -/
def inLinkMem (o : Nat) : Bool :=
  (0x10000 ≤ o && o < 0x14000) || (0x18000 ≤ o && o < 0x1C000) || (0x20000 ≤ o && o < 0x22000) || (0x24000 ≤ o && o < 0x26000)
    || (0x30000 ≤ o && o < 0x31000)

def ethPort (s : State) (p : Nat) : EthPort := tabGet (fun _ => {}) s.links.ports p
def setPort (p : Nat) (x : EthPort) (s : State) : State :=
  { s with links := { s.links with ports := tabSet (fun _ => {}) s.links.ports p x } }

/-! ### Reception (R363 to R365, R367) -/

/-- One bit of the CRC-32 of IEEE 802.3. -/
def crcBit (c : Nat) : Nat := if c % 2 = 1 then (c / 2) ^^^ 0xEDB88320 else c / 2

def crcByte (c : Nat) (b : Byte) : Nat := (List.range 8).foldl (fun c _ => crcBit c) (c ^^^ b.toNat)

/-- The CRC-32 of a list of bytes. -/
def crc32 (l : List Byte) : Nat := l.foldl crcByte 0xFFFFFFFF ^^^ 0xFFFFFFFF

/-- Bytes 0 to 5 of an address whose words are `lo` and `hi` (R380). -/
def macBytes (lo hi : Word) : List Byte := bytesOf 4 lo.toNat ++ bytesOf 2 hi.toNat

def isBroadcast (d : List Byte) : Bool := d.all (· == 0xFF)

def isMulticast (d : List Byte) : Bool := (d.headD 0).toNat % 2 == 1 && !isBroadcast d

/-- The exact entry that a multicast matches (R364). -/
def exactEntry (s : State) (p : Nat) (d : List Byte) : Option Nat :=
  if isMulticast d then
    (List.range 8).find? (fun e => flag s (ETH_MCHI_VALID p e) && macBytes (rd s (ETH_MCLO p e)) (rd s (ETH_MCHI p e)) == d)
  else none

/-- The hash bit of a destination (R364). -/
def hashBit (s : State) (p : Nat) (d : List Byte) : Bool :=
  let h := crc32 d / 2 ^ 26 % 64
  if h < 32 then (rd s (ETH_HASHLO p)).toNat.testBit h else (rd s (ETH_HASHHI p)).toNat.testBit (h - 32)

/-- Is a valid frame accepted (R364)? -/
def ethAccepts (s : State) (p : Nat) (d : List Byte) : Bool :=
  flag s (ETH_CTL_PROMISC p) || d == macBytes (rd s (ETH_MACLO p)) (rd s (ETH_MACHI p))
    || (isBroadcast d && flag s (ETH_CTL_BCAST p))
    || (isMulticast d && ((exactEntry s p d).isSome || (flag s (ETH_CTL_MCHASH p) && hashBit s p d)))

/-- Two bytes of a frame, high first. -/
def be16 (f : List Byte) (i : Nat) : Nat := (f.getD i 0).toNat * 256 + (f.getD (i + 1) 0).toNat

/-- A PAUSE frame (R363). -/
def isPause (f : List Byte) : Bool := be16 f 12 == 0x8808 && be16 f 14 == 1

/-- The sequenceId of a PTP Sync message that a frame carries (R367). -/
def ptpSync (f : List Byte) : Option Nat :=
  let at_ := if be16 f 12 = 0x88F7 then some 14
    else if be16 f 12 = 0x0800 ∧ f.getD 14 0 = 0x45 ∧ f.getD 23 0 = 17 ∧ be16 f 36 = 319 then some 42
    else none
  match at_ with
  | some o => if (f.getD o 0).toNat % 16 = 0 then some (be16 f (o + 30)) else none
  | none => none

/-- A capture is queued or lost (R367); the second part says whether it was taken. -/
def ptpCapture (p : Nat) (f : List Byte) (t : Stamp) (s : State) : State × Bool :=
  match ptpSync f with
  | some q =>
    if flag s (ETH_CTL_PTPEN p) then
      let x := ethPort s p
      if x.caps.length ≥ 4 then (setF s (ETH_EVT_PTPOVF p), false)
      else (setF (setPort p { x with caps := x.caps ++ [⟨q, t⟩] } s) (ETH_EVT_PTPCAP p), true)
    else (s, false)
  | none => (s, false)

/-- A record is stored in the receive buffer, or the frame is dropped (R365). -/
def ethStore (p : Nat) (w : Nat) (f : List Byte) (s : State) : State :=
  let head := fget s (ETH_RXHEAD_HEAD p)
  let free := (fget s (ETH_RXTAIL_TAIL p) + 16384 - head - 4) % 16384
  let size := (4 + f.length + 3) / 4 * 4
  let wrap := decide (head + size > 16384)
  if (if wrap then 16384 - head else 0) + size ≤ free then
    let m := s.links.mem
    let m := if wrap then putBytes m (rxBuf p + head) (bytesOf 4 0xFFFFFFFF) else m
    let a := if wrap then 0 else head
    let m := putBytes m (rxBuf p + a) (bytesOf 4 w ++ f ++ List.replicate (size - 4 - f.length) 0)
    setF (fset (setLinkMem m s) (ETH_RXHEAD_HEAD p) ((a + size) % 16384)) (ETH_EVT_RXFRM p)
  else setF (bump s (ETH_CNT_RXDROP p)) (ETH_EVT_RXOVF p)

/-- Did a frame whose start-of-frame delimiter lay `back` tick edges ago begin while the port was enabled with its link up (R363, R379)? -/
def ethListens (s : State) (p back : Nat) : Bool :=
  (flag s (ETH_CTL_EN p) && flag s (ETH_STAT_LINK p)) || (match (ethPort s p).offAt with
    | some e => decide (edges s 11 - back ≤ e)
    | none => false)

/-- A frame without its FCS is received (R363 to R367); no other frame was in reception when EN was cleared (R379). -/
def ethReceive (p : Nat) (f : List Byte) (bad : Bool) (back : Nat) (t : Stamp) (s : State) : State :=
  let go := ethListens s p back
  let s := setPort p { ethPort s p with offAt := none } s
  if go = false then s
  else if bad ∨ f.length < 60 ∨ f.length > 1518 then bump s (ETH_CNT_RXBAD p)
  else
    let d := f.take 6
    if isPause f ∨ !ethAccepts s p d then bump s (ETH_FCNT_FILTERED p)
    else
      let e := exactEntry s p d
      let r := ptpCapture p f t s
      let w := f.length + (isMulticast d).toNat * 2 ^ 16 + (isBroadcast d).toNat * 2 ^ 17 + e.getD 0 * 2 ^ 18 + e.isSome.toNat * 2 ^ 21
        + r.2.toNat * 2 ^ 22
      ethStore p w f r.1

/-- A write to ETH_RXTAILp (R365). -/
def rxtailWrite (p : Nat) (v : Word) (s : State) : State :=
  if wget v 1 0 ≠ 0 then s else codeWrite (ETH_RXTAIL p) v s

/-- A read of ETH_PTPSEQp (R367). -/
def ptpRead (p : Nat) (s : State) : Word × State :=
  let x := ethPort s p
  match x.caps with
  | c :: l =>
    let t := c.stamp.tick.toNat
    let s := wr (setPort p { x with caps := l } s) (ETH_PTPTLO p) (BitVec.ofNat 32 t)
    (BitVec.ofNat 32 (2 ^ 31 + c.seq % 65536), wr s (ETH_PTPTHI p) (BitVec.ofNat 32 (c.stamp.sub.toNat * 65536 + t / 2 ^ 32)))
  | [] => (0, s)

/-! ### Transmission and the link (R366, R378, R379) -/

/-- A write to ETH_TXCMDp (R366). -/
def txcmdWrite (p : Nat) (v : Word) (s : State) : State :=
  let k := wget v 17 16
  let n := wget v 10 0
  let x := ethPort s p
  if n > 1518 ∨ x.cmds.any (fun c => c.1 == k) then s
  else if n = 0 then setBit s (ETH_TXSTAT_DONE p) k
  else setBit (setPort p { x with cmds := x.cmds ++ [(k, n)] } s) (ETH_STAT_TXREQ p) k

/-- The frame in transmission ends, its FCS appended by the MAC (R363), without error or not; a frame can fail in half duplex only (R366, R379). -/
def ethSent (p : Nat) (ok : Bool) (s : State) : State :=
  let x := ethPort s p
  match x.cmds with
  | (k, n) :: l =>
    if (x.finish ∨ (flag s (ETH_CTL_EN p) ∧ flag s (ETH_STAT_LINK p))) ∧ (ok ∨ flag s (ETH_STAT_DUPLEX p) = false) then
      let f := bytesAt s.links.mem (txSlot p k) n ++ List.replicate (60 - n) 0
      let s := setPort p { x with cmds := l, finish := false, wire := if ok then f ++ bytesOf 4 (crc32 f) else x.wire } s
      let s := clrBit s (ETH_STAT_TXREQ p) k
      if ok then setF (setBit s (ETH_TXSTAT_DONE p) k) (ETH_EVT_TXDONE p)
      else setF (bump (setBit s (ETH_TXSTAT_ERR p) k) (ETH_FCNT_TXERRCNT p)) (ETH_EVT_TXERR p)
    else s
  | [] => s

/-- The link of a port goes down (R363). -/
def ethLinkDown (p : Nat) (s : State) : State :=
  if flag s (ETH_STAT_LINK p) then setF (clrF (clrF s (ETH_STAT_LINK p)) (ETH_STAT_DUPLEX p)) (ETH_EVT_LINKDN p) else s

/-- The tick edges of 1.5 s (R378). -/
def ethUpTicks : Nat := 49152

/-- The link of a port comes up, with ANEN set no earlier than 1.5 s after EN was; `fdx` is what was negotiated (R363, R378). -/
def ethLinkUp (p : Nat) (fdx : Bool) (s : State) : State :=
  if flag s (ETH_CTL_EN p) ∧ flag s (ETH_STAT_LINK p) = false
      ∧ (flag s (ETH_CTL_ANEN p) → edges s 11 ≥ (ethPort s p).enAt + ethUpTicks) then
    setF (putF (setF s (ETH_STAT_LINK p)) (ETH_STAT_DUPLEX p) (if flag s (ETH_CTL_ANEN p) then fdx else flag s (ETH_CTL_FDX p)))
      (ETH_EVT_LINKUP p)
  else s

/-- A write to ETH_CTLp; a port disabled completes the frames in progress (R378, R379). -/
def ethCtlWrite (p : Nat) (v : Word) (s : State) : State :=
  let was := flag s (ETH_CTL_EN p)
  let s := codeWrite (ETH_CTL p) v s
  if was ∧ flag s (ETH_CTL_EN p) = false then
    let x := ethPort s p
    let up := flag s (ETH_STAT_LINK p)
    ethLinkDown p (setPort p { x with finish := up && !x.cmds.isEmpty, offAt := if up then some (edges s 11) else none } s)
  else if was = false ∧ flag s (ETH_CTL_EN p) then setPort p { ethPort s p with enAt := edges s 11, offAt := none } s
  else s

/-! ### SPI target (R370, R371) -/

/-- The status byte. -/
def spiStatusByte (s : State) : Byte :=
  BitVec.ofNat 8 (fget s SPI_CTL_SB + (flag s SPI_CTL_ALERT).toNat * 32 + (flag s SPI_CTL_EN).toNat * 64)

/-- The open transaction meets an error, counted once. -/
def spiError (s : State) : State :=
  if s.links.spiErr then s
  else setF (bump { s with links := { s.links with spiErr := true } } SPI_CNT_SERRCNT) SPI_EVT_SERR

def setMiso (l : List Byte) (s : State) : State := { s with links := { s.links with miso := l } }

/-- `n` bytes of zeros are returned: the target is disabled, or its transaction is in error (R370, R378). -/
def spiZeros (n : Nat) (s : State) : State := setMiso (List.replicate n 0) s

/-- A transaction begins with its address where none is open, and an open one of the kind goes on, by `n` bytes; a disabled target and a
transaction in error return zeros (R370, R378). -/
def spiRun (k : SpiKind) (a n : Nat) (f : State → State) (s : State) : State :=
  if s.links.spi.isSome ∧ s.links.spi ≠ some k then s
  else if flag s SPI_CTL_EN = false then spiZeros n s
  else
    let s := if s.links.spi.isSome then s
      else onlyIf (decide (a ≥ 4096 ∨ k = .other)) spiError
        { s with links := { s.links with spi := some k, spiErr := false, spiPos := a, snap := [], miso := [] } }
    if s.links.spiErr then spiZeros n s else f s

/-- A byte is shifted out of the mailbox: an aligned word is one snapshot, taken when the first of its bytes is (R371). -/
def spiShift (s : State) : Byte × State :=
  let a := s.links.spiPos % 4096
  let w := if a % 4 = 0 ∨ s.links.snap.isEmpty then bytesAt s.links.mem (spiBox + a / 4 * 4) 4 else s.links.snap
  (w.getD (a % 4) 0, { s with links := { s.links with spiPos := a + 1, snap := w } })

/-- `n` bytes are shifted out of the mailbox (R370, R371). -/
def spiShifts : Nat → State → List Byte × State
  | 0, s => ([], s)
  | n + 1, s =>
    let p := spiShift s
    let q := spiShifts n p.2
    (p.1 :: q.1, q.2)

/-- Write bytes from the transaction's address on: those below 0x800 are discarded and counted (R370, R371). -/
def spiPut : List Byte → State → State
  | [], s => s
  | b :: l, s =>
    let a := s.links.spiPos % 4096
    let s := { s with links := { s.links with spiPos := a + 1 } }
    spiPut l (if a < 0x800 then spiError s else setLinkMem (tabSet (fun _ => 0) s.links.mem (spiBox + a) b) s)

/-- The level of SPI_ALERTn: driven low while ALERT is set (R370). -/
def spiAlertn (s : State) : Bool := !(commsUp s && flag s SPI_CTL_ALERT)

/-- SPI_CSn rises, the end of a transaction or within its opcode byte (R370, R379). -/
def spiEnd (s : State) : State :=
  match s.links.spi with
  | some k =>
    let s := bump (setF { s with links := { s.links with spi := none, spiErr := false } } SPI_EVT_CSEND) SPI_CNT_XFERCNT
    if k = .write then setF s SPI_EVT_SWR else s
  | none => onlyIf (flag s SPI_CTL_EN) (setF · SPI_EVT_CSEND) s

/-! ### UART (R372) -/

/-- UART_STAT as it reads. -/
def uartStat (s : State) : Word := BitVec.ofNat 32 (s.links.rx.length * 65536 + (64 - s.links.tx.length) * 256)

/-- A write to UART_DATA. -/
def uartSend (v : Word) (s : State) : State :=
  if s.links.tx.length ≥ 64 then setF s UART_EVT_TXOVF
  else { s with links := { s.links with tx := s.links.tx ++ [v.truncate 8] } }

/-- A read of UART_DATA. -/
def uartTake (s : State) : Word × State :=
  match s.links.rx with
  | (b, fe) :: l => (BitVec.ofNat 32 (2 ^ 31 + fe.toNat * 256 + b.toNat), { s with links := { s.links with rx := l } })
  | [] => (0, s)

/-- A byte arrives. -/
def uartByte (b : Byte) (fe : Bool) (s : State) : State :=
  if flag s UART_CTL_EN = false then s
  else if s.links.rx.length ≥ 64 then setF s UART_EVT_RXOVF
  else
    let s := { s with links := { s.links with rx := s.links.rx ++ [(b, fe)] } }
    onlyIf fe (setF · UART_EVT_FRAMERR) s

/-- A write to UART_BAUD with INT below 5 is ineffective. -/
def uartBaudWrite (v : Word) (s : State) : State := if wget v 15 4 < 5 then s else codeWrite UART_BAUD v s

/-- The UART sends the byte at the head of its FIFO: what time does while no command waits. -/
def uartDrain (s : State) : State :=
  match s.links.tx with
  | b :: l => if commsUp s ∧ flag s UART_CTL_EN then { stir 11 s with links := { s.links with tx := l, line := some b } } else s
  | [] => s

/-! ### The commands -/

/-- COMMS's shadow as it stood `back` of its tick edges ago (R367). -/
def commsShadow (s : State) (back : Nat) : Tick := s.links.hist.getD back (shadow s 11 - BitVec.ofNat 48 back)

/-- How many values of its shadow COMMS keeps: a frame's start-of-frame delimiter lies at most 255 tick edges back. -/
def commsHist : Nat := 256

/-- COMMS recognises a tick edge. -/
def commsTick (s : State) : State := { s with links := { s.links with hist := (shadow s 11 :: s.links.hist).take commsHist } }

/-- A frame, without its FCS, ends on the line of a port; its start-of-frame delimiter lay `back` tick edges ago (R363 to R367). -/
def execEthFrameReceived (p : Fin 2) (frame : List Byte) (bad : Bool) (back : BitVec 8) (sub : BitVec 16) (s : State) :
    Host.Outcome State Fault Refusal :=
  inComms (fun s => ethReceive p.val frame bad back.toNat ⟨commsShadow s back.toNat, sub⟩ s) s

def execEthRxRelease (i : Initiator) (p : Fin 2) (v : Word) (s : State) : Host.Outcome State Fault Refusal :=
  .next (access i (ETH_RXTAIL p.val) (rxtailWrite p.val v) s)

def execEthTxCommand (i : Initiator) (p : Fin 2) (v : Word) (s : State) : Host.Outcome State Fault Refusal :=
  .next (access i (ETH_TXCMD p.val) (txcmdWrite p.val v) s)

def execEthFrameTransmitted (p : Fin 2) (ok : Bool) (s : State) : Host.Outcome State Fault Refusal := inComms (ethSent p.val ok) s

def execPtpCaptureRead (i : Initiator) (p : Fin 2) (s : State) : Host.Outcome State Fault Refusal :=
  .next (accessRead i (ETH_PTPSEQ p.val) (ptpRead p.val) s)

def execEthPortEnable (i : Initiator) (p : Fin 2) (s : State) : Host.Outcome State Fault Refusal :=
  .next (access i (ETH_CTL p.val) (fun s => ethCtlWrite p.val (rd s (ETH_CTL p.val) ||| 1) s) s)

/-- EN cleared (R379). -/
def execEthPortDisable (i : Initiator) (p : Fin 2) (s : State) : Host.Outcome State Fault Refusal :=
  .next (access i (ETH_CTL p.val) (fun s => ethCtlWrite p.val (rd s (ETH_CTL p.val) &&& 0xFFFFFFFE) s) s)

def execEthLinkUp (p : Fin 2) (fdx : Bool) (s : State) : Host.Outcome State Fault Refusal := inComms (ethLinkUp p.val fdx) s

def execEthLinkDown (p : Fin 2) (s : State) : Host.Outcome State Fault Refusal := inComms (ethLinkDown p.val) s

/-- A transaction with the opcode 0x05; an opcode that R370 does not list is an error. -/
def execSpiStatus (p : SpiPoll) (s : State) : Host.Outcome State Fault Refusal :=
  inComms (fun s =>
    if p.op = 0x05 then spiRun .status 0 p.n.toNat (fun s => setMiso (List.replicate p.n.toNat (spiStatusByte s)) s) s
    else if p.op = 0x0B ∨ p.op = 0x02 then s
    else spiRun .other 0 p.n.toNat id s) s

/-- A read transaction begins at an address, or goes on, by `n` bytes. -/
def execSpiRead (a : BitVec 16) (n : BitVec 13) (s : State) : Host.Outcome State Fault Refusal :=
  inComms (spiRun .read a.toNat n.toNat (fun s => let p := spiShifts n.toNat s; setMiso p.1 p.2)) s

/-- A write transaction begins at an address, or goes on, by the bytes of `data`. -/
def execSpiWrite (a : BitVec 16) (data : List Byte) (s : State) : Host.Outcome State Fault Refusal :=
  inComms (spiRun .write a.toNat 0 (spiPut data)) s

/-- A transaction with an opcode that R370 does not list; a read or a write of an address with bits [15:12] set; a write below 0x800. -/
def execSpiTransactionError (op : Byte) (a : BitVec 16) (s : State) : Host.Outcome State Fault Refusal :=
  inComms (fun s =>
    if op = 0x05 then s
    else if op = 0x0B then (if a.toNat ≥ 4096 then spiRun .read a.toNat 1 id s else s)
    else if op = 0x02 then (if a.toNat ≥ 4096 then spiRun .write a.toNat 1 id s
      else if a.toNat < 0x800 then spiRun .write a.toNat 1 (fun s => spiPut [0] s) s else s)
    else spiRun .other 0 1 id s) s

def execSpiCsRise (s : State) : Host.Outcome State Fault Refusal := inComms spiEnd s

def execUartSend (i : Initiator) (v : Word) (s : State) : Host.Outcome State Fault Refusal :=
  .next (access i UART_DATA (uartSend v) s)

def execUartTake (i : Initiator) (s : State) : Host.Outcome State Fault Refusal := .next (accessRead i UART_DATA uartTake s)

def execUartByteReceived (b : Byte) (ferr : Bool) (s : State) : Host.Outcome State Fault Refusal := inComms (uartByte b ferr) s

end Sys2Proof.Machine
end

