-- ==== Sys2Proof/Machine/PolderBase.lean ====
section
/-! DEFINITION. The polder's working parts: arithmetic, parameters, logs, transactions and time (R450 to R473). -/

namespace Sys2Proof.Machine

def setPol (x : PolSt) (s : State) : State := { s with pol := x }
def setNor (x : PolNor) (s : State) : State := { s with nor := x }

/-- The polder runs (R451). -/
def polUp (s : State) : Bool := islUp s 17

/-! ### Arithmetic in binary64 (R456) -/

def dAdd (a b : Nat) : Nat := (fpAdd f64 a b).1
def dSub (a b : Nat) : Nat := (fpSub f64 a b).1
def dMul (a b : Nat) : Nat := (fpMul f64 a b).1
def dDiv (a b : Nat) : Nat := (fpDiv f64 a b).1
def dLt (a b : Nat) : Bool := (fpLt f64 a b).1
def dOfInt (z : Int) : Nat := (fpOfInt f64 z).1
def dOfRat (n : Int) (d : Nat) : Nat := (fpOfRat f64 n d).1
def dAbs (a : Nat) : Nat := a % 2 ^ 63

/-- A binary32 value in binary64, exactly. -/
def dOfWord (w : Word) : Nat := let p := fpRat f32 w.toNat; dOfRat p.1 p.2

/-- A binary64 value rounded to binary32. -/
def wordOfD (d : Nat) : Word := let p := fpRat f64 d; wOfRat p.1 p.2

/-! ### Parameters (R468, R469) -/

/-- The committed parameter set (R452). -/
def polCommitted (s : State) : Option (Tab Word) :=
  match s.nor.copyA with
  | some t => some t
  | none => s.nor.copyB

/-- A committed parameter. -/
def polPar (s : State) (i : Nat) : Word := ((polCommitted s).bind (tabFind · i)).getD (Config.polPar i)

/-- A parameter as this cycle uses it: a commit applies from the next cycle (R469). -/
def parNow (s : State) (i : Nat) : Word := (s.pol.par.bind (tabFind · i)).getD (Config.polPar i)

/-- A parameter of meter `m`, in binary64 (R468). -/
def parD (s : State) (m i : Nat) : Nat := dOfWord (parNow s (16 * m + i))

/-- Does a value lie from `lo` to `hi`, both fractions over 10? -/
def inRange10 (w : Word) (lo hi : Int) (int : Bool) : Bool :=
  let p := fpRat f32 w.toNat
  wFinite w && decide (lo * p.2 ≤ p.1 * 10) && decide (p.1 * 10 ≤ hi * p.2) && (!int || p.1 % p.2 == 0)

/-- The index of a meter's VCF table (R468). -/
def isVcf (i : Nat) : Bool := (decide (0x100 ≤ i) && decide (i < 0x100 + 561)) || (decide (0x400 ≤ i) && decide (i < 0x400 + 561))

/-- Is an index assigned (R468)? -/
def parIndex (i : Nat) : Bool := decide (i < 28 ∧ i % 16 < 12) || decide (32 ≤ i ∧ i ≤ 34) || isVcf i

/-- Does a value lie in its parameter's range (R468)? -/
def parOk (i : Nat) (w : Word) : Bool :=
  if isVcf i then
    let p := fpRat f32 w.toNat
    wFinite w && decide (8 * p.2 ≤ p.1 * 10) && decide (p.1 * 10 ≤ 12 * p.2)
  else if i = 32 then inRange10 w 100 36000 true
  else if i = 33 then inRange10 w 10 327680 true
  else if i = 34 then inRange10 w 0 3276800 true
  else match i % 16 with
    | 0 => inRange10 w 10 10000000 false
    | 1 => inRange10 w 9 11 false
    | 2 => inRange10 w 0 655350 true
    | 3 => inRange10 w 0 100000 false
    | 4 => inRange10 w 0 100000 false
    | 5 => inRange10 w (-500) 2000 false
    | 6 => inRange10 w (-500) 2000 false
    | 7 => inRange10 w 5000 12000 false
    | 8 => inRange10 w 5000 12000 false
    | 9 => inRange10 w 0 10 true
    | 10 => inRange10 w 5000 12000 false
    | _ => inRange10 w 0 10 true

/-- A parameter that is an integer. -/
def parNat (s : State) (i : Nat) : Nat := let p := fpRat f32 (parNow s i).toNat; p.1.toNat / p.2

/-! ### Time (R471) -/

/-- Ticks and accumulator after some crystal cycles (R471). -/
def polTicks (acc cyc : Nat) : Nat × Nat := ((acc + 32768 * cyc) / 12000000, (acc + 32768 * cyc) % 12000000)

/-- The polder count `cyc` crystal cycles after the latest boundary, with the ticks still withheld (R471, R473). -/
def polAt (p : PolSt) (cyc : Nat) : Tick × Nat :=
  let n := (polTicks p.acc cyc).1
  (p.count + BitVec.ofNat 48 (n - p.hold), p.hold - n)

def polNow (s : State) (cyc : Nat) : Tick := (polAt s.pol cyc).1

/-- The ticks of a polder day (R463). -/
def dayTicks : Nat := 86400 * 32768

/-! ### The logs (R461 to R466) -/

/-- POLD_EVT flags for the next link word. -/
def polFlagEvt (bit : Nat) (s : State) : State := setPol { s.pol with evts := s.pol.evts ||| 2 ^ bit } s

/-- A log that reaches 90 % of its capacity brings LOGWARN, once per release (R466). -/
def polWarn (s : State) : State :=
  if s.pol.warned = false ∧ (10 * s.nor.events.length ≥ 9 * 32768 ∨ 10 * s.nor.slots.length ≥ 9 * 221184) then
    setPol { s.pol with warned := true, warnTx := true } s
  else s

/-- Has the event log room (R464)? -/
def polRoom (s : State) (n : Nat) : Bool := decide (s.nor.events.length + n ≤ 32768)

/-- An event is recorded; one that finds the log full is counted (R464). -/
def polEvent (k : PolKind) (count : Tick) (ops : List Word) (s : State) : State :=
  if polRoom s 1 then polWarn (setNor { s.nor with events := s.nor.events ++ [⟨k, count, s.nor.audit, ops⟩] } s)
  else setNor { s.nor with unrec := s.nor.unrec + 1 } s

def polTot (s : State) (m : Nat) : PolTot := tabGet (fun _ => {}) s.pol.tot m
def setTot (m : Nat) (t : PolTot) (s : State) : State := setPol { s.pol with tot := tabSet (fun _ => {}) s.pol.tot m t } s
def polMeter (s : State) (m : Nat) : PolMeter := tabGet (fun _ => {}) s.pol.meters m
def setMeter (m : Nat) (x : PolMeter) (s : State) : State := setPol { s.pol with meters := tabSet (fun _ => {}) s.pol.meters m x } s

/-- A transaction of meter `m`, if one is active (R462). -/
def polTx (s : State) (m : Nat) : Option PolTx := tabFind s.pol.tx m

def setTx (m : Nat) (x : Option PolTx) (s : State) : State :=
  setPol { s.pol with tx := match x with
    | some t => tabPut s.pol.tx m t
    | none => tabDrop s.pol.tx m } s

/-- Free slots of the transaction log beyond those kept for started transactions (R462, R479). -/
def freeSlots (s : State) : Nat := 221184 - s.nor.slots.length - 2 * s.pol.tx.length

/-- The 64 bytes of a record of the transaction log (R462). -/
def polRecord (kind m no : Nat) (a : PolAcc) (stop : Tick) (t : PolTot) (audit : Word) : List Byte :=
  let mean := fun (k sum : Nat) => if dAbs a.vol = 0 then Config.polMean k else wordOfD (dDiv sum a.vol)
  bytesOf 1 kind ++ bytesOf 1 m ++ bytesOf 2 a.flags ++ bytesOf 4 no ++ bytesOf 8 a.start.toNat ++ bytesOf 8 stop.toNat
    ++ bytesOf 8 (t.vt - a.base.vt).toNat ++ bytesOf 8 (t.v15 - a.base.v15).toNat ++ bytesOf 8 (t.mass - a.base.mass).toNat
    ++ bytesOf 4 (mean 0 a.tsum).toNat ++ bytesOf 4 (mean 1 a.rsum).toNat ++ bytesOf 4 a.diff ++ bytesOf 4 audit.toNat

/-- A record and its signature slot are appended (R462). -/
def polAppend (r : List Byte) (s : State) : State :=
  polWarn (setNor { s.nor with slots := s.nor.slots ++ [r, (List.range 64).map (Config.polSign r)] } s)

/-- A transaction closes: its record and signature are appended, and no save holds it any more (R462). -/
def txClose (m : Nat) (x : PolTx) (stop : Tick) (extra : Nat) (s : State) : State :=
  let a := { x.acc with flags := x.acc.flags ||| extra }
  let sv := s.nor.save
  polAppend (polRecord 0x10 m x.no a stop (polTot s m) s.nor.audit) (setTx m none (setNor { s.nor with save := { sv with tx := tabDrop sv.tx m } } s))

/-- The totalisers and the count are saved, with the transactions and what the polder day gathers (R460, R463, R471). -/
def polSave (count : Tick) (s : State) : State :=
  setNor { s.nor with save := ⟨count, s.pol.tot, s.pol.tx, [(0, (polMeter s 0).day), (1, (polMeter s 1).day)]⟩ } s

/-! ### Pulses (R454) -/

/-- |Σn1 − Σn2|. -/
def pulseDiff (x : PolMeter) : Nat := max x.s1 x.s2 - min x.s1 x.s2

/-- The pair's pulse fault as found; an entry is recorded (R454). -/
def pulseFault (m : Nat) (bad : Bool) (count : Tick) (s : State) : State :=
  let x := polMeter s m
  let s := setMeter m { x with pflt := bad } s
  if bad && !x.pflt then polFlagEvt 21 (polEvent .pulseflt count [BitVec.ofNat 32 m] s) else s

/-- May a rising edge at crystal cycle `cyc` belong to a pulse of its own? The earlier one is at least 20 µs high and 20 µs low (R454). -/
def pulseApart (e : Option Nat) (cyc : Nat) : Bool := e.all (· + 480 ≤ cyc)

/-- A pulse is recognised on an input, with the phase order it shows (R454). -/
def polPulse (inp : Nat) (rev : Bool) (cyc : Nat) (s : State) : State :=
  if s.pol.par.isNone || s.pol.warn then s
  else
    let x := polMeter s (inp / 2)
    if inp % 2 = 0 then
      onlyIf (pulseApart x.at1 cyc) (setMeter (inp / 2) { x with n1 := x.n1 + 1, at1 := some cyc, fwd := x.fwd + (!rev).toNat, rev := x.rev + rev.toNat }) s
    else onlyIf (pulseApart x.at2 cyc) (setMeter (inp / 2) { x with n2 := x.n2 + 1, at2 := some cyc }) s

/-! ### Conversion to 15 °C (R455 to R459) -/

/-- The value that a current gives on an analog input (R455). -/
def analogValue (s : State) (inp na : Nat) : Nat :=
  let m := inp / 2
  let lo := parD s m (if inp % 2 = 0 then 5 else 7)
  let hi := parD s m (if inp % 2 = 0 then 6 else 8)
  dAdd lo (dMul (dDiv (dSub (dOfRat na 1000000) (dOfInt 4)) (dOfInt 16)) (dSub hi lo))

/-- Is a current within 3.6 mA to 21.0 mA (R455)? -/
def currentOk (na : Nat) : Bool := decide (3600000 ≤ na) && decide (na ≤ 21000000)

/-- An analog input leaves its range at polder count `t` (R455). -/
def polInputFault (inp : Nat) (t : Tick) (s : State) : State :=
  let x := polMeter s (inp / 2)
  if inp % 2 = 0 then
    if x.tflt then s
    else polFlagEvt 21 (polEvent .tempflt t [BitVec.ofNat 32 (inp / 2)] (setMeter (inp / 2) { x with tflt := true } s))
  else
    if x.dflt then s
    else polFlagEvt 21 (polEvent .densflt t [BitVec.ofNat 32 (inp / 2)] (setMeter (inp / 2) { x with dflt := true } s))

/-- The current is back in range (R455). -/
def polInputOk (inp : Nat) (s : State) : State :=
  let x := polMeter s (inp / 2)
  setMeter (inp / 2) (if inp % 2 = 0 then { x with tflt := false } else { x with dflt := false }) s

/-- An input as the cycle converts it: its value, or the last good one while its current is out of range (R455). -/
def analogIn (inp na : Nat) (count : Tick) (s : State) : Nat × State :=
  if currentOk na then
    let v := analogValue s inp na
    (v, polInputOk inp (setPol { s.pol with good := tabPut s.pol.good inp v } s))
  else ((tabFind s.pol.good inp).getD (Config.polFirst inp), polInputFault inp count s)

/-- The place of a value on one axis of the grid: the lower index, the fraction, and whether it was clamped (R457). -/
def gridPlace (v lo step : Nat) (n : Nat) : Nat × Nat × Bool :=
  let p := fpRat f64 v
  let z : Int := (p.1 - lo * p.2).fdiv (step * p.2)
  let below := decide (p.1 < (lo : Int) * p.2)
  let above := decide ((lo + step * n : Nat) * p.2 < p.1)
  if below then (0, 0, true)
  else
    let i := min z.toNat (n - 1)
    let u := if above then dOfInt 1 else dDiv (dSub v (dOfInt (lo + step * i))) (dOfInt step)
    (i, u, above)

/-- table(t, ρ) of R457: the factor, and whether the point lay outside the grid. -/
def vcfTable (s : State) (m t rho : Nat) : Nat × Bool :=
  let ti := gridPlace (dAdd t (dOfInt 10)) 0 5 32
  let ri := gridPlace rho 800 15 16
  let at_ := fun (i j : Nat) => dOfWord (parNow s ((if m = 0 then 0x100 else 0x400) + 17 * (ti.1 + i) + (ri.1 + j)))
  let lerp := fun (a b u : Nat) => dAdd a (dMul (dSub b a) u)
  let u := ti.2.1
  let v := ri.2.1
  let one := dOfInt 1
  let f := match Config.polBilinear with
    | 0 => lerp (lerp (at_ 0 0) (at_ 1 0) u) (lerp (at_ 0 1) (at_ 1 1) u) v
    | 1 => lerp (lerp (at_ 0 0) (at_ 0 1) v) (lerp (at_ 1 0) (at_ 1 1) v) u
    | _ =>
      let w := fun (a b x : Nat) => dMul (dMul a b) x
      dAdd (dAdd (w (dSub one u) (dSub one v) (at_ 0 0)) (w u (dSub one v) (at_ 1 0)))
        (dAdd (w (dSub one u) v (at_ 0 1)) (w u v (at_ 1 1)))
  (f, ti.2.2 || ri.2.2)

/-- The search of R458: ρ15, whether any point lay outside the grid, and whether it failed to converge. -/
def solveRho (s : State) (m rhoT t : Nat) : Nat → Nat → Bool → Nat × Bool × Bool
  | 0, r, out => (r, out, true)
  | n + 1, r, out =>
    let p := vcfTable s m t r
    let r' := dDiv rhoT p.1
    let out := out || p.2
    if dLt (dOfRat 1 100) (dAbs (dSub r' r)) then solveRho s m rhoT t n r' out else (r', out, false)

/-- An amount is added to a totaliser with its remainder (R460). -/
def totAdd (v : BitVec 64) (r amount : Nat) : BitVec 64 × Nat :=
  let x := dAdd r amount
  let p := fpRat f64 x
  let n := p.1.tdiv p.2
  (v + BitVec.ofInt 64 n, dSub x (dOfInt n))

/-- What a record gathers from a cycle (R462). -/
def accAdd (a : PolAcc) (stat dvt t rho diff : Nat) : PolAcc :=
  { a with flags := a.flags ||| stat, vol := dAdd a.vol dvt, tsum := dAdd a.tsum (dMul dvt t),
           rsum := dAdd a.rsum (dMul dvt rho), diff := max a.diff diff }

/-- STATUS bits that are standing conditions (R477). -/
def standing (s : State) (m : Nat) (x : PolMeter) : Nat :=
  2 * (((polTx s m).map (·.opened)).getD false).toNat + 4 * x.pflt.toNat + 8 * x.tflt.toNat + 16 * x.dflt.toNat
    + 512 * s.pol.unsealed.toNat + 1024 * s.pol.unsync.toNat + 2048 * s.pol.parflt.toNat

/-- One cycle of one meter (R454 to R460). -/
def meterCycle (m iT iD : Nat) (count : Tick) (s : State) : State :=
  if s.pol.par.isNone then
    let x := polMeter s m
    setMeter m { x with n1 := 0, n2 := 0, fwd := 0, rev := 0, at1 := none, at2 := none, stat := standing s m x } s
  else
    let x := polMeter s m
    let x := { x with s1 := x.s1 + x.n1, s2 := x.s2 + x.n2 }
    let s := setMeter m x s
    let one := (x.n1 == 0) != (x.n2 == 0)
    let f := if one then x.n1 + x.n2 else x.fwd
    let b := if one then 0 else x.rev
    let s := pulseFault m (one || decide (pulseDiff x > parNat s (16 * m + 2))) count s
    let pT := analogIn (2 * m) iT count s
    let pD := analogIn (2 * m + 1) iD count pT.2
    let s := pD.2
    let t := pT.1
    let dvt := dMul (dDiv (dOfInt ((f : Int) - b)) (parD s m 0)) (parD s m 1)
    let q := if parNat s (16 * m + 9) = 0 then solveRho s m pD.1 t 8 pD.1 false else (parD s m 10, false, false)
    let rho := q.1
    let v := vcfTable s m t rho
    let dv15 := dMul dvt v.1
    let dm := dMul dv15 (if parNat s (16 * m + 11) = 1 then dSub rho (dOfRat 11 10) else rho)
    let flow := dMul dvt (dOfInt 36000)
    let tt := polTot s m
    let a := totAdd tt.vt tt.rvt (dMul dvt (dOfInt 1000000))
    let c := totAdd tt.v15 tt.rv15 (dMul dv15 (dOfInt 1000000))
    let g := totAdd tt.mass tt.rmass (dMul dm (dOfInt 1000))
    let s := setTot m ⟨a.1, c.1, g.1, a.2, c.2, g.2⟩ s
    let moving := dAbs flow ≠ 0
    let x := polMeter s m
    let stat := standing s m x + (decide moving).toNat + 32 * (q.2.1 || v.2).toNat
      + 64 * (decide moving && (dLt flow (parD s m 3) || dLt (parD s m 4) flow)).toNat + 128 * q.2.2.toNat + 256 * (decide (b > 0)).toNat
    let x := { x with n1 := 0, n2 := 0, fwd := 0, rev := 0, at1 := none, at2 := none, stat := stat, flow := flow, temp := t, rho := rho, vcf := v.1,
                      day := accAdd x.day stat dvt t rho (pulseDiff x) }
    let s := setMeter m x s
    match polTx s m with
    | some y => if y.opened then setTx m (some { y with acc := accAdd y.acc stat dvt t rho (pulseDiff x) }) s else s
    | none => s

/-! ### Boundaries (R460, R462, R463, R476, R477) -/

/-- A transaction opens or closes at a boundary (R462). -/
def txBoundary (m : Nat) (count : Tick) (s : State) : State :=
  match polTx s m with
  | some x =>
    if x.opened = false then
      let s := setMeter m { polMeter s m with s1 := 0, s2 := 0 } s
      setTx m (some { x with opened := true, acc := { start := count, base := polTot s m } }) s
    else if x.stop then txClose m x count 0 s
    else s
  | none => s

/-- The count goes from `a` to `b`: a crossed day ends, with a new ADJMAX (R463, R473). -/
def polCross (a b : Tick) (s : State) : State :=
  if a.toNat < b.toNat ∧ a.toNat / dayTicks < b.toNat / dayTicks then
    let d : PolDay := ⟨a.toNat / dayTicks, b, (polMeter s 0).day, polTot s 0, (polMeter s 1).day, polTot s 1⟩
    let fresh := fun (m : Nat) (s : State) => setMeter m { polMeter s m with day := { start := b, base := polTot s m } } s
    fresh 1 (fresh 0 (setNor { s.nor with days := s.nor.days ++ [d], used := 0 } s))
  else s

/-- The words of a result record (R477). -/
def resultWords (s : State) (pick : Nat) : List Word :=
  let meter := fun (m : Nat) =>
    let x := polMeter s m
    let t := polTot s m
    bytesOf 8 t.vt.toNat ++ bytesOf 8 t.v15.toNat ++ bytesOf 8 t.mass.toNat ++ bytesOf 4 (wordOfD x.flow).toNat
      ++ bytesOf 4 (wordOfD x.temp).toNat ++ bytesOf 4 (wordOfD x.rho).toNat ++ bytesOf 4 (wordOfD x.vcf).toNat
      ++ bytesOf 4 x.stat ++ bytesOf 4 (((polTx s m).map (·.no)).getD (tabGet (fun _ => 0) s.nor.lastTx m))
  let crc := match polCommitted s with
    | some t => Config.polParCrc t
    | none => Config.polParCrc []
  let b := bytesOf 4 (s.pol.seq % 65536 + pick % 65536 * 65536) ++ bytesOf 4 s.nor.audit.toNat ++ bytesOf 8 s.pol.count.toNat
    ++ meter 0 ++ meter 1 ++ bytesOf 4 crc.toNat ++ List.replicate 8 0
  let b := b ++ bytesOf 4 (crc32 b)
  (List.range 32).map (fun i => BitVec.ofNat 32 (wordOfBytes ((b.drop (4 * i)).take 4)))

/-- Results are published at a whole second and at a snapshot (R477). -/
def polPublish (s : State) : State :=
  if s.pol.cyc % 10 = 0 ∨ s.pol.snap.isSome then
    let w := resultWords s ((s.pol.snap.map (·.toNat)).getD 0)
    setPol { s.pol with out := s.pol.out ++ [.result w], seq := s.pol.seq + 1, snap := none } s
  else s

/-- A computation cycle ends (R456 to R463, R471, R477). -/
def polCycle (c : PolCur) (s : State) : State :=
  let p := polAt s.pol 1200000
  let old := s.pol.count
  let s := setPol { s.pol with count := p.1, hold := p.2, acc := (polTicks s.pol.acc 1200000).2, cyc := s.pol.cyc + 1 } s
  let s := meterCycle 1 c.i2 c.i3 p.1 (meterCycle 0 c.i0 c.i1 p.1 s)
  let s := txBoundary 1 p.1 (txBoundary 0 p.1 s)
  let s := polPublish (polCross old p.1 s)
  let s := setPol { s.pol with par := polCommitted s } s
  if s.pol.cyc % 10 = 0 then polSave p.1 s else s

end Sys2Proof.Machine
end

