-- ==== Sys2Proof/Machine/Polder.lean ====
section
/-! DEFINITION. The polder: its release and reset, the seal, its requests, its time, and the mailbox at SYS (R450 to R480). -/

namespace Sys2Proof.Machine

/-! ### Release, reset and inputs (R451, R452, R455, R467) -/

/-- A transaction that the loss of supply interrupted is closed at the saved count (R479). -/
def txInterrupted (m : Nat) (s : State) : State :=
  match polTx s m with
  | some x => if x.opened then txClose m x s.pol.count 0x8000 s else setTx m none s
  | none => s

/-- The polder releases itself (R451, R452, R471). -/
def polRelease (s : State) : State :=
  if s.sys.variantM = false then s
  else if polUp s then setPol { s.pol with warn := false } s
  else
    let s := setPower s 17 .run
    let s := setNor { s.nor with copyA := polCommitted s } s
    let bad := (polCommitted s).isNone
    let sv := s.nor.save
    let s := setPol { count := sv.count, tot := sv.tot, tx := sv.tx, unsync := true, parflt := bad, par := polCommitted s } s
    let again := fun (m : Nat) (s : State) => setMeter m { polMeter s m with day := tabGet (fun _ => {}) sv.day m } s
    let s := again 1 (again 0 s)
    let s := txInterrupted 1 (txInterrupted 0 s)
    let s := if bad then polFlagEvt 21 (polEvent .parflt sv.count [] s) else s
    polWarn (polEvent .start sv.count [] s)

/-- VPOLDER falls below 2.95 V: the totalisers are saved (R451, R460). -/
def polPowerFail (cyc : Nat) (s : State) : State :=
  if s.pol.warn then s
  else
    let s := polSave (polNow s cyc) (setPol { s.pol with warn := true } s)
    polEvent .pwrfail (polNow s cyc) [] s

/-- The debounced level of the seal changes (R467, R469). -/
def sealChange (unsealed : Bool) (cyc : Nat) (s : State) : State :=
  if s.pol.unsealed = unsealed then s
  else
    let t := polNow s cyc
    let s := polFlagEvt 17 (setPol { s.pol with unsealed := unsealed } s)
    if unsealed then polEvent .sealopen t [] s
    else
      let s := polEvent .sealclose t [] s
      if s.pol.staged.isEmpty then s else polEvent .discard t [] (setPol { s.pol with staged := [] } s)

/-! ### Requests (R462, R469, R475) -/

/-- A number in 32 bits. -/
def w32 (n : Nat) : Word := BitVec.ofNat 32 n

/-- The flags of POLD_STAT (R480). -/
def polStatFlags (s : State) : Nat :=
  let tx := fun (m : Nat) => ((polTx s m).isSome).toNat
  2 ^ 30 * s.pol.unsealed.toNat + 2 ^ 29 * s.pol.unsync.toNat + 2 ^ 28 * s.pol.parflt.toNat + 2 ^ 27 * tx 1 + 2 ^ 26 * tx 0

/-- PARCRC of the committed set. -/
def polCrc (s : State) : Word := Config.polParCrc ((polCommitted s).getD [])

/-- TXSTART (R462): its status, words and effect. -/
def txStart (m : Nat) (s : State) : Nat × List Word × State :=
  if s.pol.parflt then (6, [], s)
  else if m ≥ 2 then (2, [], s)
  else if s.pol.unsealed then (1 + Config.polOpenStatus % 6, [], s)
  else if (polTx s m).isSome then (4, [], s)
  else if freeSlots s < 2 then (5, [], s)
  else
    let n := (s.nor.txno + 1) % 2 ^ 32
    (0, [w32 n], setTx m (some { no := n }) (setNor { s.nor with txno := n, lastTx := tabSet (fun _ => 0) s.nor.lastTx m n } s))

/-- TXSTOP (R462, R475). -/
def txStop (m : Nat) (s : State) : Nat × List Word × State :=
  if s.pol.parflt then (6, [], s)
  else if m ≥ 2 then (2, [], s)
  else match polTx s m with
    | some x => (0, [w32 x.no], setTx m (some { x with stop := true }) s)
    | none => (4, [], s)

/-- LOGREAD (R475). -/
def logRead (kind idx : Nat) (s : State) : Nat × List Word × State :=
  match kind with
  | 0 => match s.nor.events[idx]? with
    | some e =>
      let k := match e.kind with
        | .start => 0 | .parchg => 1 | .sealopen => 2 | .sealclose => 3 | .discard => 4 | .sync => 5 | .clkadj => 6
        | .clkdev => 7 | .pulseflt => 8 | .tempflt => 9 | .densflt => 10 | .parflt => 11 | .pwrfail => 12
      (0, (List.range 16).map (Config.polEvent k e.count e.audit e.ops), s)
    | none => (2, [], s)
  | 1 => match s.nor.slots[idx]? with
    | some b => (0, (List.range 16).map (fun i => w32 (wordOfBytes ((b.drop (4 * i)).take 4))), s)
    | none => (2, [], s)
  | _ => (2, [], s)

/-- PARWRITE (R469). -/
def parWrite (i : Nat) (v : Word) (s : State) : Nat × List Word × State :=
  if s.pol.unsealed = false then (1, [], s)
  else if parIndex i && parOk i v then (0, [], setPol { s.pol with staged := tabPut s.pol.staged i v } s)
  else (2, [], s)

/-- The staged parameters that a commit changes. -/
def parChanges (s : State) : Tab Word :=
  s.pol.staged.filter (fun e => ((polCommitted s).bind (tabFind · e.1)) != some e.2)

/-- PARCOMMIT (R469). -/
def parCommit (cyc : Nat) (s : State) : Nat × List Word × State :=
  let l := parChanges s
  if s.pol.unsealed = false then (1, [], s)
  else if !s.pol.tx.isEmpty then (4, [], s)
  else if !polRoom s l.length then (5, [], s)
  else
    let t := polNow s cyc
    let new := s.pol.staged.foldl (fun c e => tabPut c e.1 e.2) ((polCommitted s).getD [])
    let s := forL l (fun e s =>
      let s := polEvent .parchg t [w32 e.1, polPar s e.1, e.2] s
      polFlagEvt 16 (setNor { s.nor with audit := s.nor.audit + 1 } s)) s
    let s := setNor { s.nor with copyA := some new, copyB := some new } s
    (0, [w32 l.length, s.nor.audit], setPol { s.pol with staged := [], parflt := false } s)

/-- A request as the polder answers it (R475): status, words and effect. -/
def polRequest (op arg8 idx : Nat) (arg : Word) (s : State) : Nat × List Word × State :=
  match op with
  | 0x01 => (0, [w32 (Config.polVersion % 65536 * 65536 + Config.polFlags (polStatFlags s) % 65536), Config.polRomCrc, polCrc s,
      s.nor.audit, w32 s.nor.unrec, w32 ((32768 - s.nor.events.length) * 65536 + (221184 - s.nor.slots.length) / 4 % 65536)], s)
  | 0x02 => (0, (List.range 8).map Config.polKey, s)
  | 0x10 => txStart arg8 s
  | 0x11 => txStop arg8 s
  | 0x20 => logRead arg8 arg.toNat s
  | 0x30 => if parIndex idx then (0, [polPar s idx, (tabFind s.pol.staged idx).getD (polPar s idx)], s) else (2, [], s)
  | 0x31 => parWrite idx arg s
  | 0x32 => parCommit 0 s
  | 0x33 => if s.pol.parflt then (6, [], s) else (0, [], setPol { s.pol with staged := [] } s)
  | _ => (3, [], s)

/-- SYS begins to wait for a response (R475). -/
def polClockAsked (s : State) : State := { s with sys := { s.sys with polAsked := edges s 0 } }

/-- A write to POLD_REQ (R475, R479): the request reaches the polder while the link is up, unless its message is lost. -/
def polReqWrite (lost : Bool) (v : Word) (s : State) : State :=
  if flag s POLD_STAT_BUSY then setF s POLD_EVT_REQLOST
  else
    let op := wget v 31 24
    let s := polClockAsked (setF (wr s POLD_RSPSTAT (w32 (0x40000000 + op * 65536))) POLD_STAT_BUSY)
    if polUp s && flag s POLD_STAT_LINK && !lost then
      let r := polRequest op (wget v 23 16) (wget v 15 0) (rd s POLD_REQARG) s
      setPol { r.2.2.pol with out := r.2.2.pol.out ++ [.response r.1 r.2.1] } r.2.2
    else s

/-- SYS ends the request with a status and words (R475). -/
def polEnd (status : Nat) (words : List Word) (s : State) : State :=
  let s := forN words.length (fun i s => wr s (POLD_RSP i) (words.getD i 0)) s
  let s := clrF (fset (fset s POLD_RSPSTAT_LEN words.length) POLD_RSPSTAT_STATUS status) POLD_RSPSTAT_BUSY
  let s := setF (clrF s POLD_STAT_BUSY) POLD_RSPSTAT_VALID
  setF (onlyIf (status != 0) (bump · POLD_CNT_REFUSED) s) POLD_EVT_RSPDONE

/-! ### The mailbox (R474 to R477) -/

/-- SYS begins to wait for the next word (R474). -/
def polClockHeard (s : State) : State := { s with sys := { s.sys with polHeard := edges s 0 } }

/-- A valid word of the polder: the link is up (R474). -/
def linkHeard (s : State) : State :=
  let s := polClockHeard s
  if flag s POLD_STAT_LINK then s else setF (setF s POLD_STAT_LINK) POLD_EVT_LINKUP

/-- A message that fails its CRC is discarded and counted (R474). -/
def protErr (s : State) : State := setF (bump s POLD_CNT_PROTERR) POLD_EVT_PROTERR

/-- The first message of a kind is taken. -/
def polTake (f : PolMsg → Bool) (s : State) : Option PolMsg × State :=
  match s.pol.out.find? f with
  | some m => (some m, setPol { s.pol with out := s.pol.out.erase m } s)
  | none => (none, s)

def isResponse : PolMsg → Bool
  | .response _ _ => true
  | .result _ => false

/-- The polder's answer arrives (R475). -/
def polResponse (bad : Bool) (s : State) : State :=
  match polTake isResponse s with
  | (some (.response st w), s) => if bad then protErr s else
      let s := linkHeard s
      if flag s POLD_STAT_BUSY then polEnd st w s else s
  | _ => s

/-- A result record arrives (R477). -/
def polResult (bad : Bool) (s : State) : State :=
  match polTake (fun m => !isResponse m) s with
  | (some (.result w), s) => if bad then protErr s else
      setF (forN 32 (fun i s => wr s (POLD_RES i) (w.getD i 0)) (linkHeard s)) POLD_EVT_RESNEW
  | _ => s

/-- A link word arrives: POLD_STAT and the polder's flags follow (R474, R480). -/
def polLink (bad : Bool) (s : State) : State :=
  if bad then protErr s
  else
    let s := linkHeard s
    let s := wr s POLD_STAT (w32 ((rd s POLD_STAT).toNat / 2 ^ 31 * 2 ^ 31 + polStatFlags s + (rd s POLD_STAT).toNat % 2))
    let s := wr s POLD_EVT (rd s POLD_EVT ||| w32 s.pol.evts)
    setPol { s.pol with evts := 0 } s

/-! ### Time (R472, R473) -/

/-- Two stamps as the operands of an event. -/
def countOps (a b : Tick) : List Word :=
  [a.truncate 32, w32 (a.toNat / 2 ^ 32), b.truncate 32, w32 (b.toNat / 2 ^ 32)]

/-- The adjustment of R473 by a difference, within what remains of ADJMAX. -/
def polAdjust (d : Int) (now : Tick) (s : State) : State :=
  if s.pol.par.isNone || decide (d.natAbs < parNat s 33) then s
  else if !polRoom s 1 then setNor { s.nor with unrec := s.nor.unrec + 1 } s
  else
    let n := min d.natAbs (parNat s 34 - s.nor.used)
    let z : Int := if d < 0 then -(n : Int) else n
    let after := now + BitVec.ofInt 48 z
    let s := setNor { s.nor with used := s.nor.used + n } s
    let s := if n = 0 then s
      else
        let old := s.pol.count
        let s := if d < 0 then setPol { s.pol with hold := s.pol.hold + n } s
          else setPol { s.pol with count := old + BitVec.ofNat 48 n } s
        polCross old s.pol.count (polFlagEvt 18 (polEvent .clkadj now (countOps now after) s))
    if n < d.natAbs then polFlagEvt 19 (polEvent .clkdev now [w32 (d.natAbs - n)] s) else s

/-- A time response reaches the polder (R472, R473). -/
def polTime (main : Tick) (osf : Bool) (cyc : Nat) (s : State) : State :=
  if osf then s
  else
    let now := polNow s cyc
    let d : Int := (main.toNat : Int) - ((now - 2).toNat : Int)
    if s.pol.unsync ∧ 0 ≤ d then
      if polRoom s 1 then
        let old := s.pol.count
        let s := setPol { s.pol with count := old + BitVec.ofInt 48 d, unsync := false } s
        polCross old s.pol.count (polFlagEvt 18 (polEvent .sync now (countOps now (now + BitVec.ofInt 48 d)) s))
      else setNor { s.nor with unrec := s.nor.unrec + 1 } s
    else polAdjust d now (setPol { s.pol with unsync := false } s)

/-! ### The commands -/

def inPolder (f : State → State) (s : State) : Host.Outcome State Fault Refusal := .next (if polUp s then f (stir 17 s) else s)

def execPolderRelease (s : State) : Host.Outcome State Fault Refusal := .next (polRelease s)

def execPolderPowerFailWarning (cyc : Fin 1200000) (s : State) : Host.Outcome State Fault Refusal :=
  inPolder (polPowerFail cyc.val) s

def execPolderReset (s : State) : Host.Outcome State Fault Refusal := inPolder (resetIsland 17) s

def execPolderPulse (inp : Fin 4) (rev : Bool) (cyc : Fin 1200000) (s : State) : Host.Outcome State Fault Refusal :=
  inPolder (polPulse inp.val rev cyc.val) s

def execPolderCycle (cur : PolCur) (s : State) : Host.Outcome State Fault Refusal := inPolder (polCycle cur) s

/-- A polder day that has ended is recorded for each meter, unless the transaction log is full (R463, R466). -/
def execPolderDailyRecord (s : State) : Host.Outcome State Fault Refusal :=
  inPolder (fun s => match s.nor.days with
    | d :: l =>
      let put := fun (m : Nat) (a : PolAcc) (t : PolTot) (s : State) =>
        if freeSlots s ≥ 2 then polAppend (polRecord 0x11 m d.day a d.stop t s.nor.audit) s else s
      put 1 d.b d.tb (put 0 d.a d.ta (setNor { s.nor with days := l } s))
    | [] => s) s

def execPolderInputFault (inp : Fin 4) (cyc : Fin 1200000) (s : State) : Host.Outcome State Fault Refusal :=
  
  inPolder (fun s => polInputFault inp.val (polNow s cyc.val) s) s

def execPolderInputFaultEnd (inp : Fin 4) (s : State) : Host.Outcome State Fault Refusal := inPolder (polInputOk inp.val) s

def execSealChange (unsealed : Bool) (cyc : Fin 1200000) (s : State) : Host.Outcome State Fault Refusal :=
  inPolder (sealChange unsealed cyc.val) s

/-- A write of POLD_REQ. -/
def polRow (i : Initiator) (op arg8 idx : Nat) (lost : Bool) (s : State) : Host.Outcome State Fault Refusal :=
  .next (access i POLD_REQ (polReqWrite lost (w32 (op * 2 ^ 24 + arg8 * 2 ^ 16 + idx))) s)

def execIdent (i : Initiator) (lost : Bool) (s : State) : Host.Outcome State Fault Refusal := polRow i 0x01 0 0 lost s
def execPubkey (i : Initiator) (lost : Bool) (s : State) : Host.Outcome State Fault Refusal := polRow i 0x02 0 0 lost s
def execTxstart (i : Initiator) (arg : BitVec 8) (lost : Bool) (s : State) : Host.Outcome State Fault Refusal :=
  polRow i 0x10 arg.toNat 0 lost s
def execTxstop (i : Initiator) (arg : BitVec 8) (lost : Bool) (s : State) : Host.Outcome State Fault Refusal :=
  polRow i 0x11 arg.toNat 0 lost s
def execLogread (i : Initiator) (arg : BitVec 8) (lost : Bool) (s : State) : Host.Outcome State Fault Refusal :=
  polRow i 0x20 arg.toNat 0 lost s
def execParread (i : Initiator) (idx : BitVec 16) (lost : Bool) (s : State) : Host.Outcome State Fault Refusal :=
  polRow i 0x30 0 idx.toNat lost s
def execParwrite (i : Initiator) (idx : BitVec 16) (lost : Bool) (s : State) : Host.Outcome State Fault Refusal :=
  polRow i 0x31 0 idx.toNat lost s
def execParcommit (i : Initiator) (lost : Bool) (s : State) : Host.Outcome State Fault Refusal := polRow i 0x32 0 0 lost s
def execPardiscard (i : Initiator) (lost : Bool) (s : State) : Host.Outcome State Fault Refusal := polRow i 0x33 0 0 lost s

/-- What reaches SYS from the polder. -/
def inSys (f : State → State) (s : State) : Host.Outcome State Fault Refusal := .next (if islUp s 0 then f (stir 0 s) else s)

def execPolderResponse (bad : Bool) (s : State) : Host.Outcome State Fault Refusal := inSys (polResponse bad) s

/-- Does SYS give a request up: no answer within 250 ms, or the link is down (R475)? -/
def askedLong (s : State) : Bool := flag s POLD_STAT_BUSY && (!flag s POLD_STAT_LINK || lapsed s 0 s.sys.polAsked 250000)

def execPolderNoresp (s : State) : Host.Outcome State Fault Refusal :=
  inSys (fun s => if askedLong s then
    polEnd 7 [] (setPol { s.pol with out := s.pol.out.filter (fun m => !isResponse m) } s) else s) s

/-- Is a time request due: the first one after a release, or TSYNCPER seconds after the latest (R472)? -/
def timeDue (s : State) : Bool := s.pol.rqCyc.all (fun c => c + 10 * parNat s 32 ≤ s.pol.cyc)

/-- The polder asks for main time and SYS triggers capture slot 2 (R389, R472). -/
def polAsk (bad : Bool) (s : State) : State :=
  if timeDue s then
    let s := setPol { s.pol with rqCyc := some s.pol.cyc } s
    if bad then onlyIf (islUp s 0) protErr s
    else if islUp s 0 then capTrigger 2 0 (linkHeard (setPol { s.pol with timeRq := true } s)) else s
  else s

def execPolderTimeRequest (bad : Bool) (s : State) : Host.Outcome State Fault Refusal := inPolder (polAsk bad) s

/-- SYS returns the captured count and the polder treats it, unless the message fails its CRC (R472 to R474). -/
def execPolderTimeResponse (bad : Bool) (cyc : Fin 1200000) (s : State) : Host.Outcome State Fault Refusal :=
  inPolder (fun s =>
    if s.pol.timeRq && islUp s 0 && tabGet (fun _ => 0) s.tick.capReq 2 == 0 && flag s (TICK_CAPSTAT_VALID 2) then
      let s := setPol { s.pol with timeRq := false } s
      if bad then s
      else polTime (BitVec.ofNat 48 ((rd s (TICK_CAPT 2)).toNat + (rd s (TICK_CAPTHI 2)).toNat % 65536 * 2 ^ 32))
        (flag s (TICK_CAPSTAT_OSF 2)) cyc.val s
    else s) s

def execPolderLinkWord (bad : Bool) (s : State) : Host.Outcome State Fault Refusal := inPolder (fun s => if islUp s 0 then polLink bad s else s) s

/-- 300 ms without a word from the polder (R474). -/
def linkSilent (s : State) : Bool := flag s POLD_STAT_LINK && lapsed s 0 s.sys.polHeard 300000

def execPolderLinkDown (s : State) : Host.Outcome State Fault Refusal :=
  inSys (fun s => if linkSilent s then setF (clrF s POLD_STAT_LINK) POLD_EVT_LINKDN else s) s

/-- A completed pick whose number is a multiple of 2^PDIV asks for a snapshot (R476); requests before the next boundary merge. -/
def execPolderSnapshotRequest (bad : Bool) (s : State) : Host.Outcome State Fault Refusal :=
  inSys (fun s => match s.loom.snapReq with
    | k :: l =>
      let s := { s with loom := { s.loom with snapReq := l } }
      if s.sys.variantM && polUp s && !bad then setPol { s.pol with snap := some k } s else s
    | [] => s) s

def execPolderResultRecord (bad : Bool) (s : State) : Host.Outcome State Fault Refusal := inSys (polResult bad) s

/-- The polder's LOGWARN reaches SYS (R466). -/
def execLogwarn (bad : Bool) (s : State) : Host.Outcome State Fault Refusal :=
  inSys (fun s => if s.pol.warnTx then
    let s := setPol { s.pol with warnTx := false } s
    if bad then protErr s else setF (linkHeard s) POLD_EVT_LOGWARN
    else s) s

end Sys2Proof.Machine
end

