-- ==== Sys2Proof/Machine/Recorder.lean ====
section
/-! DEFINITION. The recorder: items, live series, the log, the page queue, closes, the calendar, the window and NAND operations
(R403 to R430). -/

namespace Sys2Proof.Machine

/-! ### Calendars and bytes (R413, R414) -/

/-- The calendar field of a stamp: its second's, if STORE keeps it, else zero (R413). -/
def calOf (s : State) (stamp : BitVec 64) : BitVec 64 :=
  match s.store.secs.find? (fun e => e.1 == stamp.toNat / 65536 / 32768) with
  | some e => BitVec.ofNat 64 (0x80000000 + (timeWord e.2).toNat + (dateWord e.2).toNat * 2 ^ 32)
  | none => 0

/-- The stamp STORE gives now. -/
def storeNow (s : State) : BitVec 64 := stampWord (stampOf s 12)

/-- The bytes of a record: the header, then the body (R414). -/
def recBytes (ty gen seq : Nat) (body : List Byte) : List Byte :=
  bytesOf 1 ty ++ bytesOf 1 ((8 + body.length) / 16) ++ bytesOf 2 gen ++ bytesOf 4 seq ++ body

def LogRec.bytes (r : LogRec) : List Byte := recBytes r.ty r.gen r.seq r.body

/-- The size of a record in bytes. -/
def LogRec.size (r : LogRec) : Nat := 8 + r.body.length

/-- The bytes that the records of a page take. -/
def QPage.used (p : QPage) : Nat := p.recs.foldl (fun n r => n + r.size) 0

/-- The body of a STATE record (R409, R414). -/
def stateBody (s : State) (id rep : Nat) (st : Word) (first last : BitVec 64) : List Byte :=
  bytesOf 2 id ++ bytesOf 2 rep ++ bytesOf 4 st.toNat ++ bytesOf 8 first.toNat ++ bytesOf 8 last.toNat
    ++ bytesOf 8 (calOf s first).toNat ++ bytesOf 8 (calOf s last).toNat

/-- The body of a HIST record; CLOSE is zero in a live entry (R414). -/
def histBody (k : Nat) (h : LiveHist) (flags clk : Nat) (close closeCal : BitVec 64) : List Byte :=
  bytesOf 2 k ++ bytesOf 1 flags ++ bytesOf 1 clk ++ bytesOf 4 h.period ++ bytesOf 8 h.opened.toNat ++ bytesOf 8 close.toNat
    ++ bytesOf 8 h.openCal.toNat ++ bytesOf 8 closeCal.toNat
    ++ (List.range 32).flatMap (fun i => bytesOf 4 (tabGet (fun _ => 0) h.bins i))

/-- The body of an EXTR record; CLOSE is zero in a live entry (R414). -/
def extrBody (k : Nat) (x : LiveExtr) (flags clk : Nat) (close : BitVec 64) : List Byte :=
  let f := fun (i : Nat) (v : BitVec 64) => bytesOf 8 (if x.offers = 0 then Config.noOffer i else v).toNat
  bytesOf 2 k ++ bytesOf 1 flags ++ bytesOf 1 clk ++ bytesOf 4 x.period ++ bytesOf 4 x.vmin.toNat ++ bytesOf 4 x.vmax.toNat
    ++ f 0 x.tmin ++ f 1 x.tmax ++ f 2 x.cmin ++ f 3 x.cmax ++ bytesOf 8 close.toNat ++ bytesOf 4 x.offers
    ++ List.replicate 12 0

/-- The body of a FLOOD record (R414). -/
def floodBody (f : Flood) : List Byte :=
  bytesOf 1 f.path ++ List.replicate 3 0 ++ bytesOf 2 f.diag ++ bytesOf 2 f.hist ++ bytesOf 2 f.extr ++ bytesOf 2 f.state
    ++ bytesOf 8 (stampWord f.first).toNat ++ bytesOf 8 (stampWord f.last).toNat ++ bytesOf 4 f.pick0.toNat
    ++ bytesOf 4 f.pick1.toNat ++ List.replicate 4 0

/-- The body of a MARK record (R414). -/
def markBody (s : State) (kind : Nat) : List Byte :=
  bytesOf 2 kind ++ List.replicate 6 0 ++ bytesOf 8 (storeNow s).toNat ++ bytesOf 8 (calOf s (storeNow s)).toNat

/-! ### The page queue (R424, R425) -/

/-- Pages held: the queued ones, one in programming among them, and the open page. -/
def pagesHeld (s : State) : Nat := s.store.pages.length + s.store.openPg.isSome.toNat

/-- STGPG and STGFULL follow the page queue; its filling sets STORE_EVT.STGFULL (R424, R425). -/
def storeFlags (s : State) : State :=
  let full := decide (s.store.pages.length ≥ 32)
  let s := onlyIf (full && !flag s STORE_STAT_STGFULL) (setF · STORE_EVT_STGFULL) s
  putF (fset s STORE_STAT_STGPG (pagesHeld s)) STORE_STAT_STGFULL full

/-- The open page is queued for programming; while programming is suspended it counts in DEFCNT (R424, R425). -/
def completePage (s : State) : State :=
  match s.store.openPg with
  | some p =>
    let s := setStore { s.store with openPg := none, pages := s.store.pages ++ [p] } s
    storeFlags (onlyIf (flag s STORE_STAT_SUSP) (bump · STORE_DEFCNT_DEF) s)
  | none => s

/-- The open page is queued if it cannot hold a record of a size (R424). -/
def makeRoom (size : Nat) (s : State) : State :=
  match s.store.openPg with
  | some p => if p.used + size > 4096 then completePage s else s
  | none => s

/-- Can the page queue take a record, once the open page has made room (R403)? -/
def hasRoom (s : State) : Bool := flag s STORE_STAT_READY && (s.store.openPg.isSome || decide (s.store.pages.length < 32))

/-- A record appended to the open page with the next SEQ (R411); a page too full for any further record is queued. -/
def recPut (ty : Nat) (body : List Byte) (s : State) : State :=
  let r : LogRec := { ty := ty, seq := s.store.seq, body := body }
  let p := s.store.openPg.getD ⟨[], edges s 12⟩
  let p := { p with recs := p.recs ++ [r] }
  let s := setStore { s.store with openPg := some p, seq := (r.seq + 1) % 2 ^ 32 } s
  let s := fset s REC_HEAD_SEQ r.seq
  let s := onlyIf (fget s REC_TAIL_SEQ == 0) (fset · REC_TAIL_SEQ r.seq) s
  if p.used + 32 > 4096 then completePage s else storeFlags s

/-- A record appended, if the page queue can hold it; the flag tells whether it was (R403). -/
def recAppend (ty : Nat) (body : List Byte) (s : State) : State × Bool :=
  if flag s STORE_STAT_READY then
    let s := makeRoom (8 + body.length) s
    if hasRoom s then (recPut ty body s, true) else (s, false)
  else (s, false)

/-- The MARK records owed are appended as room allows; a frozen recorder appends KIND 3 only (R411, R412, R428). -/
def payMarks : Nat → State → State
  | 0, s => s
  | n + 1, s =>
    match s.store.owed with
    | [] => s
    | k :: l =>
      if flag s REC_STAT_FROZEN && k != 3 then payMarks n (setStore { s.store with owed := l } s)
      else
        let p := recAppend 5 (markBody s k) s
        if p.2 then payMarks n (setStore { p.1.store with owed := l } p.1) else p.1

/-- A MARK record is owed, and appended if there is room. -/
def owe (kind : Nat) (s : State) : State :=
  payMarks 8 (setStore { s.store with owed := s.store.owed ++ [kind] } s)

/-! ### Items (R403 to R410) -/

def liveHist (s : State) (k : Nat) : LiveHist := tabGet (fun _ => {}) s.store.hist k
def setHist (k : Nat) (h : LiveHist) (s : State) : State :=
  setStore { s.store with hist := tabSet (fun _ => {}) s.store.hist k h } s
def liveExtr (s : State) (k : Nat) : LiveExtr := tabGet (fun _ => {}) s.store.extr k
def setExtr (k : Nat) (x : LiveExtr) (s : State) : State :=
  setStore { s.store with extr := tabSet (fun _ => {}) s.store.extr k x } s

/-- The next GEN (R414). -/
def genUp (n : Nat) : Nat := (n + 1) % 65536

/-- A hinc item (R404): 1 is added to a bin, saturating; SAT marks an addition lost. -/
def recHist (k b : Nat) (s : State) : State :=
  if flag s (REC_HDESC_EN k) then
    let h := liveHist s k
    let n := tabGet (fun _ => 0) h.bins b
    if n < 0xFFFFFFFF then setHist k { h with gen := genUp h.gen, bins := tabSet (fun _ => 0) h.bins b (n + 1) } s
    else if h.flags / 4 % 2 = 1 then s
    else setHist k { h with gen := genUp h.gen, flags := h.flags + 4 } s
  else bump s REC_CNT_NOREC

/-- An offer to a live extreme (R406). -/
def recExtr (k : Nat) (v : Word) (stamp : BitVec 64) (s : State) : State :=
  if flag s (REC_XDESC_EN k) then
    if wNan v then s
    else
      let x := liveExtr s k
      let c := calOf s stamp
      let x' := if x.offers = 0 ∨ wLt v x.vmin then { x with vmin := v, tmin := stamp, cmin := c } else x
      let x' := if x.offers = 0 ∨ wLt x.vmax v then { x' with vmax := v, tmax := stamp, cmax := c } else x'
      setExtr k { x' with offers := min (x.offers + 1) 0xFFFFFFFF, gen := genUp x.gen } s
  else bump s REC_CNT_NOREC

/-- Is a record a STATE record of an identifier? -/
def isStateOf (id : Nat) (r : LogRec) : Bool := r.ty == 1 && wordOfBytes (r.body.take 2) == id

/-- A STATE record with one more change merged into it (R410). -/
def mergeRec (s : State) (rep : Nat) (last : BitVec 64) (r : LogRec) : LogRec :=
  let n := min (wordOfBytes ((r.body.drop 2).take 2) + rep) 0xFFFF
  { r with gen := genUp r.gen,
           body := r.body.take 2 ++ bytesOf 2 n ++ (r.body.drop 4).take 12 ++ bytesOf 8 last.toNat
             ++ (r.body.drop 24).take 8 ++ bytesOf 8 (calOf s last).toNat }

/-- The newest record of an identifier in the page queue, where its page's programming has not begun. -/
def newestState (id : Nat) (s : State) : Option LogRec :=
  let all := s.store.pages ++ s.store.openPg.toList
  let busy := match s.store.op with
    | some (.program _) => true
    | _ => false
  match (all.flatMap (·.recs)).reverse.find? (isStateOf id) with
  | some r => if busy && ((all.head?.map (·.recs)).getD []).contains r then none else some r
  | none => none

/-- The record with a SEQ replaced in a page. -/
def QPage.update (seq : Nat) (f : LogRec → LogRec) (p : QPage) : QPage :=
  { p with recs := p.recs.map (fun r => if r.seq = seq then f r else r) }

/-- A state change is merged into its newest queued record or appended (R404, R409, R410); the flag tells that it was taken. -/
def recState (id rep : Nat) (st : Word) (first last : BitVec 64) (s : State) : State × Bool :=
  if id ≥ 0x8000 ∧ flag s REC_CFG_DIAGEN = false then (bump s REC_CNT_NOREC, true)
  else
    match newestState id s with
    | some r =>
      if wordOfBytes ((r.body.drop 4).take 4) = st.toNat then
        let f := QPage.update r.seq (mergeRec s rep last)
        (setStore { s.store with pages := s.store.pages.map f, openPg := s.store.openPg.map f } s, true)
      else recAppend 1 (stateBody s id rep st first last) s
    | none => recAppend 1 (stateBody s id rep st first last) s

/-- An item of path 0 applied; the flag tells that it was taken (R403, R404, R428). -/
def recItem (x : EgItem) (s : State) : State × Bool :=
  if flag s REC_STAT_FROZEN then (bump s REC_CNT_FROZDISC, true)
  else match x with
    | .state id st first last n _ => recState id n st first last s
    | .hist k b => (recHist (k % 4096) (b % 32) s, true)
    | .extreme k v t => (recExtr (k % 4096) v t s, true)
    | .flood f => recAppend 4 (floodBody f) s
    | _ => (s, true)

/-- STORE takes the item at the head of path 0, if it is of a kind, unless it has to wait for room (R403). -/
def recorderTake (want : EgItem → Bool) (s : State) : State :=
  if islUp s 12 && flag s STORE_STAT_READY then
    match egTake 0 s with
    | (some x, _) =>
      if want x.item then
        let p := recItem x.item (rouse 12 s)
        if p.2 then (egTake 0 p.1).2 else p.1
      else s
    | (none, _) => s
  else s

/-! ### Series and closes (R405, R407, R408) -/

/-- A period of a series opens now (R405, R408). -/
def openHist (k period flags : Nat) (s : State) : State :=
  let t := storeNow s
  setHist k { period := period % 2 ^ 32, gen := genUp (liveHist s k).gen, flags := flags, opened := t, openCal := calOf s t } s

def openExtr (k period flags : Nat) (s : State) : State :=
  setExtr k { period := period % 2 ^ 32, gen := genUp (liveExtr s k).gen, flags := flags } s

/-- A close that is copying. -/
def closeJob (s : State) (n : Nat) : CloseJob := tabGet (fun _ => {}) s.store.closing n

/-- A close's work replaced; with none left it is complete (R408). -/
def setCloseJob (n : Nat) (j : CloseJob) (s : State) : State :=
  let bit : Fld := ⟨REC_STAT, 29 - n, 29 - n⟩
  if j.todo.isEmpty then
    setF (clrF (setStore { s.store with closing := tabSet (fun _ => {}) s.store.closing n {} } s) bit) STORE_EVT_CLOSED
  else setF (setStore { s.store with closing := tabSet (fun _ => {}) s.store.closing n j } s) bit

/-- A series leaves the closes under way: its open period was discarded. -/
def dropFromClose (x : Bool) (k n : Nat) (s : State) : State :=
  let j := closeJob s n
  if j.todo.contains (x, k) then setCloseJob n { j with todo := j.todo.erase (x, k) } s else s

/-- A write to REC_HDESCk or REC_XDESCk: EN set opens a PARTIAL period, EN cleared discards the open one, and a change of CLK changes the live
entry (R405, R414). -/
def descWrite (x : Bool) (k : Nat) (v : Word) (s : State) : State :=
  let a := if x then REC_XDESC k else REC_HDESC k
  let was := getBit s ⟨a, 31, 0⟩ 31
  let now := wget v 31 31 == 1
  let moved := wget (rd s a) 29 28 % 3 != wget v 29 28 % 3
  let s := codeWrite a v s
  if now && !was then (if x then openExtr k 0 1 s else openHist k 0 1 s)
  else if was && !now then
    let s := dropFromClose x k 1 (dropFromClose x k 0 s)
    if x then setExtr k { gen := genUp (liveExtr s k).gen } s else setHist k { gen := genUp (liveHist s k).gen } s
  else if now && moved then
    if x then setExtr k { liveExtr s k with gen := genUp (liveExtr s k).gen } s
    else setHist k { liveHist s k with gen := genUp (liveHist s k).gen } s
  else s

/-- The series that a clock closes, histograms before extremes, in rising number (R405, R408). -/
def clockSeries (s : State) (n : Nat) : List (Bool × Nat) :=
  let of := fun (x : Bool) (base : Nat) => (s.regs.filter (fun e => decide (base ≤ e.1) && decide (e.1 < base + 0x4000)
    && e.2.toNat.testBit 31 && wget e.2 29 28 == n + 1)).map (fun e => (x, (e.1 - base) / 4))
  of false (REC_HDESC 0) ++ of true (REC_XDESC 0)

/-- A clock closes its series (R407, R408); a close under way takes the new one in. -/
def closeClock (n : Nat) (skip : Bool) (s : State) : State :=
  if flag s REC_STAT_FROZEN then s
  else
    let j := closeJob s n
    if j.todo.isEmpty then setCloseJob n ⟨clockSeries s n, skip⟩ s else setCloseJob n { j with skip := true } s

/-- REC_CMD.CLOSEn; a crossing that waits to be closed makes no second close (R407, R427). -/
def closeNow (n : Nat) (s : State) : State :=
  closeClock n (tabGet (fun _ => {}) s.store.due n).skip (setStore { s.store with due := tabSet (fun _ => {}) s.store.due n {} } s)

/-- The copy of one series: its record, and its next period (R408). Without room it waits. -/
def copySeries (n : Nat) (x : Bool) (k : Nat) (skip : Bool) (s : State) : State × Bool :=
  let t := storeNow s
  let fl := fun (f : Nat) => f ||| (if skip then 2 else 0)
  if x then
    let e := liveExtr s k
    let p := recAppend 3 (extrBody k e (fl e.flags) (n + 1) t) s
    if p.2 then (openExtr k (e.period + 1) 0 p.1, true) else p
  else
    let h := liveHist s k
    let p := recAppend 2 (histBody k h (fl h.flags) (n + 1) t (calOf s t)) s
    if p.2 then (openHist k (h.period + 1) 0 p.1, true) else p

def seriesCopy (n : Nat) (s : State) : State :=
  let j := closeJob s n
  match j.todo with
  | (x, k) :: l =>
    let p := copySeries n x k j.skip s
    if p.2 then setCloseJob n { j with todo := l } p.1 else p.1
  | [] => s

/-! ### The calendar (R412, R413) -/

/-- REC_CMD.CALLOAD (R412). -/
def calLoad (s : State) : State :=
  let c := (rd s REC_CALCNTLO).toNat + fget s REC_CALCNTHI_COUNT * 2 ^ 32
  let now := (shadow s 12).toNat
  if now < c ∨ c + 64 * 32768 < now then setF s STORE_EVT_CALERR
  else
    let cal := calOfWords (rd s REC_CALTIME) (rd s REC_CALDATE)
    let s := setStore { s.store with cal := cal, secs := [(c / 32768, cal)] } s
    let s := storeSeconds (now / 32768 - c / 32768) (now / 32768) s
    owe 2 (setF s REC_STAT_CALV)

/-! ### The window (R415, R416) -/

/-- The records of a programmed page, by their bytes. -/
def parsePage : Nat → List Byte → List (List Byte)
  | 0, _ => []
  | n + 1, l =>
    let sz := 16 * (l.getD 1 0).toNat
    if (l.headD 0).toNat % 16 = 0 ∨ sz = 0 then [] else l.take sz :: parsePage n (l.drop sz)

/-- SEQ of a record's bytes. -/
def seqOf (l : List Byte) : Nat := wordOfBytes ((l.drop 4).take 4)

/-- The records of one physical page in the recorder partition. -/
def pageRecs (e : Nat × NandPage) : List (List Byte) := parsePage 128 e.2.data

/-- Is a page of the recorder partition (R418)? -/
def inRecorder (page : Nat) : Bool := decide (128 ≤ page / 32) && decide (page / 32 ≤ 1663)

/-- The page and the bytes of a record on NAND. -/
def nandRec (s : State) (seq : Nat) : Option (Nat × List Byte) :=
  s.nand.pages.findSome? (fun e => if inRecorder e.1 then
    ((pageRecs e).find? (fun r => seqOf r == seq)).map (fun r => (e.1, r)) else none)

/-- A record of the page queue. -/
def queuedRec (s : State) (seq : Nat) : Option LogRec :=
  ((s.store.pages ++ s.store.openPg.toList).flatMap (·.recs)).find? (fun r => r.seq == seq)

/-- The bytes of the record at the cursor as they stand (R415). -/
def windowBytes (s : State) : List Byte :=
  match s.store.cursor with
  | some c =>
    if c.status = some 0 then
      match c.space with
      | 1 => if flag s (REC_HDESC_EN c.idx) then
          let h := liveHist s c.idx
          recBytes 2 h.gen 0 (histBody c.idx h h.flags (fget s (REC_HDESC_CLK c.idx) % 3) 0 0) else []
      | 2 => if flag s (REC_XDESC_EN c.idx) then
          let x := liveExtr s c.idx
          recBytes 3 x.gen 0 (extrBody c.idx x x.flags (fget s (REC_XDESC_CLK c.idx) % 3) 0) else []
      | _ => match queuedRec s c.idx with
        | some r => r.bytes
        | none => if c.copy.isEmpty then ((nandRec s c.idx).map (·.2)).getD [] else c.copy
    else []
  | none => []

/-- A word of REC_WIN (R415). -/
def windowWord (s : State) (k : Nat) : Word := BitVec.ofNat 32 (wordOfBytes (((windowBytes s).drop (4 * k)).take 4))

/-- A load of the cursor starts (R415). -/
def startLoad (s : State) : State :=
  let sp := fget s REC_CURSOR_SPACE % 3
  setF (setStore { s.store with cursor := some { space := sp, idx := fget s REC_CURIDX_IDX } } s) REC_CURSTAT_BUSY

/-- A write to REC_CURIDX (R415). -/
def curidxWrite (v : Word) (s : State) : State := startLoad (fset s REC_CURIDX_IDX v.toNat)

/-- REC_CMD.NEXT (R415). -/
def cursorNext (s : State) : State := startLoad (fset s REC_CURIDX_IDX (fget s REC_CURIDX_IDX + 1))

/-- The outcome of a load that needs no NAND read, or whose read has ended; `none` while it needs one (R415). -/
def loadStatus (s : State) (c : CurLoad) : Option Nat :=
  match c.space with
  | 1 => some (if c.idx < 4096 ∧ flag s (REC_HDESC_EN c.idx) then 0 else 4)
  | 2 => some (if c.idx < 4096 ∧ flag s (REC_XDESC_EN c.idx) then 0 else 4)
  | _ =>
    if fget s REC_HEAD_SEQ = 0 ∨ fget s REC_HEAD_SEQ < c.idx then some 2
    else if c.idx < fget s REC_TAIL_SEQ then some 1
    else if (queuedRec s c.idx).isSome then some 0
    else match c.read with
      | some bad => some (if bad then 3 else 0)
      | none => if (nandRec s c.idx).isSome then none else some 3

/-- The load completes: STATUS, BUSY clear, and held reads answered (R415). -/
def loadComplete (s : State) : State :=
  match s.store.cursor with
  | some c =>
    if flag s REC_CURSTAT_BUSY then
      match loadStatus s c with
      | some st =>
        let s := clrF (fset s REC_CURSTAT_STATUS st) REC_CURSTAT_BUSY
        let s := setStore { s.store with cursor := some { c with status := some st } } s
        let s := forL s.store.held (fun h s => setReply h.1 ⟨windowWord s h.2, none⟩ s) s
        setStore { s.store with held := [] } s
      | none => s
    else s
  | none => s

/-- A read of REC_WIN: held while BUSY is set (R415). -/
def winRead (i : Initiator) (k : Nat) (s : State) : State :=
  if (if i = .host then true else decide (dbgLevel s ≥ 1)) then
    match accError s (0x20800800 + 4 * k) with
    | some e => busError i e (0x20800800 + 4 * k) s
    | none =>
      let s := rouse 12 s
      if flag s REC_CURSTAT_BUSY then setStore { s.store with held := s.store.held ++ [(i, k)] } s
      else setReply i ⟨windowWord s k, none⟩ s
  else s

/-! ### REC_CMD (R407, R412, R415, R424) -/

/-- A write to REC_CMD: each bit is performed at once, in rising order. -/
def recCmdWrite (v : Word) (s : State) : State :=
  let s := onlyIf (wget v 0 0 == 1) (closeNow 0) s
  let s := onlyIf (wget v 1 1 == 1) (closeNow 1) s
  let s := onlyIf (wget v 2 2 == 1) calLoad s
  let s := onlyIf (wget v 3 3 == 1) completePage s
  onlyIf (wget v 4 4 == 1) cursorNext s

/-! ### The NAND (R418 to R425) -/

/-- First block and number of blocks of a partition (R418). -/
def partition : Nat → Option (Nat × Nat)
  | 0 => some (0, 128)
  | 1 => some (128, 1536)
  | 2 => some (1664, 384)
  | _ => none

/-- A host command ends with a code (R422, R431). -/
def nandEnd (code : Nat) (s : State) : State :=
  let s := wr (clrF s STORE_NCMD_BUSY) STORE_NRES (BitVec.ofNat 32 (0x80000000 + code))
  setF (onlyIf (decide (code ≥ 2)) (setF · STORE_EVT_NFAIL) s) STORE_EVT_NDONE

/-- The page buffer as a page. -/
def bufPage (s : State) : NandPage :=
  ⟨bytesAt s.store.buf 0 4096, bytesAt s.store.buf 4096 16⟩

/-- A command of STORE_NCMD (R422, R425, R531): refused, or waiting for its grant. -/
def nandCommand (op part : Nat) (s : State) : State :=
  if flag s STORE_NCMD_BUSY then s
  else
    let blk := fget s STORE_NADDR_BLOCK
    let pg := fget s STORE_NADDR_PAGE
    let custody := s.life.state == .custody
    match partition part with
    | none => nandEnd 4 s
    | some (base, n) =>
      let b := base + blk
      let change := op != 1
      if blk ≥ n ∨ b = 126 ∨ b = 127 ∨ (change && (part == 1 || custody || (part == 0 && !flag s STORE_CTL_BOOTWE))) then nandEnd 4 s
      else if !blockGood s b then nandEnd 3 s
      else if change && flag s STORE_STAT_SUSP then nandEnd 5 s
      else
        let o : NandOp := if op = 1 then .hostRead (32 * b + pg) else if op = 2 then .hostProgram (32 * b + pg) (bufPage s)
          else .hostErase b
        setF (clrF (setStore { s.store with hostReq := some o } s) STORE_NRES_VALID) STORE_NCMD_BUSY

/-- A write to STORE_NCMD. -/
def ncmdWrite (v : Word) (s : State) : State :=
  let s := fset s STORE_NCMD_PART (wget v 5 4)
  let op := wget v 3 0
  if 1 ≤ op ∧ op ≤ 3 then nandCommand op (wget v 5 4) s else s

/-- The next good block after one in the recorder partition, round (R421). -/
def nextGood (s : State) : Nat → Nat → Nat
  | 0, b => b
  | n + 1, b =>
    let c := if b ≥ 1663 then 128 else b + 1
    if blockGood s c then c else nextGood s n c

/-- The page that the log is written to next, if it is erased (R421). -/
def headPage (s : State) : Option Nat :=
  if s.store.hpg < 32 ∧ blockGood s s.store.hblk then some (32 * s.store.hblk + s.store.hpg)
  else
    let b := nextGood s 1536 s.store.hblk
    if blockErased s b then some (32 * b) else none

/-- The block to be erased ahead of the log, if fewer than two are (R421). -/
def eraseWanted (s : State) : Option Nat :=
  let b1 := nextGood s 1536 s.store.hblk
  let b2 := nextGood s 1536 b1
  if b1 = s.store.hblk then none
  else if !blockErased s b1 then some b1
  else if b2 ≠ s.store.hblk && !blockErased s b2 then some b2
  else none

/-- The operation that waits at a level (R423): no program and no erase while programming is suspended, no erase before the pages that were queued
at its end, unless no erased page is left (R425), and no erase by a frozen recorder (R428). -/
def nandWaiting (s : State) (lvl : Nat) : Option NandOp :=
  let susp := flag s STORE_STAT_SUSP
  match lvl with
  | 0 => match s.store.cursor with
    | some c => if flag s REC_CURSTAT_BUSY && (loadStatus s c).isNone then (nandRec s c.idx).map (fun r => .window r.1) else none
    | none => none
  | 1 => s.store.hostReq
  | 2 => if susp || !flag s STORE_STAT_READY || s.store.pages.isEmpty then none else (headPage s).map .program
  | 3 => if susp || !flag s STORE_STAT_READY || flag s REC_STAT_FROZEN || (decide (s.store.drain ≠ 0) && (headPage s).isSome) then none
    else (eraseWanted s).map .erase
  | _ => none

/-- The age of the operation that waits at a level. -/
def nandAge (s : State) (lvl : Nat) : Nat := tabGet (fun _ => 0) s.store.ages lvl

/-- A level's key for the grant: effective level, then age (R32, R33). -/
def nandKey (s : State) (lvl : Nat) : Nat :=
  let a := nandAge s lvl
  (if a ≥ 65535 then lvl - 1 else lvl) * 65536 + (65535 - min a 65535)

/-- The level granted next (R32). -/
def nandPick (s : State) : Option Nat :=
  ((List.range 4).filter (fun l => (nandWaiting s l).isSome)).foldl (fun m l => match m with
    | some x => if nandKey s l < nandKey s x then some l else m
    | none => some l) none

/-- The highest SEQ among the records of a block. -/
def blockTop (s : State) (b : Nat) : Nat :=
  s.nand.pages.foldl (fun n e => if e.1 / 32 = b then (pageRecs e).foldl (fun n r => max n (seqOf r)) n else n) 0

/-- REC_TAIL moves past the records of a block that is being erased (R421, R427). -/
def passTail (b : Nat) (s : State) : State :=
  let t := blockTop s b
  if t ≥ fget s REC_TAIL_SEQ ∧ t ≠ 0 then fset s REC_TAIL_SEQ (t + 1) else s

/-- A waiting operation is granted and begins (R423). -/
def nandGrant (s : State) : State :=
  match s.store.op, nandPick s with
  | none, some l =>
    let o := nandWaiting s l
    let s := setStore { s.store with op := o, ages := tabSet (fun _ => 0) s.store.ages l 0,
                                     hostReq := if l = 1 then none else s.store.hostReq } s
    match o with
    | some (.erase b) => passTail b s
    | _ => s
  | _, _ => s

/-- Bits to correct, sector by sector. -/
def EccBits.list (e : EccBits) : List Nat := [e.s0, e.s1, e.s2, e.s3]

/-- Is a read uncorrectable (R419)? -/
def EccBits.bad (e : EccBits) : Bool := e.list.any (fun n => decide (n > 24))

/-- Bits corrected in a sector; an uncorrectable one has none. -/
def eccFixed (n : Nat) : Nat := if n ≤ 24 then n else 0

/-- The most bits corrected in one sector. -/
def EccBits.top (e : EccBits) : Nat := e.list.foldl (fun m n => max m (eccFixed n)) 0

/-- A read's sectors are counted (R419). -/
def eccCount (e : EccBits) (s : State) : State :=
  let s := forL e.list (fun n s => if n > 24 then bump s STORE_ECCCNT_UNCOR
    else if n ≥ 1 then bump s STORE_ECCCNT_CORR else s) s
  onlyIf (decide (e.top ≥ 16)) (setF · STORE_EVT_ECCHI) s

/-- The page buffer replaced. -/
def putBuf (p : NandPage) (s : State) : State :=
  setStore { s.store with buf := putBytes [] 0 (p.data ++ p.spare) } s

/-- A host READ ends (R419, R422). -/
def hostReadEnd (page : Nat) (e : EccBits) (s : State) : State :=
  match tabFind s.nand.pages page with
  | none =>
    let s := putBuf ⟨List.replicate 4096 0xFF, List.replicate 16 0xFF⟩ s
    setF (nandEnd 0 s) STORE_NRES_ERASED
  | some p =>
    let s := eccCount e s
    let s := if e.bad then putBuf (lostPage s.nand.cuts page) (setNand { s.nand with cuts := s.nand.cuts + 1 } s) else putBuf p s
    fset (nandEnd (if e.bad then 2 else if e.list.any (· ≥ 1) then 1 else 0) s) STORE_NRES_MAXBITS e.top

/-- The bytes of a queued page as it is programmed: its records, padding, and its first SEQ in the metadata (R414, R422). -/
def QPage.image (p : QPage) : NandPage :=
  let d := p.recs.flatMap LogRec.bytes
  ⟨d ++ List.replicate (4096 - d.length) 0,
   bytesOf 4 ((p.recs.head?.map (·.seq)).getD 0) ++ (List.range 12).map (fun i => Config.recMeta (4 + i))⟩

/-- A recorder program ends: the page leaves the queue, or its block is retired and the page is written to the next good block
(R420, R421). -/
def recordEnd (page : Nat) (fail : Bool) (s : State) : State :=
  let b := page / 32
  let s := onlyIf (decide (b < s.store.hblk)) (bump · STORE_WEAR_LAPS) s
  let s := setStore { s.store with hblk := b, hpg := page % 32 + 1 } s
  if fail then retireBlock b s
  else match s.store.pages with
    | p :: l =>
      let s := nandPut page p.image (setStore { s.store with pages := l, drain := s.store.drain - 1 } s)
      storeFlags (payMarks 8 (storeFlags s))
    | [] => s

/-- The operation in progress completes (R419 to R423). -/
def nandComplete (fail : Bool) (e : EccBits) (s : State) : State :=
  let o := s.store.op
  let s := setStore { s.store with op := none } s
  match o with
  | some (.window page) =>
    let s := eccCount e s
    match s.store.cursor with
    | some c =>
      if flag s REC_CURSTAT_BUSY ∧ (nandRec s c.idx).map (·.1) = some page then
        setStore { s.store with cursor := some { c with read := some e.bad, copy := ((nandRec s c.idx).map (·.2)).getD [] } } s
      else s
    | none => s
  | some (.hostRead page) => hostReadEnd page e s
  | some (.hostProgram page p) =>
    if fail then nandEnd 6 (retireBlock (page / 32) s)
    else nandEnd 0 (match tabFind s.nand.pages page with
      | none => nandPut page p s
      | some _ => nandLose page s)
  | some (.hostErase b) => if fail then nandEnd 6 (retireBlock b s) else nandEnd 0 (nandErase b s)
  | some (.program page) => recordEnd page fail s
  | some (.erase b) => if fail then retireBlock b s else setF (nandErase b s) STORE_EVT_WRAP
  | none => s

/-- The NAND sensor reads above 125 °C: no program or erase is issued (R60, R425). -/
def nandSuspend (t : BitVec 12) (s : State) : State :=
  let s := fset s STORE_STAT_NTEMP t.toNat
  if t.toInt > 500 ∧ flag s STORE_STAT_SUSP = false then
    let s := setF (setF s STORE_STAT_SUSP) STORE_EVT_SUSP
    match s.store.hostReq with
    | some (.hostProgram _ _) => nandEnd 5 (setStore { s.store with hostReq := none } s)
    | some (.hostErase _) => nandEnd 5 (setStore { s.store with hostReq := none } s)
    | _ => s
  else s

/-- The NAND sensor falls below 120 °C (R60, R425). -/
def nandResume (t : BitVec 12) (s : State) : State :=
  let s := fset s STORE_STAT_NTEMP t.toNat
  if t.toInt < 480 ∧ flag s STORE_STAT_SUSP then
    setStore { s.store with drain := s.store.pages.length } (setF (clrF s STORE_STAT_SUSP) STORE_EVT_RESUME)
  else s

/-! ### Start and freezing (R411, R428, R430, R531) -/

/-- SEQ, place and the oldest SEQ found in the log, as (highest SEQ, its page, lowest SEQ). -/
def logScan (s : State) : Option (Nat × Nat × Nat) :=
  s.nand.pages.foldl (fun m e => if inRecorder e.1 then
    (pageRecs e).foldl (fun m r =>
      let q := seqOf r
      match m with
      | some (hi, pg, lo) => some (if q ≥ hi then (q, e.1, min lo q) else (hi, pg, min lo q))
      | none => some (q, e.1, q)) m else m) none

/-- STORE locates the log head, sets READY and marks its start (R411, R430). -/
def logLocated (s : State) : State :=
  if islUp s 12 && !flag s STORE_STAT_READY then
    let s := match logScan s with
      | some (hi, pg, lo) =>
        fset (fset (setStore { s.store with hblk := pg / 32, hpg := pg % 32 + 1, seq := (hi + 1) % 2 ^ 32 } s) REC_HEAD_SEQ hi)
          REC_TAIL_SEQ lo
      | none => setStore { s.store with hblk := if blockGood s 128 then 128 else nextGood s 1536 128, hpg := 0, seq := 1 } s
    owe 1 (setF s STORE_STAT_READY)
  else s

/-- The recorder is frozen (R427, R428). -/
def recorderFreeze (s : State) : State :=
  let s := setStore { s.store with closing := [], due := [] } (clrF (clrF s REC_STAT_CLOSING0) REC_STAT_CLOSING1)
  owe 3 (setF s REC_STAT_FROZEN)

/-! ### The commands -/

def inStore (f : State → State) (s : State) : Host.Outcome State Fault Refusal :=
  .next (if islUp s 12 then f (rouse 12 s) else s)

def execRecorderStateChange (s : State) : Host.Outcome State Fault Refusal :=
  .next (recorderTake (fun x => match x with
    | .state _ _ _ _ _ _ => true
    | _ => false) s)

def execRecorderHistIncrement (s : State) : Host.Outcome State Fault Refusal :=
  .next (recorderTake (fun x => match x with
    | .hist _ _ => true
    | _ => false) s)

def execRecorderExtremeOffer (s : State) : Host.Outcome State Fault Refusal :=
  .next (recorderTake (fun x => match x with
    | .extreme _ _ _ => true
    | _ => false) s)

def execRecorderFlood (s : State) : Host.Outcome State Fault Refusal :=
  .next (recorderTake (fun x => match x with
    | .flood _ => true
    | _ => false) s)

def execSeriesEnable (i : Initiator) (x : Bool) (k : Fin 4096) (v : Word) (s : State) : Host.Outcome State Fault Refusal :=
  .next (access i (if x then REC_XDESC k.val else REC_HDESC k.val) (descWrite x k.val (v ||| 0x80000000)) s)

def execSeriesDisable (i : Initiator) (x : Bool) (k : Fin 4096) (v : Word) (s : State) : Host.Outcome State Fault Refusal :=
  .next (access i (if x then REC_XDESC k.val else REC_HDESC k.val) (descWrite x k.val (v &&& 0x7FFFFFFF)) s)

/-- A crossed multiple closes the clock's series (R407). -/
def execPeriodClose (n : Fin 2) (s : State) : Host.Outcome State Fault Refusal :=
  inStore (fun s =>
    let d := tabGet (fun _ => {}) s.store.due n.val
    if d.due then
      closeClock n.val d.skip (setStore { s.store with due := tabSet (fun _ => {}) s.store.due n.val {} } s)
    else s) s

def execRecClose (i : Initiator) (n : Fin 2) (s : State) : Host.Outcome State Fault Refusal :=
  .next (access i REC_CMD (recCmdWrite (BitVec.ofNat 32 (1 + n.val))) s)

def execSeriesCopy (n : Fin 2) (s : State) : Host.Outcome State Fault Refusal := inStore (seriesCopy n.val) s

def execCalload (i : Initiator) (s : State) : Host.Outcome State Fault Refusal := .next (access i REC_CMD (recCmdWrite 4) s)

def execCursorLoad (i : Initiator) (v : Word) (s : State) : Host.Outcome State Fault Refusal :=
  .next (access i REC_CURIDX (curidxWrite v) s)

def execRecNext (i : Initiator) (s : State) : Host.Outcome State Fault Refusal := .next (access i REC_CMD (recCmdWrite 16) s)

def execCursorLoadComplete (s : State) : Host.Outcome State Fault Refusal := inStore loadComplete s

def execRecWindowRead (i : Initiator) (k : Fin 64) (s : State) : Host.Outcome State Fault Refusal := .next (winRead i k.val s)

def execRecFlush (i : Initiator) (s : State) : Host.Outcome State Fault Refusal := .next (access i REC_CMD (recCmdWrite 8) s)

/-- FLUSHT × 1,024 tick periods have passed since the open page's first record (R424, R425). -/
def execFlushTimeout (s : State) : Host.Outcome State Fault Refusal :=
  inStore (fun s => match s.store.openPg with
    | some p => if edges s 12 ≥ p.since + 1024 * fget s REC_CFG_FLUSHT ∧ flag s STORE_STAT_SUSP = false then completePage s else s
    | none => s) s

def execNandOperationGrant (s : State) : Host.Outcome State Fault Refusal := inStore nandGrant s

def execNandOperationComplete (fail : Bool) (ecc : EccBits) (s : State) : Host.Outcome State Fault Refusal :=
  inStore (nandComplete fail ecc) s

/-- A write of STORE_NCMD that starts an operation of a partition. -/
def ncmdRow (i : Initiator) (part op : Nat) (s : State) : Host.Outcome State Fault Refusal :=
  .next (access i STORE_NCMD (ncmdWrite (BitVec.ofNat 32 (16 * part + op))) s)

def execNandRead (i : Initiator) (part : Fin 4) (s : State) : Host.Outcome State Fault Refusal := ncmdRow i part.val 1 s
def execNandProgram (i : Initiator) (part : Fin 4) (s : State) : Host.Outcome State Fault Refusal := ncmdRow i part.val 2 s
def execNandErase (i : Initiator) (part : Fin 4) (s : State) : Host.Outcome State Fault Refusal := ncmdRow i part.val 3 s

def execStoreLogLocated (s : State) : Host.Outcome State Fault Refusal := .next (logLocated s)

def execNandProgramSuspend (t : BitVec 12) (s : State) : Host.Outcome State Fault Refusal := inStore (nandSuspend t) s
def execNandProgramResume (t : BitVec 12) (s : State) : Host.Outcome State Fault Refusal := inStore (nandResume t) s

end Sys2Proof.Machine
end

