-- ==== Sys2Proof/Machine/Life.lean ====
section
/-! DEFINITION. Lifecycle, secure boot, custody and recovery (R527 to R536). -/

namespace Sys2Proof.Machine

def setLife (x : LifeSt) (s : State) : State := { s with life := x }

/-! ### Fuses as they read (R535) -/

def lifeNo : Lifecycle → Nat
  | .blank => 0 | .develop => 1 | .field => 2 | .custody => 3

/-- Is slot `n` programmed; is it revoked? -/
def slotProg (s : State) (n : Nat) : Bool := tabGet (fun _ => false) s.life.prog n
def slotRevoked (s : State) (n : Nat) : Bool := tabGet (fun _ => false) s.life.revoked n

/-- A number whose bit `n` is `f n`, for the bits below `k`. -/
def bitsOf (k : Nat) (f : Nat → Bool) : Nat := ((List.range k).map (fun n => (f n).toNat * 2 ^ n)).sum

/-- LIFE_STAT as it reads. -/
def lifeStat (s : State) : Word :=
  w32 (s.life.cmd.isSome.toNat * 2 ^ 31 + s.life.lcount % 16 * 65536 + s.life.minver % 256 * 256 + fget s LIFE_STAT_BOOTED * 16
    + lifeNo s.life.state)

/-- LIFE_KEYSTAT as it reads. -/
def lifeKeyStat (s : State) : Word := w32 (bitsOf 4 (slotRevoked s) * 256 + bitsOf 4 (slotProg s))

/-- Word `i` of the customer key store. -/
def cksWord (s : State) (i : Nat) : Word := tabGet (fun _ => 0) s.life.cks i

/-! ### Commands (R530, R531) -/

/-- The eight staged words. -/
def keyData (s : State) : List Word := (List.range 8).map (fun i => rd s (LIFE_KEYDATA i))

/-- The command that OP and ARG give, if it is accepted in the current state and its condition holds (R530). -/
def lifeAccepted (op arg : Nat) (s : State) : Option LifeCmd :=
  let st := s.life.state
  match op with
  | 1 => if (st = .blank ∨ st = .develop) ∧ arg < 4 ∧ slotProg s arg = false ∧ tabGet (fun _ => false) s.life.dead arg = false then
      some (.keyprog arg (keyData s)) else none
  | 2 => if (st = .develop ∨ st = .field) ∧ arg < 4 ∧ (List.range 4).any (fun n => n != arg && slotProg s n && !slotRevoked s n) then
      some (.keyrevoke arg) else none
  | 3 => if (st = .blank ∧ (List.range 4).any (slotProg s)) ∨ st = .develop then some .advance else none
  | 4 => if st = .field ∧ arg > s.life.minver then some (.minver arg) else none
  | 5 => if st ≠ .custody ∧ arg < 2 ∧ tabGet (fun _ => false) s.life.ksProg arg = false
        ∧ tabGet (fun _ => false) s.life.ksDead arg = false then some (.ksprog arg (keyData s)) else none
  | 6 => if (st = .develop ∨ st = .field) ∧ flag s STORE_STAT_SUSP = false then some (.custody (arg.testBit 0)) else none
  | _ => none

/-- A command of LIFE_CMD (R530); CUSTODY lets STORE queue its open page at once (R531). -/
def lifeCommand (op arg : Nat) (s : State) : State :=
  match s.life.cmd, lifeAccepted op arg s with
  | none, some c =>
    let s := setLife { s.life with cmd := some c } s
    match c with
    | .custody _ => onlyIf (islUp s 12) (fun s => completePage (rouse 12 s)) s
    | _ => s
  | _, _ => setF s LIFE_EVT_REFUSED

/-- A write to LIFE_CMD: only by the host and with KEY (R530). -/
def lifeCmdWrite (i : Initiator) (v : Word) (s : State) : State :=
  if i = .host ∧ wget v 31 16 = 0xC7D2 then lifeCommand (wget v 3 0) (wget v 15 8) s else s

/-- The state that ADVANCE reaches (R530). -/
def nextLife : Lifecycle → Lifecycle
  | .blank => .develop
  | .custody => .custody
  | _ => .field

/-- ZEROISE (R531): every bit of the customer key store is programmed to 1 and every slot is revoked. -/
def zeroise (x : LifeSt) : LifeSt :=
  { x with cks := (List.range 16).map (fun i => (i, 0xFFFFFFFF)), revoked := (List.range 4).map (fun n => (n, true)) }

/-- What the fuses hold once a command's rows are programmed (R530, R531). A fuse that is programmed stays so, whatever is commanded. -/
def lifeEffect (c : LifeCmd) (x : LifeSt) : LifeSt :=
  match c with
  | .keyprog n k => if tabGet (fun _ => false) x.prog n then x
    else { x with prog := tabSet (fun _ => false) x.prog n true, keys := tabSet (fun _ => []) x.keys n k }
  | .keyrevoke n => { x with revoked := tabSet (fun _ => false) x.revoked n true }
  | .advance => { x with state := nextLife x.state }
  | .minver v => { x with minver := max x.minver v }
  | .ksprog h w => { x with ksProg := tabSet (fun _ => false) x.ksProg h true,
                            cks := (List.range 8).foldl (fun t i => tabSet (fun _ => 0) t (8 * h + i) (w.getD i 0)) x.cks }
  | .custody z => let y := { x with state := .custody }
                  if z then zeroise y else y

/-- A fuse row fails: the slot or the half is unusable (R530). -/
def lifeFailed (c : LifeCmd) (x : LifeSt) : LifeSt :=
  match c with
  | .keyprog n _ => { x with dead := tabSet (fun _ => false) x.dead n true }
  | .keyrevoke n => { x with dead := tabSet (fun _ => false) x.dead n true }
  | .ksprog h _ => { x with ksDead := tabSet (fun _ => false) x.ksDead h true }
  | _ => x

/-- Has STORE programmed the page queue, so that CUSTODY can go on (R531)? -/
def custodyReady (s : State) : Bool := islUp s 12 && flag s STORE_STAT_READY && s.store.pages.isEmpty

/-- A lifecycle command completes (R530, R531). CUSTODY freezes the recorder first. -/
def lifeComplete (ok : Bool) (s : State) : State :=
  match s.life.cmd with
  | none => s
  | some c =>
    let end_ := fun (s : State) =>
      if ok then setF (setLife (lifeEffect c { s.life with cmd := none }) s) LIFE_EVT_DONE
      else setF (setLife (lifeFailed c { s.life with cmd := none }) s) LIFE_EVT_FAIL
    match c with
    | .custody _ => if custodyReady s then end_ (recorderFreeze (rouse 12 s)) else s
    | _ => end_ s

/-- A write of LIFE_CMD with KEY. -/
def lifeRow (i : Initiator) (op : Nat) (arg : BitVec 8) (s : State) : Host.Outcome State Fault Refusal :=
  .next (access i LIFE_CMD (lifeCmdWrite i (w32 (0xC7D20000 + arg.toNat * 256 + op))) s)

def execKeyprog (i : Initiator) (arg : BitVec 8) (s : State) : Host.Outcome State Fault Refusal := lifeRow i 1 arg s
def execKeyrevoke (i : Initiator) (arg : BitVec 8) (s : State) : Host.Outcome State Fault Refusal := lifeRow i 2 arg s
def execAdvance (i : Initiator) (s : State) : Host.Outcome State Fault Refusal := lifeRow i 3 0 s
def execMinver (i : Initiator) (arg : BitVec 8) (s : State) : Host.Outcome State Fault Refusal := lifeRow i 4 arg s
def execKsprog (i : Initiator) (arg : BitVec 8) (s : State) : Host.Outcome State Fault Refusal := lifeRow i 5 arg s
def execCustody (i : Initiator) (arg : BitVec 8) (s : State) : Host.Outcome State Fault Refusal := lifeRow i 6 arg s

def execLifeCommandComplete (fuseOk : Bool) (s : State) : Host.Outcome State Fault Refusal := .next (lifeComplete fuseOk s)

/-! ### The customer key store (R536) -/

/-- What a read of LIFE_CKSi returns where it is performed (R536). -/
def cksRead (i : Initiator) (k : Nat) (s : State) : Word := if i = .host ∧ hostPriv s then cksWord s k else 0

/-- A read of LIFE_CKSi; a user-mode load that the protection unit does not permit is a protection fault. -/
def execCustomerKeyRead (i : Initiator) (k : Fin 16) (s : State) : Host.Outcome State Fault Refusal :=
  if i = .host ∧ mpuAllows s (LIFE_CKS k.val) 0 = false then .next (hostRaise 9 (w32 (LIFE_CKS k.val)) s)
  else .next (accessRead i (LIFE_CKS k.val) (fun s => (cksRead i k.val s, s)) s)

/-! ### Images (R529) -/

/-- The good blocks of an image copy, in rising order. -/
def copyBlocks (s : State) (c : Nat) : List Nat := ((List.range 62).map (fun i => 62 * c + i)).filter (blockGood s)

/-- The pages of a copy in order. -/
def copyPages (s : State) (c : Nat) : List Nat := (copyBlocks s c).flatMap (fun b => (List.range 32).map (fun i => 32 * b + i))

/-- The bytes of a page as a read gives them. -/
def pageBytes (s : State) (page : Nat) : List Byte :=
  match tabFind s.nand.pages page with
  | some p => p.data
  | none => List.replicate 4096 0xFF

/-- `n` bytes of a copy after its header's page. -/
def copyBytes (s : State) (c n : Nat) : List Byte :=
  ((((copyPages s c).drop 1).take ((n + 4095) / 4096)).flatMap (pageBytes s)).take n

/-- The header of a copy. -/
def copyHeader (s : State) (c : Nat) : List Byte :=
  match copyPages s c with
  | p :: _ => (pageBytes s p).take 64
  | [] => []

/-- A 32-bit field of a header. -/
def hdrWord (h : List Byte) (o : Nat) : Nat := wordOfBytes ((h.drop o).take 4)

/-- The header's checks (R529). -/
def headerOk (s : State) (h : List Byte) : Bool :=
  let len := hdrWord h 8
  let entry := hdrWord h 12
  let slot := wordOfBytes ((h.drop 16).take 1)
  h.length == 64 && hdrWord h 0 == 0x34365843 && (s.life.state != .field || decide (s.life.minver ≤ hdrWord h 4))
    && decide (4 ≤ len) && decide (len ≤ 0x3C0000) && len % 4 == 0 && entry % 4 == 0 && decide (entry < len)
    && decide (slot < 4) && slotProg s slot && !slotRevoked s slot
    && !tabGet (fun _ => false) s.life.dead slot && (h.drop 17).all (· == 0)

/-- Is a copy valid (R529)? -/
def copyValid (s : State) (c : Nat) : Bool :=
  let h := copyHeader s c
  let n := hdrWord h 8
  let l := copyBytes s c (n + 64)
  headerOk s h && l.length == n + 64
    && Config.sigValid (tabGet (fun _ => []) s.life.keys (wordOfBytes ((h.drop 16).take 1))) h (l.take n) (l.drop n)

/-- Bytes stored in host SRAM. -/
def sramPut (boots : Nat) : Tab Byte → Nat → List Byte → Tab Byte
  | t, _, [] => t
  | t, o, b :: l => sramPut boots (tabSet (sramFill boots) t o b) (o + 1) l

/-- The boot ROM uses its working space. -/
def useScratch (s : State) : State :=
  { s with cpu := { s.cpu with boots := s.cpu.boots + 1, sram := tabClear (fun o => 0x3C0000 ≤ o) s.cpu.sram } }

/-- The boot ROM loads a valid copy and jumps to it (R67, R529). -/
def bootImage (c : Nat) (s : State) : State :=
  let h := copyHeader s c
  let img := copyBytes s c (hdrWord h 8)
  let s := { s with cpu := { s.cpu with sram := sramPut s.cpu.boots s.cpu.sram 0 img } }
  let s := fset (wr s LIFE_VERSION (w32 (hdrWord h 4))) LIFE_STAT_BOOTED (c + 1)
  jump .host (w32 (0x04000000 + hdrWord h 12)) (goWrite true s)

/-- The sectors that the boot ROM's reads of a copy had corrected or found uncorrectable are counted (R419). -/
def bootReads (c : Nat) (bad : Bool) (s : State) : State :=
  let f := fun k => Config.bootEcc s.cpu.boots c k
  let s := bumpBy (bumpBy s STORE_ECCCNT_CORR (f 0)) STORE_ECCCNT_UNCOR (if bad then f 1 + 1 else 0)
  onlyIf (decide (0 < f 0 ∧ f 2 % 2 = 1)) (setF · STORE_EVT_ECCHI) s

/-- The boot ROM's part (R67, R527, R529): in BLANK it verifies nothing; else copy 0, then copy 1; without a valid copy it sets
RECOVER. `bad0` and `bad1`: a read of the copy was uncorrectable. -/
def execBootImageVerify (bad0 bad1 : Bool) (s : State) : Host.Outcome State Fault Refusal :=
  if (power s 2 == .run || power s 2 == .idle) && islUp s 12 && (pcOf s .host).toNat < 0x10000 && !flag s SYS_STARTCTL_GO
      && !flag s SYS_STARTCTL_RECOVER then
    let s := rouse 12 (stir 2 s)
    if s.life.state = .blank then .next (recoverWrite true s)
    else
      let s := useScratch s
      let s := bootReads 0 bad0 s
      if !bad0 && copyValid s 0 then .next (bootImage 0 s)
      else
        let s := bootReads 1 bad1 s
        .next (if !bad1 && copyValid s 1 then bootImage 1 s else recoverWrite true s)
  else .next s

/-! ### Recovery (R533) -/

/-- A word of the mailbox. -/
def boxWord (s : State) (o : Nat) : Word := w32 (wordOfBytes (bytesAt s.links.mem (spiBox + o) 4))

def boxPut (o : Nat) (l : List Byte) (s : State) : State := setLinkMem (putBytes s.links.mem (spiBox + o) l) s

/-- The words of a list as bytes. -/
def wordBytes (l : List Word) : List Byte := l.flatMap (fun w => bytesOf 4 w.toNat)

/-- Argument `i` of the request. -/
def recArg (s : State) (op i : Nat) : Nat := Config.recArg op i (boxWord s 0x804) (boxWord s 0x808) (boxWord s 0x80C)

/-- Does the boot ROM serve requests (R533)? -/
def recServes (s : State) : Bool :=
  flag s SYS_STARTCTL_RECOVER && islUp s 11 && (power s 2 == .run || power s 2 == .idle) && (pcOf s .host).toNat < 0x10000

/-- A request's answer: SEQ, STATUS and data in the mailbox, and the alert (R533). -/
def recAnswer (seq status : Nat) (data : List Byte) (s : State) : State :=
  setF (boxPut 0x010 data (boxPut 0x000 (wordBytes [w32 (seq * 65536), w32 status]) s)) SPI_CTL_ALERT

/-- The boot ROM takes a request `op` if its SEQ is new, lets `f` give STATUS and data, and answers (R533). -/
def recTake (op : Nat) (ok : Lifecycle → Bool) (f : State → Nat × List Byte × State) (s : State) :
    Host.Outcome State Fault Refusal :=
  let w := boxWord s 0x800
  let seq := wget w 31 16
  if recServes s && wget w 7 0 == op && s.cpu.recSeq != some seq then
    let s := clrF { s with cpu := { s.cpu with recSeq := some seq } } SPI_CTL_ALERT
    if ok s.life.state then
      let r := f (rouse 11 s)
      .next (recAnswer seq r.1 r.2.1 r.2.2)
    else .next (recAnswer seq 1 [] s)
  else .next s

/-- A lifecycle command that the boot ROM gives and waits for, with its STATUS. -/
def recLife (op arg : Nat) (fuseOk : Bool) (s : State) : Nat × List Byte × State :=
  if s.life.cmd.isNone && (lifeAccepted op arg s).isSome then
    (if fuseOk then 0 else 1 + Config.recFailStatus % 3, [], lifeComplete fuseOk (lifeCommand op arg s))
  else (1, [], lifeCommand op arg s)

def recEarly (l : Lifecycle) : Bool := l == .blank || l == .develop

def execRecoveryStatus (s : State) : Host.Outcome State Fault Refusal :=
  recTake 0x01 (fun _ => true) (fun s =>
    (0, wordBytes [rd s SYS_DEVID, lifeStat s, lifeKeyStat s, rd s SYS_RSTCAUSE], s)) s

def execRecoveryKeyprog (fuseOk : Bool) (s : State) : Host.Outcome State Fault Refusal :=
  recTake 0x02 recEarly (fun s =>
    let n := recArg s 0x02 0
    if n ≥ 4 then (2, [], s)
    else recLife 1 n fuseOk (forN 8 (fun i s => wr s (LIFE_KEYDATA i) (boxWord s (0x810 + 4 * i))) s)) s

def execRecoveryAdvance (fuseOk : Bool) (s : State) : Host.Outcome State Fault Refusal :=
  recTake 0x03 recEarly (recLife 3 0 fuseOk) s

/-- Blocks erased one after the other, until one fails. -/
def eraseBlocks (l : List Nat) (fail : Option Nat) (s : State) : Nat × List Byte × State :=
  match fail with
  | none => (0, [], forL l nandErase s)
  | some k => match l[k]? with
    | some b => (3, [], retireBlock b (forL (l.take k) nandErase s))
    | none => (0, [], forL l nandErase s)

/-- May the boot ROM change the NAND now (R425)? -/
def recNand (s : State) : Bool := islUp s 12 && !flag s STORE_STAT_SUSP

def notCustody (l : Lifecycle) : Bool := l != .custody

/-- ERASECOPY (R533); `fail`: the number of the first good block of the copy whose erase fails. -/
def execErasecopy (fail : Option (Fin 62)) (s : State) : Host.Outcome State Fault Refusal :=
  recTake 0x04 notCustody (fun s =>
    let c := recArg s 0x04 0
    if c ≥ 2 then (2, [], s) else if !recNand s then (3, [], s) else eraseBlocks (copyBlocks s c) (fail.map Fin.val) (rouse 12 s)) s

/-- 1 KB put into a page at an offset, over what the boot ROM has just written there; a page programmed before is lost. -/
def writeSector (page off : Nat) (d : List Byte) (s : State) : State :=
  match tabFind s.nand.pages page with
  | none => nandPut page ⟨List.replicate off 0xFF ++ d ++ List.replicate (3072 - off) 0xFF, List.replicate 16 0xFF⟩ s
  | some p =>
    if (s.cpu.recPg.map Prod.fst) = some page then nandPut page { p with data := p.data.take off ++ d ++ p.data.drop (off + 1024) } s
    else nandLose page s

/-- WRITE (R533); `fail`: the program fails. -/
def execRecoveryWrite (fail : Bool) (s : State) : Host.Outcome State Fault Refusal :=
  recTake 0x05 notCustody (fun s =>
    let c := recArg s 0x05 0
    let o := recArg s 0x05 1
    match (copyPages s c)[o / 4096]? with
    | none => (2, [], s)
    | some page =>
      let rising := match s.cpu.recPg with
        | some (p, x) => p != page || decide (x < o % 4096)
        | none => true
      if c ≥ 2 ∨ o % 1024 ≠ 0 ∨ rising = false then (2, [], s)
      else if !recNand s then (3, [], s)
      else if fail then (3, [], retireBlock (page / 32) (rouse 12 s))
      else
        let s := writeSector page (o % 4096) (bytesAt s.links.mem (spiBox + 0x810) 1024) (rouse 12 s)
        (0, [], { s with cpu := { s.cpu with recPg := some (page, o % 4096) } })) s

/-- READ (R532, R533): one half of a page. -/
def execRecoveryRead (ecc : EccBits) (s : State) : Host.Outcome State Fault Refusal :=
  recTake 0x06 (fun _ => true) (fun s =>
    let b := recArg s 0x06 1
    let pg := recArg s 0x06 2
    let h := recArg s 0x06 3
    match partition (recArg s 0x06 0) with
    | none => (2, [], s)
    | some (base, n) =>
      if b ≥ n ∨ pg ≥ 32 ∨ h ≥ 2 then (2, [], s)
      else if base + b = 126 ∨ base + b = 127 then (1, [], s)
      else if !islUp s 12 || !blockGood s (base + b) then (3, [], s)
      else
        let page := 32 * (base + b) + pg
        let s := rouse 12 s
        match tabFind s.nand.pages page with
        | none => (0, List.replicate 2048 0xFF, s)
        | some p => if ecc.bad then (3, [], eccCount ecc s) else (0, (p.data.drop (2048 * h)).take 2048, eccCount ecc s)) s

/-- POLDER (R533): IDENT, PUBKEY or LOGREAD forwarded; `lost`: no answer comes. -/
def execRecoveryPolder (lost : Bool) (s : State) : Host.Outcome State Fault Refusal :=
  recTake 0x07 (fun _ => true) (fun s =>
    let op := recArg s 0x07 0
    if s.sys.variantM = false then (1, [], s)
    else if op ≠ 0x01 ∧ op ≠ 0x02 ∧ op ≠ 0x20 then (2, [], s)
    else if flag s POLD_STAT_BUSY then (1, [], s)
    else
      let s := wr s POLD_REQARG (w32 (recArg s 0x07 2))
      let s := polReqWrite lost (w32 (op * 2 ^ 24 + recArg s 0x07 1 % 256 * 65536)) s
      match polTake isResponse s with
      | (some (.response st w), s) => (if st = 0 then 0 else if st = 2 then 2 else 1, wordBytes w, polEnd st w s)
      | _ => (1, [], polEnd 7 [] s)) s

def execRecoveryReset (s : State) : Host.Outcome State Fault Refusal :=
  let w := boxWord s 0x800
  if recServes s && wget w 7 0 == 0x08 && s.cpu.recSeq != some (wget w 31 16) then .next (resetLogic SYS_RSTCAUSE_SWRST s)
  else .next s

end Sys2Proof.Machine
end

