-- ==== Sys2Proof/Machine/Perf.lean ====
section
/-! DEFINITION. PERF: counter selection, wraps, freezes and snapshots, samples and sluice bandwidth (R515 to R526). What a unit counts
in its own island's cycles is measured outside the model; a shuttle counts its instructions and evaluations itself. -/

namespace Sys2Proof.Machine

def setPerf (x : PerfSt) (s : State) : State := { s with perf := x }

/-- PERF runs: what happens on its own there happens then. -/
def perfUp (s : State) : Bool := power s 15 == .run || power s 15 == .idle

/-! ### Counting units (R515 to R517) -/

/-- Is an event defined for an island and shuttle number (R517)? -/
def evtDefined (isl unit evt : Nat) : Bool :=
  if isQuadrant isl then unit < 4 && ((1 ≤ evt && evt ≤ 4) || (0x20 ≤ evt && evt ≤ 0x32))
  else (1 ≤ evt && evt ≤ 4) || (isl == 2 && 0x10 ≤ evt && evt ≤ 0x14)

/-- Do two selections name the same island, and in a quadrant the same shuttle (R516)? -/
def sameUnit (v w : Word) : Bool :=
  wget v 20 16 == wget w 20 16 && (!isQuadrant (wget v 20 16) || wget v 11 8 == wget w 11 8)

/-- May EN be set with the selection `v` in counter `k` (R515, R516)? -/
def selOk (s : State) (k : Nat) (v : Word) : Bool :=
  let isl := wget v 20 16
  let used := (List.range 64).countP (fun j => j != k && flag s (PERF_SEL_EN j) && sameUnit v (rd s (PERF_SEL j)))
  isl != 1 && isl ≤ 16 && evtDefined isl (wget v 11 8) (wget v 7 0) && used < 8
    && (wget v 30 30 == 0 || (k != 0 && sameUnit v (rd s (PERF_SEL (k - 1)))))

/-- The event that counter `k` selects (R515). -/
def perfEvt (s : State) (k : Nat) : Nat := fget s (PERF_SEL_EVT k)

/-- What the event that a counter selects has come to, for the events that the model itself counts: entries into SLEEP, the host's instructions,
interrupts and exceptions, and of a shuttle RETIRED and SQUASHED (R518) and 0x25 to 0x2C (R517). -/
def ownCount (s : State) (k : Nat) : Option Nat :=
  let e := perfEvt s k
  if e = 2 then some (tabGet (fun _ => 0) s.perf.sleeps (perfIsl s k))
  else if perfIsl s k = 2 ∧ 0x10 ≤ e ∧ e ≤ 0x12 then some (tabGet (fun _ => 0) s.cpu.cnt e)
  else if isQuadrant (perfIsl s k) && (e == 0x20 || e == 0x21 || (decide (0x25 ≤ e) && decide (e ≤ 0x2C))) then
    some (tabGet (fun _ => 0) (shuttle s (4 * (perfIsl s k - 4) + fget s (PERF_SEL_UNIT k))).cnt e)
  else none

/-- A unit counts from here on (R515, R516). -/
def perfRebase (k : Nat) (s : State) : State :=
  setPerf { s.perf with base := tabSet (fun _ => 0) s.perf.base k ((ownCount s k).getD 0) } s

/-- A write to PERF_SELk (R515). -/
def perfSelWrite (k : Nat) (v : Word) (s : State) : State :=
  if flag s PERF_CTL_LOCK || (flag s (PERF_SEL_EN k) && !flag s PERF_STAT_FROZEN) then s
  else
    let w := v &&& 0xE01F0FFF
    if wget v 31 31 = 1 ∧ selOk s k v = false then setF (clrF (wr s (PERF_SEL k) w) (PERF_SEL_EN k)) PERF_EVT_CFGERR
    else perfRebase k (wr s (PERF_SEL k) w)

def execPerfCounterSelect (ini : Initiator) (k : Fin 64) (v : Word) (s : State) : Host.Outcome State Fault Refusal :=
  .next (access ini (PERF_SEL k.val) (perfSelWrite k.val v) s)

/-- What unit `k` held when it was last known. -/
def unitAt (s : State) (k : Nat) : Word := tabGet (fun _ => 0) s.perf.units k

def setUnit (k : Nat) (v : Word) (s : State) : State :=
  setPerf { s.perf with units := tabSet (fun _ => 0) s.perf.units k v } s

/-- A sample of counter `k` with a pc: at once from the host and from a shuttle whose PROV is clear, else held (R521). -/
def takeSample (k : Nat) (pc : Word) (s : State) : State :=
  let isl := perfIsl s k
  let unit := fget s (PERF_SEL_UNIT k)
  if !flag s (PERF_SEL_SAMPLE k) then s
  else if isl = 2 then sampleSend 2 0 pc s
  else if isQuadrant isl && unit < 4 then
    let n := 4 * (isl - 4) + unit
    match (shuttle s n).curEval with
    | some e => setShuttle n ((shuttle s n).setEval { e with smps := e.smps ++ [pc] }) s
    | none => sampleSend isl unit pc s
  else s

/-- Counter `k` wraps: its chained successor is incremented, and wraps in turn, or PERF_OVF is set (R516). -/
def perfWrap : Nat → Nat → Word → State → State
  | 0, _, _, s => s
  | f + 1, k, pc, s =>
    let s := takeSample k pc s
    if k < 63 && flag s (PERF_SEL_CHAIN (k + 1)) && flag s (PERF_SEL_EN (k + 1)) then
      let u := unitAt s (k + 1) + 1
      let s := setUnit (k + 1) u s
      if u = 0 then perfWrap f (k + 1) pc s else s
    else setF (setBit s (if k < 32 then PERF_OVFLO_OVF else PERF_OVFHI_OVF) (k % 32)) PERF_EVT_OVF

/-- Does unit `k` count (R516, R519)? -/
def unitCounts (s : State) (k : Nat) : Bool :=
  flag s (PERF_SEL_EN k) && !s.perf.frozen && (power s (perfIsl s k) == .run || power s (perfIsl s k) == .idle)

/-- What a unit has counted since it was last known, where `d` was measured in its island: the model's own counts stand, and SQUASHED adds the
measured cycles of restores (R517, R518). -/
def unitDelta (s : State) (k d : Nat) : Nat :=
  match ownCount s k with
  | some t => t - tabGet (fun _ => 0) s.perf.base k + (if perfEvt s k = 0x21 then d else 0)
  | none => d

/-- May the unit of a counter have passed 0xFFFF_FFFF? What the model itself counts tells it (R516). -/
def mayWrap (s : State) (k : Nat) : Bool :=
  (ownCount s k).isNone || perfEvt s k == 0x21 || decide (2 ^ 32 ≤ (unitAt s k).toNat + unitDelta s k 0)

/-- A unit is brought up to what it has counted, `d` of it measured (R516). -/
def unitCount (k d : Nat) (s : State) : State := perfRebase k (setUnit k (BitVec.ofNat 32 ((unitAt s k).toNat + unitDelta s k d)) s)

/-- The unit of a counter that is not chained passes 0xFFFF_FFFF. -/
def execPerfCounterWrap (k : Fin 64) (pc : Word) (s : State) : Host.Outcome State Fault Refusal :=
  if unitCounts s k.val && mayWrap s k.val && !flag s (PERF_SEL_CHAIN k.val) && islUp s 15 then
    let s := if (ownCount s k.val).isSome && perfEvt s k.val != 0x21 then unitCount k.val 0 s else s
    .next (perfWrap 64 k.val pc s)
  else .next s

/-! ### Freeze, snapshot and resume (R519, R520) -/

/-- A command of PERF_CMD: its common edge is the second edge that PERF recognises from now (R519); resume values go to the units at
UNFREEZE (R520). -/
def perfCmd (c : PerfCmd) (s : State) : State :=
  if flag s PERF_STAT_BUSY then setF s PERF_EVT_CMDLOST
  else
    let s := setF (setPerf { s.perf with cmd := some c, edge := edges s 15 + 2, passed := false } s) PERF_STAT_BUSY
    if c = .unfreeze then
      let r := s.perf.resume
      setPerf { (forL r (fun e s => match e.2 with
        | some v => setUnit e.1 v s
        | none => s) s).perf with resume := [] } s
    else s

/-- A write to PERF_CMD. -/
def perfCmdWrite (v : Word) (s : State) : State :=
  onlyIf (wget v 2 2 == 1) (perfCmd .unfreeze) (onlyIf (wget v 1 1 == 1) (perfCmd .snap) (onlyIf (wget v 0 0 == 1) (perfCmd .freeze) s))

def execFreeze (ini : Initiator) (s : State) : Host.Outcome State Fault Refusal := .next (access ini PERF_CMD (perfCmd .freeze) s)

def execSnap (ini : Initiator) (s : State) : Host.Outcome State Fault Refusal := .next (access ini PERF_CMD (perfCmd .snap) s)

def execUnfreeze (ini : Initiator) (s : State) : Host.Outcome State Fault Refusal := .next (access ini PERF_CMD (perfCmd .unfreeze) s)

/-- PERF recognises a tick edge: in the period before the common edge of a freeze or snapshot it sends the capture trigger of slot 3
(R389, R519). -/
def perfEdge (s : State) : State :=
  match s.perf.cmd with
  | some .unfreeze => s
  | some _ => onlyIf (!s.perf.passed && decide (edges s 15 + 1 = s.perf.edge)) (capTrigger 3 0) s
  | none => s

/-- The units advanced by what they have counted since they were last known (R516); a chained unit counts wraps alone. A wrap of what the model
itself counts, of which no command has told, belongs to the values (R525). -/
def unitsCount (counts : List Word) (s : State) : State :=
  forN 64 (fun k s =>
    if flag s (PERF_SEL_CHAIN k) || s.perf.frozen || !islUp s (perfIsl s k) then s
    else
      let wraps := (ownCount s k).isSome && perfEvt s k != 0x21 && mayWrap s k
      onlyIf wraps (perfWrap 64 k (Config.wrapPc k (edges s 15))) (unitCount k (counts.getD k 0).toNat s)) s

/-- The values of the units at the common edge, zero where the island is OFF (R519). -/
def unitsCapture (s : State) : State :=
  forN 64 (fun k s =>
    let v := if islUp s (perfIsl s k) then unitAt s k else 0
    setPerf { s.perf with snap := tabSet (fun _ => 0) s.perf.snap k v } s) s

/-- The common edge of the command in progress (R519, R525). -/
def execPerfCommonEdge (counts : List Word) (s : State) : Host.Outcome State Fault Refusal :=
  if perfUp s && !s.perf.passed && decide (edges s 15 ≥ s.perf.edge) then
    match s.perf.cmd with
    | none => .next s
    | some .unfreeze =>
      let s := stir 15 s
      .next (forN 64 perfRebase (clrF (clrF (setPerf { s.perf with cmd := none, frozen := false } s) PERF_STAT_BUSY) PERF_STAT_FROZEN))
    | some c =>
      let s := stir 15 s
      let s := onlyIf (!s.perf.frozen) (fun s => unitsCapture (unitsCount counts s)) s
      .next (setPerf { s.perf with passed := true, frozen := s.perf.frozen || decide (c = .freeze) } s)
  else .next s

/-- The gathered values stand in PERF_VALk (R519). -/
def execPerfGatherComplete (s : State) : Host.Outcome State Fault Refusal :=
  if perfUp s && s.perf.passed then
    match s.perf.cmd with
    | none => .next s
    | some c =>
      let s := forN 64 (fun k s =>
        onlyIf (flag s (PERF_SEL_EN k)) (fun s => wr s (PERF_VAL k) (tabGet (fun _ => 0) s.perf.snap k)) s) (stir 15 s)
      let s := setPerf { s.perf with cmd := none, passed := false } s
      .next (setF (setF (clrF s PERF_STAT_BUSY) (if c = .freeze then PERF_STAT_FROZEN else PERF_STAT_SNAPV)) PERF_EVT_DONE)
  else .next s

/-- A write to PERF_VALk (R520). -/
def perfValWrite (k : Nat) (v : Word) (s : State) : State :=
  if flag s PERF_STAT_FROZEN then
    setPerf { s.perf with resume := tabSet (fun _ => none) s.perf.resume k (some v) } (wr s (PERF_VAL k) v)
  else s

def execPerfValueWrite (ini : Initiator) (k : Fin 64) (v : Word) (s : State) : Host.Outcome State Fault Refusal :=
  .next (access ini (PERF_VAL k.val) (perfValWrite k.val v) s)

/-! ### Sampling and bandwidth (R521, R522) -/

/-- A read of PERF_SMPPC clears SMPV (R521). -/
def smppcRead (s : State) : State := clrF s PERF_SMPENG_SMPV

/-- A window of the bandwidth monitors ends, with the words and stall cycles that each counted in it (R522). -/
def execBandwidthWindowEnd (words stalls : List Word) (s : State) : Host.Outcome State Fault Refusal :=
  let win := fget s PERF_BWWIN_WIN
  if perfUp s && decide (edges s 15 ≥ s.perf.bwFrom + max 1 win) then
    let s := forN 8 (fun p s =>
      let live := decide (win ≠ 0) && (sluiceLevel s.sys.variantM (fget s (PERF_BWSEL_SRC p)) (fget s (PERF_BWSEL_DST p))).isSome
      wr (wr s (PERF_BWWORDS p) (if live then words.getD p 0 else 0)) (PERF_BWSTALL p) (if live then stalls.getD p 0 else 0)) (stir 15 s)
    .next (setF (setPerf { s.perf with bwFrom := edges s 15 } s) PERF_EVT_BWDONE)
  else .next s

end Sys2Proof.Machine
end

