-- ==== Sys2Proof/Machine/Vib.lean ====
section
/-! DEFINITION. The vibration front end: channel states, segments, packets and blanking (R145 to R160). -/

namespace Sys2Proof.Machine

def vibCh (s : State) (n : Nat) : VibCh := tabGet (fun _ => {}) s.vib.ch n

def setVibCh (n : Nat) (x : VibCh) (s : State) : State :=
  { s with vib := { s.vib with ch := tabSet (fun _ => {}) s.vib.ch n x } }

/-- Samples of a segment (R150). -/
def vibSegLen (w : Word) : Nat := 2 ^ (wget w 9 8 + 4)

/-- A channel's state and its bits in VIB_STAT (R149, R160). -/
def vibState (n st : Nat) (s : State) : State :=
  let s := fset s (VIB_CHSTAT_STATE n) st
  if st = 2 then setBit s VIB_STAT_RUN n else clrBit s VIB_STAT_RUN n

/-- The current source of a channel follows CUR while the channel is not OFF (R146, R149). -/
def vibSource (n : Nat) (s : State) : State :=
  if fget s (VIB_CHSTAT_STATE n) ≠ 0 ∧ wget (vibCh s n).sig 1 1 = 1 then setBit s VIB_STAT_SRCON n else clrBit s VIB_STAT_SRCON n

/-- The pins that are asserted or whose hold runs, bit k for BLKk (R155). -/
def vibPins (s : State) : Nat :=
  ((List.range 4).map (fun k => (s.vib.pins.testBit k || tabGet (fun _ => 0) s.vib.rel k != 0).toNat * 2 ^ k)).sum

/-- Is a channel within blanking of a mapped pin (R155)? -/
def vibBlanked (s : State) (n : Nat) : Bool :=
  decide (vibPins s &&& fget s VIB_BLKCFG_EN &&& wget (vibCh s n).seg 15 12 ≠ 0)

/-- A new segment begins: pending settings take effect, and its marks are those of now (R150, R153). -/
def vibNewSegment (n : Nat) (s : State) : State :=
  let st := fget s (VIB_CHSTAT_STATE n)
  let s := setVibCh n { vibCh s n with
    seg := rd s (VIB_CHCFG n), samples := [], bias := 0, mOpen := false, mShort := false
    mSettle := st == 1, mStage := flag s (VIB_CHSTAT_STAGEFLT n), mBlank := false } s
  setVibCh n { vibCh s n with mBlank := vibBlanked s n } s

/-- EN is set on a channel that is OFF (R149). -/
def vibEnable (n : Nat) (s : State) : State :=
  let w := rd s (VIB_CHCFG n)
  let s := setVibCh n { ({} : VibCh) with sig := w, buf := (vibCh s n).buf, gap := (vibCh s n).gap } (vibState n 1 s)
  vibSource n (vibNewSegment n s)

/-- EN is cleared: OFF at once, and the segment in progress is discarded (R149). -/
def vibDisable (n : Nat) (s : State) : State :=
  let s := vibState n 0 (setVibCh n { ({} : VibCh) with buf := (vibCh s n).buf, seq := (vibCh s n).seq, gap := (vibCh s n).gap } s)
  clrBit s VIB_STAT_SRCON n

/-- A write to VIB_CHCFGn (R149, R150). -/
def vibCfgWrite (n : Nat) (v : Word) (s : State) : State :=
  let old := rd s (VIB_CHCFG n)
  let new := v &&& 0xFF1FF737
  let s := wr s (VIB_CHCFG n) new
  match wget old 0 0, wget new 0 0 with
  | 0, 1 => vibEnable n s
  | 1, 0 => vibDisable n s
  | 1, 1 => if wget old 5 4 ≠ wget new 5 4 ∨ wget old 2 1 ≠ wget new 2 1 then setVibCh n { vibCh s n with back := true } s else s
  | _, _ => s

/-- A write to VIB_CHBIASn (R148, R149). -/
def vibBiasWrite (n : Nat) (v : Word) (s : State) : State :=
  if flag s VIB_CTL_LOCK then s
  else
    let old := rd s (VIB_CHBIAS n)
    let s := wr s (VIB_CHBIAS n) v
    if old ≠ v ∧ flag s (VIB_CHCFG_EN n) then setVibCh n { vibCh s n with back := true } s else s

/-- Has a channel's segment periods still to come? -/
def vibOpenSeg (c : VibCh) : Bool := decide (c.samples.length < vibSegLen c.seg)

/-- A sample period ends (R147, R148): its sample joins the segment, its bias is compared, and a return to SETTLING that waited
takes effect from the next one (R149). -/
def vibSample (n : Nat) (sample : Int) (mv : Nat) (s : State) : State :=
  let c := vibCh s n
  let st := fget s (VIB_CHSTAT_STATE n)
  if st = 0 ∨ c.samples.length ≥ vibSegLen c.seg then s
  else
    let s := fset s (VIB_CHSTAT_BIASMV n) mv
    let cur := wget c.sig 1 1 == 1
    let op := cur && decide (mv > fget s (VIB_CHBIAS_OPENV n))
    let sh := cur && decide (mv < fget s (VIB_CHBIAS_SHORTV n)) && !op
    let clip := decide (sample ≥ 8388607 ∨ sample ≤ -8388607)
    let s := onlyIf clip (setF · (VIB_CHEVT_CLIP n)) s
    let c' := { c with
      samples := c.samples ++ [sample], hdr := c.sig, first := if c.samples.isEmpty then stampOf s 9 else c.first
      mOpen := c.mOpen || op, mShort := c.mShort || sh, mSettle := c.mSettle || st == 1
      mBlank := c.mBlank || vibBlanked s n, mStage := c.mStage || flag s (VIB_CHSTAT_STAGEFLT n)
      bias := c.bias + mv, outRun := if op || sh then c.outRun + 1 else 0, inRun := if op || sh then 0 else c.inRun + 1
      ready := c.ready && !(op || sh), back := false, short_ := if st = 3 then c.short_ else sh }
    if c.back then
      let s := setVibCh n { c' with sig := rd s (VIB_CHCFG n), outRun := 0, inRun := 0, ready := false, mSettle := c'.mSettle || vibOpenSeg c' } s
      vibSource n (vibState n 1 s)
    else setVibCh n c' s

/-- The settling time is complete: RUN follows at the next segment boundary (R149). 1,024 tick periods are 1,600 sample periods. -/
def vibSettled (n : Nat) (s : State) : State :=
  let c := vibCh s n
  let need := if wget c.sig 1 1 = 1 then max 1 (1600 * fget s (VIB_CHCFG_SETTLE n)) else 1
  if fget s (VIB_CHSTAT_STATE n) = 1 ∧ c.inRun ≥ need ∧ c.back = false then setVibCh n { c with ready := true } s else s

/-- Sample periods of 1 ms, in whole periods (R149). -/
def vibMs : Nat := 52

/-- The bias has been outside for 1 ms (R149). -/
def vibFault (n : Nat) (s : State) : State :=
  let c := vibCh s n
  let st := fget s (VIB_CHSTAT_STATE n)
  if (st = 1 ∨ st = 2) ∧ c.outRun ≥ vibMs then
    let s := vibState n 3 (setVibCh n { c with inRun := 0, ready := false } s)
    bump (setF s (if c.short_ then VIB_CHEVT_SHORT n else VIB_CHEVT_OPEN n)) (VIB_CHCNT_FLTCNT n)
  else s

/-- The bias has been inside for 1 ms: SETTLING, with its count afresh (R149). -/
def vibRecover (n : Nat) (s : State) : State :=
  let c := vibCh s n
  if fget s (VIB_CHSTAT_STATE n) = 3 ∧ c.inRun ≥ vibMs then
    vibState n 1 (setVibCh n { c with inRun := 0, outRun := 0, ready := false, mSettle := c.mSettle || vibOpenSeg c } s)
  else s

/-- The quality of a segment (R153). -/
def vibQual (s : State) (n : Nat) : Nat :=
  let c := vibCh s n
  let flt := fget s (VIB_CHSTAT_STATE n) == 3
  let pos := c.samples.any (fun x => decide (x ≥ 8388607))
  let neg := c.samples.any (fun x => decide (x ≤ -8388607))
  if c.mStage then 15 else if c.mOpen || (flt && !c.short_) then 5 else if c.mShort || (flt && c.short_) then 6
  else if c.mBlank then 9 else if c.mSettle then 8 else if pos then 3 else if neg then 4 else 0

/-- A number's bytes, lowest first. -/
def leBytes : Nat → Nat → List Byte
  | 0, _ => []
  | k + 1, v => BitVec.ofNat 8 v :: leBytes k (v / 256)

/-- The packet of a segment (R151, R152). -/
def vibPacket (s : State) (n q : Nat) : FrontPacket :=
  let c := vibCh s n
  let carry := q == 0 || q == 3 || q == 4
  let full := carry && wget c.seg 10 10 == 0
  let cnt := if full then c.samples.length else 0
  let fs := if wget c.hdr 2 2 = 1 then 1 else 10
  let ms := c.samples.foldl (fun a x => a + x.natAbs * x.natAbs) 0
  let pk := c.samples.foldl (fun a x => max a x.natAbs) 0
  let k := c.samples.length
  let rms := if carry then wSqrtRat (ms * fs * fs) (k * 8388607 * 8388607) else qnan
  let peak := if carry then wOfRat (pk * fs) 8388607 else qnan
  let len := 32 + 3 * cnt
  let w0 := c.seq % 65536 * 2 ^ 48 + cnt * 2 ^ 40 + q * 2 ^ 36 + c.gap.toNat * 2 ^ 35 + n * 2 ^ 32 + len * 2 ^ 16
    + wget c.hdr 1 1 * 2 ^ 11 + wget c.hdr 2 2 * 2 ^ 10 + wget c.hdr 5 4 * 2 ^ 8
  let w1 := c.first.tick.toNat * 65536 + c.first.sub.toNat
  let w2 := peak.toNat * 2 ^ 32 + rms.toNat
  let w3 := (wOfRat c.bias (1000 * k)).toNat
  ⟨wget c.seg 20 16, leBytes 8 w0 ++ leBytes 8 w1 ++ leBytes 8 w2 ++ leBytes 8 w3
    ++ (if full then c.samples.flatMap (fun x => leBytes 3 (BitVec.ofInt 24 x).toNat) else []), 0⟩

/-- Does a segment's mean bias lie outside the warning window (R158)? -/
def vibBiasWarns (s : State) (n : Nat) : Bool :=
  let c := vibCh s n
  let k := c.samples.length
  decide (c.bias < fget s (VIB_CHWARN_WARNLO n) * k) || decide (c.bias > fget s (VIB_CHWARN_WARNHI n) * k)

/-- A segment ends: its packet enters the buffer or is dropped, RUN may be entered, and the next segment begins (R149 to R158). -/
def vibSegmentEnd (n : Nat) (s : State) : State :=
  let c := vibCh s n
  if fget s (VIB_CHSTAT_STATE n) ≠ 0 ∧ c.samples.length ≥ vibSegLen c.seg then
    let q := vibQual s n
    let p := vibPacket s n q
    let s := onlyIf (vibBiasWarns s n) (setF · (VIB_CHEVT_BIASW n)) s
    let s := fset (fset s (VIB_CHSEQ_SEQ n) c.seq) (VIB_CHSTAT_LASTQ n) q
    let used := (c.buf.map (·.bytes.length)).sum
    let c' := { c with seq := (c.seq + 1) % 65536 }
    let s := if used + p.bytes.length ≤ 1024 then setVibCh n { c' with buf := c.buf ++ [p], gap := false } s
      else bump (setF (setVibCh n { c' with gap := true } s) (VIB_CHEVT_DROP n)) (VIB_CHCNT_DROPCNT n)
    let s := if c.ready ∧ fget s (VIB_CHSTAT_STATE n) = 1 then setF (vibState n 2 s) (VIB_CHEVT_RUN n) else s
    vibNewSegment n (setVibCh n { vibCh s n with ready := false } s)
  else s

/-- A channel's next buffered packet is due for the queue fabric; it stays in its buffer until its last write is taken (R156). -/
def vibSend (n : Nat) (s : State) : State :=
  if s.vib.out.count n < (vibCh s n).buf.length then { s with vib := { s.vib with out := s.vib.out ++ [n] } } else s

/-- The packet that is next on its way to the queue fabric, with its channel (R156). -/
def vibNext (s : State) : Option (Nat × FrontPacket) :=
  match s.vib.out with
  | n :: _ => (vibCh s n).buf.head?.map (fun p => (n, p))
  | [] => none

/-- What is left of that packet once the queue fabric has taken a write or refused it: the whole of it gone, its place in the buffer is free. -/
def vibLeft (n : Nat) (l : List FrontPacket) (s : State) : State :=
  let s := setVibCh n { vibCh s n with buf := l ++ (vibCh s n).buf.drop 1 } s
  if l.isEmpty then { s with vib := { s.vib with out := s.vib.out.drop 1 } } else s

/-- Segments in progress of the channels a pin blanks are marked (R153, R155). -/
def vibMark (s : State) : State :=
  forN 8 (fun n s => if fget s (VIB_CHSTAT_STATE n) ≠ 0 ∧ vibOpenSeg (vibCh s n) ∧ vibBlanked s n then
    setVibCh n { vibCh s n with mBlank := true } s else s) s

/-- A pin has stayed at a level for 1 µs: the level that POL names asserts it, the other one releases it, and its hold begins (R105, R155). -/
def vibPin (pin : Nat) (high : Bool) (s : State) : State :=
  if high != getBit s VIB_BLKCFG_POL pin then
    vibMark { s with vib := { s.vib with pins := s.vib.pins ||| 2 ^ pin, rel := tabSet (fun _ => 0) s.vib.rel pin 0 } }
  else if s.vib.pins.testBit pin then
    { s with vib := { s.vib with pins := s.vib.pins - 2 ^ pin, rel := tabSet (fun _ => 0) s.vib.rel pin (1 + edges s 9) } }
  else s

/-- The hold of a released pin ends once HOLD tick edges have passed (R155). -/
def vibHoldEnd (pin : Nat) (s : State) : State :=
  let h := tabGet (fun _ => 0) s.vib.rel pin
  if h ≠ 0 ∧ edges s 9 + 1 - h ≥ fget s VIB_BLKCFG_HOLD then
    let s := vibMark s
    { s with vib := { s.vib with rel := tabSet (fun _ => 0) s.vib.rel pin 0 } }
  else s

/-- A write to VIB_BLKCFG: what it blanks before and after is marked (R155). -/
def vibBlkWrite (v : Word) (s : State) : State := vibMark (codeWrite VIB_BLKCFG v (vibMark s))

/-- Does VIB run? -/
def vibUp (s : State) : Bool := power s 9 == .run || power s 9 == .idle

/-! ### The commands -/

def execVibChannelEnable (i : Initiator) (n : Fin 8) (v : Word) (s : State) : Host.Outcome State Fault Refusal :=
  .next (access i (VIB_CHCFG n.val) (vibCfgWrite n.val (v ||| 1)) s)

def execVibChannelDisable (i : Initiator) (n : Fin 8) (v : Word) (s : State) : Host.Outcome State Fault Refusal :=
  .next (access i (VIB_CHCFG n.val) (vibCfgWrite n.val (v &&& ~~~1)) s)

def execVibConfigWrite (i : Initiator) (n : Fin 8) (bias : Bool) (v : Word) (s : State) : Host.Outcome State Fault Refusal :=
  .next (if bias then access i (VIB_CHBIAS n.val) (vibBiasWrite n.val v) s else access i (VIB_CHCFG n.val) (vibCfgWrite n.val v) s)

def execVibSamplePeriod (n : Fin 8) (sub : BitVec 16) (sample : BitVec 24) (mv : BitVec 16) (s : State) :
    Host.Outcome State Fault Refusal :=
  .next (if vibUp s then vibSample n.val sample.toInt mv.toNat (atSub 9 sub (stir 9 s)) else s)

def execVibSettleComplete (n : Fin 8) (s : State) : Host.Outcome State Fault Refusal := .next (vibSettled n.val s)

def execVibFaultEntry (n : Fin 8) (s : State) : Host.Outcome State Fault Refusal := .next (vibFault n.val s)

def execVibFaultExit (n : Fin 8) (s : State) : Host.Outcome State Fault Refusal := .next (vibRecover n.val s)

def execSegmentEnd (n : Fin 8) (s : State) : Host.Outcome State Fault Refusal := .next (vibSegmentEnd n.val s)

def execVibPacketSend (n : Fin 8) (s : State) : Host.Outcome State Fault Refusal := .next (if vibUp s then vibSend n.val (stir 9 s) else s)

/-- A tracking stage loses or regains its headroom (R153, R160). -/
def execVibStageFault (n : Fin 8) (on : Bool) (s : State) : Host.Outcome State Fault Refusal :=
  .next (if vibUp s then
    let s' := putF s (VIB_CHSTAT_STAGEFLT n.val) on
    if on then onlyIf (!flag s (VIB_CHSTAT_STAGEFLT n.val)) (setF · (VIB_CHEVT_STAGE n.val))
      (setVibCh n.val { vibCh s n.val with mStage := fget s (VIB_CHSTAT_STATE n.val) != 0 } s')
    else s'
  else s)

/-- A pin's own event wakes VIB (R53). -/
def execVibBlankAssert (p : PinLevel) (s : State) : Host.Outcome State Fault Refusal :=
  .next (if islUp s 9 then vibPin p.pin.val p.high (rouse 9 s) else s)

def execVibBlankEnd (pin : Fin 4) (s : State) : Host.Outcome State Fault Refusal :=
  .next (if vibUp s then vibHoldEnd pin.val (stir 9 s) else s)

end Sys2Proof.Machine
end

