-- ==== Sys2Proof/Machine/QueueCmd.lean ====
section
/-! DEFINITION. The commands of the queue fabric (R300 to R311). -/

namespace Sys2Proof.Machine

/-- The next two bytes of a packet on its way; the high byte of the last write of an odd packet is padding (R302). -/
def nextWrite (p : FrontPacket) : List Byte :=
  match p.bytes.drop p.sent with
  | a :: b :: _ => [a, b]
  | [a] => [a, 0]
  | [] => [0, 0]

/-- The oldest packet on its way offers its next write to the queue fabric (R302, R306): the packets left, and what was written. -/
def frontWrite (src : Nat) (l : List FrontPacket) (s : State) : List FrontPacket × State :=
  match l with
  | [] => ([], s)
  | p :: l =>
    let r := queueFront p.queue src (p.sent == 0) (nextWrite p) s
    if r.2 then
      let p := { p with sent := p.sent + 2 }
      (if p.sent ≥ p.bytes.length then l else p :: l, r.1)
    else (p :: l, r.1)

def execQueueConfigWrite (i : Initiator) (q : Fin 32) (v : Word) (s : State) : Host.Outcome State Fault Refusal :=
  .next (access i (QUEUE_CFG q.val) (queueCfgWrite q.val v) s)

def execQueueWr (i : Initiator) (q : Fin 32) (v : Word) (s : State) : Host.Outcome State Fault Refusal :=
  .next (access i (QUEUE_WR q.val) (queueWrWrite q.val v) s)

def execQueueCommit (i : Initiator) (q : Fin 32) (s : State) : Host.Outcome State Fault Refusal :=
  .next (access i (QUEUE_WCMD q.val) (queueWcmdWrite q.val 1) s)

def execQueueAbort (i : Initiator) (q : Fin 32) (s : State) : Host.Outcome State Fault Refusal :=
  .next (access i (QUEUE_WCMD q.val) (queueWcmdWrite q.val 2) s)

/-- A write of VIB or COMMS reaches the queue fabric (R302, R306). -/
def execQueueFrontendWrite (src : FrontSrc) (s : State) : Host.Outcome State Fault Refusal :=
  inWarp (fun s => match src with
    | .vib => (match vibNext s with
      | some (n, p) => let r := frontWrite 2 [p] s
                       vibLeft n r.1 r.2
      | none => s)
    | .comms => (match s.comms with
      | k :: _ => (match (can s k).held with
        | p :: b => let r := frontWrite 3 [p] s
                    let s := setCan k { can r.2 k with held := r.1 ++ b } r.2
                    if r.1.isEmpty then { s with comms := [] } else s
        | [] => s)
      | [] => s)) s

/-- A packet becomes visible at a sub-tick count of WARP (R219, R310). -/
def execPacketVisible (p : QueueAt) (s : State) : Host.Outcome State Fault Refusal :=
  inWarp (fun s => packetVisible p.q.val (atSub 3 p.sub s)) s

/-- A host read of QUEUE_RDTAGq (R308). -/
def execQueueHostTake (q : Fin 32) (s : State) : Host.Outcome State Fault Refusal :=
  .next (accessRead .host (QUEUE_RDTAG q.val) (queueRdtag .host q.val) s)

def execQueueFlush (i : Initiator) (q : Fin 32) (s : State) : Host.Outcome State Fault Refusal :=
  .next (access i (QUEUE_CTL q.val) (fun s => queueCtlWrite q.val (BitVec.ofNat 32 (2 + fget s (QUEUE_CTL_EN q.val))) s) s)

def execQueueDisable (i : Initiator) (q : Fin 32) (s : State) : Host.Outcome State Fault Refusal :=
  .next (access i (QUEUE_CTL q.val) (queueCtlWrite q.val 0) s)

end Sys2Proof.Machine
end

