-- ==== Sys2Proof/Machine/Reeve.lean ====
section
/-! DEFINITION. The Reeve: states, triggers, sources, KA, KH and the segments (R502 to R514). -/

namespace Sys2Proof.Machine

def setRv (x : RvSt) (s : State) : State := { s with rv := x }

/-- STATE (R502). -/
def rvState (s : State) : Nat := fget s RV_STAT_STATE

def rvUp (s : State) : Bool := islUp s 16

def rvSrc (s : State) (n : Nat) : RvSrc := tabGet (fun _ => {}) s.rv.src n
def setRvSrc (n : Nat) (x : RvSrc) (s : State) : State := setRv { s.rv with src := tabSet (fun _ => {}) s.rv.src n x } s

/-- The configuration word of a source. -/
def rvCfg (s : State) (n : Nat) : Word := rd s (if n < 16 then RV_ACFG n else RV_ICFG (n - 16))

/-- Is a source's designation valid (R109, R327, R505)? -/
def rvValid (s : State) (n : Nat) : Bool := wget (tabGet (fun _ => 0) s.rv.maps (n / 4)) (8 * (n % 4) + 7) (8 * (n % 4) + 7) == 1

/-- The channel or input that a source designates. -/
def rvOf (s : State) (n : Nat) : Nat := wget (tabGet (fun _ => 0) s.rv.maps (n / 4)) (8 * (n % 4) + 5) (8 * (n % 4))

/-- A source in alarm, or in fault with FLTALM set (R509, R511). -/
def rvAlarmed (s : State) (n : Nat) : Bool := getBit s RV_ALM_SRC n || (getBit s RV_FLT_SRC n && wget (rvCfg s n) 8 8 == 1)

/-- KA is energised (R509). -/
def rvKa (s : State) : Bool :=
  match rvState s with
  | 1 => true
  | 2 => !flag s RV_CTL_ENGKA && (List.range 24).all (fun n => !rvAlarmed s n)
  | _ => false

/-- The segment word (R511): bits [2k + 1:2k] are the pigment of segment 24 + k, 0 white, 1 black, 2 red. -/
def rvWord (s : State) : Nat :=
  if rvState s = 2 then
    (List.range 7).foldl (fun w k => w + (if (List.range 24).any (fun n => rvAlarmed s n && wget (rvCfg s n) 14 12 == k) then 2 else 1) * 4 ^ k)
      (2 * 4 ^ 7)
  else 0

/-- KA and the segment word follow what changed; a changed word is sent to DISP (R509, R511). -/
def rvShow (s : State) : State :=
  let s := putF s RV_STAT_KA (rvKa s)
  let w := rvWord s
  if w = s.rv.word then s
  else setRv { s.rv with word := w, segs := if islUp s 13 then s.rv.segs ++ [w] else s.rv.segs } s

/-- KH sounds for a source with HORN, in ENGAGED (R510). -/
def rvHorn (n : Nat) (s : State) : State := if rvState s = 2 ∧ wget (rvCfg s n) 9 9 = 1 then setF s RV_STAT_KH else s

/-- A source enters alarm (R506, R508, R510). -/
def rvAlarmOn (n : Nat) (s : State) : State := rvShow (rvHorn n (setF (setBit s RV_ALM_SRC n) RV_EVT_ALM))

/-- A source leaves alarm. -/
def rvAlarmOff (n : Nat) (s : State) : State := rvShow (clrBit s RV_ALM_SRC n)

/-- A source enters fault (R507, R508, R510). An input's count stands still. -/
def rvFaultOn (n : Nat) (s : State) : State :=
  if getBit s RV_FLT_SRC n then s
  else
    let x := rvSrc s n
    let s := setRvSrc n { x with held := edges s 16 - x.since } s
    let s := setF (setBit s RV_FLT_SRC n) RV_EVT_FLT
    rvShow (onlyIf (wget (rvCfg s n) 8 8 == 1) (rvHorn n) s)

/-- A source's fault ends. -/
def rvFaultOff (n : Nat) (s : State) : State := if getBit s RV_FLT_SRC n then rvShow (clrBit s RV_FLT_SRC n) else s

/-! ### States and triggers (R502 to R504, R513) -/

/-- Staged values are discarded (R505). -/
def rvDiscard (s : State) : State := clrF (setRv { s.rv with staged := [] } s) RV_STAT_STAGED

/-- The bit of a trigger in RV_CAUSE (R503). -/
def RvCause.bit : RvCause → Nat
  | .lockstep => 0 | .fatal => 1 | .supply => 2 | .reset => 3 | .host => 4

/-- A cause recorded; the first is captured (R45, R503). -/
def rvCauseSet (b : Nat) (s : State) : State :=
  let s := setBit s RV_CAUSE_CAUSE b
  if flag s RV_CAUSE_VALID then s else setF (fset s RV_CAUSE_FIRST b) RV_CAUSE_VALID

/-- The Reeve enters ENGAGED and sends its takeover signal (R504, R505, R510, R512). -/
def rvEngage (s : State) : State :=
  let s := rvDiscard (clrF (clrF (fset s RV_STAT_STATE 2) RV_STAT_MARKSEEN) RV_STAT_KH)
  let s := rvShow (setF (setRv { s.rv with marks := 0 } s) RV_EVT_ENGAGED)
  selvDemote (dioTakeover s)

/-- The lockstep reset, if one waits for the Reeve (R504). -/
def lockReset (s : State) : State := if s.sys.lockWait then resetLogic SYS_RSTCAUSE_LOCKSTEP s else s

/-- A trigger is recognised (R502 to R504, R513). -/
def rvTrigger (c : RvCause) (s : State) : State :=
  let s := rvCauseSet c.bit s
  match rvState s with
  | 0 => setF s RV_EVT_UNARMED
  | 1 => rvEngage s
  | _ => setRv { s.rv with marks := 0 } (clrF s RV_STAT_MARKSEEN)

/-- Every source at normal with its counts at zero (R502). -/
def rvNormal (s : State) : State :=
  let e := edges s 16
  let s := wr (wr s RV_ALM 0) RV_FLT 0
  forN 24 (fun n => setRvSrc n { last := e, since := e }) s

/-- Staged values are put into force; a source whose configuration changed restarts its counts (R505). -/
def rvApply (s : State) : State :=
  let hit := fun (l : Tab Word) (n : Nat) => l.any (fun p => decide (rd s p.1 ≠ p.2) &&
    (if n < 16 then RV_ACFG n ≤ p.1 && p.1 ≤ RV_AHYS n else p.1 == RV_ICFG (n - 16)))
  let e := edges s 16
  let st := s.rv.staged
  let s := forL st (fun p s => wr s p.1 p.2) s
  let s := forN 24 (fun n s => if hit st n then setRvSrc n { rvSrc s n with cnt := 0, since := e, held := 0 } s else s) s
  rvShow (rvDiscard s)

/-- A command or write is refused (R502, R505). -/
def rvRefuse (s : State) : State := setF s RV_EVT_CMDERR

/-- ACKH (R510). -/
def rvAckh (s : State) : State := clrF s RV_STAT_KH

/-- A command of RV_CMD (R502). -/
def rvCommand (op : Nat) (s : State) : State :=
  match op, rvState s with
  | 1, 0 => rvShow (rvNormal (fset s RV_STAT_STATE 1))
  | 2, 1 => rvShow (rvDiscard (clrF (fset s RV_STAT_STATE 0) RV_STAT_KH))
  | 3, _ => rvTrigger .host s
  | 4, 2 => if flag s RV_STAT_MARKSEEN then rvShow (setF (clrF (fset s RV_STAT_STATE 1) RV_STAT_KH) RV_EVT_RESUMED) else rvRefuse s
  | 5, _ => rvAckh s
  | 6, 0 => s
  | 6, 1 => rvApply s
  | 0, _ => s
  | 7, _ => s
  | _, _ => rvRefuse s

/-- A write to RV_CMD (R502, R514). -/
def rvCmdWrite (v : Word) (s : State) : State := if wget v 15 0 = 0x5E7A then rvCommand (wget v 18 16) s else s

/-- A write to RV_CAUSE: with every cause cleared the first is no longer held (R45, R514). -/
def rvCauseWrite (v : Word) (s : State) : State :=
  let s := codeWrite RV_CAUSE v s
  if fget s RV_CAUSE_CAUSE = 0 then fset (clrF s RV_CAUSE_VALID) RV_CAUSE_FIRST 0 else s

/-- The address of a configuration register. -/
def RvReg.addr : RvReg → Nat
  | .ctl => RV_CTL
  | .acfg n => RV_ACFG n.val
  | .alo n => RV_ALO n.val
  | .ahi n => RV_AHI n.val
  | .ahys n => RV_AHYS n.val
  | .icfg m => RV_ICFG m.val

/-- A configuration register as it reads (R505). -/
def rvConfigRead (s : State) (a : Nat) : Word := (tabFind s.rv.staged a).getD (rd s a)

/-- A write to a configuration register (R505). -/
def rvConfigWrite (a : Nat) (v : Word) (s : State) : State :=
  match rvState s with
  | 0 => rvShow (codeWrite a v s)
  | 1 =>
    let v' := rd (codeWrite a v s) a
    setF (setRv { s.rv with staged := tabPut s.rv.staged a v' } s) RV_STAT_STAGED
  | _ => rvRefuse s

/-! ### Sources (R506 to R508) -/

/-- A 24-bit limit as a signed code. -/
def rvLimit (s : State) (a : Nat) : Int := (BitVec.ofNat 24 (wget (rd s a) 23 0)).toInt

/-- A conversion of the expected range is compared and counted (R506). -/
def rvCompare (n : Nat) (code : Int) (s : State) : State :=
  let lo := rvLimit s (RV_ALO n)
  let hi := rvLimit s (RV_AHI n)
  let hys : Int := wget (rd s (RV_AHYS n)) 23 0
  let outside := decide (hi < code) || decide (code < lo)
  let inside := decide (lo + hys ≤ code) && decide (code ≤ hi - hys)
  let x := rvSrc s n
  let need := max 1 (fget s (RV_ACFG_DLY n))
  let alarm := getBit s RV_ALM_SRC n
  let count := if alarm then inside else outside
  let other := if alarm then outside else inside
  if count then
    if x.cnt + 1 ≥ need then
      let s := setRvSrc n { x with cnt := 0 } s
      if alarm then rvAlarmOff n s else rvAlarmOn n s
    else setRvSrc n { x with cnt := x.cnt + 1 } s
  else if other then setRvSrc n { x with cnt := 0 } s
  else s

/-- A conversion reaches a channel source (R506, R507). -/
def rvCode (n : Nat) (code : Int) (range : Nat) (s : State) : State :=
  let s := setRvSrc n { rvSrc s n with last := edges s 16 } s
  if range ≠ fget s (RV_ACFG_RANGE n) then rvFaultOn n s
  else rvCompare n code (rvFaultOff n s)

/-- A word reaches an input source (R508). -/
def rvInput (w : RvInput) (s : State) : State :=
  let n := 16 + w.des
  let e := edges s 16
  let x := rvSrc s n
  let cfg := rvCfg s n
  if wget cfg 2 2 = 1 then
    let act := wget cfg 0 0 == 1
    let hit := w.state == act && x.level == some (!w.state) && !w.wb && !w.down
    let lvl := if w.wb || w.down then x.level else some w.state
    onlyIf hit rvAckh (setRvSrc n { x with last := e, level := lvl } s)
  else if w.wb || w.down then rvFaultOn n (setRvSrc n { x with last := e } s)
  else
    let was := getBit s RV_FLT_SRC n
    let since := if x.level = some w.state then (if was then e - x.held else x.since) else e
    rvFaultOff n (setRvSrc n { x with last := e, level := some w.state, since := since, held := 0 } s)

/-- An input has stood at its level for DLY × 32 tick periods (R508). -/
def rvInputDelay (m : Nat) (s : State) : State :=
  let n := 16 + m
  let x := rvSrc s n
  let cfg := rvCfg s n
  match x.level with
  | some l =>
    if rvValid s n && rvState s ≥ 1 && wget cfg 2 2 == 0 && !getBit s RV_FLT_SRC n
        && decide (edges s 16 ≥ x.since + 32 * wget cfg 23 16) then
      if l = (wget cfg 0 0 == 1) then (if getBit s RV_ALM_SRC n then s else rvAlarmOn n s)
      else (if getBit s RV_ALM_SRC n then rvAlarmOff n s else s)
    else s
  | none => s

/-- No conversion for STALE × 32 tick periods (R507). -/
def rvStale (n : Nat) (s : State) : State :=
  if rvValid s n && rvState s ≥ 1 && decide (edges s 16 ≥ (rvSrc s n).last + max 1 (32 * fget s (RV_ACFG_STALE n))) then rvFaultOn n s
  else s

/-- No word of an input for 96 tick periods (R508). -/
def rvInputStale (m : Nat) (s : State) : State :=
  let n := 16 + m
  if rvValid s n && rvState s ≥ 1 && wget (rvCfg s n) 2 2 == 0 && decide (edges s 16 ≥ (rvSrc s n).last + 96) then rvFaultOn n s
  else s

/-- The Reeve is given designation word `k`: a source without VALID neither alarms nor faults (R327, R505). -/
def rvGive (k : Nat) (v : Word) (s : State) : State :=
  if rvUp s then
    let s := setRv { s.rv with maps := tabSet (fun _ => 0) s.rv.maps k v } s
    rvShow (forN 4 (fun j s => if rvValid s (4 * k + j) then s else clrBit (clrBit s RV_ALM_SRC (4 * k + j)) RV_FLT_SRC (4 * k + j)) s)
  else s

/-- VREEVE arrives: the Reeve starts in IDLE with the designations as AFE and DIOL hold them (R502, R505). -/
def reevePowerUp (s : State) : State :=
  if rvUp s then s
  else
    let maps := (List.range 6).foldl (fun t i => tabSet (fun _ => 0) t i
      (rd s (if i < 4 then AFE_RVMAP i else DIO_RVMAP (i - 4)))) []
    setRv { maps := maps } (runIsland 16 s)

/-- The host cores disagree (R163, R504): the Reeve is told, and the lockstep reset comes at once unless the Reeve is armed. -/
def lockstepMismatch (s : State) : State :=
  if islUp s 2 then
    let armed := rvUp s && rvState s == 1
    let s := onlyIf (rvUp s) (fun s => { s with rvTrig := s.rvTrig ++ [.lockstep] }) s
    let s := { s with sys := { s.sys with lockWait := true } }
    if armed then s else lockReset s
  else s

/-! ### The commands -/

def inReeve (f : State → State) (s : State) : Host.Outcome State Fault Refusal := .next (if rvUp s then f (stir 16 s) else s)

def execReevePowerUp (s : State) : Host.Outcome State Fault Refusal := .next (reevePowerUp s)

/-- VREEVE is lost; a lockstep reset that waited takes place (R504, R509). -/
def execReeveSupplyLoss (s : State) : Host.Outcome State Fault Refusal :=
  .next (if rvUp s then lockReset (resetIsland 16 s) else s)

def execReeveTrigger (s : State) : Host.Outcome State Fault Refusal :=
  .next (match s.rvTrig with
    | c :: l =>
      let s := { s with rvTrig := l }
      if rvUp s then onlyIf (c == .lockstep) lockReset (rvTrigger c (stir 16 s)) else s
    | [] => s)

/-- A write of a command to RV_CMD with its KEY. -/
def rvCmdRow (i : Initiator) (op : Nat) (s : State) : Host.Outcome State Fault Refusal :=
  .next (access i RV_CMD (rvCmdWrite (BitVec.ofNat 32 (op * 65536 + 0x5E7A))) s)

def execArm (i : Initiator) (s : State) : Host.Outcome State Fault Refusal := rvCmdRow i 1 s
def execDisarm (i : Initiator) (s : State) : Host.Outcome State Fault Refusal := rvCmdRow i 2 s
def execEngage (i : Initiator) (s : State) : Host.Outcome State Fault Refusal := rvCmdRow i 3 s
def execResume (i : Initiator) (s : State) : Host.Outcome State Fault Refusal := rvCmdRow i 4 s
def execAckh (i : Initiator) (s : State) : Host.Outcome State Fault Refusal := rvCmdRow i 5 s
def execApply (i : Initiator) (s : State) : Host.Outcome State Fault Refusal := rvCmdRow i 6 s

def execReeveConfigWrite (i : Initiator) (reg : RvReg) (v : Word) (s : State) : Host.Outcome State Fault Refusal :=
  .next (access i reg.addr (rvConfigWrite reg.addr v) s)

def execReeveChannelCode (s : State) : Host.Outcome State Fault Refusal :=
  inReeve (fun s => match s.afe.rvOut with
    | c :: l =>
      let s := { s with afe := { s.afe with rvOut := l } }
      if rvState s ≥ 1 then
        forN 16 (fun n s => if rvValid s n && rvOf s n == c.chan then rvCode n c.code c.range s else s) s
      else s
    | [] => s) s

def execReeveInputWord (s : State) : Host.Outcome State Fault Refusal :=
  inReeve (fun s => match s.dio.rvOut with
    | w :: l =>
      let s := { s with dio := { s.dio with rvOut := l } }
      if rvState s ≥ 1 && rvValid s (16 + w.des) then rvInput w s else s
    | [] => s) s

def execReeveInputDelayExpiry (m : Fin 8) (s : State) : Host.Outcome State Fault Refusal := inReeve (rvInputDelay m.val) s
def execReeveSourceStale (n : Fin 16) (s : State) : Host.Outcome State Fault Refusal := inReeve (rvStale n.val) s
def execReeveInputStale (m : Fin 8) (s : State) : Host.Outcome State Fault Refusal := inReeve (rvInputStale m.val) s

/-- DIOL tells of a first-pick marker (R512). -/
def execReeveMarker (s : State) : Host.Outcome State Fault Refusal :=
  inReeve (fun s => if s.rv.marks = 0 then s
    else
      let s := setRv { s.rv with marks := s.rv.marks - 1 } s
      onlyIf (rvState s == 2) (setF · RV_STAT_MARKSEEN) s) s

def execLockstepMismatch (s : State) : Host.Outcome State Fault Refusal := .next (lockstepMismatch s)

end Sys2Proof.Machine
end

