-- ==== Sys2Proof/Machine/Selv.lean ====
section
/-! DEFINITION. The selvedge link: pairing, heartbeats, takeover and handover, state copies and votes (R481 to R501). -/

namespace Sys2Proof.Machine

/-! ### Registers (R484, R487, R490, R495) -/

/-- EN set (R484, R496): RELEASE is sent and pairing begins. -/
def selvEnable (s : State) : State :=
  relayDiol .release (setSelv { s.selv with alone := 0, heard := none, peer := none } (setF s SELV_CTL_EN))

/-- EN cleared (R484, R489, R498). -/
def selvDisable (s : State) : State :=
  let taking := s.selv.taking
  let s := pairUpdate (setSelv { s.selv with heard := none, peer := none } (selvRole .none s))
  clrF (onlyIf taking (relayDiol .release) s) SELV_CTL_EN

/-- A write to SELV_CTL (R484, R491, R495). -/
def selvCtlWrite (v : Word) (s : State) : State :=
  let was := flag s SELV_CTL_EN
  let s := onlyIf (wget v 31 31 == 1) (setF · SELV_CTL_LOCK) s
  let s := cdupUpdate (fset s SELV_CTL_CDUP (wget v 1 1))
  let s := if was = false ∧ wget v 0 0 = 1 then selvEnable s else if was ∧ wget v 0 0 = 0 then selvDisable s else s
  if wget v 2 2 = 1 ∧ selvRoleOf s = .active ∧ fget s SELV_STAT_PROLE = 1 ∧ (s.selv.peer.map (·.copyOk)).getD false then
    setSelv { s.selv with request := true } s
  else s

/-- A write to SELV_CFG: UNIT bears on PAIRED (R483). -/
def selvCfgWrite (v : Word) (s : State) : State := pairUpdate (codeWrite SELV_CFG v s)

/-- A write to SELV_CPCFG: a CPLEN above 256 makes it ineffective (R501). -/
def cpcfgWrite (v : Word) (s : State) : State := if wget v 8 0 > 256 then s else codeWrite SELV_CPCFG v s

/-- A write to SELV_RXCFG: an RXPAGE above 384 makes it ineffective (R501). -/
def rxcfgWrite (v : Word) (s : State) : State := if wget v 8 0 > 384 then s else codeWrite SELV_RXCFG v s

/-! ### Boundaries, heartbeats and takeover (R486, R493 to R495) -/

/-- SELV sends a heartbeat (R486). -/
def sendBeat (p : Word) (handover : Bool) (s : State) : State :=
  setSelv { s.selv with sentBeat := some ⟨selvRoleOf s, selvEpoch s, p, rd s LOOM_PICKDONE, handover⟩ } s

/-- The takeover of R494, step 1: the copy follows. -/
def takeover (s : State) : State :=
  let s := setF (becomeActive s) SELV_EVT_TAKEOVER
  setSelv { s.selv with taking := true } s

/-- A STANDBY module at a boundary of its own (R493, R495). -/
def standbyBoundary (s : State) : State :=
  if s.selv.granted then takeover s
  else if s.selv.beat then fset s SELV_STAT_MISS 0
  else if fget s SELV_STAT_MISS < 2 then fset s SELV_STAT_MISS (fget s SELV_STAT_MISS + 1)
  else if flag s SELV_CFG_FENCE && flag s SELV_STAT_ROLEI then setF s SELV_EVT_FENCED
  else takeover s

/-- A boundary reaches SELV (R484, R486): it closes the pick in which heartbeats were looked for (R493). -/
def boundaryAt (p : Word) (s : State) : State :=
  if flag s SELV_CTL_EN then
    match selvRoleOf s with
    | .none => setSelv { s.selv with alone := if flag s SELV_STAT_PAIRED then 0 else s.selv.alone + 1 } s
    | .active =>
      let s := sendBeat p s.selv.request s
      setSelv { s.selv with request := false, giving := s.selv.giving || s.selv.request } s
    | .standby => standbyBoundary (sendBeat p false s)
    | .demoted => s
  else s

/-- The pick that the boundary opens has had no heartbeat yet (R493). -/
def noBeat (s : State) : State := setSelv { s.selv with beat := false } s

/-- Steps 2 and 3 of R494: the newest good copy goes into the copy region, outputs with PAR are commanded, and ASSUME follows. -/
def takeoverDone (s : State) : State :=
  if s.selv.taking then
    let s := setSelv { s.selv with taking := false } s
    let s := match s.selv.good with
      | some h =>
        let src := (fget s SELV_RXCFG_RXPAGE + 64 * fget s SELV_STAT_BUFNEW) * 4096
        let w := putBytes s.loom.warp (fget s SELV_CPCFG_CPPAGE * 4096) (bytesAt s.loom.warp src (1024 * h.len))
        forN 24 (fun m s => if outPar s m then relayDiol (.out m (h.outsh.testBit m)) s else s) { s with loom := { s.loom with warp := w } }
      | none => setF s SELV_EVT_NOCOPY
    relayDiol .assume s
  else s

/-- The partner's role and epoch as it reports them. -/
def peerReport (r : Role) (e : BitVec 16) (s : State) : State := fset (fset s SELV_STAT_PROLE r.code) SELV_EPOCH_PEPOCH e.toNat

/-- A keepalive arrives (R483, R484, R491). -/
def keepaliveIn (k : Keepalive) (s : State) : State :=
  let s := peerReport k.role k.epoch s
  pairUpdate (setSelv { s.selv with heard := some (edges s 14), peer := some k } s)

/-- A heartbeat arrives (R484, R493, R495, R496). -/
def heartbeatIn (h : Heartbeat) (s : State) : State :=
  let s := cdupUpdate (leaveNone (peerReport h.role h.epoch s))
  if h.role = .active then
    let s := setSelv { s.selv with beat := true } s
    match selvRoleOf s with
    | .standby =>
      let s := setSelv { s.selv with due := if h.handover then some h.done else s.selv.due } s
      fset s SELV_STAT_MISS 0
    | .active =>
      if epochGreater h.epoch (selvEpoch s) || (h.epoch == selvEpoch s && fget s SELV_CFG_UNIT == 1) then
        let giving := s.selv.giving
        onlyIf (!giving) (setF · SELV_EVT_SPLIT) (selvRole .standby s)
      else s
    | .demoted => if epochGreater h.epoch (selvEpoch s) then relayDiol .release s else s
    | .none => s
  else s

/-! ### State copies (R487 to R490) -/

/-- The length of a copy in KB (R487). -/
def copyLen (s : State) : Nat := min (fget s SELV_CPCFG_CPLEN) (min 256 (fget s LOOM_PICKCFG_PICKUS * 64 / 1000))

/-- A copy starts to be sent (R487, R488). -/
def copyStart (k : Word) (outsh : Nat) (s : State) : State :=
  let n := copyLen s
  let q := s.selv.txSeq + 1
  let s := onlyIf (decide (n < fget s SELV_CPCFG_CPLEN)) (setF · SELV_EVT_COPYTRUNC) s
  let s := fset s SELV_COPYSEQ_TXSEQ q.toNat
  setSelv { s.selv with txSeq := q, sending := some ⟨q, k, selvEpoch s, n, outsh⟩ } s

/-- A state copy request reaches SELV (R488, R489). -/
def copyRequest (k : Word) (outsh : Nat) (s : State) : State :=
  if selvRoleOf s = .active then
    if s.selv.sending.isNone then copyStart k outsh s
    else
      let s := onlyIf s.selv.wait.isSome (fun s => setF (bump s SELV_CNT_COPYSKIP) SELV_EVT_COPYSKIP) s
      setSelv { s.selv with wait := some (k, outsh) } s
  else s

/-- The CRC-32 of the header and of each block of a copy (R488). -/
def copyCrcs (h : CopyHdr) (data : List Byte) : List Word :=
  Config.copyHdrCrc h.seq h.pick h.epoch h.len h.outsh ::
    (List.range h.len).map (fun i => BitVec.ofNat 32 (crc32 ((data.drop (1024 * i)).take 1024)))

/-- A copy has been sent (R488, R489). -/
def copySent (s : State) : State :=
  match s.selv.sending with
  | some h =>
    let data := bytesAt s.loom.warp (fget s SELV_CPCFG_CPPAGE * 4096) (1024 * h.len)
    let w := s.selv.wait
    let s := setSelv { s.selv with sending := none, wait := none, sent := some ⟨h, data, copyCrcs h data⟩ } s
    match w with
    | some (k, o) => copyStart k o s
    | none => s
  | none => s

/-- A copy has been received (R490, R495). -/
def copyReceived (h : CopyHdr) (data : List Byte) (good : Bool) (s : State) : State :=
  if selvRoleOf s = .standby ∧ flag s SELV_CTL_EN then
    let buf := if flag s SELV_STAT_COPYOK then 1 - fget s SELV_STAT_BUFNEW else 0
    let at_ := (fget s SELV_RXCFG_RXPAGE + 64 * buf) * 4096
    let s := { s with loom := { s.loom with warp := putBytes s.loom.warp at_ (data.take (256 * 1024)) } }
    let newer := match s.selv.good with
      | some g => decide (g.seq.toNat < h.seq.toNat)
      | none => true
    if good && newer then
      let s := setF (fset (fset s SELV_STAT_BUFNEW buf) SELV_COPYSEQ_RXSEQ h.seq.toNat) SELV_STAT_COPYOK
      let due := match s.selv.due with
        | some d => decide (0 < (h.pick - d).toInt)
        | none => false
      setSelv { s.selv with good := some h, granted := s.selv.granted || due } s
    else setF (bump s SELV_CNT_COPYERR) SELV_EVT_COPYERR
  else s

/-! ### Votes (R492) -/

/-- A partner vote arrives: the waiting votes of its source are compared with it (R492, R498). -/
def partnerVote (v : Vote) (s : State) : State :=
  if flag s SELV_STAT_CDUPON then
    let v := { v with at_ := edges s 14 }
    let l := s.selv.votes.filter (fun x => x.src == v.src)
    let s := setSelv { s.selv with pvotes := tabPut s.selv.pvotes v.src v, votes := s.selv.votes.filter (fun x => x.src != v.src) } s
    forL l (fun x s => if v.at_ - x.at_ ≤ fget s SELV_AGRCFG_AGRWIN then compareVotes x v s else voteDisagreed s) s
  else s

/-- A local vote has waited AGRWIN tick periods without a partner vote (R492). -/
def voteExpiry (s : State) : State :=
  match s.selv.votes.find? (fun x => decide (edges s 14 - x.at_ > fget s SELV_AGRCFG_AGRWIN)) with
  | some x => voteDisagreed (setSelv { s.selv with votes := s.selv.votes.erase x } s)
  | none => s

/-! ### The commands -/

def inSelv (f : State → State) (s : State) : Host.Outcome State Fault Refusal := .next (if selvUp s then f (stir 14 s) else s)

/-- The bit of a lane. -/
def laneBit (n : Nat) : Fld := if n = 0 then SELV_STAT_LANE0 else SELV_STAT_LANE1

def execSelvLaneUp (lane : Fin 2) (s : State) : Host.Outcome State Fault Refusal :=
  inSelv (fun s => if flag s (laneBit lane.val) then s else pairUpdate (setF (setF s (laneBit lane.val)) SELV_EVT_LANEUP)) s

def execSelvLaneDown (lane : Fin 2) (s : State) : Host.Outcome State Fault Refusal :=
  inSelv (fun s => if flag s (laneBit lane.val) then pairUpdate (setF (clrF s (laneBit lane.val)) SELV_EVT_LANEDN) else s) s

def execSelvEnable (i : Initiator) (s : State) : Host.Outcome State Fault Refusal :=
  .next (access i SELV_CTL (fun s => selvCtlWrite (rd s SELV_CTL ||| 1) s) s)

def execSelvDisable (i : Initiator) (s : State) : Host.Outcome State Fault Refusal :=
  .next (access i SELV_CTL (fun s => selvCtlWrite (rd s SELV_CTL &&& 0xFFFFFFFE) s) s)

/-- Has a 32nd tick edge passed since the latest periodic keepalive (R483)? -/
def keepDue (s : State) : Bool := flag s SELV_CTL_EN && decide (s.selv.keepAt / 32 < edges s 14 / 32)

def execSelvKeepaliveSend (s : State) : Host.Outcome State Fault Refusal :=
  inSelv (fun s => onlyIf (keepDue s) (fun s => sendKeepalive (setSelv { s.selv with keepAt := edges s 14 } s)) s) s

def execSelvKeepaliveReceived (k : Keepalive) (s : State) : Host.Outcome State Fault Refusal :=
  inSelv (fun s => onlyIf (flag s SELV_CTL_EN) (keepaliveIn k) s) s

def execSelvPairTimeout (s : State) : Host.Outcome State Fault Refusal :=
  inSelv (fun s => match s.selv.heard with
    | some e => if edges s 14 ≥ e + 96 then pairUpdate (setSelv { s.selv with heard := none } s) else s
    | none => s) s

/-- ALONE boundaries without a partner (R484, R497). -/
def execSelvLoneStart (rolei : Bool) (s : State) : Host.Outcome State Fault Refusal :=
  inSelv (fun s =>
    let s := putF s SELV_STAT_ROLEI rolei
    if flag s SELV_CTL_EN && selvRoleOf s == .none && !flag s SELV_STAT_PAIRED && decide (s.selv.alone ≥ fget s SELV_CFG_ALONE) then
      if flag s SELV_CFG_FENCE && rolei then setF s SELV_EVT_FENCED else relayDiol .assume (becomeActive s)
    else s) s

def execSelvHeartbeatSend (rolei : Bool) (s : State) : Host.Outcome State Fault Refusal :=
  inSelv (fun s => match s.selv.bounds with
    | p :: l => noBeat (boundaryAt p (putF (setSelv { s.selv with bounds := l } s) SELV_STAT_ROLEI rolei))
    | [] => s) s

def execTakeoverCopyComplete (s : State) : Host.Outcome State Fault Refusal := inSelv takeoverDone s

def execSelvHeartbeatReceived (h : Heartbeat) (s : State) : Host.Outcome State Fault Refusal :=
  inSelv (fun s => onlyIf (flag s SELV_CTL_EN) (heartbeatIn h) s) s

def execStateCopyRequest (s : State) : Host.Outcome State Fault Refusal :=
  inSelv (fun s => match s.loom.copyReq with
    | (k, o) :: l => copyRequest k o { s with loom := { s.loom with copyReq := l } }
    | [] => s) s

def execStateCopySent (s : State) : Host.Outcome State Fault Refusal := inSelv copySent s

def execStateCopyReceived (hdr : CopyHdr) (data : List Byte) (good : Bool) (s : State) : Host.Outcome State Fault Refusal :=
  inSelv (copyReceived hdr data good) s

def execSwitch (i : Initiator) (s : State) : Host.Outcome State Fault Refusal :=
  .next (access i SELV_CTL (fun s => selvCtlWrite (rd s SELV_CTL ||| 4) s) s)

def execPartnerVoteReceived (v : Vote) (s : State) : Host.Outcome State Fault Refusal := inSelv (partnerVote v) s
def execVoteExpiry (s : State) : Host.Outcome State Fault Refusal := inSelv voteExpiry s

/-- A write that sets or clears CDUP (R491). -/
def execCdupWrite (i : Initiator) (on : Bool) (s : State) : Host.Outcome State Fault Refusal :=
  .next (access i SELV_CTL (fun s => selvCtlWrite (wset (rd s SELV_CTL) 1 1 on.toNat) s) s)

end Sys2Proof.Machine
end

