-- ==== Sys2Proof/Machine/Slu.lean ====
section
/-! DEFINITION. The sluices: the four phases, arbitration with aging, the refusal of tagged words and timeouts (R16 to R26, R32 to R35,
R46 to R48, R553). -/

namespace Sys2Proof.Machine

/-- The key of a pair in the tables of sluices and settings. -/
def pairKey (src dst : Nat) : Nat := 32 * src + dst

def sluiceOf (s : State) (src dst : Nat) : Sluice := tabGet (fun _ => {}) s.slu.sluices (pairKey src dst)

def setSluice (src dst : Nat) (x : Sluice) (s : State) : State :=
  { s with slu := { s.slu with sluices := tabSet (fun _ => {}) s.slu.sluices (pairKey src dst) x } }

/-- Level and limit of a requester after reset (R35). -/
def arbReset (m : Bool) (k : Nat) : ArbSet := ⟨(sluiceLevel m (k / 32) (k % 32)).getD 0, 256⟩

/-- Programmed level and limit of a requester (R32). -/
def arbOf (s : State) (src dst : Nat) : ArbSet := tabGet (arbReset s.sys.variantM) s.slu.arb (pairKey src dst)

/-- Does a sluice leave the loom (R25)? -/
def leavesLoom (src dst : Nat) : Bool := (src == 3 || isQuadrant src) && !(dst == 3 || isQuadrant dst)

/-- Is a tagged word refused on a sluice (R26)? -/
def refusesTag (src dst : Nat) : Bool := (leavesLoom src dst && !(isQuadrant src && dst == 0)) || (isQuadrant src && dst == 3)

/-- Is WARP still clearing its memory, and so not yet awake (R227)? -/
def clearing (s : State) (i : Nat) : Bool := i == 3 && flag s LOOM_STAT_CLR

/-- Does an island's clock run, as SLU_ISLWAKE shows it: islands 18 to 26 as DIOL sees them (R46)? -/
def awake (s : State) (i : Nat) : Bool := (power s i == .run || power s i == .idle) && !clearing s i

/-- Does an island accept words of its sluices? -/
def accepts (s : State) (i : Nat) : Bool := running s i && !clearing s i

/-! ### The four phases (R16, R17, R22 to R26, R553) -/

/-- A tagged word is refused: a fatal loom fault (R26, R47). -/
def provLeak (src dst : Nat) (s : State) : State :=
  fatalFault 1 none (bump (sluError 1 src dst 0 s) SLU_LEAKCNT_COUNT)

/-- The width of a sluice in bits (R25); a pair of several rows has the widest (R554). -/
def sluiceWidth (src dst : Nat) : Nat :=
  if dst == 3 && (src == 8 || src == 9 || src == 10 || src == 11 || src == 14 || isQuadrant src) then 64
  else if src == 3 && (dst == 10 || dst == 11 || dst == 12 || dst == 14 || isQuadrant dst) then 64
  else if src == 12 && dst == 2 then 64
  else 32

/-- A word as the wires of a sluice carry it (R25). -/
def fitWord (src dst : Nat) (w : SluiceWord) : SluiceWord :=
  { w with bits := BitVec.ofNat 64 (w.bits.toNat % 2 ^ sluiceWidth src dst) }

/-- Phase 1 on a sluice that is free: the word waits at the destination's arbiter (R34). -/
def raiseReq (src dst : Nat) (w : SluiceWord) (s : State) : State :=
  let s := rouse dst (stir src s)
  let a := arbOf s src dst
  setSluice src dst { sluiceOf s src dst with
    req := true, word := some (fitWord src dst w), since := waitEdges s src, age := 0, lvl := a.level, lim := a.limit } s

/-- The source drives a word and raises REQ. The fabric answers an access to an island that is not up without raising REQ (R24). -/
def sluiceRequest (src dst : Nat) (w : SluiceWord) (s : State) : State :=
  let x := sluiceOf s src dst
  if (sluiceLevel s.sys.variantM src dst).isNone || !running s src || x.req || x.ack then s
  else if isQuadrant src && dst == 0 && dbgLevel s ≠ 2 then s
  else if w.tag && refusesTag src dst then provLeak src dst s
  else match w.acc with
    | some (_, a) => match accError s a.toNat with
      | some e => wordError e w s
      | none => raiseReq src dst w s
    | none => raiseReq src dst w s

def execSluiceRequest (src dst : Fin 27) (w : SluiceWord) (s : State) : Host.Outcome State Fault Refusal :=
  .next (sluiceRequest src.val dst.val w s)

/-- Does a word wait at the destination's arbiter (R32)? -/
def Sluice.waits (x : Sluice) : Bool := x.req && !x.ack && x.word.isSome

/-- Does the arbiter of an island grant a source now: no other waiting source with a free entry comes before it (R17, R32)? -/
def granted (s : State) (src dst : Nat) : Bool :=
  let x := sluiceOf s src dst
  (List.range 27).all (fun o =>
    let y := sluiceOf s o dst
    o == src || !y.waits || decide (y.rx.length ≥ 2)
      || before (effLevel x.lvl x.lim x.age) x.age src (effLevel y.lvl y.lim y.age) y.age o)

/-- The oldest read that waits for an answer on a sluice is answered (R20). -/
def answered (src dst : Nat) (s : State) : State :=
  let l := s.slu.open_
  match l.findIdx? (fun r => r.src == dst && r.dst == src) with
  | some k => { s with slu := { s.slu with open_ := l.eraseIdx k } }
  | none => s

/-- A read that has crossed its sluice waits for its answer (R20, R23). -/
def openRead (src dst : Nat) (w : SluiceWord) (s : State) : State :=
  match w.acc, w.wr with
  | some (i, a), false => { s with slu := { s.slu with open_ := s.slu.open_ ++ [⟨src, dst, i, a⟩] } }
  | _, _ => s

/-- Phase 2: after the consuming logic took `taken` words, the word goes into a free entry and ACK rises; an abandoned word is discarded
(R17, R19, R23). -/
def sluiceLatch (src dst taken : Nat) (s : State) : State :=
  let x := sluiceOf s src dst
  let x := { x with rx := x.rx.drop taken }
  let s := setSluice src dst x s
  match x.word with
  | some w =>
    if x.waits && accepts s dst && decide (x.rx.length < 2) && granted s src dst then
      let s := setSluice src dst { x with ack := true, age := 0, rx := if x.dead then x.rx else x.rx ++ [w] } (stir dst s)
      if x.dead then s else if w.ans then answered src dst s else openRead src dst w s
    else s
  | none => s

def execSluiceLatch (src dst : Fin 27) (taken : Fin 3) (s : State) : Host.Outcome State Fault Refusal :=
  .next (sluiceLatch src.val dst.val taken.val s)

/-- Phase 3: the source sees ACK and lowers REQ; the word may change. -/
def execSluiceAckSeen (src dst : Fin 27) (s : State) : Host.Outcome State Fault Refusal :=
  let x := sluiceOf s src.val dst.val
  if x.req && x.ack && running s src.val then
    .next (setSluice src.val dst.val { x with req := false, word := none, dead := false } s)
  else .next s

/-- Phase 4: the destination sees REQ low and lowers ACK. -/
def execSluiceAckLow (src dst : Fin 27) (s : State) : Host.Outcome State Fault Refusal :=
  let x := sluiceOf s src.val dst.val
  if !x.req && x.ack && running s dst.val then .next (setSluice src.val dst.val { x with ack := false, lvl := 0, lim := 0, since := 0 } s)
  else .next s

/-- A handshake that has not completed phase 2 within SLU_CTL.TMO tick periods of an awake destination is abandoned (R22, R23). -/
def handshakeTimeout (src dst : Nat) (s : State) : State :=
  let x := sluiceOf s src dst
  match x.word with
  | some w =>
    if x.waits && !x.dead && accepts s dst && decide (waitEdges s src ≥ x.since + fget s SLU_CTL_TMO + 1) then
      let s := setSluice src dst { x with dead := true } s
      if w.acc.isSome then wordError .timeout w s else bump (sluError 0 src dst 0 s) SLU_TMOCNT_COUNT
    else s
  | none => s

def execHandshakeTimeout (src dst : Fin 27) (s : State) : Host.Outcome State Fault Refusal :=
  .next (handshakeTimeout src.val dst.val s)

/-! ### Ages (R32 to R34, R206, R228, R423) -/

/-- The age of a waiting requester, as it has been counted up to now; it saturates at 0xFFFF and promotes the requester (R32, R33). -/
def agePromotion (who : Requester) (age : Nat) (s : State) : State :=
  match who with
  | .sluice src dst =>
    let x := sluiceOf s src.val dst.val
    if x.waits then setSluice src.val dst.val { x with age := max x.age (min age 0xFFFF) } s else s
  | .warpBank b r =>
    let x := bankReq s b.val r.val
    if x.on then setBankReq b.val r.val { x with age := max x.age (min age 0xFFFF) } s else s
  | .shuttle n =>
    if hasWords s n.val && quadTurn s (n.val / 4) != some n.val then
      { s with loom := { s.loom with shAge := tabSet (fun _ => 0) s.loom.shAge n.val (max (shAge s n.val) (min age 0xFFFF)) } }
    else s
  | .nand l =>
    if (nandWaiting s l.val).isSome then
      setStore { s.store with ages := tabSet (fun _ => 0) s.store.ages l.val (max (nandAge s l.val) (min age 0xFFFF)) } s
    else s

def execAgePromotion (who : Requester) (age : BitVec 16) (s : State) : Host.Outcome State Fault Refusal :=
  .next (agePromotion who age.toNat s)

/-! ### The arbiter registers (R46) -/

/-- SLU_ARBCFG as it reads. -/
def arbCfgRead (s : State) : Word :=
  let src := fget s SLU_ARBIDX_SRC
  let dst := fget s SLU_ARBIDX_DST
  if (sluiceLevel s.sys.variantM src dst).isSome then
    let a := arbOf s src dst
    BitVec.ofNat 32 (2 ^ 31 + a.level % 4 * 65536 + a.limit % 32768)
  else 0

/-- A write to SLU_ARBCFG (R10, R34). -/
def arbCfgWrite (v : Word) (s : State) : State :=
  let src := fget s SLU_ARBIDX_SRC
  let dst := fget s SLU_ARBIDX_DST
  if flag s SLU_CTL_LOCK || (sluiceLevel s.sys.variantM src dst).isNone then s
  else { s with slu := { s.slu with
    arb := tabSet (arbReset s.sys.variantM) s.slu.arb (pairKey src dst) ⟨wget v 17 16, wget v 14 0⟩ } }

/-- SLU_ARBAGE as it reads. -/
def arbAgeRead (s : State) : Word :=
  let src := fget s SLU_ARBIDX_SRC
  let dst := fget s SLU_ARBIDX_DST
  if (sluiceLevel s.sys.variantM src dst).isNone then 0
  else
    let x := sluiceOf s src dst
    if x.waits then BitVec.ofNat 32 (2 ^ 31 + effLevel x.lvl x.lim x.age % 4 * 65536 + x.age % 65536)
    else BitVec.ofNat 32 ((arbOf s src dst).level % 4 * 65536)

/-- SLU_ISLUP and SLU_ISLWAKE as they read. -/
def islUpWord (s : State) : Word :=
  BitVec.ofNat 32 (((List.range 27).map (fun i => (islUp s i && (i != 17 || s.sys.variantM)).toNat * 2 ^ i)).sum)

def islWakeWord (s : State) : Word :=
  BitVec.ofNat 32 (((List.range 27).map (fun i => (awake s i && (i != 17 || s.sys.variantM)).toNat * 2 ^ i)).sum)

end Sys2Proof.Machine
end

