-- ==== Sys2Proof/Machine/BusWrite.lean ====
section
/-! DEFINITION. What a write does at each address of the host address map (R7 to R10, R20 to R24, R36 to R38): the registers with a
behaviour of their own, the stores and buffers, and the access codes for all others. -/

namespace Sys2Proof.Machine

/-- A run of words of one window with a behaviour of their own: the first address, the step to the next, how many, and what a write of a
word to the k-th does. -/
structure WriteRoute where
  base : Nat
  step : Nat
  cnt  : Nat
  act  : Nat → Word → State → State

/-- One word with a behaviour of its own. -/
def WriteRoute.one (a : Nat) (f : Word → State → State) : WriteRoute := ⟨a, 4, 1, fun _ => f⟩

/-- Does a run hold an address? -/
def inRun (base step cnt a : Nat) : Bool := decide (base ≤ a) && (a - base) % step == 0 && decide ((a - base) / step < cnt)

/-- A write by the first run that holds the address, else by the access codes (R9). -/
def routeWrite (l : List WriteRoute) (a : Nat) (v : Word) (s : State) : State :=
  match l.find? (fun r => inRun r.base r.step r.cnt a) with
  | some r => r.act ((a - r.base) / r.step) v s
  | none => codeWrite a v s

/-! ### Block by block -/

/-- Is an instruction of the host at its pc fetched from the boot ROM (R67)? -/
def hostInRom (i : Initiator) (s : State) : Bool := i == .host && decide (s.cpu.core.pc.toNat < 0x10000)

def sysWrites (i : Initiator) : List WriteRoute :=
  [.one SYS_SWRST swrstWrite, .one SYS_STARTCTL (fun v s => startctlWrite (hostInRom i s) v s), .one SYS_NOSLEEP nosleepWrite,
   .one SYS_WDCTL wdctlWrite, .one SYS_WDKICK wdkickWrite]

/-- A write to SLU_ERRSTAT: once every bit is clear, the capture is released (R46, R48). -/
def errstatWrite (v : Word) (s : State) : State :=
  let s := codeWrite SLU_ERRSTAT v s
  if rd s SLU_ERRSTAT = 0 then clrF s SLU_ERRINFO_VALID else s

def sluWrites : List WriteRoute := [.one SLU_ERRSTAT errstatWrite, .one SLU_ARBCFG arbCfgWrite]

/-- Writes to LOOM_DEADLINE and LOOM_ATCFG outside their ranges are ineffective (R241). -/
def deadlineWrite (v : Word) (s : State) : State :=
  if wget v 9 0 < 16 ∨ wget v 9 0 > 656 then s else codeWrite LOOM_DEADLINE v s

def atcfgWrite (v : Word) (s : State) : State :=
  if wget v 21 16 > 61 ∨ wget v 12 0 > 4096 then s else codeWrite LOOM_ATCFG v s

def loomWrites : List WriteRoute :=
  [.one LOOM_CTL loomCtlWrite, .one LOOM_PICKCFG pickCfgWrite, .one LOOM_DEADLINE deadlineWrite, .one LOOM_ATCFG atcfgWrite,
   ⟨LOOM_SHCMD 0, 0x20, 16, shCmdWrite⟩, ⟨0x20240000, 4, 0x6000, fun k v s => windowWrite (0x40000 + 4 * k) v s⟩]

/-- A word of a sequencer's stores, which the host reaches while the sequencer is off (R89). -/
def seqStoreWrite (k a : Nat) (v : Word) (s : State) : State := if flag s (AFE_SCANCTL_EN k) then s else wr s a v

/-- The words that a coefficient set lists (R127): by offset. -/
def inSet (o : Nat) : Bool := decide (o < 0x50) || (decide (0x80 ≤ o) && decide (o < 0xC0))

/-- A word of a channel's shadow set. -/
def shadowWrite (n o : Nat) (v : Word) (s : State) : State := if inSet o then wr s (shadowBase n + o) v else s

def afeWrites : List WriteRoute :=
  [⟨AFE_SCANCTL 0, 4, 4, scanCtlWrite⟩, .one AFE_BLKWIN blkWinWrite, .one AFE_BLKSW blkSwWrite, ⟨AFE_BLKCFG 0, 4, 8, blkCfgWrite⟩,
   ⟨AFE_BLKMAPLO 0, 8, 8, fun k v s => blkMapWrite (AFE_BLKMAPLO k) k v s⟩,
   ⟨AFE_BLKMAPHI 0, 8, 8, fun k v s => blkMapWrite (AFE_BLKMAPHI k) k v s⟩,
   ⟨AFE_RVMAP 0, 4, 4, fun k v s => let s := codeWrite (AFE_RVMAP k) v s; rvGive k (rd s (AFE_RVMAP k)) s⟩,
   ⟨AFE_GCFG 0, 4, 16, odrWrite⟩, ⟨AFE_CHCFG 0, 16, 64, chCfgWrite⟩, ⟨AFE_CHRNG 0, 16, 64, chRngWrite⟩, .one AFE_CALCMD calCmdWrite,
   ⟨0x20308000, 4, 0x2000, fun k v s => if k % 128 < 64 then shadowWrite (k / 128) (4 * (k % 128)) v s else s⟩,
   ⟨0x20310000, 4, 0x4000, fun k v s => if k % 0x1000 < 0x800 then seqStoreWrite (k / 0x1000) (0x20310000 + 4 * k) v s else s⟩,
   ⟨0x20320000, 4, 0x1000, fun k v s => if k % 0x400 < 0x200 then seqStoreWrite (k / 0x400) (0x20320000 + 4 * k) v s else s⟩]

def vibWrites : List WriteRoute := [.one VIB_BLKCFG vibBlkWrite, ⟨VIB_CHCFG 0, 0x20, 8, vibCfgWrite⟩, ⟨VIB_CHBIAS 0, 0x20, 8, vibBiasWrite⟩]

def dioWrites : List WriteRoute :=
  [⟨DIO_RVMAP 0, 4, 2, fun k v s => let s := rvmapWrite k v s; rvGive (4 + k) (rd s (DIO_RVMAP k)) s⟩, .one DIO_OCMD ocmdWrite,
   ⟨DIO_OXCMD 0, 0x20, 3, oxcmdWrite⟩, ⟨DIO_OBANK 0, 0x20, 3, obankWrite⟩, ⟨DIO_OUTCFG 0, 0x10, 24, outcfgWrite⟩,
   ⟨DIO_INCFG 0, 0x10, 48, incfgWrite⟩, ⟨DIO_IBANK 0, 0x10, 6, ibankWrite⟩]

/-- The registers of mailbox `j` of controller `k`, by the number of their word (R362). -/
def mailboxWrite (k j w : Nat) (v : Word) (s : State) : State :=
  match w with
  | 0 => mbcfgWrite k j v s
  | 1 => mbidWrite k j v s
  | 3 => mbstatWrite k j v s
  | _ => if 16 ≤ w then mbdataWrite k j (w - 16) v s else codeWrite (CAN_MBCFG k j + 4 * w) v s

def canWrites : List WriteRoute :=
  [⟨CAN_CTL 0, 0x4000, 3, canCtlWrite⟩, ⟨CAN_NBT 0, 0x4000, 3, fun k v s => canTimeWrite k (CAN_NBT k) v s⟩,
   ⟨CAN_DBT 0, 0x4000, 3, fun k v s => canTimeWrite k (CAN_DBT k) v s⟩,
   ⟨CAN_TDC 0, 0x4000, 3, fun k v s => canTimeWrite k (CAN_TDC k) v s⟩, ⟨CAN_ALMCTL 0, 0x4000, 3, canAlmWrite⟩,
   ⟨CAN_MBCFG 0 0, 4, 0x800, fun w v s => mailboxWrite 0 (w / 32) (w % 32) v s⟩,
   ⟨CAN_MBCFG 1 0, 4, 0x800, fun w v s => mailboxWrite 1 (w / 32) (w % 32) v s⟩,
   ⟨CAN_MBCFG 2 0, 4, 0x800, fun w v s => mailboxWrite 2 (w / 32) (w % 32) v s⟩]

/-- A word of the ETH window's memories. -/
def linkMemWrite (o : Nat) (v : Word) (s : State) : State :=
  if inLinkMem o then setLinkMem (putBytes s.links.mem o (bytesOf 4 v.toNat)) s else s

def ethWrites : List WriteRoute :=
  [⟨ETH_CTL 0, 0x100, 2, ethCtlWrite⟩, ⟨ETH_RXTAIL 0, 0x100, 2, rxtailWrite⟩, ⟨ETH_TXCMD 0, 0x100, 2, txcmdWrite⟩,
   .one UART_BAUD uartBaudWrite, .one UART_DATA uartSend, ⟨0x20710000, 4, 0x8400, fun k v s => linkMemWrite (0x10000 + 4 * k) v s⟩]

def storeWrites : List WriteRoute :=
  [.one STORE_NCMD ncmdWrite, .one REC_CMD recCmdWrite, .one REC_CURIDX curidxWrite, ⟨REC_HDESC 0, 4, 4096, descWrite false⟩,
   ⟨REC_XDESC 0, 4, 4096, descWrite true⟩,
   ⟨0x20810000, 4, 1028, fun k v s => setStore { s.store with buf := putBytes s.store.buf (4 * k) (bytesOf 4 v.toNat) } s⟩]

def tickWrites (i : Initiator) : List WriteRoute :=
  [.one TICK_CTL tickCtlWrite, .one TICK_CMD tickCmdWrite, .one TICK_STAT (tickStatWrite i), .one TICK_TRIM tickTrimWrite,
   ⟨TICK_ALMHI 0, 8, 4, tickAlarmWrite⟩]

def dispWrites : List WriteRoute :=
  [.one DISP_CTL dispCtlWrite, .one DISP_LCDCFG lcdcfgWrite, .one DISP_CMD dispCmdWrite, ⟨DISP_ANTGT 0, 4, 2, antgtWrite⟩,
   ⟨0x20A01000, 4, 256, fun k v s => wr s (0x20A01000 + 4 * k) (if k % 2 = 0 then v &&& 0xC73F1F00 else v)⟩, ⟨0x20A02000, 4, 256, fun k v s => wr s (0x20A02000 + 4 * k) v⟩]

def perfWrites : List WriteRoute :=
  [.one PERF_CMD perfCmdWrite, ⟨PERF_SEL 0, 4, 64, perfSelWrite⟩, ⟨PERF_VAL 0, 4, 64, perfValWrite⟩]

def selvWrites : List WriteRoute :=
  [.one SELV_CTL selvCtlWrite, .one SELV_CFG selvCfgWrite, .one SELV_CPCFG cpcfgWrite, .one SELV_RXCFG rxcfgWrite]

def reeveWrites : List WriteRoute :=
  [.one RV_CMD rvCmdWrite, .one RV_CAUSE rvCauseWrite, .one RV_CTL (rvConfigWrite RV_CTL),
   ⟨RV_ACFG 0, 4, 64, fun k v s => rvConfigWrite (RV_ACFG 0 + 4 * k) v s⟩, ⟨RV_ICFG 0, 4, 8, fun k v s => rvConfigWrite (RV_ICFG k) v s⟩]

def queueWrites : List WriteRoute :=
  [⟨QUEUE_CFG 0, 0x40, 32, queueCfgWrite⟩, ⟨QUEUE_CTL 0, 0x40, 32, queueCtlWrite⟩, ⟨QUEUE_WR 0, 0x40, 32, queueWrWrite⟩,
   ⟨QUEUE_WCMD 0, 0x40, 32, queueWcmdWrite⟩]

/-- The words with a behaviour of their own in the window of block `b` (R36). -/
def blockWrites (i : Initiator) (b : Nat) : List WriteRoute :=
  match b with
  | 0 => sysWrites i
  | 1 => sluWrites
  | 2 => loomWrites
  | 3 => afeWrites
  | 4 => vibWrites
  | 5 => dioWrites
  | 6 => canWrites
  | 7 => ethWrites
  | 8 => storeWrites
  | 9 => tickWrites i
  | 10 => dispWrites
  | 11 => perfWrites
  | 12 => selvWrites
  | 13 => reeveWrites
  | 14 => [.one POLD_REQ (polReqWrite false)]
  | 15 => queueWrites
  | 16 => [.one LIFE_CMD (lifeCmdWrite i)]
  | _ => []

/-! ### The address map -/

/-- Does an access break the width or alignment rule of its region (R7, R37), or write to the boot ROM (R24)? -/
def shapeError (write : Bool) (size : Size) (a : Nat) : Bool :=
  a % size.bytes != 0 || (match region a with
    | .block _ => size != .word
    | .rom => write
    | _ => false)

/-- A write of the low bytes of `v` to host SRAM (R36, R37). -/
def sramWrite (a : Nat) (size : Size) (v : Word) (s : State) : State :=
  { s with cpu := { s.cpu with sram := sramPut s.cpu.boots s.cpu.sram (a - 0x04000000) (bytesOf size.bytes v.toNat) } }

/-- What a write that arrives does at its address. -/
def placeWrite (i : Initiator) (size : Size) (a : Nat) (v : Word) (s : State) : State :=
  match region a with
  | .sram => sramWrite a size v s
  | .warp => warpPut i a size v s
  | .block b => routeWrite (blockWrites i b) a v s
  | _ => s

/-- A write by an initiator (R7, R20, R24, R36). -/
def busWrite (i : Initiator) (size : Size) (a : Nat) (v : Word) (s : State) : State :=
  if mayWrite i s && (busFault i true s a).isNone && shapeError true size a then writeError i .accerr a s
  else access i a (placeWrite i size a v) s

end Sys2Proof.Machine
end

