-- ==== Sys2Proof/Machine/BusRead.lean ====
section
/-! DEFINITION. What a read returns and does at each address of the host address map (R7 to R9, R20 to R24, R36 to R38, R43). -/

namespace Sys2Proof.Machine

/-- A run of words whose reads are computed or have an effect: what a read of the k-th gives. -/
structure ReadRoute where
  base : Nat
  step : Nat
  cnt  : Nat
  act  : Nat → State → Word × State

/-- A run of words that are computed from the state. -/
def ReadRoute.pure (base step cnt : Nat) (f : Nat → State → Word) : ReadRoute := ⟨base, step, cnt, fun k s => (f k s, s)⟩

/-- A read of a word with no behaviour of its own (R9). -/
def codeRead (a : Nat) (s : State) : Word × State := (rd s a, readClear a s)

def routeRead (l : List ReadRoute) (a : Nat) (s : State) : Word × State :=
  match l.find? (fun r => inRun r.base r.step r.cnt a) with
  | some r => r.act ((a - r.base) / r.step) s
  | none => codeRead a s

/-! ### Block by block -/

/-- SYS_DEVID, with VAR of the variant. -/
def devidRead (s : State) : Word := if s.sys.variantM then rd s SYS_DEVID else 0x641620B1

/-- LOOM_SLOTSTATn as it reads. -/
def slotstatRead (n : Nat) (s : State) : Word :=
  let x := shuttle s n
  let used := x.slots
  let old := (x.evals.head?.bind (fun e => heldFind s n e.entry)).map (fun h => recPend h.w0)
  BitVec.ofNat 32 (x.prov.toNat * 2 ^ 31 + x.gate.length % 32 * 2 ^ 24 + used.length % 16 * 2 ^ 20 + x.holdsFault.toNat * 2 ^ 19
    + old.getD 0 * 2 ^ 10 + ((List.range 8).map (fun k => (used.contains k).toNat * 2 ^ k)).sum)

/-- LOOM_HELDn as it reads. -/
def heldRead (n : Nat) (s : State) : Word :=
  let l := (heldOf s n).filter (fun h => !recIsPick h.w0)
  BitVec.ofNat 32 ((l.filter (·.taken)).length % 128 * 2 ^ 16
    + (l.filter (fun h => recPend h.w0 != 0 && (recSrc h.w0).isSome)).length % 128 * 2 ^ 8 + l.length % 128)

def loomReads : List ReadRoute :=
  [.pure (LOOM_EGSTAT 0) 0x10 4 (fun p s => egStat s p), .pure (LOOM_SLOTSTAT 0) 0x10 16 slotstatRead,
   .pure (LOOM_HELD 0) 0x10 16 heldRead, ⟨0x20240000, 4, 0x6000, fun k s => windowRead (0x40000 + 4 * k) s⟩]

/-- AFE_CALSTATn: EFF is the programmed level while no request of a channel of the rota waits (R122, R123). -/
def calstatRead (n : Nat) (s : State) : Word × State :=
  let s := if (afeCh s n).req.isNone || !((afeCh s n).rota.isSome || inRota s n) then fset s (AFE_CALSTAT_EFF n) (fget s AFE_CALCTL_LEVEL) else s
  codeRead (AFE_CALSTAT n) s

/-- A word of a sequencer's stores, zero while the sequencer is on (R89). -/
def seqStoreRead (k a : Nat) (s : State) : Word := if flag s (AFE_SCANCTL_EN k) then 0 else rd s a

def afeReads : List ReadRoute :=
  [⟨AFE_CALSTAT 0, 0x20, 64, calstatRead⟩, .pure (AFE_CALAGE 0) 0x20 64 (fun n s => BitVec.ofNat 32 (calAge s n)),
   .pure 0x20310000 4 0x4000 (fun k s => seqStoreRead (k / 0x1000) (0x20310000 + 4 * k) s),
   .pure 0x20320000 4 0x1000 (fun k s => seqStoreRead (k / 0x400) (0x20320000 + 4 * k) s)]

def ethReads : List ReadRoute :=
  [⟨ETH_PTPSEQ 0, 0x100, 2, ptpRead⟩, .pure UART_STAT 4 1 (fun _ s => uartStat s), ⟨UART_DATA, 4, 1, fun _ s => uartTake s⟩,
   .pure 0x20710000 4 0x8400 (fun k s => BitVec.ofNat 32 (wordOfBytes (bytesAt s.links.mem (0x10000 + 4 * k) 4)))]

def storeReads : List ReadRoute :=
  [.pure 0x20810000 4 1028 (fun k s => BitVec.ofNat 32 (wordOfBytes (bytesAt s.store.buf (4 * k) 4)))]

/-- A word of the waveform ROM (R438). -/
def waveRomRead (k : Nat) : Word := BitVec.ofNat 32 (wordOfBytes ((List.range 4).map (fun j => Config.waveRom (4 * k + j))))

def queueReads (i : Initiator) : List ReadRoute :=
  [.pure (QUEUE_STAT 0) 0x40 32 (fun q s => queueStat s q), ⟨QUEUE_RDTAG 0, 0x40, 32, queueRdtag i⟩]

def lifeReads (i : Initiator) : List ReadRoute :=
  [.pure LIFE_STAT 4 1 (fun _ s => lifeStat s), .pure LIFE_KEYSTAT 4 1 (fun _ s => lifeKeyStat s), .pure (LIFE_CKS 0) 4 16 (cksRead i)]

/-- The words of the window of block `b` that are computed or whose read has an effect of its own. -/
def blockReads (i : Initiator) (b : Nat) : List ReadRoute :=
  match b with
  | 0 => [.pure SYS_DEVID 4 1 (fun _ s => devidRead s)]
  | 1 => [.pure SLU_ISLUP 4 1 (fun _ s => islUpWord s), .pure SLU_ISLWAKE 4 1 (fun _ s => islWakeWord s),
          .pure SLU_ARBCFG 4 1 (fun _ s => arbCfgRead s), .pure SLU_ARBAGE 4 1 (fun _ s => arbAgeRead s)]
  | 2 => loomReads
  | 3 => afeReads
  | 7 => ethReads
  | 8 => storeReads
  | 10 => [.pure 0x20A03000 4 256 (fun k _ => waveRomRead k)]
  | 11 => [⟨PERF_SMPPC, 4, 1, fun _ s => (rd s PERF_SMPPC, smppcRead s)⟩]
  | 13 => [.pure RV_CTL 4 1 (fun _ s => rvConfigRead s RV_CTL), .pure (RV_ACFG 0) 4 64 (fun k s => rvConfigRead s (RV_ACFG 0 + 4 * k)),
           .pure (RV_ICFG 0) 4 8 (fun k s => rvConfigRead s (RV_ICFG k))]
  | 15 => queueReads i
  | 16 => lifeReads i
  | _ => []

/-! ### The address map -/

/-- `n` bytes of host SRAM from an offset. -/
def sramBytes (s : State) (o n : Nat) : List Byte := (List.range n).map (fun i => tabGet (sramFill s.cpu.boots) s.cpu.sram (o + i))

/-- A host or debug read of warp memory that its bank has granted (R227, R228). -/
def warpRead (i : Initiator) (o : Nat) (size : Size) (s : State) : Word × State :=
  let s := bankDone (bankOf o) (bankIni i) s
  let v := BitVec.ofNat 32 (wordOfBytes (bytesAt s.loom.warp o size.bytes))
  match warpBad s o with
  | .clean => (v, s)
  | .corrected => (v, warpCorrected o s)
  | .uncorrectable => (Config.badWarp (0x10000000 + o), fatalFault 2 none s)

/-- What a read that arrives gives and does at its address. -/
def placeRead (i : Initiator) (size : Size) (a : Nat) (s : State) : Word × State :=
  match region a with
  | .rom => (BitVec.ofNat 32 (wordOfBytes ((List.range size.bytes).map (fun k => Config.bootRom (a + k)))), s)
  | .sram => (BitVec.ofNat 32 (wordOfBytes (sramBytes s (a - 0x04000000) size.bytes)), s)
  | .warp => warpRead i (a - 0x10000000) size s
  | .block b => routeRead (blockReads i b) a s
  | .hole => (0, s)

/-- Is an address in REC_WIN, whose reads may be held (R415)? -/
def inRecWin (a : Nat) : Bool := decide (0x20800800 ≤ a) && decide (a < 0x20800900)

/-- A read of the TICK window: the next edge of the tick oscillator answers it (R381). -/
def tickRead (i : Initiator) (a : Nat) (s : State) : State :=
  if i = .host ∨ dbgLevel s ≥ 1 then
    match busFault i false s a with
    | some e => busError i e a s
    | none => if behindRead i a s then s else
      let s := rouse (addrIsland a) s
      { s with tick := { s.tick with reads := s.tick.reads ++ [(i, a)] } }
  else s

/-- Does an access to warp memory only make its request at a bank (R228)? -/
def waitsBank (i : Initiator) (write : Bool) (a : Nat) (s : State) : Bool :=
  region a == .warp && (i == .host || decide (dbgLevel s ≥ 1)) && (busFault i write s a).isNone && !behindRead i a s && bankBlocks i a s

/-- A read by an initiator (R7, R20, R24, R36). -/
def busRead (i : Initiator) (size : Size) (a : Nat) (s : State) : State :=
  if (i == .host || decide (dbgLevel s ≥ 1)) && (busFault i false s a).isNone && shapeError false size a then busError i .accerr a s
  else if waitsBank i false a s then bankWait i a (rouse 3 s)
  else if inRecWin a then winRead i ((a - 0x20800800) / 4) s
  else if region a = .block 9 then tickRead i a s
  else accessRead i a (placeRead i size a) s

end Sys2Proof.Machine
end

