-- ==== Sys2Proof/Machine/Bus.lean ====
section
/-! DEFINITION. The commands of the register interface as such: a write, a read that clears, and the setting of a lock (R7 to R10, R43). -/

namespace Sys2Proof.Machine

/-- A host or debug write of any width to any address of the map (R7 to R9). -/
def execRegisterWrite (ini : Initiator) (addr v : Word) (size : Size) (s : State) : Host.Outcome State Fault Refusal :=
  .next (busWrite ini size addr.toNat v s)

/-- A host or debug read of a word, which clears RC fields (R9, R43). -/
def execRcRead (ini : Initiator) (addr : Word) (s : State) : Host.Outcome State Fault Refusal :=
  .next (busRead ini .word addr.toNat s)

/-- A write that sets the lock bit of a block: its RWL fields are stored under the lock state before it (R10). -/
def execLockSet (ini : Initiator) (blk : Fin 17) (v : Word) (s : State) : Host.Outcome State Fault Refusal :=
  .next (match lockReg blk.val with
    | some a => busWrite ini .word a (v ||| 0x80000000) s
    | none => s)

end Sys2Proof.Machine
end

