-- ==== Sys2Proof/Machine/Frambeth.lean ====
section
/-! DEFINITION. The instructions of Frambeth but for loads and stores: integer, branches, control words, system, binary32, shuttle and
scan operations, and what interrupts the host (R174 to R186, R202 to R205). -/

namespace Sys2Proof.Machine

/-! ### Shared forms -/

def ofBool (b : Bool) : Word := if b then 1 else 0

/-- div: truncated towards zero, zero for a zero divisor (R174). -/
def divS (x y : Word) : Word := if y = 0 then 0 else BitVec.ofInt 32 (x.toInt.tdiv y.toInt)

/-- rem: the sign of the dividend, the dividend for a zero divisor (R174). -/
def remS (x y : Word) : Word := if y = 0 then x else BitVec.ofInt 32 (x.toInt.tmod y.toInt)

def aluR (e : Engine) (av : Avail) (fn : Nat) (f : Word → Word → Word) (d a b : Fin 32) (s : State) : State :=
  runOn e av (encR 0 fn d.val a.val b.val) (fun s => advance e (setReg e d (f (regOf s e a) (regOf s e b)) s)) s

def aluI (e : Engine) (op : Nat) (f : Word → BitVec 16 → Word) (d a : Fin 32) (imm : BitVec 16) (s : State) : State :=
  runOn e avAll (encI op d.val a.val imm.toNat) (fun s => advance e (setReg e d (f (regOf s e a) imm) s)) s

/-- slli, srli, srai by IMM[6:5] (R172). -/
def aluShift (e : Engine) (k : Nat) (f : Word → Nat → Word) (d a : Fin 32) (n : BitVec 5) (s : State) : State :=
  runOn e avAll (encI 7 d.val a.val (32 * k + n.toNat)) (fun s => advance e (setReg e d (f (regOf s e a) n.toNat) s)) s

def branch (e : Engine) (op : Nat) (c : Word → Word → Bool) (a b : Fin 32) (imm : BitVec 16) (s : State) : State :=
  runOn e avAll (encS op a.val b.val imm.toNat) (fun s =>
    let pc := pcOf s e
    jump e (if c (regOf s e a) (regOf s e b) then pc + (imm.signExtend 32 <<< 2) else pc + 4) s) s

def fpu2 (e : Engine) (fn : Nat) (f : Nat → Nat → Nat × Nat) (d a b : Fin 32) (s : State) : State :=
  runOn e avHS (encR 0x38 fn d.val a.val b.val) (fun s =>
    let r := f (regOf s e a).toNat (regOf s e b).toNat
    advance e (setReg e d (BitVec.ofNat 32 r.1) (addFlags e r.2 s))) s

def fpu1 (e : Engine) (fn : Nat) (f : Nat → Nat × Nat) (d a : Fin 32) (s : State) : State :=
  runOn e avHS (encR 0x38 fn d.val a.val 0) (fun s =>
    let r := f (regOf s e a).toNat
    advance e (setReg e d (BitVec.ofNat 32 r.1) (addFlags e r.2 s))) s

/-! ### Control words (R168, R169) -/

/-- The number of an engine as Config counts them. -/
def Engine.index : Engine → Nat
  | .host => 0
  | .shuttle n => 1 + n.val
  | .seq k => 17 + k.val

/-- cw.spec (R191). -/
def cwSpec (x : Shuttle) : Word :=
  BitVec.ofNat 32 (x.prov.toNat * 2 ^ 31 + x.slots.length * 2 ^ 16 + x.gate.length * 256
    + ((x.curEval.map (·.slot)).getD 0))

/-- cw.ipendk (R168). -/
def cwIpend (s : State) (k : Nat) : Word :=
  (List.range 32).foldl (fun w j => if lineHigh s (32 * k + j) then w ||| BitVec.ofNat 32 (2 ^ j) else w) 0

/-- The control words of the host above 0x00FF (R168). -/
def hostCw (s : State) (n : Nat) : Option Word :=
  if n ≤ 0x105 ∧ 0x100 ≤ n then some (cwGet s n)
  else if 0x108 ≤ n ∧ n ≤ 0x10B then some (cwGet s n)
  else if 0x10C ≤ n ∧ n ≤ 0x10F then some (cwIpend s (n - 0x10C))
  else if n = 0x110 then some ((claimLine s).elim 0x80000000 (BitVec.ofNat 32))
  else if 0x120 ≤ n ∧ n ≤ 0x12F then some (cwGet s n)
  else none

/-- The control words of a shuttle above 0x01FF (R168). -/
def shuttleCw (x : Shuttle) (n : Nat) : Option Word :=
  match n with
  | 0x200 => some x.pick
  | 0x201 => some (cwSpec x)
  | 0x202 => some (x.stamp.truncate 32)
  | 0x203 => some ((x.stamp >>> 32).truncate 32)
  | 0x204 => some x.scause
  | 0x205 => some x.sepc
  | _ => none

/-- A control word read, with what the read captures (R168, R169); none where the engine's profile has no such number. -/
def cwRead (e : Engine) (n : Nat) (s : State) : Option (Word × State) :=
  let c := coreOf s e
  match n with
  | 0 => some (match e with
      | .host => 0
      | .shuttle _ => 1
      | .seq _ => 2, s)
  | 1 => some (match e with
      | .host => 0
      | .shuttle k => BitVec.ofNat 32 k.val
      | .seq k => BitVec.ofNat 32 k.val, s)
  | 2 => match e with
      | .seq _ => none
      | _ => some (BitVec.ofNat 32 c.fflags, s)
  | 4 =>
    let v := c.cyc + 1 + (Config.cycles e.index c.reads).zeroExtend 64
    some (v.truncate 32, setCore e { c with reads := c.reads + 1, cyc := v, cycHi := (v >>> 32).truncate 32 } s)
  | 5 => some (c.cycHi, s)
  | 6 =>
    let t := shadow s e.island
    some (t.truncate 32, setCore e { c with tickHi := (t >>> 32).truncate 32, subCap := (subTick s e.island).zeroExtend 32 } s)
  | 7 => some (c.tickHi, s)
  | 8 => some (c.subCap, s)
  | n => match e with
    | .host => (hostCw s n).map (·, s)
    | .shuttle k => (shuttleCw (shuttle s k.val) n).map (·, s)
    | .seq _ => none

/-- The bits of a control word that a write changes; none where its access is RO (R168, R187). -/
def cwMask (e : Engine) (n : Nat) : Option Word :=
  if n = 2 then some 0x1F
  else match e with
    | .host =>
      if n = 0x100 then some 0xF
      else if n = 0x101 ∨ n = 0x105 then some 0xFFFFFFFF
      else if n = 0x104 then some 0xFFFFFFC0
      else if 0x108 ≤ n ∧ n ≤ 0x10B then some 0xFFFFFFFF
      else if 0x120 ≤ n ∧ n ≤ 0x12F then some (if n % 2 = 0 then 0xFFFFF00F else 0xFFFFF000)
      else none
    | _ => none

/-- A control word written (R168). -/
def cwWrite (e : Engine) (n : Nat) (v : Word) (s : State) : State :=
  if n = 2 then setCore e { coreOf s e with fflags := v.toNat % 32 } s else cwPut n v s

/-- Control words that user mode may access: to read, and to write (R182). -/
def cwUser (n : Nat) (write : Bool) : Bool :=
  if write then n == 2 else n == 0 || n == 1 || n == 2 || n == 4 || n == 5 || n == 6 || n == 7 || n == 8

/-- cwr, and cww, cws and cwc with their source register and what they make of the old value (R176, R182). -/
def cwInstr (e : Engine) (w : Word) (av : Avail) (d : Fin 32) (num : BitVec 16) (op : Option (Fin 32 × (Word → Word → Word)))
    (s : State) : State :=
  runOn e av w (fun s =>
    let n := num.toNat
    match cwRead e n s, op with
    | none, _ => engineFault e 1 w 1 1 s
    | some p, none =>
      if e = .host ∧ hostPriv s = false ∧ cwUser n false = false then hostRaise 2 w s
      else advance e (setReg e d p.1 p.2)
    | some p, some (a, f) =>
      match cwMask e n with
      | none => engineFault e 1 w 1 1 s
      | some m =>
        if e = .host ∧ hostPriv s = false ∧ cwUser n true = false then hostRaise 2 w s
        else
          let old := p.1
          let new := (old &&& ~~~m) ||| (f old (regOf s e a) &&& m)
          advance e (setReg e d old (cwWrite e n new s))) s

/-! ### Integer operations (R174) -/

def execAdd (e : Engine) (d a b : Fin 32) (s : State) : Host.Outcome State Fault Refusal :=
  .next (aluR e avAll 0x0 (fun x y => x + y) d a b s)

def execSub (e : Engine) (d a b : Fin 32) (s : State) : Host.Outcome State Fault Refusal :=
  .next (aluR e avAll 0x1 (fun x y => x - y) d a b s)

def execAnd (e : Engine) (d a b : Fin 32) (s : State) : Host.Outcome State Fault Refusal :=
  .next (aluR e avAll 0x2 (fun x y => x &&& y) d a b s)

def execOr (e : Engine) (d a b : Fin 32) (s : State) : Host.Outcome State Fault Refusal :=
  .next (aluR e avAll 0x3 (fun x y => x ||| y) d a b s)

def execXor (e : Engine) (d a b : Fin 32) (s : State) : Host.Outcome State Fault Refusal :=
  .next (aluR e avAll 0x4 (fun x y => x ^^^ y) d a b s)

def execNor (e : Engine) (d a b : Fin 32) (s : State) : Host.Outcome State Fault Refusal :=
  .next (aluR e avAll 0x5 (fun x y => ~~~(x ||| y)) d a b s)

def execSll (e : Engine) (d a b : Fin 32) (s : State) : Host.Outcome State Fault Refusal :=
  .next (aluR e avAll 0x8 (fun x y => x <<< (y &&& 31)) d a b s)

def execSrl (e : Engine) (d a b : Fin 32) (s : State) : Host.Outcome State Fault Refusal :=
  .next (aluR e avAll 0x9 (fun x y => x >>> (y &&& 31)) d a b s)

def execSra (e : Engine) (d a b : Fin 32) (s : State) : Host.Outcome State Fault Refusal :=
  .next (aluR e avAll 0xa (fun x y => x.sshiftRight (y.toNat % 32)) d a b s)

def execSlt (e : Engine) (d a b : Fin 32) (s : State) : Host.Outcome State Fault Refusal :=
  .next (aluR e avAll 0x10 (fun x y => ofBool (x.slt y)) d a b s)

def execSltu (e : Engine) (d a b : Fin 32) (s : State) : Host.Outcome State Fault Refusal :=
  .next (aluR e avAll 0x11 (fun x y => ofBool (x.ult y)) d a b s)

def execMin (e : Engine) (d a b : Fin 32) (s : State) : Host.Outcome State Fault Refusal :=
  .next (aluR e avHS 0x12 (fun x y => if x.slt y then x else y) d a b s)

def execMax (e : Engine) (d a b : Fin 32) (s : State) : Host.Outcome State Fault Refusal :=
  .next (aluR e avHS 0x13 (fun x y => if y.slt x then x else y) d a b s)

def execMul (e : Engine) (d a b : Fin 32) (s : State) : Host.Outcome State Fault Refusal :=
  .next (aluR e avHS 0x18 (fun x y => x * y) d a b s)

def execMulh (e : Engine) (d a b : Fin 32) (s : State) : Host.Outcome State Fault Refusal :=
  .next (aluR e avHS 0x19 (fun x y => BitVec.ofInt 32 ((x.toInt * y.toInt) / 4294967296)) d a b s)

def execMulhu (e : Engine) (d a b : Fin 32) (s : State) : Host.Outcome State Fault Refusal :=
  .next (aluR e avHS 0x1a (fun x y => BitVec.ofNat 32 (x.toNat * y.toNat / 4294967296)) d a b s)

def execDiv (e : Engine) (d a b : Fin 32) (s : State) : Host.Outcome State Fault Refusal :=
  .next (aluR e avHS 0x1c divS d a b s)

def execDivu (e : Engine) (d a b : Fin 32) (s : State) : Host.Outcome State Fault Refusal :=
  .next (aluR e avHS 0x1d (fun x y => if y = 0 then 0 else BitVec.ofNat 32 (x.toNat / y.toNat)) d a b s)

def execRem (e : Engine) (d a b : Fin 32) (s : State) : Host.Outcome State Fault Refusal :=
  .next (aluR e avHS 0x1e remS d a b s)

def execRemu (e : Engine) (d a b : Fin 32) (s : State) : Host.Outcome State Fault Refusal :=
  .next (aluR e avHS 0x1f (fun x y => if y = 0 then x else BitVec.ofNat 32 (x.toNat % y.toNat)) d a b s)

def execAddi (e : Engine) (d a : Fin 32) (imm : BitVec 16) (s : State) : Host.Outcome State Fault Refusal :=
  .next (aluI e 0x1 (fun x i => x + i.signExtend 32) d a imm s)

def execAndi (e : Engine) (d a : Fin 32) (imm : BitVec 16) (s : State) : Host.Outcome State Fault Refusal :=
  .next (aluI e 0x2 (fun x i => x &&& i.zeroExtend 32) d a imm s)

def execOri (e : Engine) (d a : Fin 32) (imm : BitVec 16) (s : State) : Host.Outcome State Fault Refusal :=
  .next (aluI e 0x3 (fun x i => x ||| i.zeroExtend 32) d a imm s)

def execXori (e : Engine) (d a : Fin 32) (imm : BitVec 16) (s : State) : Host.Outcome State Fault Refusal :=
  .next (aluI e 0x4 (fun x i => x ^^^ i.zeroExtend 32) d a imm s)

def execSlti (e : Engine) (d a : Fin 32) (imm : BitVec 16) (s : State) : Host.Outcome State Fault Refusal :=
  .next (aluI e 0x5 (fun x i => ofBool (x.slt (i.signExtend 32))) d a imm s)

def execSltiu (e : Engine) (d a : Fin 32) (imm : BitVec 16) (s : State) : Host.Outcome State Fault Refusal :=
  .next (aluI e 0x6 (fun x i => ofBool (x.ult (i.signExtend 32))) d a imm s)

def execSlli (e : Engine) (d a : Fin 32) (n : BitVec 5) (s : State) : Host.Outcome State Fault Refusal :=
  .next (aluShift e 0 (fun x n => x <<< n) d a n s)

def execSrli (e : Engine) (d a : Fin 32) (n : BitVec 5) (s : State) : Host.Outcome State Fault Refusal :=
  .next (aluShift e 1 (fun x n => x >>> n) d a n s)

def execSrai (e : Engine) (d a : Fin 32) (n : BitVec 5) (s : State) : Host.Outcome State Fault Refusal :=
  .next (aluShift e 2 (fun x n => x.sshiftRight n) d a n s)

def execLui (e : Engine) (d : Fin 32) (imm : BitVec 16) (s : State) : Host.Outcome State Fault Refusal :=
  .next (aluI e 8 (fun _ i => i.zeroExtend 32 <<< 16) d 0 imm s)

/-! ### Branches and jumps (R175) -/

def execBeq (e : Engine) (a b : Fin 32) (imm : BitVec 16) (s : State) : Host.Outcome State Fault Refusal :=
  .next (branch e 0x20 (fun x y => x == y) a b imm s)

def execBne (e : Engine) (a b : Fin 32) (imm : BitVec 16) (s : State) : Host.Outcome State Fault Refusal :=
  .next (branch e 0x21 (fun x y => x != y) a b imm s)

def execBlt (e : Engine) (a b : Fin 32) (imm : BitVec 16) (s : State) : Host.Outcome State Fault Refusal :=
  .next (branch e 0x22 (fun x y => x.slt y) a b imm s)

def execBge (e : Engine) (a b : Fin 32) (imm : BitVec 16) (s : State) : Host.Outcome State Fault Refusal :=
  .next (branch e 0x23 (fun x y => !x.slt y) a b imm s)

def execBltu (e : Engine) (a b : Fin 32) (imm : BitVec 16) (s : State) : Host.Outcome State Fault Refusal :=
  .next (branch e 0x24 (fun x y => x.ult y) a b imm s)

def execBgeu (e : Engine) (a b : Fin 32) (imm : BitVec 16) (s : State) : Host.Outcome State Fault Refusal :=
  .next (branch e 0x25 (fun x y => !x.ult y) a b imm s)

def execJal (e : Engine) (imm : BitVec 26) (s : State) : Host.Outcome State Fault Refusal :=
  .next (runOn e avAll (encJ 0x28 imm.toNat) (fun s =>
    let pc := pcOf s e
    jump e (pc + (imm.signExtend 32 <<< 2)) (setReg e 31 (pc + 4) s)) s)

def execJalr (e : Engine) (d a : Fin 32) (imm : BitVec 16) (s : State) : Host.Outcome State Fault Refusal :=
  .next (runOn e avAll (encI 0x29 d.val a.val imm.toNat) (fun s =>
    let t := (regOf s e a + imm.signExtend 32) &&& 0xFFFFFFFC
    jump e t (setReg e d (pcOf s e + 4) s)) s)

/-! ### Control words and system instructions (R168, R176, R182) -/

def execCwr (e : Engine) (d : Fin 32) (num : BitVec 16) (s : State) : Host.Outcome State Fault Refusal :=
  .next (cwInstr e (encI 0x2C d.val 0 num.toNat) avAll d num none s)

def execCww (e : Engine) (d a : Fin 32) (num : BitVec 16) (s : State) : Host.Outcome State Fault Refusal :=
  .next (cwInstr e (encI 0x2d d.val a.val num.toNat) avHS d num (some (a, fun _ x => x)) s)

def execCws (e : Engine) (d a : Fin 32) (num : BitVec 16) (s : State) : Host.Outcome State Fault Refusal :=
  .next (cwInstr e (encI 0x2e d.val a.val num.toNat) avHS d num (some (a, fun old x => old ||| x)) s)

def execCwc (e : Engine) (d a : Fin 32) (num : BitVec 16) (s : State) : Host.Outcome State Fault Refusal :=
  .next (cwInstr e (encI 0x2f d.val a.val num.toNat) avHS d num (some (a, fun old x => old &&& ~~~x)) s)

def execEcall (e : Engine) (s : State) : Host.Outcome State Fault Refusal :=
  .next (runOn e avHost (encR 0x30 0 0 0 0) (fun s => hostRaise (if hostPriv s then 12 else 11) 0 s) s)

def execEbreak (e : Engine) (s : State) : Host.Outcome State Fault Refusal :=
  .next (runOn e avAll (encR 0x30 1 0 0 0) (fun s =>
    let c := coreOf s e
    if c.armed then (match e with
      | .shuttle n => shuttleFault n.val 10 s
      | _ => setCore e { c with halted := true } s)
    else engineFault e 13 0 5 1 s) s)

def execEret (e : Engine) (s : State) : Host.Outcome State Fault Refusal :=
  .next (runOn e avHost (encR 0x30 2 0 0 0) (fun s =>
    if hostPriv s then hostReturn s else hostRaise 2 (encR 0x30 2 0 0 0) s) s)

/-- The host as it stands when its wfi looks at the lines again. -/
def wfiAgain (s : State) : State := { s with cpu := { s.cpu with wfi := false } }

/-- A wfi that waits is the instruction at the pc until an enabled line is high (R176). -/
def execWfi (e : Engine) (s : State) : Host.Outcome State Fault Refusal :=
  .next (if executes (wfiAgain s) e then
    runOn e avHost (encR 0x30 3 0 0 0) (fun s =>
      if hostPriv s = false then hostRaise 2 (encR 0x30 3 0 0 0) s
      else if (claimLine s).isSome then advance .host s
      else { s with cpu := { s.cpu with wfi := true } }) (wfiAgain s)
  else s)

/-! ### Binary32 instructions (R178 to R181) -/

def execFadd (e : Engine) (d a b : Fin 32) (s : State) : Host.Outcome State Fault Refusal :=
  .next (fpu2 e 0x0 (fpAdd f32) d a b s)

def execFsub (e : Engine) (d a b : Fin 32) (s : State) : Host.Outcome State Fault Refusal :=
  .next (fpu2 e 0x1 (fpSub f32) d a b s)

def execFmul (e : Engine) (d a b : Fin 32) (s : State) : Host.Outcome State Fault Refusal :=
  .next (fpu2 e 0x2 (fpMul f32) d a b s)

def execFdiv (e : Engine) (d a b : Fin 32) (s : State) : Host.Outcome State Fault Refusal :=
  .next (fpu2 e 0x3 (fpDiv f32) d a b s)

def execFmin (e : Engine) (d a b : Fin 32) (s : State) : Host.Outcome State Fault Refusal :=
  .next (fpu2 e 0x5 (fpMin f32) d a b s)

def execFmax (e : Engine) (d a b : Fin 32) (s : State) : Host.Outcome State Fault Refusal :=
  .next (fpu2 e 0x6 (fpMax f32) d a b s)

def execFeq (e : Engine) (d a b : Fin 32) (s : State) : Host.Outcome State Fault Refusal :=
  .next (fpu2 e 0x10 (fun x y => ((fpEq f32 x y).1.toNat, (fpEq f32 x y).2)) d a b s)

def execFlt (e : Engine) (d a b : Fin 32) (s : State) : Host.Outcome State Fault Refusal :=
  .next (fpu2 e 0x11 (fun x y => ((fpLt f32 x y).1.toNat, (fpLt f32 x y).2)) d a b s)

def execFle (e : Engine) (d a b : Fin 32) (s : State) : Host.Outcome State Fault Refusal :=
  .next (fpu2 e 0x12 (fun x y => ((fpLe f32 x y).1.toNat, (fpLe f32 x y).2)) d a b s)

def execFsqrt (e : Engine) (d a : Fin 32) (s : State) : Host.Outcome State Fault Refusal :=
  .next (fpu1 e 0x4 (fun x => fpSqrt f32 x) d a s)

def execFabs (e : Engine) (d a : Fin 32) (s : State) : Host.Outcome State Fault Refusal :=
  .next (fpu1 e 0x8 (fun x => (x % 2 ^ 31, 0)) d a s)

def execFneg (e : Engine) (d a : Fin 32) (s : State) : Host.Outcome State Fault Refusal :=
  .next (fpu1 e 0x9 (fun x => (fpNeg f32 x, 0)) d a s)

def execFcls (e : Engine) (d a : Fin 32) (s : State) : Host.Outcome State Fault Refusal :=
  .next (fpu1 e 0x13 (fun x => (x / 2 ^ 31 * 16 + fpClass f32 x, 0)) d a s)

def execFcvtsw (e : Engine) (d a : Fin 32) (s : State) : Host.Outcome State Fault Refusal :=
  .next (fpu1 e 0x18 (fun x => fpOfInt f32 (BitVec.ofNat 32 x).toInt) d a s)

def execFcvtsu (e : Engine) (d a : Fin 32) (s : State) : Host.Outcome State Fault Refusal :=
  .next (fpu1 e 0x19 (fun x => fpOfInt f32 (x : Int)) d a s)

def execFcvtws (e : Engine) (d a : Fin 32) (s : State) : Host.Outcome State Fault Refusal :=
  .next (fpu1 e 0x1a (fun x => ((fpToS32 f32 x).1.toNat, (fpToS32 f32 x).2)) d a s)

def execFcvtwu (e : Engine) (d a : Fin 32) (s : State) : Host.Outcome State Fault Refusal :=
  .next (fpu1 e 0x1b (fun x => ((fpToU32 f32 x).1.toNat, (fpToU32 f32 x).2)) d a s)

/-! ### Shuttle operations (R202) -/

/-- A shuttle operation with its register fields (R173). -/
def shuttleOp (e : Engine) (fn : Nat) (d a b : Fin 32) (f : Nat → State → State) (s : State) : State :=
  runOn e avShuttle (encR 0x3C fn d.val a.val b.val) (fun s => match e with
    | .shuttle n => f n.val s
    | _ => s) s

/-- A gated instruction completes, or waits for the gate queue (R193, R201). -/
def gatedOp (e : Engine) (n : Nat) (op : GateOp) (s : State) : State :=
  match gated n op s with
  | some s => advance e s
  | none => s

/-- An evaluation that is not provisional ends at the next sget (R189, R245). -/
def endEvaluation (n : Nat) (s : State) : State :=
  let x := shuttle s n
  match x.cur with
  | some id => if x.prov then s else heldEnd n id (setShuttle n { x with cur := none } s)
  | none => s

/-- sget takes a record (R190, R202). -/
def takeRecord (e : Engine) (n : Nat) (d : Nat) (h : Held) (slot : Option Nat) (s : State) : State :=
  let x := shuttle s n
  let x : Shuttle := match slot with
    | some k => Shuttle.count 0x27 1
        { x with evals := x.evals ++ [{ entry := h.id, slot := k, clear := recPend h.w0 == 0, snap := x.snapNow }] }
    | none => x
  let x := { x with cur := some h.id, pick := h.pick, stamp := h.w1
                    lst := { x.lst with begun := false, worked := false, hook := none, outer := [], base := none, ret := none, words := none } }
  let x := x.setReg d (h.w0.truncate 32)
  let x := x.setReg (d + 1) ((h.w0 >>> 32).truncate 32)
  let x := x.setReg (d + 2) (h.w1.truncate 32)
  let x := x.setReg (d + 3) ((h.w1 >>> 32).truncate 32)
  advance e (setShuttle n x (heldSet n { h with taken := true, again := false, reject := none } s))

/-- Does an entry wait at the dispatch port: not taken yet, or squashed and to be re-delivered (R245, R255)? -/
def Held.waits (h : Held) : Bool := !h.taken || h.again

/-- The records that a shuttle is to be re-delivered and that were rejected for drop meanwhile are skipped as far as the next record, and their
entries end (R255, R262). -/
def skipDrops (n : Nat) (s : State) : State :=
  let gone := fun (h : Held) => h.again && h.reject == some true
  match (heldOf s n).find? (fun h => h.waits && !gone h) with
  | some x => setHeld n ((heldOf s n).filter (fun h => !(gone h && decide (h.id < x.id)))) s
  | none => setHeld n ((heldOf s n).filter (fun h => !gone h)) s

/-- sget: the next record, once one waits and, if provisional, a slot is free (R201, R202). -/
def sget (e : Engine) (n : Nat) (d : Nat) (s : State) : State :=
  let s := skipDrops n (endEvaluation n s)
  let x := shuttle s n
  match (heldOf s n).find? Held.waits with
  | none => s
  | some h =>
    if recIsPick h.w0 && h.pick == rd s LOOM_PICKNUM && pickAwaits s then s
    else if recPend h.w0 ≠ 0 ∨ x.evals ≠ [] then
      match x.freeSlot n h.id with
      | some k => takeRecord e n d h (some k) s
      | none => s
    else takeRecord e n d h none s

def execSget (e : Engine) (d : Fin 32) (s : State) : Host.Outcome State Fault Refusal :=
  .next (shuttleOp e 0 d 0 0 (fun n s => if d.val = 0 ∨ d.val > 28 then shFault n 1 s else sget e n d.val s) s)

def execSpwait (e : Engine) (a : Fin 32) (s : State) : Host.Outcome State Fault Refusal :=
  .next (shuttleOp e 1 0 a 0 (fun n s =>
    if (shuttle s n).evals.length > (regOf s e a).toNat % 16 then s else advance e s) s)

def execPtag (e : Engine) (d a : Fin 32) (s : State) : Host.Outcome State Fault Refusal :=
  .next (shuttleOp e 2 d a 0 (fun n s =>
    let x := shuttle s n
    advance e (setReg e d (ofBool (a.val != 0 && x.tagProv (tabGet (fun _ => 0) x.rtag a.val))) s)) s)

def QWord.lo (w : QWord) : Word := w.data.truncate 32
def QWord.hi (w : QWord) : Word := (w.data >>> 32).truncate 32

/-- qrd (R196, R202, R301). -/
def qrd (e : Engine) (n d q : Nat) (s : State) : State :=
  if flag s (QUEUE_CFG_RHOST q) ∨ fget s (QUEUE_CFG_RSH q) ≠ n then shFault n 4 s
  else
    let p := queueTake q ((shuttle s n).curEval.map (fun v => (n, v.entry))) s
    let w := p.2
    let s := p.1
    let x := shuttle s n
    let x := x.setReg d ((w.map QWord.lo).getD 0)
    let x := x.setReg (d + 1) ((w.map QWord.hi).getD 0)
    let x := x.setReg (d + 2) ((w.map queueTag).getD 0)
    advance e (setShuttle n x s)

def execQrd (e : Engine) (d a : Fin 32) (s : State) : Host.Outcome State Fault Refusal :=
  .next (shuttleOp e 8 d a 0 (fun n s =>
    if d.val = 0 ∨ d.val > 29 then shFault n 1 s else qrd e n d.val ((regOf s e a).toNat % 32) s) s)

/-- A gated instruction on a queue that the shuttle must write (R301). -/
def queueOp (e : Engine) (n q : Nat) (op : GateOp) (s : State) : State :=
  if fget s (QUEUE_CFG_WSRC q) ≠ 0 ∨ fget s (QUEUE_CFG_WSH q) ≠ n then shFault n 4 s else gatedOp e n op s

def execQwr (e : Engine) (a b : Fin 32) (s : State) : Host.Outcome State Fault Refusal :=
  .next (shuttleOp e 9 0 a b (fun n s =>
    let q := (regOf s e a).toNat % 32
    queueOp e n q (.qwr q (regOf s e b)) s) s)

def execQcmt (e : Engine) (a : Fin 32) (s : State) : Host.Outcome State Fault Refusal :=
  .next (shuttleOp e 0xA 0 a 0 (fun n s =>
    let q := (regOf s e a).toNat % 32
    queueOp e n q (.qcmt q) s) s)

def execQabt (e : Engine) (a : Fin 32) (s : State) : Host.Outcome State Fault Refusal :=
  .next (shuttleOp e 0xB 0 a 0 (fun n s =>
    let q := (regOf s e a).toNat % 32
    queueOp e n q (.qabt q) s) s)

def execDout (e : Engine) (a b : Fin 32) (s : State) : Host.Outcome State Fault Refusal :=
  .next (shuttleOp e 0x10 0 a b (fun n s =>
    let o := (regOf s e a).toNat % 32
    if o ≥ 24 then shFault n 4 s else gatedOp e n (.dout o ((regOf s e b).toNat % 2 == 1)) s) s)

def execHirq (e : Engine) (a : Fin 32) (s : State) : Host.Outcome State Fault Refusal :=
  .next (shuttleOp e 0x11 0 a 0 (fun n s => gatedOp e n (.hirq ((regOf s e a).toNat % 256)) s) s)

def execHinc (e : Engine) (a b : Fin 32) (s : State) : Host.Outcome State Fault Refusal :=
  .next (shuttleOp e 0x12 0 a b (fun n s =>
    gatedOp e n (.hinc ((regOf s e a).toNat % 4096) ((regOf s e b).toNat % 32)) s) s)

def execXupd (e : Engine) (a b : Fin 32) (s : State) : Host.Outcome State Fault Refusal :=
  .next (shuttleOp e 0x13 0 a b (fun n s =>
    gatedOp e n (.xupd ((regOf s e a).toNat % 4096) (regOf s e b) (shuttle s n).stamp) s) s)

def execSrec (e : Engine) (a b : Fin 32) (s : State) : Host.Outcome State Fault Refusal :=
  .next (shuttleOp e 0x14 0 a b (fun n s =>
    gatedOp e n (.srec ((regOf s e a).toNat % 65536) (regOf s e b) (shuttle s n).stamp) s) s)

/-- The bin of hbin: two roundings, then the floor clamped (R202). -/
def hbinOf (v lo scl : Nat) : Nat × Nat :=
  let a := fpSub f32 v lo
  let b := fpMul f32 a.1 scl
  let fl := a.2 ||| b.2
  match fpUnpack f32 b.1 with
  | .nan _ => (0, fl ||| 16)
  | .inf neg => (if neg then 0 else 31, fl)
  | .fin _ _ _ =>
    let r := fpRat f32 b.1
    ((max 0 (min 31 (r.1.fdiv r.2))).toNat, fl)

def execHbin (e : Engine) (d a b : Fin 32) (s : State) : Host.Outcome State Fault Refusal :=
  .next (shuttleOp e 0x18 d a b (fun n s =>
    if b.val > 30 then shFault n 1 s
    else
      let r := hbinOf (regOf s e a).toNat (regOf s e b).toNat (regOf s e (b + 1)).toNat
      advance e (setReg e d (BitVec.ofNat 32 r.1) (addFlags e r.2 s))) s)

/-! ### Scan operations (R204) -/

/-- A scan operation with its register fields (R173). -/
def scanOp (e : Engine) (fn : Nat) (a b : Fin 32) (f : Nat → State → State) (s : State) : State :=
  runOn e avSeq (encR 0x3E fn 0 a.val b.val) (fun s => match e with
    | .seq k => f k.val s
    | _ => s) s

/-- Steps a group holds: queued ones, a pinned one that a calibration visit interrupted, and the visit in progress, a granted calibration
visit included (R91). A granted live step still stands in the queue. -/
def groupSteps (s : State) (g : Nat) : Nat :=
  let x := afeGrp s g
  let visit : Bool := match x.visit, x.granted with
    | some _, _ => true
    | none, some .live => false
    | none, some _ => true
    | none, none => false
  x.queue.length + x.resume.isSome.toNat + visit.toNat

def execScan (e : Engine) (a b : Fin 32) (s : State) : Host.Outcome State Fault Refusal :=
  .next (scanOp e 0 a b (fun k s =>
    let g := (regOf s e a).toNat % 16
    let w := regOf s e b
    if g / 4 ≠ k then seqFault k 2 ((pcOf s e).toNat / 4) s
    else if stepLegal w = false then seqFault k 4 ((pcOf s e).toNat / 4) s
    else if (afeGrp s g).queue.length ≥ 4 then s
    else advance e (setAfeGrp g { afeGrp s g with queue := (afeGrp s g).queue ++ [w] } s)) s)

def execScanw (e : Engine) (a b : Fin 32) (s : State) : Host.Outcome State Fault Refusal :=
  .next (scanOp e 1 a b (fun k s =>
    let g := (regOf s e a).toNat % 16
    if g / 4 ≠ k then seqFault k 2 ((pcOf s e).toNat / 4) s
    else if groupSteps s g > (regOf s e b).toNat then s
    else advance e s) s)

def execSblank (e : Engine) (a b : Fin 32) (s : State) : Host.Outcome State Fault Refusal :=
  .next (scanOp e 2 a b (fun k s => advance e (seqBlank k ((regOf s e a).toNat % 4) (regOf s e b != 0) s)) s)

def execTickw (e : Engine) (a : Fin 32) (s : State) : Host.Outcome State Fault Refusal :=
  .next (scanOp e 3 a 0 (fun _ s =>
    if (((shadow s 8).truncate 32 : Word) - regOf s e a).toInt < 0 then s else advance e s) s)

/-! ### What interrupts the host (R184 to R186) -/

/-- Is the host between two instructions of its own? -/
def hostAtBoundary (s : State) : Bool := (power s 2 == .run || power s 2 == .idle) && !s.cpu.core.halted && s.cpu.await.isNone

/-- The host takes an interrupt for the lowest-numbered enabled line that is high; a wfi that waits for it completes first (R176,
R186). -/
def execHostInterrupt (s : State) : Host.Outcome State Fault Refusal :=
  .next (if hostAtBoundary s ∧ wget (cwGet s 0x100) 0 0 = 1 then
    match claimLine s with
    | some j =>
      let s := if s.cpu.wfi then advance .host (stir 2 s) else stir 2 s
      hostEnter (pcOf s .host) (BitVec.ofNat 32 (0x80000000 + j)) 0 s
    | none => s
  else s)

/-- The bus error of a posted write arrives: exception 7 at the boundary (R185). -/
def execPostedStoreBusError (s : State) : Host.Outcome State Fault Refusal :=
  .next (match s.cpu.posted with
    | some a => if hostAtBoundary s then hostEnter (pcOf s .host) 7 a { stir 2 s with cpu := { s.cpu with posted := none } } else s
    | none => s)

end Sys2Proof.Machine
end

