-- ==== Sys2Proof/Machine/FrambethMem.lean ====
section
/-! DEFINITION. The loads and stores of Frambeth in its three profiles, with what an ECC check of a load finds (R166, R167, R175, R183, R194,
R199, R205, R208, R209, R227). -/

namespace Sys2Proof.Machine

/-- The address of a load or store (R175). -/
def memAddr (s : State) (e : Engine) (a : Fin 32) (imm : BitVec 16) : Word := regOf s e a + imm.signExtend 32

/-- The data store word of a sequencer at an address, if there is one (R167). -/
def seqWord (k a : Nat) : Option Nat :=
  if 0x10000 ≤ a ∧ a < 0x10800 ∧ a % 4 = 0 then some (0x20320000 + 0x1000 * k + (a - 0x10000)) else none

/-! ### Loads -/

/-- What the ECC check finds on a load from warp memory that the host makes (R227). -/
def hostEcc (ecc : Ecc) (a : Nat) (s : State) : Word × State :=
  match ecc with
  | .clean => (s.hostBus.data, s)
  | .corrected => (s.hostBus.data, warpCorrected (a - 0x10000000) s)
  | .uncorrectable => (Config.badWarp a, fatalFault 2 none s)

/-- A load of the host from the TICK window: it waits at its pc for the edge that answers it (R381). -/
def hostTickLoad (ext : Word → Word) (d : Fin 32) (a : Nat) (s : State) : State :=
  if s.cpu.await = some a then
    if s.tick.reads.any (fun r => r.1 == .host) then s
    else advance .host (setReg .host d (ext s.hostBus.data) { s with cpu := { s.cpu with await := none } })
  else
    let s := tickRead .host a s
    { s with cpu := { s.cpu with await := some a } }

/-- Is an address in a register window, where the fabric answers an access that is not aligned (R7, R166)? -/
def isWindow (a : Nat) : Bool :=
  match region a with
  | .block _ => true
  | _ => false

/-- A load of the host: misaligned, protection and bus errors are exceptions (R166, R183, R187); a read of REC_WIN waits while the cursor
loads (R415). -/
def hostLoad (size : Size) (ext : Word → Word) (ecc : Ecc) (d : Fin 32) (a : Nat) (s : State) : State :=
  let aw := BitVec.ofNat 32 a
  if a % size.bytes ≠ 0 ∧ isWindow a = false then hostRaise 3 aw s
  else if mpuAllows s a 0 = false then hostRaise 9 aw s
  else if waitsBank .host false a s then bankWait .host a (rouse 3 s)
  else if inRecWin a && size == .word && a % 4 == 0 && islUp s 12 && flag s REC_CURSTAT_BUSY then rouse 12 s
  else if region a = .block 9 ∧ size = .word ∧ a % 4 = 0 ∧ busFault .host false s a = none then hostTickLoad ext d a s
  else
    let s := busRead .host size a s
    if s.hostBus.err.isSome then hostRaise 6 aw s
    else
      let p := hostEcc (if region a = .warp then ecc else .clean) a s
      advance .host (setReg .host d (ext p.1) p.2)

/-- Is the sluice from a shuttle's quadrant to WARP busy, so that a warp memory access waits (R201): a handshake is under way, or one word is in its
handshake and two are in the receive register (R553)? -/
def sluiceBusy (s : State) (n : Nat) : Bool :=
  let x := sluiceOf s (4 + n / 4) 3
  x.req || x.ack || decide (3 ≤ (s.loom.wstores.filter (fun w => w.sh / 4 == n / 4)).length
    + (s.loom.issued.filter (fun p => p.1 / 4 == n / 4)).length)

/-- A load of a shuttle from warp memory: it waits while the quadrant's sluice is busy and until its bank grants it (R201, R227, R228). -/
def warpLoad (n o : Nat) (ecc : Ecc) (done : State → State) (s : State) : State :=
  if sluiceBusy s n then s
  else
    let r := 4 + n / 4
    let s := bankAsk (bankOf o) r (rouse 3 s)
    if bankGrants s (bankOf o) r then warpCheck ecc o done (bankDone (bankOf o) r s) else s

/-- A load of a shuttle: misaligned, outside its map, or with a memory error, it is a fault (R199, R208, R209, R227). -/
def shuttleLoad (n : Fin 16) (size : Size) (ext : Word → Word) (ecc : Ecc) (d : Fin 32) (a : Nat) (s : State) : State :=
  let p := shPlace a
  let done := fun s => advance (.shuttle n) (setReg (.shuttle n) d (ext (shLoad s n.val p size.bytes)) s)
  if a % size.bytes ≠ 0 then shFault n.val 2 s
  else match p with
    | .none => shFault n.val 3 s
    | .warp o => warpLoad n.val o ecc done s
    | p => match ecc.join (shBad s n.val p) with
      | .clean => done s
      | .corrected => done (shCorrected n.val p s)
      | .uncorrectable => shFault n.val 9 s

/-- A load of a sequencer, from its data store alone (R167, R205). -/
def seqLoad (k : Fin 4) (d : Fin 32) (a : Nat) (s : State) : State :=
  match seqWord k.val a with
  | some r => advance (.seq k) (setReg (.seq k) d (rd s r) s)
  | none => seqFault k.val 3 ((pcOf s (.seq k)).toNat / 4) s

/-- A load instruction (R175). -/
def load (e : Engine) (av : Avail) (op : Nat) (size : Size) (ext : Word → Word) (ecc : Ecc) (d a : Fin 32) (imm : BitVec 16)
    (s : State) : State :=
  runOn e av (encI op d.val a.val imm.toNat) (fun s =>
    let x := (memAddr s e a imm).toNat
    match e with
    | .host => hostLoad size ext ecc d x s
    | .shuttle n => shuttleLoad n size ext ecc d x s
    | .seq k => seqLoad k d x s) s

/-! ### Stores -/

/-- A store of the host: a write by the host initiator, posted (R20, R183, R185). A store that resets HOST is not followed by an
instruction. -/
def hostStore (size : Size) (a : Nat) (v : Word) (s : State) : State :=
  let aw := BitVec.ofNat 32 a
  if a % size.bytes ≠ 0 ∧ isWindow a = false then hostRaise 4 aw s
  else if mpuAllows s a 1 = false then hostRaise 10 aw s
  else if waitsBank .host true a s && !warpRefused s (a - 0x10000000) then bankWait .host a (rouse 3 s)
  else
    let s := busWrite .host size a v s
    if islUp s 2 then advance .host s else s

/-- Is a place in warp memory? -/
def ShPlace.isWarp : ShPlace → Bool
  | .warp _ => true
  | _ => false

/-- A store of a shuttle (R194, R195, R199, R201, R208, R232): it waits while it needs a continuation and no slot is free, and a store that is sent to
WARP while the quadrant's sluice is busy. -/
def shuttleStore (n : Fin 16) (size : Size) (a : Nat) (v : Word) (s : State) : State :=
  let p := shPlace a
  let denied := match p with
    | .local_ _ => false
    | .warp o => inPublished s o
    | _ => true
  if a % size.bytes ≠ 0 then shFault n.val 2 s
  else if denied then shFault n.val 3 s
  else if p.isWarp && !(shuttle s n.val).prov && sluiceBusy s n.val then s
  else match shStore n.val p size.bytes v s with
    | some s => advance (.shuttle n) s
    | none => s

/-- A store of a sequencer, to its data store alone (R167, R205). -/
def seqStore (k : Fin 4) (a : Nat) (v : Word) (s : State) : State :=
  match seqWord k.val a with
  | some r => advance (.seq k) (wr s r v)
  | none => seqFault k.val 3 ((pcOf s (.seq k)).toNat / 4) s

/-- A store instruction (R175). -/
def store (e : Engine) (av : Avail) (op : Nat) (size : Size) (a b : Fin 32) (imm : BitVec 16) (s : State) : State :=
  runOn e av (encS op a.val b.val imm.toNat) (fun s =>
    let x := (memAddr s e a imm).toNat
    let v := regOf s e b
    match e with
    | .host => hostStore size x v s
    | .shuttle n => shuttleStore n size x v s
    | .seq k => seqStore k x v s) s

/-! ### The instructions -/

def execLb (e : Engine) (d a : Fin 32) (imm : BitVec 16) (ecc : Ecc) (s : State) : Host.Outcome State Fault Refusal :=
  .next (load e avHS 0x10 .byte (fun w => (w.truncate 8 : Byte).signExtend 32) ecc d a imm s)

def execLbu (e : Engine) (d a : Fin 32) (imm : BitVec 16) (ecc : Ecc) (s : State) : Host.Outcome State Fault Refusal :=
  .next (load e avHS 0x11 .byte id ecc d a imm s)

def execLh (e : Engine) (d a : Fin 32) (imm : BitVec 16) (ecc : Ecc) (s : State) : Host.Outcome State Fault Refusal :=
  .next (load e avHS 0x12 .half (fun w => (w.truncate 16 : BitVec 16).signExtend 32) ecc d a imm s)

def execLhu (e : Engine) (d a : Fin 32) (imm : BitVec 16) (ecc : Ecc) (s : State) : Host.Outcome State Fault Refusal :=
  .next (load e avHS 0x13 .half id ecc d a imm s)

def execLw (e : Engine) (d a : Fin 32) (imm : BitVec 16) (ecc : Ecc) (s : State) : Host.Outcome State Fault Refusal :=
  .next (load e avAll 0x14 .word id ecc d a imm s)

def execSb (e : Engine) (a b : Fin 32) (imm : BitVec 16) (s : State) : Host.Outcome State Fault Refusal :=
  .next (store e avHS 0x18 .byte a b imm s)

def execSh (e : Engine) (a b : Fin 32) (imm : BitVec 16) (s : State) : Host.Outcome State Fault Refusal :=
  .next (store e avHS 0x19 .half a b imm s)

def execSw (e : Engine) (a b : Fin 32) (imm : BitVec 16) (s : State) : Host.Outcome State Fault Refusal :=
  .next (store e avAll 0x1a .word a b imm s)

end Sys2Proof.Machine
end

