-- ==== Sys2Proof/Machine/Jtag.lean ====
section
/-! DEFINITION. The IEEE 1149.1 port: its instructions, accesses of the debug port, and halt, step and resume (R373 to R376). -/

namespace Sys2Proof.Machine

def setDbg (x : DbgSt) (s : State) : State := { s with dbg := x }

/-- An instruction is selected; leaving EXTEST performs a debug reset (R373, R61). -/
def jtagSelect (k : JtagIr) (s : State) : State :=
  let s := if s.dbg.ir = .extest ∧ k ≠ .extest then resetLogic SYS_RSTCAUSE_DBG s else s
  setDbg { s.dbg with ir := k } s

/-- The instruction that a code of the instruction register selects; any other code behaves as BYPASS (R373). -/
def jtagOf (code : Byte) : JtagIr :=
  if code = 0x01 then .idcode else if code = 0x02 then .samplePreload else if code = 0x00 then .extest else if code = 0x10 then .dbgstat
  else if code = 0x11 then .dbgacc else if code = 0x12 then .dbgctl else .bypass

/-- The instruction register is loaded with a code (R373). -/
def jtagLoad (code : Byte) (s : State) : State := jtagSelect (jtagOf code) s

/-- An instruction that is available only where BASIC access is permitted; elsewhere its code behaves as BYPASS (R373). -/
def jtagBasic (code : Byte) (f : State → State) (s : State) : State :=
  if dbgLevel s ≥ 1 then f (jtagLoad code s) else jtagSelect .bypass s

/-- BYPASS is selected, by 0xFF or any code that is no other instruction's (R373). -/
def execBypass (s : State) : Host.Outcome State Fault Refusal := .next (jtagLoad 0xFF s)

def execIdcode (s : State) : Host.Outcome State Fault Refusal :=
  let s := jtagLoad 0x01 s
  .next (setDbg { s.dbg with out := 0xB64165AB } s)

/-- SAMPLE/PRELOAD: the lands' levels are captured, and the cells that EXTEST will drive are loaded. -/
def execSamplePreload (lands preload : List Bool) (s : State) : Host.Outcome State Fault Refusal :=
  let s := jtagLoad 0x02 s
  .next (setDbg { s.dbg with cells := lands, bound := preload } s)

/-- EXTEST: the lands take the boundary register's cells, which are loaded anew, and inputs are captured. -/
def execExtest (lands cells : List Bool) (s : State) : Host.Outcome State Fault Refusal :=
  .next (jtagBasic 0x00 (fun s => setDbg { s.dbg with cells := lands, bound := cells } s) s)

def execDbgstat (s : State) : Host.Outcome State Fault Refusal :=
  let s := jtagLoad 0x10 s
  .next (setDbg { s.dbg with out := BitVec.ofNat 32 (dbgLevel s) } s)

/-! ### DBGACC (R374, R375) -/

/-- 1 + the slot of the evaluation that a tag names while it reads as provisional, else 0 (R192, R375). -/
def tagSlot (x : Shuttle) (t : Nat) : Nat :=
  match x.evals.find? (fun e => e.entry + 1 == t) with
  | some e => 1 + e.slot
  | none => 0

/-- A gated operation as numbers. -/
def gateNums : GateOp → List Nat
  | .qwr q v => [0, q, v.toNat]
  | .qcmt q => [1, q]
  | .qabt q => [2, q]
  | .dout o on => [3, o, on.toNat]
  | .hirq m => [4, m]
  | .hinc a b => [5, a, b]
  | .xupd a v t => [6, a, v.toNat, t.toNat]
  | .srec a v t => [7, a, v.toNat, t.toNat]

/-- An item of a shuttle with its tag (R375). -/
def dbgRead (s : State) (n : Nat) (item : DbgItem) : Word × Nat :=
  let x := shuttle s n
  match item with
  | .reg r => (x.core.get r.val, tagSlot x (tabGet (fun _ => 0) x.rtag r.val))
  | .localData w => (BitVec.ofNat 32 (wordOfBytes (bytesAt x.dmem (4 * w.val) 4)), tagSlot x (tabGet (fun _ => 0) x.ltag w.val))
  | .slot k =>
    match x.evals.find? (fun e => e.slot == k.val || e.conts.any (fun c => c.1 == k.val)) with
    | some e => (Config.dbgSlot [1, e.entry, (e.slot == k.val).toNat, e.clear.toNat, e.fault.getD 0], 1 + k.val)
    | none => (Config.dbgSlot [0], 0)
  | .gate k w =>
    match x.gate[k.val]? with
    | some g => (Config.dbgGate (gateNums g.op) w.val, tagSlot x g.tag)
    | none => (Config.dbgGate [] w.val, 0)

/-- A write to an item of a shuttle, effective only while it is halted with no slot in use, and only for registers and local data
(R375). -/
def dbgWrite (n : Nat) (item : DbgItem) (v : Word) (s : State) : State :=
  let x := shuttle s n
  if x.core.halted ∧ x.slots = [] then
    match item with
    | .reg r => setShuttle n (x.setReg r.val v) s
    | .localData w => setShuttle n (x.putLocal (4 * w.val) (bytesOf 4 v.toNat) 0) s
    | .slot _ => s
    | .gate _ _ => s
  else s

/-- A DBGACC access to a shuttle, at EXPERT (R375). -/
def dbgShuttle (n : Nat) (item : DbgItem) (v : Option Word) (s : State) : State :=
  if dbgLevel s = 2 then
    if islUp s (4 + n / 4) then
      let s := rouse (4 + n / 4) s
      match v with
      | some w => setReply .debug ⟨0, none⟩ (dbgWrite n item w s)
      | none =>
        let p := dbgRead s n item
        setReply .debug ⟨p.1, none⟩ (setDbg { s.dbg with tag := p.2 } s)
    else setReply .debug ⟨0, some .offacc⟩ (sluError 2 0 (4 + n / 4) (Config.dbgAddr n) s)
  else s

def execDbgacc (op : DbgOp) (s : State) : Host.Outcome State Fault Refusal :=
  .next (jtagBasic 0x11 (fun s =>
    match op with
    | .bus a (some v) => busWrite .debug .word a.toNat v s
    | .bus a none => busRead .debug .word a.toNat s
    | .shuttle n item v => dbgShuttle n.val item v s) s)

/-! ### DBGCTL (R374, R376) -/

/-- An engine that the debug port controls: the host pair, or a shuttle. -/
def dbgEngine : Option (Fin 16) → Engine
  | none => .host
  | some n => .shuttle n

/-- A change of an engine's debug state, where its island is up. -/
def dbgControl (e : Option (Fin 16)) (f : Core → Core) (s : State) : State :=
  jtagBasic 0x12 (fun s =>
    let g := dbgEngine e
    if islUp s g.island then setCore g (f (coreOf s g)) s else s) s

def execDebugHalt (e : Option (Fin 16)) (s : State) : Host.Outcome State Fault Refusal :=
  .next (dbgControl e (fun c => { c with halted := true, step := false }) s)

def execDebugStep (e : Option (Fin 16)) (s : State) : Host.Outcome State Fault Refusal :=
  .next (dbgControl e (fun c => { c with step := c.halted }) s)

def execDebugResume (e : Option (Fin 16)) (s : State) : Host.Outcome State Fault Refusal :=
  .next (dbgControl e (fun c => { c with halted := false, step := false }) s)

def execDebugArm (e : Option (Fin 16)) (s : State) : Host.Outcome State Fault Refusal :=
  .next (dbgControl e (fun c => { c with armed := true }) s)

/-- An EXPERT request, granted where the lifecycle permits EXPERT (R374, R527). -/
def execDebugExpertRequest (s : State) : Host.Outcome State Fault Refusal :=
  .next (jtagBasic 0x12 (fun s => if dbgMax s = 2 then setDbg { s.dbg with expert := true } s else s) s)

end Sys2Proof.Machine
end

