-- ==== Sys2Proof/Machine/Library.lean ====
section
/-! DEFINITION. The stock pattern library on a shuttle: descriptors, patterns, states, commands, the duty call and the dead-man watch
(R264 to R290). A step of the library is whole: where a store or a gated instruction must wait (R201), the step waits. Expert code calls a routine
by a jump to its address in the routine table, and the step of the library at that pc is the routine (R264, R265). -/

namespace Sys2Proof.Machine

/-! ### What the library reads and writes -/

/-- A step of the library that may have to wait. -/
abbrev LibStep := State → Option State

def LibStep.skip : LibStep := some

def LibStep.then_ (f g : LibStep) : LibStep := fun s => (f s).bind g

/-- A step made only if a condition holds. -/
def LibStep.when (c : Bool) (f : LibStep) : LibStep := fun s => if c then f s else some s

/-- A step made for every item of a list, in order. -/
def LibStep.all {α : Type} (l : List α) (f : α → LibStep) : LibStep := fun s => l.foldl (fun o x => o.bind (f x)) (some s)

def libSt (s : State) (n : Nat) : LibSt := (shuttle s n).lst

def setLib (n : Nat) (l : LibSt) (s : State) : State := setShuttle n { shuttle s n with lst := l } s

/-- Flags to be reported in the status block (R285): OVER 1, BADDESC 2, REFUSED 4. -/
def libFlag (n f : Nat) (s : State) : State := setLib n { libSt s n with flags := (libSt s n).flags ||| f } s

/-- The warp offset of the library area: LBASE (R266), or what a caller of a routine holds in g20 (R265). -/
def libBase (s : State) (n : Nat) : Nat :=
  match (libSt s n).base with
  | some b => b
  | none => (wordOfBytes (bytesAt (shuttle s n).dmem 0x7F00 4)) % 0x200000

/-- A word of warp memory as the shuttle loads it. -/
def libWord (s : State) (n o : Nat) : Word := shLoad s n (.warp (o % 0x200000)) 4

/-- A word of warp memory stored by the shuttle. -/
def libStore (n o : Nat) (v : Word) : LibStep := shStore n (.warp (o % 0x200000)) 4 v

/-- A gated instruction of the library, once the gate queue has room (R193, R201). -/
def libGate (n : Nat) (op : GateOp) : LibStep := fun s => gated n op (forN 16 (fun _ => gateIssue n) s)

/-- The bank in use (R267, R268). -/
def libBank (s : State) (n : Nat) : Nat := libBase s n + 0x1000 + 0x21000 * (libSt s n).bank

/-- The eight words of a descriptor in the bank in use (R267, R271). -/
def libDesc (s : State) (n d : Nat) : List Word := (List.range 8).map (fun k => libWord s n (libBank s n + 0x1000 + 32 * d + 4 * k))

/-- A field of a descriptor. -/
def dfld (dw : List Word) (k hi lo : Nat) : Nat := wget (dw.getD k 0) hi lo

def dPat (dw : List Word) : Nat := dfld dw 0 31 28
def dMine (n : Nat) (dw : List Word) : Bool := dfld dw 0 27 24 == n
def dGroup (dw : List Word) : Nat := dfld dw 0 23 16

/-- A word of the duty configuration (R287). -/
def dutyWord (s : State) (n k : Nat) : Word := libWord s n (libBank s n + 0x400 + 4 * k)

/-- Is the shuttle the duty shuttle, with the duty functions enabled (R287)? -/
def isDuty (s : State) (n : Nat) : Bool :=
  let w := dutyWord s n 0
  wget w 31 31 == 1 && wget w 27 24 == n

/-- A block of library state. -/
def libBlk (s : State) (n d : Nat) : LibDesc := tabGet (fun _ => {}) (libSt s n).descs d

def setBlk (n d : Nat) (b : LibDesc) (s : State) : State :=
  setLib n { libSt s n with descs := tabSet (fun _ => {}) (libSt s n).descs d b } s

/-- The working alarm table (R232). -/
def workTable (s : State) : Nat := wget s.loom.atcfg 21 16 * 0x8000

/-- The state that an alarm's working table entry reads (R277, R281). -/
def entryState (s : State) (n d : Nat) : Nat := wget (libWord s n (workTable s + 8 * d)) 3 0

/-- The record that is evaluated: its words, its quality, and whether it is a pick record (R272). -/
structure LibRec where
  w0   : BitVec 64
  w1   : BitVec 64
  qual : Nat
  pick : Bool
  deriving DecidableEq, Repr

/-- The low 32 bits of a record's tick count. -/
def LibRec.tick (r : LibRec) : Nat := r.w1.toNat / 65536

/-- The value that R272 evaluates: VALUE, 0.0 or 1.0, the count rounded, or the field of the packet that VSEL selects. -/
def libVal (s : State) (n : Nat) (dw : List Word) (r : LibRec) : Word :=
  match lget r.w0 63 62, lget r.w0 61 60 with
  | 2, 0 => if r.w0.toNat % 2 = 1 then 0x3F800000 else 0
  | 2, 1 => BitVec.ofNat 32 (fpOfInt f32 (r.w0.toNat % 2 ^ 32 : Nat)).1
  | 3, _ =>
    let l := (libSt s n).words.getD []
    (match dfld dw 4 25 24 with
    | 0 => (l.getD 2 0).truncate 32
    | 1 => (l.getD 2 0 >>> 32).truncate 32
    | _ => (l.getD 3 0).truncate 32)
  | _, _ => r.w0.truncate 32

/-! ### Changes of state (R280, R284, R285) -/

/-- Entering state 1, 3 or 4 is counted for CALL and HORN alarms (R285). -/
def countEntry (n st : Nat) (call horn : Bool) (s : State) : State :=
  if st = 1 ∨ st = 3 ∨ st = 4 then
    let l := libSt s n
    setLib n { l with callSeq := (l.callSeq + call.toNat) % 256, hornSeq := (l.hornSeq + horn.toNat) % 256 } s
  else s

/-- The working entry stored and the state change recorded (R284, steps 1 and 2). -/
def storeEntry (n id prio st : Nat) (v : Word) (r : LibRec) : LibStep := fun s =>
  let a := workTable s + 8 * id
  let cnt := min (wget (libWord s n a) 31 16 + 1) 0xFFFF
  let unv := (r.qual == 1).toNat
  let v := if r.pick then 0x7FC00000 else v
  (LibStep.then_ (libStore n a (BitVec.ofNat 32 (cnt * 2 ^ 16 + prio % 16 * 2 ^ 12 + unv * 2 ^ 10 + r.qual % 16 * 2 ^ 4 + st)))
    (.then_ (libStore n (a + 4) v)
      (fun s => libGate n (.srec id (BitVec.ofNat 32 (prio % 16 * 2 ^ 12 + unv * 2 ^ 8 + r.qual % 16 * 2 ^ 4 + st)) (shuttle s n).stamp) s))) s

/-- An alarm enters a state (R284). -/
def setAlarm (n d : Nat) (dw : List Word) (r : LibRec) (st : Nat) : LibStep := fun s =>
  if (libBlk s n d).st = st then some s
  else
    let v := libVal s n dw r
    let s := countEntry n st (dfld dw 4 28 28 == 1) (dfld dw 4 29 29 == 1) (setBlk n d { libBlk s n d with st := st } s)
    let on := decide (1 ≤ st ∧ st ≤ 5)
    (LibStep.then_ (storeEntry n d (dfld dw 4 23 20) st v r)
      (.when (dfld dw 4 15 15 == 1) (libGate n (.dout (dfld dw 4 12 8) (if dfld dw 4 14 14 = 1 then !on else on))))) s

/-- The state after shelving or suppression ends (R280). -/
def endedState (b : LibDesc) (dw : List Word) : Nat :=
  if b.f ∧ dfld dw 4 26 26 = 1 then 4 else if b.a then 1 else 0

/-- The state that follows A and F (R280); `ended` where a fault has ended. -/
def nextAlarm (b : LibDesc) (dw : List Word) : Nat :=
  match b.st with
  | 0 => if b.f then (if dfld dw 4 26 26 = 1 then 4 else 0) else b.a.toNat
  | 1 => if b.f ∨ b.a then 1 else if dfld dw 4 30 30 = 1 then 3 else 0
  | 2 => if b.f then (if dfld dw 4 26 26 = 1 then 5 else 2) else if b.a then 2 else 0
  | 3 => if !b.f && b.a then 1 else 3
  | 4 => if b.f then 4 else b.a.toNat
  | 5 => if b.f then 5 else if b.a then 2 else 0
  | st => st

def libNext (n d : Nat) (dw : List Word) (r : LibRec) : LibStep := fun s => setAlarm n d dw r (nextAlarm (libBlk s n d) dw) s

/-- Acknowledgement of one alarm (R280). -/
def ackAlarm (n d : Nat) (dw : List Word) (r : LibRec) : LibStep := fun s =>
  match (libBlk s n d).st with
  | 1 => setAlarm n d dw r 2 s
  | 3 => setAlarm n d dw r 0 s
  | 4 => setAlarm n d dw r 5 s
  | _ => some s

/-- The descriptors of the bank in use that have a word other than zero. -/
def bankDescs (s : State) (n : Nat) : List Nat :=
  let a := libBank s n + 0x1000
  ((s.loom.warp.filter (fun e => decide (a ≤ e.1) && decide (e.1 < a + 0x20000))).map (fun e => (e.1 - a) / 32)).eraseDups

/-- The descriptors of the bank in use that the shuttle owns. -/
def ownDescs (s : State) (n : Nat) : List Nat := (bankDescs s n).filter (fun d => dMine n (libDesc s n d))

/-! ### The duty functions (R287 to R290) -/

def duty (s : State) (n : Nat) : LibDuty := (libSt s n).duty
def setDuty (n : Nat) (x : LibDuty) (s : State) : State := setLib n { libSt s n with duty := x } s

/-- Seconds as picks (R282, R287), with PICKUS of the duty configuration. -/
def dutyPicks (s : State) (n secs : Nat) : Nat :=
  let us := wget (dutyWord s n 0) 13 0
  if us < 250 ∨ us > 10000 then Config.dutyPicks secs us else (secs * 1000000 + us - 1) / us

/-- An output byte of the duty configuration (R287): OUT1, OUT2, OUTB and HORNOUT are 0 to 3, COMOUT 4 and DMPOUT 5. -/
def dutyOut (s : State) (n k : Nat) : Nat :=
  if k < 4 then wget (dutyWord s n 2) (8 * k + 7) (8 * k) else wget (dutyWord s n 3) (8 * (k - 4) + 7) (8 * (k - 4))

/-- An output of the duty functions switches (R287). -/
def dutyDrive (n k : Nat) (on : Bool) : LibStep := fun s =>
  let x := duty s n
  if x.outs.testBit k = on then some s
  else
    let s := setDuty n { x with outs := if on then x.outs + 2 ^ k else x.outs - 2 ^ k } s
    let b := dutyOut s n k
    if b.testBit 7 ∧ b % 32 < 24 then libGate n (.dout (b % 32) (on != b.testBit 6)) s else some s

/-- The call takes a stage and an acceptance: outputs, and srec on CALLID (R288). -/
def setCall (n stage : Nat) (acc : Bool) (pick : Word) : LibStep := fun s =>
  let x := duty s n
  let was := (x.stage, x.accepted)
  let s := setDuty n { x with stage := stage, accepted := acc, since := pick } s
  (LibStep.then_ (LibStep.all [0, 1, 2] (fun k => dutyDrive n k (!acc && decide (k < stage))))
    (.when (was != (stage, acc)) (fun s =>
      libGate n (.srec (wget (dutyWord s n 6) 15 0) (BitVec.ofNat 32 (acc.toNat * 4 + stage)) (shuttle s n).stamp) s))) s

/-- DUTYACCEPT, by command or input (R288). -/
def dutyAccept (n : Nat) : LibStep := fun s =>
  let x := duty s n
  if isDuty s n ∧ x.stage ≠ 0 ∧ !x.accepted then setCall n x.stage true x.since s else some s

/-- A state of DMID or DMPID (R289). -/
def setDead (n : Nat) (isPre : Bool) (st : Nat) (r : LibRec) : LibStep := fun s =>
  let x := duty s n
  if (if isPre then x.dp else x.dm) = st then some s
  else
    let s := setDuty n (if isPre then { x with dp := st } else { x with dm := st }) s
    let w := dutyWord s n 5
    let s := countEntry n st true true s
    storeEntry n (if isPre then wget w 15 0 else wget w 31 16) Config.deadManPrio st (libVal s n [] r) r s

/-- What a reset and disarming do to the alarms that stand (R289). -/
def deadClear (n : Nat) (r : LibRec) : LibStep := fun s =>
  let s := setDuty n { duty s n with pre := false, alarm := false } s
  (LibStep.then_ (setDead n true 0 r) (.then_ (dutyDrive n 5 false)
    (fun s => let d := (duty s n).dm; if d = 1 ∨ d = 2 then setDead n false 3 r s else some s))) s

/-- DMRESET, by command or input (R289). -/
def deadReset (n : Nat) (pick : Word) (r : LibRec) : LibStep := fun s =>
  if isDuty s n ∧ (duty s n).armed then deadClear n r (setDuty n { duty s n with reset := pick } s) else some s

/-- DMARM, by command or input (R289). -/
def deadArm (n : Nat) (on : Bool) (pick : Word) (r : LibRec) : LibStep := fun s =>
  if isDuty s n then
    if on then deadClear n r (setDuty n { duty s n with armed := true, reset := pick } s)
    else if (duty s n).armed then deadClear n r (setDuty n { duty s n with armed := false } s) else some s
  else some s

/-- Bytes [hi:lo] of word `k` of every shuttle's status block (R285). -/
def statusOf (s : State) (n k hi lo : Nat) : List Nat :=
  (List.range 16).map (fun m => wget (libWord s n (libBase s n + 0x43000 + 16 * m + 4 * k)) hi lo)

/-- SILENCE, by command or input (R290). -/
def dutySilence (n : Nat) (s : State) : State :=
  if isDuty s n then setDuty n { duty s n with silenced := true, horns := statusOf s n 1 31 24 } s else s

/-- Acknowledgement by group, or of all with none (R276, R283): the shuttle's alarms, and DMID and DMPID of the duty shuttle. -/
def ackMany (n : Nat) (g : Option Nat) (r : LibRec) : LibStep := fun s =>
  let one := fun (d : Nat) (s : State) =>
    let dw := libDesc s n d
    if g = none ∨ g = some (dGroup dw) then ackAlarm n d dw r s else some s
  let dead := fun (isPre : Bool) (s : State) =>
    match (if isPre then (duty s n).dp else (duty s n).dm) with
    | 1 => setDead n isPre 2 r s
    | 3 => setDead n isPre 0 r s
    | _ => some s
  (LibStep.then_ (LibStep.all (ownDescs s n) one)
    (.when (isDuty s n && g.isNone) (.then_ (dead true) (dead false)))) s

/-! ### Patterns (R272 to R278) -/

def vLt (a b : Word) : Bool := (fpLt f32 a.toNat b.toNat).1
def vLe (a b : Word) : Bool := (fpLe f32 a.toNat b.toNat).1
def vAdd (a b : Word) : Word := BitVec.ofNat 32 (fpAdd f32 a.toNat b.toNat).1
def vSub (a b : Word) : Word := BitVec.ofNat 32 (fpSub f32 a.toNat b.toNat).1
def vDiv (a b : Word) : Word := BitVec.ofNat 32 (fpDiv f32 a.toNat b.toNat).1

/-- C against LIMIT and HYST (R273). -/
def levelCond (c low : Bool) (v lim hyst : Word) : Bool :=
  if low then (if c then !vLe (vAdd lim hyst) v else vLt v lim)
  else (if c then !vLe v (vSub lim hyst) else vLt lim v)

/-- HYST as used (R271). -/
def hystOf (w : Word) : Word := if fpFinite f32 w.toNat ∧ !w.toNat.testBit 31 then w else 0

/-- Group members other than one whose stamp lies within a number of tick periods: their sum and how many (R264 routine 6, R275). -/
def groupSum (s : State) (n g member tick window : Nat) : Word × Nat :=
  (List.range 16).foldl (fun p m =>
    let a := libBase s n + 0x44000 + 128 * g + 8 * m
    let d : Int := ((BitVec.ofNat 32 tick : Word) - libWord s n (a + 4)).toInt
    if m ≠ member ∧ (window = 0xFFFFFFFF ∨ d.natAbs ≤ window) then (vAdd p.1 (libWord s n a), p.2 + 1) else p) (0, 0)

/-- What evaluation gives a descriptor (R272, R278). -/
inductive LibRes where
  | cond (c : Bool)
  | fault
  | freeze
  | ignore
  deriving DecidableEq, Repr

/-- LEVEL (R273). -/
def evalLevel (b : LibDesc) (dw : List Word) (v : Word) : LibRes :=
  .cond (levelCond b.c (dfld dw 4 31 31 == 1) v (dw.getD 1 0) (hystOf (dw.getD 2 0)))

/-- RATE (R274). -/
def evalRate (n d : Nat) (dw : List Word) (v : Word) (r : LibRec) (s : State) : State × LibRes :=
  let b := libBlk s n d
  match b.ref with
  | none => (setBlk n d { b with ref := some (v, r.tick) } s, .cond b.c)
  | some (v0, t0) =>
    let dt : Int := (r.tick : Int) - t0
    let rate := vDiv (vSub v v0) (vDiv (BitVec.ofNat 32 (fpOfInt f32 dt).1) 0x47000000)
    let s := if dt ≥ (dfld dw 6 15 0 : Nat) ∨ dfld dw 6 15 0 = 0 then setBlk n d { b with ref := some (v, r.tick) } s else s
    (s, evalLevel b dw rate)

/-- DEVMEAN (R275). -/
def evalDev (n d : Nat) (dw : List Word) (v : Word) (r : LibRec) (s : State) : Option (State × LibRes) :=
  let g := dGroup dw
  let m := dfld dw 4 19 16
  let a := libBase s n + 0x44000 + 128 * g + 8 * m
  (LibStep.when (r.qual == 0 || r.qual == 1)
    (.then_ (libStore n a v) (libStore n (a + 4) (BitVec.ofNat 32 r.tick))) s).map (fun s =>
      let b := libBlk s n d
      let p := groupSum s n g m r.tick (dw.getD 7 0).toNat
      if p.2 < dfld dw 4 7 4 ∨ p.2 = 0 then (s, .cond b.c)
      else
        let dev := vSub v (vDiv p.1 (BitVec.ofNat 32 (fpOfInt f32 p.2).1))
        let low := dfld dw 4 31 31 == 1
        let lim := dw.getD 1 0
        let lim := if low then BitVec.ofNat 32 (fpNeg f32 lim.toNat) else lim
        (s, .cond (levelCond b.c low dev lim (hystOf (dw.getD 2 0)))))

/-- STATE with an action (R276). -/
def evalAction (n d : Nat) (dw : List Word) (at_ : Bool) (r : LibRec) : LibStep := fun s =>
  let b := libBlk s n d
  let rise := at_ && !b.lvl
  let fall := !at_ && b.lvl
  let s := setBlk n d { b with lvl := at_ } s
  let pick := (shuttle s n).pick
  match dfld dw 4 2 0 with
  | 1 => LibStep.when rise (ackMany n (if dGroup dw = 0 then none else some (dGroup dw)) r) s
  | 2 => some (onlyIf rise (dutySilence n) s)
  | 3 => LibStep.when rise (dutyAccept n) s
  | 4 => LibStep.when rise (deadReset n pick r) s
  | 5 => if rise then deadArm n true pick r s else if fall then deadArm n false pick r s else some s
  | _ => some s

/-- GROUP (R277): an entry of another descriptor of the group in state 1 to 5. -/
def evalGroup (s : State) (n d : Nat) (dw : List Word) : Bool :=
  let g := dfld dw 7 7 0
  (List.range (wget s.loom.atcfg 12 0)).any (fun e =>
    e != d && dGroup (libDesc s n e) == g && 1 ≤ entryState s n e && entryState s n e ≤ 5)

/-- The condition of a descriptor other than EXPERT (R272 to R277); a STATE descriptor with an action has no condition, and its owner alone
follows its faults. -/
def libCond (n d : Nat) (dw : List Word) (r : LibRec) (s : State) : Option (State × LibRes) :=
  let v := libVal s n dw r
  let good := r.qual == 0 || r.qual == 1 || r.qual == 3 || r.qual == 4
  if r.pick then some (s, if dPat dw = 5 then .cond (evalGroup s n d dw) else .ignore)
  else if dPat dw = 5 ∨ r.qual = 2 then some (s, .ignore)
  else if r.qual = 9 then some (s, .freeze)
  else if !good then some (s, if dPat dw = 4 ∧ dfld dw 4 2 0 ≠ 0 ∧ dMine n dw = false then .ignore else .fault)
  else if dPat dw = 4 ∧ dfld dw 4 2 0 ≠ 0 then
    (evalAction n d dw ((v != 0) == (dfld dw 4 3 3 == 1)) r s).map (fun s => (s, if dMine n dw then .cond false else .ignore))
  else match dPat dw with
    | 1 => some (s, evalLevel (libBlk s n d) dw v)
    | 2 => some (evalRate n d dw v r s)
    | 3 => evalDev n d dw v r s
    | _ => some (s, .cond ((v != 0) == (dfld dw 4 3 3 == 1)))

/-- C moves A through the delays (R279). -/
def applyCond (dw : List Word) (pick : Word) (b : LibDesc) (c : Bool) : LibDesc :=
  let b := { b with c := c, f := false, held := false }
  if c = b.a then { b with dly := none }
  else if b.dly.isSome then b
  else
    let n := if c then dfld dw 3 31 16 else dfld dw 3 15 0
    if n = 0 then { b with a := c } else { b with dly := some (pick + BitVec.ofNat 32 n) }

/-- What evaluation gave is applied (R272, R279, R280). -/
def applyRes (n d : Nat) (dw : List Word) (r : LibRec) (x : LibRes) : LibStep := fun s =>
  let b := libBlk s n d
  match x with
  | .ignore => some s
  | .freeze => some (setBlk n d { b with held := true } s)
  | .fault => libNext n d dw r (setBlk n d { b with f := true, held := false, dly := none, ref := none } s)
  | .cond c => libNext n d dw r (setBlk n d (applyCond dw (shuttle s n).pick b c) s)

/-! ### Suppression, shelving and delays (R279 to R282) -/

/-- A descriptor takes a block, if one is left (R266). -/
def takeBlk (n d : Nat) (s : State) : Option State :=
  if (libBlk s n d).used then some s
  else if (libSt s n).descs.length ≥ 1024 then none
  else some (setBlk n d { used := true } s)

/-- Is the suppressor in state 1 or 2 (R281)? -/
def suppressed (s : State) (n : Nat) (dw : List Word) : Bool :=
  let by_ := dfld dw 5 31 16
  decide (by_ < 4096) && (entryState s n by_ == 1 || entryState s n by_ == 2)

/-- Suppression begins or goes on (R281). -/
def supOn (n d : Nat) (dw : List Word) (r : LibRec) : LibStep := fun s =>
  if suppressed s n dw then
    match takeBlk n d s with
    | none => some (libFlag n 1 s)
    | some s =>
      let b := libBlk s n d
      let s := setBlk n d { b with sup := true, hold := none } s
      if b.st = 6 then some s else setAlarm n d dw r 7 s
  else some s

/-- Suppression at a pick record once its suppressor has cleared (R281). -/
def supOff (n d : Nat) (dw : List Word) (r : LibRec) : LibStep := fun s =>
  let b := libBlk s n d
  let pick := (shuttle s n).pick
  if b.sup ∧ !suppressed s n dw then
    let till := if dfld dw 5 31 16 = 0xFFFF then pick else b.hold.getD (pick + BitVec.ofNat 32 (dfld dw 5 15 0))
    if (pick - till).toInt < 0 then some (setBlk n d { b with hold := some till } s)
    else
      let s := setBlk n d { b with sup := false, hold := none } s
      if b.st = 7 then setAlarm n d dw r (endedState b dw) s else some s
  else some s

/-- Shelving ends (R280, R282). -/
def unshelve (n d : Nat) (dw : List Word) (r : LibRec) : LibStep := fun s =>
  let b := libBlk s n d
  if b.st = 6 then setAlarm n d dw r (if b.sup then 7 else endedState b dw) s else some s

/-- A running delay ends at a pick record: A takes C (R279). Only for a delay to `up`, if given. -/
def delayEnd (n d : Nat) (dw : List Word) (r : LibRec) (up : Option Bool) : LibStep := fun s =>
  let b := libBlk s n d
  match b.dly with
  | some k =>
    if !b.held ∧ 0 ≤ ((shuttle s n).pick - k).toInt ∧ (up = none ∨ up = some b.c) then
      libNext n d dw r (setBlk n d { b with a := b.c, dly := none } s)
    else some s
  | none => some s

/-- Shelving whose picks have run out ends (R282). -/
def shelfEnd (n d : Nat) (dw : List Word) (r : LibRec) : LibStep := fun s =>
  if 0 ≤ ((shuttle s n).pick - (libBlk s n d).shelf).toInt then unshelve n d dw r s else some s

/-! ### Chains (R270, R271) -/

/-- Is a descriptor evaluated (R271)? -/
def descOk (dw : List Word) : Bool :=
  (dPat dw ≤ 5 || dPat dw == 15) && fpFinite f32 (dw.getD 1 0).toNat
    && !(dfld dw 4 15 15 == 1 && decide (dfld dw 4 12 8 ≥ 24)) && !(dPat dw == 3 && dGroup dw == 0)
    && !(dPat dw == 15 && decide ((dw.getD 7 0).toNat < 0xC000))

/-- Does a descriptor need a block of the shuttle: it owns it, or evaluates it for its action (R266, R270)? -/
def needsBlk (n : Nat) (dw : List Word) : Bool :=
  dPat dw != 0 && descOk dw && (dMine n dw || (dPat dw == 4 && dfld dw 4 2 0 != 0))

/-- The library calls a hook (R278). -/
def callHook (n d : Nat) (left : Option Nat) (dw : List Word) (s : State) : State :=
  let x := shuttle s n
  let h : LibHook := ⟨d, left, x.core.get 8, x.core.pc, x.lst.base, x.lst.ret⟩
  let x := x.setReg 8 (BitVec.ofNat 32 (0x10000000 + (libBank s n + 0x1000 + 32 * d) % 0x200000))
  let x := x.setReg 20 (BitVec.ofNat 32 (0x10000000 + libBase s n))
  let x := x.setReg 31 Config.hookReturn
  setShuttle n { x with core := x.core.setPc (dw.getD 7 0), lst := { x.lst with hook := some h, base := none, ret := none } } s

/-- Does the record reach a hook (R278)? -/
def hookCalled (dw : List Word) (r : LibRec) : Bool :=
  dPat dw == 15 && (r.pick || r.qual == 0 || r.qual == 1 || r.qual == 3 || r.qual == 4)

/-- Is a descriptor on a chain evaluated by this shuttle (R270)? -/
def descRuns (n : Nat) (dw : List Word) (r : LibRec) : Bool :=
  if r.pick then dMine n dw && (dPat dw == 5 || dPat dw == 15 || decide (6 ≤ dPat dw))
  else dMine n dw || (dPat dw == 4 && dfld dw 4 2 0 != 0)

/-- A descriptor is evaluated; a hook is called and waited for (R270 to R281). An UNSETTLED record changes nothing (R272). -/
def evalDesc (n d : Nat) (left : Option Nat) (dw : List Word) (r : LibRec) : LibStep := fun s =>
  if dPat dw = 0 ∨ (!r.pick && r.qual == 2) then some s
  else if !descOk dw then some (libFlag n 2 s)
  else match takeBlk n d s with
    | none => some (libFlag n 1 s)
    | some s =>
      (LibStep.when (dMine n dw) (supOn n d dw r) s).bind (fun s =>
        if hookCalled dw r then some (callHook n d left dw s)
        else (libCond n d dw r s).bind (fun p => (applyRes n d dw r p.2 p.1).bind (supOn' n d dw r)))
where
  /-- Suppression stands over every other state (R280). -/
  supOn' (n d : Nat) (dw : List Word) (r : LibRec) : LibStep := fun s =>
    let b := libBlk s n d
    if b.sup ∧ b.st < 6 then setAlarm n d dw r 7 s else some s

/-- The chain from a descriptor on, of which `k` more may be walked (R270). -/
def libChain (n : Nat) (r : LibRec) : Nat → Nat → LibStep
  | 0, d => fun s => some (if d = 0xFFFF then s else libFlag n 2 s)
  | k + 1, d => fun s =>
    if d = 0xFFFF then some s
    else if d ≥ 4096 then some (libFlag n 2 s)
    else
      let dw := libDesc s n d
      let s := if r.pick && dMine n dw && decide (1 ≤ dPat dw ∧ dPat dw ≤ 4) then libFlag n 2 s else s
      (LibStep.when (descRuns n dw r) (evalDesc n d (some k) dw r) s).bind (fun s =>
        if (libSt s n).hook.isSome then some s else libChain n r k (dfld dw 0 15 0) s)

/-- The first descriptor of a source (R270). -/
def chainHead (s : State) (n src : Nat) : Nat := wget (libWord s n (libBank s n + 4 * src)) 15 0

/-- A chain from its head, or from a hook that has returned (R278). -/
def runChain (n src : Nat) (r : LibRec) : LibStep := fun s =>
  match (libSt s n).hook with
  | none => libChain n r 64 (chainHead s n src) s
  | some h =>
    let x := shuttle s n
    let g2 := (x.core.get 2).toNat
    let x := x.setReg 8 h.g8
    let s := setShuttle n { x with core := x.core.setPc h.pc, lst := { x.lst with hook := none, base := h.base, ret := h.ret } } s
    let dw := libDesc s n h.desc
    let b := libBlk s n h.desc
    let res := if g2 = 0 then LibRes.cond false else if g2 = 1 then .cond true else if g2 = 2 then .fault else .cond b.c
    (applyRes n h.desc dw r res s).bind (fun s =>
      (evalDesc.supOn' n h.desc dw r s).bind (fun s => match h.left with
        | some k => libChain n r k (dfld dw 0 15 0) s
        | none => some s))

/-! ### A record (R270, R310) -/

/-- The record in g4 to g7 (R265). -/
def libRec (s : State) (n : Nat) : LibRec :=
  let c := (shuttle s n).core
  let w0 : BitVec 64 := (c.get 5) ++ (c.get 4)
  let w1 : BitVec 64 := (c.get 7) ++ (c.get 6)
  ⟨w0, w1, if lget w0 63 62 = 3 then 0 else recQual w0, recIsPick w0⟩

/-- The rest of a packet is taken from its queue, word by word (R308). -/
def takePacket (n q : Nat) : Nat → List (BitVec 64) → State → State × List (BitVec 64)
  | 0, l, s => (s, l)
  | k + 1, l, s =>
    match queueTake q ((shuttle s n).curEval.map (fun v => (n, v.entry))) s with
    | (s, some w) => if w.last then (s, l ++ [w.data]) else takePacket n q k (l ++ [w.data]) s
    | (s, none) => (s, l)

/-- Does the library of a shuttle stand at work on a record that is not worked yet? It waits while a hook runs (R278). -/
def libReady (s : State) (n : Nat) : Bool :=
  let x := shuttle s n
  executes s (.shuttle (Fin.ofNat 16 n)) && x.lib && x.cur.isSome && !x.lst.worked
    && (match x.lst.hook with
      | some _ => x.core.pc == (Config.hookReturn &&& 0xFFFFFFFC)
      | none => true)

/-- A routine ends: it may have changed g2, g3, g9 to g19 and g31, and it returns to its caller, whose hook is awaited again (R265). -/
def libReturn (n : Nat) (dest : Word) (s : State) : State :=
  let x := Shuttle.count 0 1 (shuttle s n)
  let k := tabGet (fun _ => 0) x.cnt 0
  let x := ([2, 3] ++ (List.range 11).map (· + 9) ++ [31]).foldl (fun (x : Shuttle) g => x.setReg g (Config.libReg n k g)) x
  setShuttle n { x with
    core := x.core.setPc (dest &&& 0xFFFFFFFC)
    lst := { x.lst with hook := x.lst.outer.head?.getD none, outer := x.lst.outer.tail, base := none, ret := none } } s

/-- Once no hook is awaited a called routine returns to its caller; else the record's work ends, and dispatch stands at its sget again (R264,
R265). -/
def libWorked (n : Nat) (s : State) : State :=
  let x := shuttle s n
  if x.lst.hook.isSome then s
  else match x.lst.ret with
    | some a => libReturn n a s
    | none => setShuttle n { x with core := x.core.setPc (x.core.pc - 4), lst := { x.lst with worked := true } } s

/-- May the shuttle take words of a queue (R301)? -/
def mayTake (s : State) (n q : Nat) : Bool := !flag s (QUEUE_CFG_RHOST q) && decide (fget s (QUEUE_CFG_RSH q) = n)

/-- The library evaluates the record `r` (R264 routine 1, R270). A queue record's packet is taken from its queue first; on a queue that the shuttle
does not read that is a shuttle fault (R301). -/
def evalRecord (n : Nat) (r : LibRec) (s : State) : State :=
  if lget r.w0 63 62 = 3 ∧ r.pick = false ∧ (libSt s n).words = none ∧ mayTake s n (lget r.w0 36 32) = false then shFault n 4 s
  else
    let p := match lget r.w0 63 62, (libSt s n).words with
      | 3, none => if r.pick then (s, []) else
        let q := lget r.w0 36 32
        let t := takePacket n q (que s q).visible.length [] s
        (setLib n { libSt t.1 n with words := some t.2 } t.1, t.2)
      | 3, some l => (s, l)
      | _, _ => (s, [])
    let done : Option State :=
      if r.pick then runChain n 144 r p.1
      else match lget r.w0 63 62 with
        | 3 => if p.2.length < 4 then some p.1
               else runChain n (112 + lget r.w0 36 32) { r with qual := lget (p.2.getD 0 0) 39 36 } p.1
        | _ => runChain n ((recSrc r.w0).getD 0) r p.1
    match done with
    | some s => libWorked n s
    | none => s

/-! ### Commands (R282, R283) -/

/-- The owner of an identifier (R283): the duty shuttle for DMID and DMPID, else the descriptor's OWNER; none where S0 refuses. -/
inductive AlarmOwner where
  | dead (isPre : Bool)
  | desc
  | refused
  deriving DecidableEq, Repr

def alarmOwner (s : State) (n id : Nat) : AlarmOwner :=
  let w := dutyWord s n 5
  if wget (dutyWord s n 0) 31 31 = 1 ∧ id = wget w 31 16 then .dead false
  else if wget (dutyWord s n 0) 31 31 = 1 ∧ id = wget w 15 0 then .dead true
  else if id > 0xFFF then .refused
  else
    let p := dPat (libDesc s n id)
    if p = 0 ∨ (6 ≤ p ∧ p ≤ 14) then .refused else .desc

/-- SHELVE of an alarm of the shuttle (R282); a duration of zero ends at the next pick record. -/
def shelveAlarm (n d secs : Nat) (dw : List Word) (r : LibRec) : LibStep := fun s =>
  let us := wget (dutyWord s n 0) 13 0
  if dfld dw 4 27 27 = 1 ∨ us < 250 ∨ us > 10000 then some (libFlag n 4 s)
  else match takeBlk n d s with
    | none => some (libFlag n 1 s)
    | some s =>
      let picks := (min secs (dfld dw 6 31 16) * 1000000 + us - 1) / us
      setAlarm n d dw r 6 (setBlk n d { libBlk s n d with shelf := (shuttle s n).pick + BitVec.ofNat 32 (max 1 picks) } s)

/-- A command that names an alarm (R283). -/
def alarmCommand (n op id : Nat) (arg : Word) (r : LibRec) : LibStep := fun s =>
  match alarmOwner s n id with
  | .refused => some (onlyIf (n == 0) (libFlag n 4) s)
  | .dead isPre =>
    if !isDuty s n then some s
    else match op with
      | 1 => (match (if isPre then (duty s n).dp else (duty s n).dm) with
        | 1 => setDead n isPre 2 r s
        | 3 => setDead n isPre 0 r s
        | _ => some s)
      | 5 => some (libFlag n 4 s)
      | _ => some s
  | .desc =>
    let dw := libDesc s n id
    if !dMine n dw then some s
    else match op with
      | 1 => ackAlarm n id dw r s
      | 5 => shelveAlarm n id arg.toNat dw r s
      | _ => unshelve n id dw r s

/-- A command entry is applied (R283). -/
def applyCommand (n : Nat) (e arg : Word) (r : LibRec) : LibStep := fun s =>
  let pick := (shuttle s n).pick
  match wget e 31 24 with
  | 1 => alarmCommand n 1 (wget e 15 0) arg r s
  | 2 => ackMany n (some (wget e 23 16)) r s
  | 3 => ackMany n none r s
  | 4 => some (dutySilence n s)
  | 5 => alarmCommand n 5 (wget e 15 0) arg r s
  | 6 => alarmCommand n 6 (wget e 15 0) arg r s
  | 7 => dutyAccept n s
  | 8 => deadReset n pick r s
  | 9 => if wget e 23 16 = 1 then deadArm n true pick r s else if wget e 23 16 = 0 then deadArm n false pick r s else some s
  | _ => some (libFlag n 4 s)

/-- The next entry of the command ring (R267, R283). -/
def nextCommand (s : State) (n : Nat) : Option (Word × Word) :=
  let t := (libSt s n).tail
  let a := libBase s n + 0x800 + 8 * (t.toNat % 256)
  if t = libWord s n (libBase s n + 4) ∨ (libSt s n).cmds ≥ 32 then none else some (libWord s n a, libWord s n (a + 4))

/-- The shuttle applies its next command, if its operation is `op` or any is meant, and TAIL advances. -/
def libCommand (n : Nat) (op : Option Nat) (r : LibRec) : LibStep := fun s =>
  match nextCommand s n with
  | some (e, arg) =>
    if op = none ∨ op = some (wget e 31 24) then
      let l := libSt s n
      applyCommand n e arg r (setLib n { l with tail := l.tail + 1, cmds := l.cmds + 1 } s)
    else some s
  | none => some s

/-! ### A pick record (R264 routine 3, R268, R285, R288 to R290) -/

/-- The bank for a pick (R268). -/
def selectBank (n : Nat) (s : State) : State :=
  let l := libSt s n
  let sel := libWord s n (libBase s n)
  let b := wget sel 0 0
  if l.sel = some sel then s
  else if ((BitVec.ofNat 24 (shuttle s n).pick.toNat) - BitVec.ofNat 24 (wget sel 31 8) : BitVec 24).toInt ≥ 0 then
    setLib n { l with sel := some sel, bank := b } s
  else setLib n { l with sel := none, bank := 1 - b } s

/-- A pick record's work begins, once: the bank, the blocks of descriptors that need none under it are free again, OVER where more than 1,024 need
one, TAIL, and delays that are held run a pick longer (R266, R268, R272, R285). -/
def libBegin (n : Nat) (s : State) : State :=
  if (libSt s n).begun then s
  else
    let s := selectBank n s
    let s := if 1024 < ((bankDescs s n).filter (fun d => needsBlk n (libDesc s n d))).length then libFlag n 1 s else s
    let l := libSt s n
    let l := { l with descs := tabClear (fun d => !needsBlk n (libDesc s n d)) l.descs }
    setLib n { l with
      begun := true, cmds := 0, tail := libWord s n (libBase s n + 0x43000 + 16 * n + 8)
      descs := tabMap (fun _ => {}) (fun _ b => if b.held then { b with dly := b.dly.map (· + 1) } else b) l.descs } s

/-- A descriptor's delays, suppression and shelving at a pick record. -/
def pickBlk (n : Nat) (r : LibRec) (d : Nat) : LibStep := fun s =>
  let dw := libDesc s n d
  if dPat dw = 0 ∨ descOk dw = false then some s else
  (LibStep.then_ (supOn n d dw r) (.then_ (delayEnd n d dw r none) (.then_ (supOff n d dw r) (shelfEnd n d dw r)))) s

/-- Sums over the status blocks (R288, R290). -/
def statusSum (s : State) (n k hi lo : Nat) : Nat := (statusOf s n k hi lo).sum

/-- Is an escalation of the call due (R288)? -/
def escalates (s : State) (n : Nat) : Bool :=
  let x := duty s n
  let w := dutyWord s n 1
  let t := if x.stage = 1 then wget w 31 16 else wget w 15 0
  (x.stage == 1 || x.stage == 2) && !x.accepted && decide ((dutyPicks s n t : Int) ≤ ((shuttle s n).pick - x.since).toInt)

/-- The duty call at a pick record (R288). -/
def dutyCall (n : Nat) : LibStep := fun s =>
  let x := duty s n
  let pick := (shuttle s n).pick
  let sum := statusSum s n 0 15 0
  let calls := statusOf s n 1 23 16
  let changed := x.calls != calls
  let s := setDuty n { x with calls := calls } s
  if x.stage = 0 then LibStep.when (sum != 0) (setCall n 1 false pick) s
  else if sum = 0 then setCall n 0 false pick s
  else if x.accepted && changed then setCall n 1 false pick s
  else LibStep.when (escalates s n) (setCall n (x.stage + 1) false pick) s

/-- The pre-warning is due (R289). -/
def preDue (s : State) (n : Nat) : Bool :=
  let x := duty s n
  x.armed && !x.pre && decide ((dutyPicks s n (wget (dutyWord s n 4) 31 16) : Int) ≤ ((shuttle s n).pick - x.reset).toInt)

/-- The dead-man pre-warning (R289). -/
def deadPre (n : Nat) (r : LibRec) : LibStep := fun s =>
  if preDue s n then
    let s := setDuty n { duty s n with pre := true, preAt := (shuttle s n).pick } s
    (LibStep.then_ (setDead n true 1 r) (dutyDrive n 5 true)) s
  else some s

/-- The dead-man alarm is due (R289). -/
def deadDue (s : State) (n : Nat) : Bool :=
  let x := duty s n
  x.armed && x.pre && !x.alarm
    && decide ((dutyPicks s n (wget (dutyWord s n 4) 15 0) : Int) ≤ ((shuttle s n).pick - x.preAt).toInt)

/-- The dead-man alarm starts the call at stage 3 (R289). -/
def deadAlarm (n : Nat) (r : LibRec) : LibStep := fun s =>
  if deadDue s n then
    let s := setDuty n { duty s n with alarm := true } s
    (LibStep.then_ (setDead n false 1 r) (setCall n 3 false (shuttle s n).pick)) s
  else some s

/-- The horn and the common alarm output (R290). -/
def hornWork (n : Nat) : LibStep := fun s =>
  let horns := statusOf s n 1 31 24
  let x := duty s n
  let s := setDuty n { x with silenced := x.silenced && x.horns == horns, horns := horns } s
  (LibStep.then_ (dutyDrive n 3 (statusSum s n 0 31 16 != 0 && !(duty s n).silenced))
    (dutyDrive n 4 (statusSum s n 1 15 0 != 0))) s

/-- BADDESC for an output byte of 24 or above (R287). -/
def dutyBytes (n : Nat) (s : State) : State :=
  if (List.range 6).any (fun k => (dutyOut s n k).testBit 7 && decide (dutyOut s n k % 32 ≥ 24)) then libFlag n 2 s else s

/-- The work of the duty shuttle at a pick record. -/
def dutyWork (n : Nat) (r : LibRec) : LibStep := fun s =>
  LibStep.when (isDuty s n)
    (.then_ (dutyCall n) (.then_ (deadPre n r) (.then_ (deadAlarm n r) (.then_ (hornWork n) (fun s => some (dutyBytes n s)))))) s

/-- The shuttle's status block (R285). -/
def statusWork (n : Nat) : LibStep := fun s =>
  let dead := if isDuty s n then [(duty s n).dm, (duty s n).dp] else []
  let own := (ownDescs s n).map (fun d => ((libBlk s n d).st, libDesc s n d))
  let un := fun (st : Nat) => st == 1 || st == 3 || st == 4
  let cnt := fun (bit : Nat) =>
    (own.filter (fun p => un p.1 && dfld p.2 4 bit bit == 1)).length + (dead.filter un).length
  let act := (own.filter (fun p => decide (1 ≤ p.1 ∧ p.1 ≤ 5))).length + (dead.filter (fun d => decide (1 ≤ d ∧ d ≤ 5))).length
  let l := libSt s n
  let a := libBase s n + 0x43000 + 16 * n
  (LibStep.then_ (libStore n a (BitVec.ofNat 32 (cnt 29 * 2 ^ 16 + cnt 28)))
    (.then_ (libStore n (a + 4) (BitVec.ofNat 32 (l.hornSeq * 2 ^ 24 + l.callSeq * 2 ^ 16 + act)))
      (.then_ (libStore n (a + 8) l.tail)
        (.when (l.flags != 0) (fun s =>
          libStore n (a + 12) (libWord s n (a + 12) ||| BitVec.ofNat 32 l.flags) (setLib n { libSt s n with flags := 0 } s)))))) s

/-- A shuttle that becomes the duty shuttle arms the dead-man watch while an input with ACTION 5 is at ACTLVL; one that no longer is stops it (R276,
R289). -/
def dutyEnter (n : Nat) (r : LibRec) : LibStep := fun s =>
  let x := duty s n
  if isDuty s n then
    let s := setDuty n { x with was := true } s
    let on := (bankDescs s n).any (fun d =>
      let dw := libDesc s n d
      dPat dw == 4 && dfld dw 4 2 0 == 5 && (libBlk s n d).lvl)
    LibStep.when (!x.was && on) (deadArm n true (shuttle s n).pick r) s
  else some (if x.was then setDuty n { x with was := false, armed := false } s else s)

/-- The work of a pick record up to its chain: delays, suppression, shelving and commands. -/
def pickFirst (n : Nat) (r : LibRec) : LibStep := fun s =>
  (LibStep.then_ (dutyEnter n r) <| LibStep.then_ (LibStep.all (ownDescs s n) (pickBlk n r)) (LibStep.all (List.range 32) (fun _ => libCommand n none r))) s

/-- The library does the work of a pick record (R264 routine 3). -/
def pickWork (n : Nat) (r : LibRec) (s : State) : State :=
  let done :=
    if (libSt s n).hook.isSome then runChain n 144 r s
    else (pickFirst n r (libBegin n s)).bind (runChain n 144 r)
  match done.bind (fun s => if (libSt s n).hook.isSome then some s else LibStep.then_ (dutyWork n r) (statusWork n) s) with
  | some s => libWorked n s
  | none => s

/-! ### Calls of the routines (R264, R265) -/

/-- The routine that the pc of a shuttle with the library stands at: its address stands in the routine table and lies behind it. -/
def libRoutine (s : State) (n : Nat) : Option Nat :=
  let x := shuttle s n
  if executes s (.shuttle (Fin.ofNat 16 n)) && x.lib then
    (List.range 7).find? (fun k => k != 0 && decide (0xC0 ≤ (Config.libImage (16 + k)).toNat) && x.core.pc == Config.libImage (16 + k))
  else none

/-- The descriptor at a warp address (R267): its number, in whichever bank it lies, and its words. -/
def descAt (s : State) (n : Nat) (a : Word) : Nat × List Word :=
  let o := a.toNat % 0x200000
  ((o + 0x200000 - (libBase s n + 0x2000)) % 0x200000 % 0x21000 / 32, (List.range 8).map (fun k => libWord s n (o + 4 * k)))

/-- group_mean: its results in g2 and g3 (R264). -/
def groupMean (n tick : Nat) (s : State) : State :=
  let g := fun k => (shuttle s n).core.get k
  let p := groupSum s n ((g 8).toNat % 256) (g 9).toNat tick (g 10).toNat
  let mean : Word := if p.2 = 0 then 0x7FC00000 else vDiv p.1 (BitVec.ofNat 32 (fpOfInt f32 p.2).1)
  let s := libWorked n s
  setShuttle n (((shuttle s n).setReg 2 mean).setReg 3 (BitVec.ofNat 32 p.2)) s

/-- A called routine begins, with the library area in g20 and the return address in g31 (R265). -/
def libEnter (n : Nat) (s : State) : State :=
  let x := shuttle s n
  setLib n { x.lst with outer := x.lst.hook :: x.lst.outer, hook := none, base := some ((x.core.get 20).toNat % 0x200000)
                        ret := some (x.core.get 31) } s

/-- Expert code has called routine `k` (R264, R265); where a store or a gated instruction must wait, the call waits. -/
def libCall (n k : Nat) (s : State) : State :=
  let r := libRec s n
  let t := libEnter n s
  let g := fun k => (shuttle s n).core.get k
  let d := descAt t n (g 8)
  let after : Option State → State := fun o => match o with
    | some u => libWorked n u
    | none => s
  match k with
  | 1 => evalRecord n r t
  | 2 => after (evalDesc n d.1 none d.2 r t)
  | 3 => if r.pick then pickWork n r t else libWorked n t
  | 4 => after (setAlarm n d.1 d.2 r ((g 9).toNat % 16) t)
  | 5 => after (applyCommand n (libWord t n ((g 8).toNat)) (libWord t n ((g 8).toNat + 4)) r t)
  | 6 => groupMean n r.tick t
  | _ => s

/-- The step of the library that a command makes: a called routine of those `ks`, else dispatch's work on the record in g4 to g7. -/
def libStep (n : Nat) (ks : List Nat) (pick : Bool) (f : LibRec → State → State) (s : State) : State :=
  match libRoutine s n with
  | some k => if ks.contains k then libCall n k s else s
  | none =>
    let r := libRec s n
    if libReady s n = false ∨ r.pick ≠ pick then s else f r s

def libEvaluate (n : Nat) (s : State) : State := libStep n [1, 2, 4, 6] false (evalRecord n) s

def libPick (n : Nat) (s : State) : State := libStep n [3, 5] true (pickWork n) s

/-- A part of a pick record's work, done before the rest of it. -/
def libPart (n : Nat) (f : LibRec → LibStep) (s : State) : State :=
  let r := libRec s n
  if libReady s n ∧ r.pick ∧ (libSt s n).hook.isNone then (f r (libBegin n s)).getD s else s

/-! ### The commands -/

def execLibraryEvaluateRecord (n : Fin 16) (s : State) : Host.Outcome State Fault Refusal := .next (libEvaluate n.val s)

def execLibraryPickWork (n : Fin 16) (s : State) : Host.Outcome State Fault Refusal := .next (libPick n.val s)

/-- A part of the work on one descriptor that the shuttle owns. -/
def blkPart (n d : Nat) (f : List Word → LibRec → LibStep) (s : State) : State :=
  libPart n (fun r s => LibStep.when ((ownDescs s n).contains d) (f (libDesc s n d) r) s) s

def execOnDelayExpiry (n : Fin 16) (d : BitVec 12) (s : State) : Host.Outcome State Fault Refusal :=
  .next (blkPart n.val d.toNat (fun dw r => delayEnd n.val d.toNat dw r (some true)) s)

def execOffDelayExpiry (n : Fin 16) (d : BitVec 12) (s : State) : Host.Outcome State Fault Refusal :=
  .next (blkPart n.val d.toNat (fun dw r => delayEnd n.val d.toNat dw r (some false)) s)

def execSuppressionHoldExpiry (n : Fin 16) (d : BitVec 12) (s : State) : Host.Outcome State Fault Refusal :=
  .next (blkPart n.val d.toNat (fun dw r => supOff n.val d.toNat dw r) s)

def execShelvingExpiry (n : Fin 16) (d : BitVec 12) (s : State) : Host.Outcome State Fault Refusal :=
  .next (blkPart n.val d.toNat (fun dw r => shelfEnd n.val d.toNat dw r) s)

def execAck (n : Fin 16) (s : State) : Host.Outcome State Fault Refusal := .next (libPart n.val (libCommand n.val (some 1)) s)

def execAckgrp (n : Fin 16) (s : State) : Host.Outcome State Fault Refusal := .next (libPart n.val (libCommand n.val (some 2)) s)

def execAckall (n : Fin 16) (s : State) : Host.Outcome State Fault Refusal := .next (libPart n.val (libCommand n.val (some 3)) s)

def execSilence (n : Fin 16) (s : State) : Host.Outcome State Fault Refusal := .next (libPart n.val (libCommand n.val (some 4)) s)

def execShelve (n : Fin 16) (s : State) : Host.Outcome State Fault Refusal := .next (libPart n.val (libCommand n.val (some 5)) s)

def execUnshelve (n : Fin 16) (s : State) : Host.Outcome State Fault Refusal := .next (libPart n.val (libCommand n.val (some 6)) s)

def execDutyaccept (n : Fin 16) (s : State) : Host.Outcome State Fault Refusal := .next (libPart n.val (libCommand n.val (some 7)) s)

def execDmreset (n : Fin 16) (s : State) : Host.Outcome State Fault Refusal := .next (libPart n.val (libCommand n.val (some 8)) s)

def execDmarm (n : Fin 16) (s : State) : Host.Outcome State Fault Refusal := .next (libPart n.val (libCommand n.val (some 9)) s)

def execDutyCallEscalation (n : Fin 16) (s : State) : Host.Outcome State Fault Refusal :=
  .next (libPart n.val (fun _ s => LibStep.when (isDuty s n.val && escalates s n.val && statusSum s n.val 0 15 0 != 0)
    (setCall n.val ((duty s n.val).stage + 1) false (shuttle s n.val).pick) s) s)

def execDeadmanPrewarning (n : Fin 16) (s : State) : Host.Outcome State Fault Refusal :=
  .next (libPart n.val (fun r s => LibStep.when (isDuty s n.val) (deadPre n.val r) s) s)

def execDeadmanAlarm (n : Fin 16) (s : State) : Host.Outcome State Fault Refusal :=
  .next (libPart n.val (fun r s => LibStep.when (isDuty s n.val) (deadAlarm n.val r) s) s)

end Sys2Proof.Machine
end

