-- ==== Sys2Proof/Machine/TickIsland.lean ====
section
/-! DEFINITION. An island recognises a tick edge: its shadow, its sub-tick count, and what its block does at every edge (R28 to R30, R382). -/

namespace Sys2Proof.Machine

/-- The shadow after a message of TICK (R29, R382). -/
def TickMsg.shadow (m : TickMsg) (old : Tick) : Tick :=
  match m with
  | .inc n => old + BitVec.ofNat 48 n.val
  | .load t => t

/-- What an island's block does at every edge it recognises, whose shadow goes from `a` to `b` by a load or by counting (R71, R108, R215, R257,
R317, R407, R519). -/
def edgeWork (i : Nat) (load : Bool) (a b : Tick) (s : State) : State :=
  match i with
  | 0 => wdTick s
  | 3 => upsetWarp (ageHeld (pickTick s))
  | 8 => blankTick s
  | 10 => dioTick s
  | 11 => commsTick s
  | 12 => storeStep true load a b s
  | 15 => perfEdge s
  | _ => if 18 ≤ i then bankTick (i - 18) s else if isQuadrant i then upsetQuadrant i s else s

/-- The edge at the front of an island's messages is recognised: shadow, sub-tick count, count of edges, and the block's work. -/
def recogniseEdge (i : Nat) (s : State) : State :=
  match inbox s i, running s i with
  | m :: l, true =>
    let a := shadow s i
    let s := setInbox (stir i s) i l
    let s := onlyIf (hasShadow i) (fun s => setShadow s i (m.shadow a)) s
    let s := setEdges (atSub i 0 s) i (edges s i + 1)
    edgeWork i m.isLoad a (shadow s i) s
  | _, _ => s

def execIslandTickRecognised (isl : Fin 27) (s : State) : Host.Outcome State Fault Refusal := .next (recogniseEdge isl.val s)

end Sys2Proof.Machine
end

