-- ==== Sys2Proof/Machine/Dispatch.lean ====
section
/-! DEFINITION. One arm per command: a direct call of its meaning. -/

namespace Sys2Proof.Machine

def exec (i : Instr) (s : State) : Host.Outcome State Fault Refusal :=
  match i with
  | .registerWrite ini addr v size => Sys2Proof.Machine.execRegisterWrite ini addr v size s
  | .rcRead ini addr => Sys2Proof.Machine.execRcRead ini addr s
  | .lockSet ini blk v => Sys2Proof.Machine.execLockSet ini blk v s
  | .sluiceRequest src dst w => Sys2Proof.Machine.execSluiceRequest src dst w s
  | .sluiceLatch src dst taken => Sys2Proof.Machine.execSluiceLatch src dst taken s
  | .sluiceAckSeen src dst => Sys2Proof.Machine.execSluiceAckSeen src dst s
  | .sluiceAckLow src dst => Sys2Proof.Machine.execSluiceAckLow src dst s
  | .agePromotion who age => Sys2Proof.Machine.execAgePromotion who age s
  | .handshakeTimeout src dst => Sys2Proof.Machine.execHandshakeTimeout src dst s
  | .islandTickRecognised isl => Sys2Proof.Machine.execIslandTickRecognised isl s
  | .hostInterrupt => Sys2Proof.Machine.execHostInterrupt s
  | .supplyGood sup => Sys2Proof.Machine.execSupplyGood sup s
  | .supplyFail sup deep => Sys2Proof.Machine.execSupplyFail sup deep s
  | .supplyWarning w on => Sys2Proof.Machine.execSupplyWarning w on s
  | .vbatLow => Sys2Proof.Machine.execVbatLow s
  | .tickSupplyChangeover toBat => Sys2Proof.Machine.execTickSupplyChangeover toBat s
  | .tickOscillatorStop => Sys2Proof.Machine.execTickOscillatorStop s
  | .islandIdle isl => Sys2Proof.Machine.execIslandIdle isl s
  | .islandSleep isl => Sys2Proof.Machine.execIslandSleep isl s
  | .islandWake isl => Sys2Proof.Machine.execIslandWake isl s
  | .nosleepWrite ini v => Sys2Proof.Machine.execNosleepWrite ini v s
  | .dieTemperatureSample a b => Sys2Proof.Machine.execDieTemperatureSample a b s
  | .thermalRelease dieB => Sys2Proof.Machine.execThermalRelease dieB s
  | .nandProgramSuspend t => Sys2Proof.Machine.execNandProgramSuspend t s
  | .nandProgramResume t => Sys2Proof.Machine.execNandProgramResume t s
  | .externalReset => Sys2Proof.Machine.execExternalReset s
  | .softwareReset ini v => Sys2Proof.Machine.execSoftwareReset ini v s
  | .debugReset => Sys2Proof.Machine.execDebugReset s
  | .releaseStep step => Sys2Proof.Machine.execReleaseStep step s
  | .go ini fromRom => Sys2Proof.Machine.execGo ini fromRom s
  | .recover ini fromRom => Sys2Proof.Machine.execRecover ini fromRom s
  | .bootImageVerify bad0 bad1 => Sys2Proof.Machine.execBootImageVerify bad0 bad1 s
  | .watchdogConfigWrite ini v => Sys2Proof.Machine.execWatchdogConfigWrite ini v s
  | .watchdogKick ini v => Sys2Proof.Machine.execWatchdogKick ini v s
  | .watchdogWarning => Sys2Proof.Machine.execWatchdogWarning s
  | .watchdogReset => Sys2Proof.Machine.execWatchdogReset s
  | .sequencerEnable ini k expert => Sys2Proof.Machine.execSequencerEnable ini k expert s
  | .sequencerDisable ini k expert => Sys2Proof.Machine.execSequencerDisable ini k expert s
  | .stockRound g => Sys2Proof.Machine.execStockRound g s
  | .visitStart g sub => Sys2Proof.Machine.execVisitStart g sub s
  | .conversionEnd g sub code op lim => Sys2Proof.Machine.execConversionEnd g sub code op lim s
  | .staleRecord n sub => Sys2Proof.Machine.execStaleRecord n sub s
  | .blankAssert pin sub => Sys2Proof.Machine.execBlankAssert pin sub s
  | .blankRelease pin sub => Sys2Proof.Machine.execBlankRelease pin sub s
  | .blankHoldExpiry src sub => Sys2Proof.Machine.execBlankHoldExpiry src sub s
  | .blankConfigWrite ini r src v sub => Sys2Proof.Machine.execBlankConfigWrite ini r src v sub s
  | .blankWindowWrite ini v => Sys2Proof.Machine.execBlankWindowWrite ini v s
  | .channelConfigWrite ini n rng v => Sys2Proof.Machine.execChannelConfigWrite ini n rng v s
  | .groupOdrWrite ini g v => Sys2Proof.Machine.execGroupOdrWrite ini g v s
  | .modulatorFault g => Sys2Proof.Machine.execModulatorFault g s
  | .referenceFault => Sys2Proof.Machine.execReferenceFault s
  | .loopOverload mA limit => Sys2Proof.Machine.execLoopOverload mA limit s
  | .calibrationVisitEnd g sub => Sys2Proof.Machine.execCalibrationVisitEnd g sub s
  | .calibrationRequest n => Sys2Proof.Machine.execCalibrationRequest n s
  | .rotaAgePromotion who => Sys2Proof.Machine.execRotaAgePromotion who s
  | .caldue n => Sys2Proof.Machine.execCaldue n s
  | .stage ini chan sub => Sys2Proof.Machine.execStage ini chan sub s
  | .stageEffect n sub => Sys2Proof.Machine.execStageEffect n sub s
  | .commit ini chan sub => Sys2Proof.Machine.execCommit ini chan sub s
  | .abort ini chan sub => Sys2Proof.Machine.execAbort ini chan sub s
  | .stageTimeout n sub => Sys2Proof.Machine.execStageTimeout n sub s
  | .calnow ini chan sub => Sys2Proof.Machine.execCalnow ini chan sub s
  | .impnow ini chan sub => Sys2Proof.Machine.execImpnow ini chan sub s
  | .impedanceCheckEnd g sub ri x => Sys2Proof.Machine.execImpedanceCheckEnd g sub ri x s
  | .impWindowClose n sub => Sys2Proof.Machine.execImpWindowClose n sub s
  | .vibChannelEnable ini n v => Sys2Proof.Machine.execVibChannelEnable ini n v s
  | .vibChannelDisable ini n v => Sys2Proof.Machine.execVibChannelDisable ini n v s
  | .vibConfigWrite ini n bias v => Sys2Proof.Machine.execVibConfigWrite ini n bias v s
  | .vibSamplePeriod n sub sample mv => Sys2Proof.Machine.execVibSamplePeriod n sub sample mv s
  | .vibSettleComplete n => Sys2Proof.Machine.execVibSettleComplete n s
  | .vibFaultEntry n => Sys2Proof.Machine.execVibFaultEntry n s
  | .vibFaultExit n => Sys2Proof.Machine.execVibFaultExit n s
  | .segmentEnd n => Sys2Proof.Machine.execSegmentEnd n s
  | .vibPacketSend n => Sys2Proof.Machine.execVibPacketSend n s
  | .vibStageFault n on => Sys2Proof.Machine.execVibStageFault n on s
  | .vibBlankAssert p => Sys2Proof.Machine.execVibBlankAssert p s
  | .vibBlankEnd pin => Sys2Proof.Machine.execVibBlankEnd pin s
  | .add e d a b => Sys2Proof.Machine.execAdd e d a b s
  | .sub e d a b => Sys2Proof.Machine.execSub e d a b s
  | .and e d a b => Sys2Proof.Machine.execAnd e d a b s
  | .or e d a b => Sys2Proof.Machine.execOr e d a b s
  | .xor e d a b => Sys2Proof.Machine.execXor e d a b s
  | .nor e d a b => Sys2Proof.Machine.execNor e d a b s
  | .sll e d a b => Sys2Proof.Machine.execSll e d a b s
  | .srl e d a b => Sys2Proof.Machine.execSrl e d a b s
  | .sra e d a b => Sys2Proof.Machine.execSra e d a b s
  | .slt e d a b => Sys2Proof.Machine.execSlt e d a b s
  | .sltu e d a b => Sys2Proof.Machine.execSltu e d a b s
  | .min e d a b => Sys2Proof.Machine.execMin e d a b s
  | .max e d a b => Sys2Proof.Machine.execMax e d a b s
  | .mul e d a b => Sys2Proof.Machine.execMul e d a b s
  | .mulh e d a b => Sys2Proof.Machine.execMulh e d a b s
  | .mulhu e d a b => Sys2Proof.Machine.execMulhu e d a b s
  | .div e d a b => Sys2Proof.Machine.execDiv e d a b s
  | .divu e d a b => Sys2Proof.Machine.execDivu e d a b s
  | .rem e d a b => Sys2Proof.Machine.execRem e d a b s
  | .remu e d a b => Sys2Proof.Machine.execRemu e d a b s
  | .addi e d a imm => Sys2Proof.Machine.execAddi e d a imm s
  | .andi e d a imm => Sys2Proof.Machine.execAndi e d a imm s
  | .ori e d a imm => Sys2Proof.Machine.execOri e d a imm s
  | .xori e d a imm => Sys2Proof.Machine.execXori e d a imm s
  | .slti e d a imm => Sys2Proof.Machine.execSlti e d a imm s
  | .sltiu e d a imm => Sys2Proof.Machine.execSltiu e d a imm s
  | .slli e d a n => Sys2Proof.Machine.execSlli e d a n s
  | .srli e d a n => Sys2Proof.Machine.execSrli e d a n s
  | .srai e d a n => Sys2Proof.Machine.execSrai e d a n s
  | .lui e d imm => Sys2Proof.Machine.execLui e d imm s
  | .lb e d a imm ecc => Sys2Proof.Machine.execLb e d a imm ecc s
  | .lbu e d a imm ecc => Sys2Proof.Machine.execLbu e d a imm ecc s
  | .lh e d a imm ecc => Sys2Proof.Machine.execLh e d a imm ecc s
  | .lhu e d a imm ecc => Sys2Proof.Machine.execLhu e d a imm ecc s
  | .lw e d a imm ecc => Sys2Proof.Machine.execLw e d a imm ecc s
  | .sb e a b imm => Sys2Proof.Machine.execSb e a b imm s
  | .sh e a b imm => Sys2Proof.Machine.execSh e a b imm s
  | .sw e a b imm => Sys2Proof.Machine.execSw e a b imm s
  | .beq e a b imm => Sys2Proof.Machine.execBeq e a b imm s
  | .bne e a b imm => Sys2Proof.Machine.execBne e a b imm s
  | .blt e a b imm => Sys2Proof.Machine.execBlt e a b imm s
  | .bge e a b imm => Sys2Proof.Machine.execBge e a b imm s
  | .bltu e a b imm => Sys2Proof.Machine.execBltu e a b imm s
  | .bgeu e a b imm => Sys2Proof.Machine.execBgeu e a b imm s
  | .jal e imm => Sys2Proof.Machine.execJal e imm s
  | .jalr e d a imm => Sys2Proof.Machine.execJalr e d a imm s
  | .cwr e d num => Sys2Proof.Machine.execCwr e d num s
  | .cww e d a num => Sys2Proof.Machine.execCww e d a num s
  | .cws e d a num => Sys2Proof.Machine.execCws e d a num s
  | .cwc e d a num => Sys2Proof.Machine.execCwc e d a num s
  | .ecall e => Sys2Proof.Machine.execEcall e s
  | .ebreak e => Sys2Proof.Machine.execEbreak e s
  | .eret e => Sys2Proof.Machine.execEret e s
  | .wfi e => Sys2Proof.Machine.execWfi e s
  | .fadd e d a b => Sys2Proof.Machine.execFadd e d a b s
  | .fsub e d a b => Sys2Proof.Machine.execFsub e d a b s
  | .fmul e d a b => Sys2Proof.Machine.execFmul e d a b s
  | .fdiv e d a b => Sys2Proof.Machine.execFdiv e d a b s
  | .fsqrt e d a => Sys2Proof.Machine.execFsqrt e d a s
  | .fmin e d a b => Sys2Proof.Machine.execFmin e d a b s
  | .fmax e d a b => Sys2Proof.Machine.execFmax e d a b s
  | .fabs e d a => Sys2Proof.Machine.execFabs e d a s
  | .fneg e d a => Sys2Proof.Machine.execFneg e d a s
  | .feq e d a b => Sys2Proof.Machine.execFeq e d a b s
  | .flt e d a b => Sys2Proof.Machine.execFlt e d a b s
  | .fle e d a b => Sys2Proof.Machine.execFle e d a b s
  | .fcls e d a => Sys2Proof.Machine.execFcls e d a s
  | .fcvtsw e d a => Sys2Proof.Machine.execFcvtsw e d a s
  | .fcvtsu e d a => Sys2Proof.Machine.execFcvtsu e d a s
  | .fcvtws e d a => Sys2Proof.Machine.execFcvtws e d a s
  | .fcvtwu e d a => Sys2Proof.Machine.execFcvtwu e d a s
  | .sget e d => Sys2Proof.Machine.execSget e d s
  | .spwait e a => Sys2Proof.Machine.execSpwait e a s
  | .ptag e d a => Sys2Proof.Machine.execPtag e d a s
  | .qrd e d a => Sys2Proof.Machine.execQrd e d a s
  | .qwr e a b => Sys2Proof.Machine.execQwr e a b s
  | .qcmt e a => Sys2Proof.Machine.execQcmt e a s
  | .qabt e a => Sys2Proof.Machine.execQabt e a s
  | .dout e a b => Sys2Proof.Machine.execDout e a b s
  | .hirq e a => Sys2Proof.Machine.execHirq e a s
  | .hinc e a b => Sys2Proof.Machine.execHinc e a b s
  | .xupd e a b => Sys2Proof.Machine.execXupd e a b s
  | .srec e a b => Sys2Proof.Machine.execSrec e a b s
  | .hbin e d a b => Sys2Proof.Machine.execHbin e d a b s
  | .scan e a b => Sys2Proof.Machine.execScan e a b s
  | .scanw e a b => Sys2Proof.Machine.execScanw e a b s
  | .sblank e a b => Sys2Proof.Machine.execSblank e a b s
  | .tickw e a => Sys2Proof.Machine.execTickw e a s
  | .postedStoreBusError => Sys2Proof.Machine.execPostedStoreBusError s
  | .lockstepMismatch => Sys2Proof.Machine.execLockstepMismatch s
  | .gateQueueIssue n => Sys2Proof.Machine.execGateQueueIssue n s
  | .start ini n => Sys2Proof.Machine.execStart ini n s
  | .stop ini n => Sys2Proof.Machine.execStop ini n s
  | .loadlib ini n => Sys2Proof.Machine.execLoadlib ini n s
  | .loadlibComplete n => Sys2Proof.Machine.execLoadlibComplete n s
  | .shuttleWindowAccess ini off v => Sys2Proof.Machine.execShuttleWindowAccess ini off v s
  | .pickEnable ini => Sys2Proof.Machine.execPickEnable ini s
  | .pickDisable ini => Sys2Proof.Machine.execPickDisable ini s
  | .pickConfigWrite ini v => Sys2Proof.Machine.execPickConfigWrite ini v s
  | .pickBoundary => Sys2Proof.Machine.execPickBoundary s
  | .warpTickLoss => Sys2Proof.Machine.execWarpTickLoss s
  | .recordAccept src => Sys2Proof.Machine.execRecordAccept src s
  | .pickReport n => Sys2Proof.Machine.execPickReport n s
  | .publicationComplete => Sys2Proof.Machine.execPublicationComplete s
  | .warpStoreApply n => Sys2Proof.Machine.execWarpStoreApply n s
  | .warpHostWrite ini off size v => Sys2Proof.Machine.execWarpHostWrite ini off size v s
  | .warpClearComplete => Sys2Proof.Machine.execWarpClearComplete s
  | .clearanceRecord => Sys2Proof.Machine.execClearanceRecord s
  | .replacementRecord => Sys2Proof.Machine.execReplacementRecord s
  | .dupAgreement => Sys2Proof.Machine.execDupAgreement s
  | .clearNotice n => Sys2Proof.Machine.execClearNotice n s
  | .squashNotice n => Sys2Proof.Machine.execSquashNotice n s
  | .deadlineResolution n => Sys2Proof.Machine.execDeadlineResolution n s
  | .libraryEvaluateRecord n => Sys2Proof.Machine.execLibraryEvaluateRecord n s
  | .libraryPickWork n => Sys2Proof.Machine.execLibraryPickWork n s
  | .onDelayExpiry n d => Sys2Proof.Machine.execOnDelayExpiry n d s
  | .offDelayExpiry n d => Sys2Proof.Machine.execOffDelayExpiry n d s
  | .suppressionHoldExpiry n d => Sys2Proof.Machine.execSuppressionHoldExpiry n d s
  | .shelvingExpiry n d => Sys2Proof.Machine.execShelvingExpiry n d s
  | .ack n => Sys2Proof.Machine.execAck n s
  | .ackgrp n => Sys2Proof.Machine.execAckgrp n s
  | .ackall n => Sys2Proof.Machine.execAckall n s
  | .silence n => Sys2Proof.Machine.execSilence n s
  | .shelve n => Sys2Proof.Machine.execShelve n s
  | .unshelve n => Sys2Proof.Machine.execUnshelve n s
  | .dutyaccept n => Sys2Proof.Machine.execDutyaccept n s
  | .dmreset n => Sys2Proof.Machine.execDmreset n s
  | .dmarm n => Sys2Proof.Machine.execDmarm n s
  | .dutyCallEscalation n => Sys2Proof.Machine.execDutyCallEscalation n s
  | .deadmanPrewarning n => Sys2Proof.Machine.execDeadmanPrewarning n s
  | .deadmanAlarm n => Sys2Proof.Machine.execDeadmanAlarm n s
  | .egressAccept a => Sys2Proof.Machine.execEgressAccept a s
  | .egressSend p => Sys2Proof.Machine.execEgressSend p s
  | .queueConfigWrite ini q v => Sys2Proof.Machine.execQueueConfigWrite ini q v s
  | .queueWr ini q v => Sys2Proof.Machine.execQueueWr ini q v s
  | .queueCommit ini q => Sys2Proof.Machine.execQueueCommit ini q s
  | .queueAbort ini q => Sys2Proof.Machine.execQueueAbort ini q s
  | .queueFrontendWrite src => Sys2Proof.Machine.execQueueFrontendWrite src s
  | .packetVisible p => Sys2Proof.Machine.execPacketVisible p s
  | .queueHostTake q => Sys2Proof.Machine.execQueueHostTake q s
  | .queueFlush ini q => Sys2Proof.Machine.execQueueFlush ini q s
  | .queueDisable ini q => Sys2Proof.Machine.execQueueDisable ini q s
  | .bankStatusWord k v => Sys2Proof.Machine.execBankStatusWord k v s
  | .bankDown k => Sys2Proof.Machine.execBankDown k s
  | .logicSideLoss b => Sys2Proof.Machine.execLogicSideLoss b s
  | .holdExpiry b => Sys2Proof.Machine.execHoldExpiry b s
  | .fieldSupplyRelease v => Sys2Proof.Machine.execFieldSupplyRelease v s
  | .fieldSupplyLoss v => Sys2Proof.Machine.execFieldSupplyLoss v s
  | .inputChange n back sub => Sys2Proof.Machine.execInputChange n back sub s
  | .wireBreak n sub => Sys2Proof.Machine.execWireBreak n sub s
  | .wireBreakEnd n sub => Sys2Proof.Machine.execWireBreakEnd n sub s
  | .inputSupplyLow k v => Sys2Proof.Machine.execInputSupplyLow k v s
  | .countRecord n => Sys2Proof.Machine.execCountRecord n s
  | .frequencyGateEnd n cnt iv cyc ticks sub => Sys2Proof.Machine.execFrequencyGateEnd n cnt iv cyc ticks sub s
  | .clrcnt ini n => Sys2Proof.Machine.execClrcnt ini n s
  | .outputCommand => Sys2Proof.Machine.execOutputCommand s
  | .hostOutputCommand ini v => Sys2Proof.Machine.execHostOutputCommand ini v s
  | .outputSupplyWarning b v => Sys2Proof.Machine.execOutputSupplyWarning b v s
  | .outputUndervoltage b v => Sys2Proof.Machine.execOutputUndervoltage b v s
  | .outputAutoRestore b => Sys2Proof.Machine.execOutputAutoRestore b s
  | .restore ini b => Sys2Proof.Machine.execRestore ini b s
  | .clrlatch ini b => Sys2Proof.Machine.execClrlatch ini b s
  | .outputCurrentLimit m => Sys2Proof.Machine.execOutputCurrentLimit m s
  | .outputThermalShutdown m hot => Sys2Proof.Machine.execOutputThermalShutdown m hot s
  | .outputRetry m => Sys2Proof.Machine.execOutputRetry m s
  | .retryCountReset m => Sys2Proof.Machine.execRetryCountReset m s
  | .foreignDrive m => Sys2Proof.Machine.execForeignDrive m s
  | .foreignDriveEnd m => Sys2Proof.Machine.execForeignDriveEnd m s
  | .releaseOrder => Sys2Proof.Machine.execReleaseOrder s
  | .assumeOrder => Sys2Proof.Machine.execAssumeOrder s
  | .firstPickMarker => Sys2Proof.Machine.execFirstPickMarker s
  | .canEnable ini k => Sys2Proof.Machine.execCanEnable ini k s
  | .canDisable ini k => Sys2Proof.Machine.execCanDisable ini k s
  | .canIntegrationComplete k => Sys2Proof.Machine.execCanIntegrationComplete k s
  | .canRecover ini k => Sys2Proof.Machine.execCanRecover ini k s
  | .canRecoveryComplete k => Sys2Proof.Machine.execCanRecoveryComplete k s
  | .canFrameReceived k id ide rtr fdf brs esi dlc data => Sys2Proof.Machine.execCanFrameReceived k id ide rtr fdf brs esi dlc data s
  | .canRxPacketSend k => Sys2Proof.Machine.execCanRxPacketSend k s
  | .canFrameSelection c => Sys2Proof.Machine.execCanFrameSelection c s
  | .canFrameTransmitted c => Sys2Proof.Machine.execCanFrameTransmitted c s
  | .canArbitrationLost k => Sys2Proof.Machine.execCanArbitrationLost k s
  | .canBusError k code data exc => Sys2Proof.Machine.execCanBusError k code data exc s
  | .canTxRequest ini k j => Sys2Proof.Machine.execCanTxRequest ini k j s
  | .canTxAbort ini k j => Sys2Proof.Machine.execCanTxAbort ini k j s
  | .canAlarmItem => Sys2Proof.Machine.execCanAlarmItem s
  | .canFloodItem => Sys2Proof.Machine.execCanFloodItem s
  | .canAlarmFlush ini k => Sys2Proof.Machine.execCanAlarmFlush ini k s
  | .ethFrameReceived p frame bad back sub => Sys2Proof.Machine.execEthFrameReceived p frame bad back sub s
  | .ethRxRelease ini p v => Sys2Proof.Machine.execEthRxRelease ini p v s
  | .ethTxCommand ini p v => Sys2Proof.Machine.execEthTxCommand ini p v s
  | .ethFrameTransmitted p ok => Sys2Proof.Machine.execEthFrameTransmitted p ok s
  | .ptpCaptureRead ini p => Sys2Proof.Machine.execPtpCaptureRead ini p s
  | .ethPortEnable ini p => Sys2Proof.Machine.execEthPortEnable ini p s
  | .ethLinkUp p fdx => Sys2Proof.Machine.execEthLinkUp p fdx s
  | .ethLinkDown p => Sys2Proof.Machine.execEthLinkDown p s
  | .spiStatus p => Sys2Proof.Machine.execSpiStatus p s
  | .spiRead a n => Sys2Proof.Machine.execSpiRead a n s
  | .spiWrite a data => Sys2Proof.Machine.execSpiWrite a data s
  | .spiCsRise => Sys2Proof.Machine.execSpiCsRise s
  | .uartSend ini v => Sys2Proof.Machine.execUartSend ini v s
  | .uartTake ini => Sys2Proof.Machine.execUartTake ini s
  | .uartByteReceived b ferr => Sys2Proof.Machine.execUartByteReceived b ferr s
  | .bypass => Sys2Proof.Machine.execBypass s
  | .idcode => Sys2Proof.Machine.execIdcode s
  | .samplePreload lands preload => Sys2Proof.Machine.execSamplePreload lands preload s
  | .extest lands cells => Sys2Proof.Machine.execExtest lands cells s
  | .dbgstat => Sys2Proof.Machine.execDbgstat s
  | .dbgacc op => Sys2Proof.Machine.execDbgacc op s
  | .debugHalt e => Sys2Proof.Machine.execDebugHalt e s
  | .debugStep e => Sys2Proof.Machine.execDebugStep e s
  | .debugResume e => Sys2Proof.Machine.execDebugResume e s
  | .debugArm e => Sys2Proof.Machine.execDebugArm e s
  | .debugExpertRequest => Sys2Proof.Machine.execDebugExpertRequest s
  | .tickEdge => Sys2Proof.Machine.execTickEdge s
  | .loadcnt ini => Sys2Proof.Machine.execLoadcnt ini s
  | .loadcal ini => Sys2Proof.Machine.execLoadcal ini s
  | .cap0 ini => Sys2Proof.Machine.execCap0 ini s
  | .haltSet ini => Sys2Proof.Machine.execHaltSet ini s
  | .haltClear ini => Sys2Proof.Machine.execHaltClear ini s
  | .trimWrite ini v => Sys2Proof.Machine.execTrimWrite ini v s
  | .tickAlarmArm ini n v => Sys2Proof.Machine.execTickAlarmArm ini n v s
  | .tickAlarmFire n => Sys2Proof.Machine.execTickAlarmFire n s
  | .mainsrefEdge => Sys2Proof.Machine.execMainsrefEdge s
  | .mainsrefLoss => Sys2Proof.Machine.execMainsrefLoss s
  | .oscDetectorTimeout => Sys2Proof.Machine.execOscDetectorTimeout s
  | .sysTickLoss => Sys2Proof.Machine.execSysTickLoss s
  | .osfClear ini => Sys2Proof.Machine.execOsfClear ini s
  | .recorderStateChange => Sys2Proof.Machine.execRecorderStateChange s
  | .recorderHistIncrement => Sys2Proof.Machine.execRecorderHistIncrement s
  | .recorderExtremeOffer => Sys2Proof.Machine.execRecorderExtremeOffer s
  | .recorderFlood => Sys2Proof.Machine.execRecorderFlood s
  | .seriesEnable ini extreme k v => Sys2Proof.Machine.execSeriesEnable ini extreme k v s
  | .seriesDisable ini extreme k v => Sys2Proof.Machine.execSeriesDisable ini extreme k v s
  | .periodClose n => Sys2Proof.Machine.execPeriodClose n s
  | .recClose ini n => Sys2Proof.Machine.execRecClose ini n s
  | .seriesCopy n => Sys2Proof.Machine.execSeriesCopy n s
  | .calload ini => Sys2Proof.Machine.execCalload ini s
  | .cursorLoad ini v => Sys2Proof.Machine.execCursorLoad ini v s
  | .recNext ini => Sys2Proof.Machine.execRecNext ini s
  | .cursorLoadComplete => Sys2Proof.Machine.execCursorLoadComplete s
  | .recWindowRead ini k => Sys2Proof.Machine.execRecWindowRead ini k s
  | .recFlush ini => Sys2Proof.Machine.execRecFlush ini s
  | .flushTimeout => Sys2Proof.Machine.execFlushTimeout s
  | .nandOperationGrant => Sys2Proof.Machine.execNandOperationGrant s
  | .nandOperationComplete fail ecc => Sys2Proof.Machine.execNandOperationComplete fail ecc s
  | .nandRead ini part => Sys2Proof.Machine.execNandRead ini part s
  | .nandProgram ini part => Sys2Proof.Machine.execNandProgram ini part s
  | .nandErase ini part => Sys2Proof.Machine.execNandErase ini part s
  | .storeLogLocated => Sys2Proof.Machine.execStoreLogLocated s
  | .lcdEnable ini => Sys2Proof.Machine.execLcdEnable ini s
  | .lcdPumpReady v => Sys2Proof.Machine.execLcdPumpReady v s
  | .lcdDisable ini => Sys2Proof.Machine.execLcdDisable ini s
  | .lcdFrameEnd v => Sys2Proof.Machine.execLcdFrameEnd v s
  | .pumpretry ini => Sys2Proof.Machine.execPumpretry ini s
  | .dieTemperatureWord t => Sys2Proof.Machine.execDieTemperatureWord t s
  | .annunciatorTargetWrite ini hi v => Sys2Proof.Machine.execAnnunciatorTargetWrite ini hi v s
  | .mainUpdateStart => Sys2Proof.Machine.execMainUpdateStart s
  | .update ini => Sys2Proof.Machine.execUpdate ini s
  | .markerAcknowledged => Sys2Proof.Machine.execMarkerAcknowledged s
  | .updateEnd reeve => Sys2Proof.Machine.execUpdateEnd reeve s
  | .clear ini => Sys2Proof.Machine.execClear ini s
  | .clearingRefreshEnd => Sys2Proof.Machine.execClearingRefreshEnd s
  | .glyphItem => Sys2Proof.Machine.execGlyphItem s
  | .dispFloodItem => Sys2Proof.Machine.execDispFloodItem s
  | .floodHoldExpiry => Sys2Proof.Machine.execFloodHoldExpiry s
  | .reeveSegmentWord => Sys2Proof.Machine.execReeveSegmentWord s
  | .polderRelease => Sys2Proof.Machine.execPolderRelease s
  | .polderPowerFailWarning cyc => Sys2Proof.Machine.execPolderPowerFailWarning cyc s
  | .polderReset => Sys2Proof.Machine.execPolderReset s
  | .polderPulse inp rev cyc => Sys2Proof.Machine.execPolderPulse inp rev cyc s
  | .polderCycle cur => Sys2Proof.Machine.execPolderCycle cur s
  | .polderDailyRecord => Sys2Proof.Machine.execPolderDailyRecord s
  | .polderInputFault inp cyc => Sys2Proof.Machine.execPolderInputFault inp cyc s
  | .sealChange unsealed cyc => Sys2Proof.Machine.execSealChange unsealed cyc s
  | .ident ini lost => Sys2Proof.Machine.execIdent ini lost s
  | .pubkey ini lost => Sys2Proof.Machine.execPubkey ini lost s
  | .txstart ini arg lost => Sys2Proof.Machine.execTxstart ini arg lost s
  | .txstop ini arg lost => Sys2Proof.Machine.execTxstop ini arg lost s
  | .logread ini arg lost => Sys2Proof.Machine.execLogread ini arg lost s
  | .parread ini idx lost => Sys2Proof.Machine.execParread ini idx lost s
  | .parwrite ini idx lost => Sys2Proof.Machine.execParwrite ini idx lost s
  | .parcommit ini lost => Sys2Proof.Machine.execParcommit ini lost s
  | .pardiscard ini lost => Sys2Proof.Machine.execPardiscard ini lost s
  | .polderResponse bad => Sys2Proof.Machine.execPolderResponse bad s
  | .polderNoresp => Sys2Proof.Machine.execPolderNoresp s
  | .polderTimeRequest bad => Sys2Proof.Machine.execPolderTimeRequest bad s
  | .polderTimeResponse bad cyc => Sys2Proof.Machine.execPolderTimeResponse bad cyc s
  | .polderLinkWord bad => Sys2Proof.Machine.execPolderLinkWord bad s
  | .polderLinkDown => Sys2Proof.Machine.execPolderLinkDown s
  | .polderSnapshotRequest bad => Sys2Proof.Machine.execPolderSnapshotRequest bad s
  | .polderResultRecord bad => Sys2Proof.Machine.execPolderResultRecord bad s
  | .selvLaneUp lane => Sys2Proof.Machine.execSelvLaneUp lane s
  | .selvLaneDown lane => Sys2Proof.Machine.execSelvLaneDown lane s
  | .selvEnable ini => Sys2Proof.Machine.execSelvEnable ini s
  | .selvDisable ini => Sys2Proof.Machine.execSelvDisable ini s
  | .selvKeepaliveSend => Sys2Proof.Machine.execSelvKeepaliveSend s
  | .selvKeepaliveReceived k => Sys2Proof.Machine.execSelvKeepaliveReceived k s
  | .selvPairTimeout => Sys2Proof.Machine.execSelvPairTimeout s
  | .selvLoneStart rolei => Sys2Proof.Machine.execSelvLoneStart rolei s
  | .selvHeartbeatSend rolei => Sys2Proof.Machine.execSelvHeartbeatSend rolei s
  | .takeoverCopyComplete => Sys2Proof.Machine.execTakeoverCopyComplete s
  | .selvHeartbeatReceived h => Sys2Proof.Machine.execSelvHeartbeatReceived h s
  | .stateCopyRequest => Sys2Proof.Machine.execStateCopyRequest s
  | .stateCopySent => Sys2Proof.Machine.execStateCopySent s
  | .stateCopyReceived hdr data good => Sys2Proof.Machine.execStateCopyReceived hdr data good s
  | .switch ini => Sys2Proof.Machine.execSwitch ini s
  | .partnerVoteReceived v => Sys2Proof.Machine.execPartnerVoteReceived v s
  | .voteExpiry => Sys2Proof.Machine.execVoteExpiry s
  | .reevePowerUp => Sys2Proof.Machine.execReevePowerUp s
  | .reeveSupplyLoss => Sys2Proof.Machine.execReeveSupplyLoss s
  | .reeveTrigger => Sys2Proof.Machine.execReeveTrigger s
  | .arm ini => Sys2Proof.Machine.execArm ini s
  | .disarm ini => Sys2Proof.Machine.execDisarm ini s
  | .engage ini => Sys2Proof.Machine.execEngage ini s
  | .resume ini => Sys2Proof.Machine.execResume ini s
  | .ackh ini => Sys2Proof.Machine.execAckh ini s
  | .apply ini => Sys2Proof.Machine.execApply ini s
  | .reeveConfigWrite ini reg v => Sys2Proof.Machine.execReeveConfigWrite ini reg v s
  | .reeveChannelCode => Sys2Proof.Machine.execReeveChannelCode s
  | .reeveInputWord => Sys2Proof.Machine.execReeveInputWord s
  | .reeveInputDelayExpiry m => Sys2Proof.Machine.execReeveInputDelayExpiry m s
  | .reeveSourceStale n => Sys2Proof.Machine.execReeveSourceStale n s
  | .reeveInputStale m => Sys2Proof.Machine.execReeveInputStale m s
  | .reeveMarker => Sys2Proof.Machine.execReeveMarker s
  | .perfCounterSelect ini k v => Sys2Proof.Machine.execPerfCounterSelect ini k v s
  | .perfCounterWrap k pc => Sys2Proof.Machine.execPerfCounterWrap k pc s
  | .freeze ini => Sys2Proof.Machine.execFreeze ini s
  | .snap ini => Sys2Proof.Machine.execSnap ini s
  | .unfreeze ini => Sys2Proof.Machine.execUnfreeze ini s
  | .perfCommonEdge counts => Sys2Proof.Machine.execPerfCommonEdge counts s
  | .perfGatherComplete => Sys2Proof.Machine.execPerfGatherComplete s
  | .perfValueWrite ini k v => Sys2Proof.Machine.execPerfValueWrite ini k v s
  | .bandwidthWindowEnd words stalls => Sys2Proof.Machine.execBandwidthWindowEnd words stalls s
  | .keyprog ini arg => Sys2Proof.Machine.execKeyprog ini arg s
  | .keyrevoke ini arg => Sys2Proof.Machine.execKeyrevoke ini arg s
  | .advance ini => Sys2Proof.Machine.execAdvance ini s
  | .minver ini arg => Sys2Proof.Machine.execMinver ini arg s
  | .ksprog ini arg => Sys2Proof.Machine.execKsprog ini arg s
  | .custody ini arg => Sys2Proof.Machine.execCustody ini arg s
  | .lifeCommandComplete fuseOk => Sys2Proof.Machine.execLifeCommandComplete fuseOk s
  | .customerKeyRead ini k => Sys2Proof.Machine.execCustomerKeyRead ini k s
  | .recoveryStatus => Sys2Proof.Machine.execRecoveryStatus s
  | .recoveryKeyprog fuseOk => Sys2Proof.Machine.execRecoveryKeyprog fuseOk s
  | .recoveryAdvance fuseOk => Sys2Proof.Machine.execRecoveryAdvance fuseOk s
  | .erasecopy fail => Sys2Proof.Machine.execErasecopy fail s
  | .recoveryWrite fail => Sys2Proof.Machine.execRecoveryWrite fail s
  | .recoveryRead ecc => Sys2Proof.Machine.execRecoveryRead ecc s
  | .recoveryPolder lost => Sys2Proof.Machine.execRecoveryPolder lost s
  | .recoveryReset => Sys2Proof.Machine.execRecoveryReset s
  | .ethPortDisable ini p => Sys2Proof.Machine.execEthPortDisable ini p s
  | .spiTransactionError op a => Sys2Proof.Machine.execSpiTransactionError op a s
  | .modulatorFaultEnd g => Sys2Proof.Machine.execModulatorFaultEnd g s
  | .referenceFaultEnd => Sys2Proof.Machine.execReferenceFaultEnd s
  | .wireBreakSuppressionEnd k v => Sys2Proof.Machine.execWireBreakSuppressionEnd k v s
  | .polderInputFaultEnd inp => Sys2Proof.Machine.execPolderInputFaultEnd inp s
  | .logwarn bad => Sys2Proof.Machine.execLogwarn bad s
  | .cdupWrite ini on => Sys2Proof.Machine.execCdupWrite ini on s

end Sys2Proof.Machine
end

