-- ==== Sys2Proof/Machine/Step.lean ====
section
/-! DEFINITION. One step of the block: the command at the front of its queue takes effect; with no command, time alone does. -/

namespace Sys2Proof.Machine

/-- Take the command at the front of the queue and run it on the state with the rest; on an empty queue the UART's transmit FIFO may drain by a
byte, and nothing else happens (DESIGN CHOICE). -/
def step (s : State) : Host.Outcome State Fault Refusal :=
  match s.pending with
  | c :: l => exec c { s with pending := l }
  | [] => .next (uartDrain s)

/-- The state with the command that a word spells at the front of its queue: no word spells one. -/
def State.withFetchWord (s : State) (nbits w : Nat) : State :=
  match decodeTableWord nbits w with
  | some c => { s with pending := c :: s.pending }
  | none => s

end Sys2Proof.Machine
end

