-- ==== Sys2Proof/Safety.lean ====
section
/-! DEFINITION. What the claims are stated in: accesses that reach their block, the fuses, sluices within their bounds, and tables in canonical form. -/

namespace Sys2Proof.Machine

/-- A write by an initiator reaches the block at an address: it may be made, the fabric answers it with no error, and it need not wait (R20, R24,
R374). -/
def writeReaches (i : Initiator) (a : Nat) (s : State) : Bool := mayWrite i s && (busFault i true s a).isNone && !behindRead i a s

/-- A read by an initiator reaches the block at an address (R20, R24, R374). -/
def readReaches (i : Initiator) (a : Nat) (s : State) : Bool :=
  (i == .host || decide (dbgLevel s ≥ 1)) && (busFault i false s a).isNone && !behindRead i a s

/-- The state in which the block performs a write that reaches it: its island awake, and the initiator answered without error (R20, R22). -/
def arrived (i : Initiator) (a : Nat) (s : State) : State := setReply i ⟨0, none⟩ (rouse (addrIsland a) s)

/-- An engine executes an instruction `w` of the profiles `av`: it runs, the fetch at its pc is allowed and finds no error, the word stored there is
an instruction of the engine where it is known, and the profile has the instruction (R162, R209). -/
def executable (e : Engine) (av : Avail) (s : State) : Bool :=
  executes s e && (fetchFault e (useStep e s)).isNone && fetchBad e (useStep e s) == .clean && (illegalStored e (useStep e s)).isNone && av.has e

/-- A write by an initiator to an address of a state `s` reaches its block, which performs it in the state `u` (R20, R24). -/
abbrev Arrives (i : Initiator) (a : Nat) (s u : State) : Prop := writeReaches i a s = true ∧ u = arrived i a s

/-- A read by an initiator of an address of a state `s` reaches its block, which performs it in the state `u` (R20, R24). -/
abbrev Fetches (i : Initiator) (a : Nat) (s u : State) : Prop := readReaches i a s = true ∧ u = rouse (addrIsland a) s

/-- An engine executes an instruction of the profiles `av` in a state `s`, from the state `u` in which a single step is used up (R162, R374). -/
abbrev Runs (e : Engine) (av : Avail) (s u : State) : Prop := executable e av s = true ∧ u = useStep e s

/-- A lifecycle state is not before another (R527). -/
def Lifecycle.rank : Lifecycle → Nat
  | .blank => 0 | .develop => 1 | .field => 2 | .custody => 3

/-- No fuse of `a` is undone in `b`: the lifecycle state and MINVER only go forward; a slot that is revoked, programmed or spoiled stays so, a
programmed slot with its key; and a half of the customer key store that is programmed or spoiled stays so (R527, R530, R531). -/
def FusesKept (a b : LifeSt) : Prop :=
  a.state.rank ≤ b.state.rank ∧ a.minver ≤ b.minver ∧
  (∀ k, k < 4 → tabGet (fun _ => false) a.revoked k = true → tabGet (fun _ => false) b.revoked k = true) ∧
  (∀ k, tabGet (fun _ => false) a.prog k = true → tabGet (fun _ => false) b.prog k = true ∧
    tabGet (fun _ => []) b.keys k = tabGet (fun _ => []) a.keys k) ∧
  (∀ k, tabGet (fun _ => false) a.dead k = true → tabGet (fun _ => false) b.dead k = true) ∧
  (∀ h, tabGet (fun _ => false) a.ksProg h = true → tabGet (fun _ => false) b.ksProg h = true) ∧
  (∀ h, tabGet (fun _ => false) a.ksDead h = true → tabGet (fun _ => false) b.ksDead h = true)

/-- A sluice holds at most one word in its handshake, and that word while REQ is raised, and at most two in its receive register (R16, R17, R553). -/
def Sluice.wf (x : Sluice) : Prop := (x.req = true ↔ x.word.isSome = true) ∧ x.rx.length ≤ 2

/-- Every sluice is within its bounds. -/
def SluicesWf (s : State) : Prop := ∀ src dst, (sluiceOf s src dst).wf

end Sys2Proof.Machine
end

