-- ==== Sys2Proof/Certificates/Slice0/Obligations.lean ====
section
/-! DEFINITION. The statements for the provers. -/

set_option maxRecDepth 20000

open Sys2Proof Sys2Proof.Machine

/-- O1. A step runs the command at the front of the queue on the state with the queue's rest; an empty queue only lets the UART send (00_scope, 01_islands_and_sluices).
For every state whose queue is c followed by l, step answers what exec answers for c on the state whose queue is l; on an empty queue step answers the next state in which the UART has sent a byte of its transmit FIFO if it could (the model's own choice, assumption log 84, no rule). -/
def Obligations.StepRunsFrontCommand : Prop :=
  (∀ (c : Instr) (l : List Instr) (s : State), s.pending = c :: l → step s = exec c { s with pending := l }) ∧
  (∀ s : State, s.pending = [] → step s = .next (uartDrain s))

/-- O2. The state right after a power-on reset (02_power_reset_and_start_up, R9, R53, R62, R65).
State.reset has every register of the map at its reset value but SYS_SUPSTAT, which shows both main supplies good; STEP is 1 and POR the only reset cause; SYS and TICK run and every other island is OFF; no command waits. Which supplies are good, and the zero count, are the model's choice (assumption log 3 and 4, no rule). -/
def Obligations.PowerOnResetState : Prop :=
  (∀ a, a ≠ SYS_SUPSTAT → rd State.reset a = resetVal a) ∧ rd State.reset SYS_SUPSTAT = 5 ∧ rd State.reset SYS_RSTCAUSE = 1 ∧
  fget State.reset SYS_STARTSTAT_STEP = 1 ∧ power State.reset 0 = .run ∧ power State.reset 1 = .run ∧
  (∀ i, 2 ≤ i → power State.reset i = .off) ∧ State.reset.tick.count = 0 ∧ flag State.reset TICK_STAT_OSF = true ∧
  State.reset.life.state = .blank ∧ State.reset.pending = []

/-- O3. A register reads as what was stored in it, and a store in one register or field leaves every other register and every other field (00_scope, R8, R9).
For every state, address and value, the word at an address after a store there is the stored value and every other word is unchanged; a field that lies within 32 bits holds the stored value modulo its width, and a field of other bits of the same or of another register keeps its value. -/
def Obligations.RegisterReadAfterWrite : Prop :=
  (∀ (s : State) (a b : Nat) (v : Word), rd (wr s a v) a = v ∧ (b ≠ a → rd (wr s a v) b = rd s b)) ∧
  (∀ (s : State) (F G : Fld) (v : Nat), F.lo ≤ F.hi → F.hi < 32 → G.hi < 32 →
     fget (fset s F v) F = v % 2 ^ (F.hi + 1 - F.lo) ∧
     (G.addr ≠ F.addr ∨ G.hi < F.lo ∨ F.hi < G.lo → fget (fset s F v) G = fget s G))

/-- O4. A supply that becomes good, warns or weakens sets its bits; a changeover sets ONVBAT; a stopped oscillator resets TICK (02_power_reset_and_start_up, R50, R51, R61, R73, R98).
VMAIN above its overvoltage threshold is not good; a good supply that ends no power-on reset sets its bit, and once both are good SYS runs, which is a change only where it did not run; the good supply that ends one leaves POR as the only cause; a warning comparison follows its level and flags its rise; VBATLOW follows its level, and its event flags the low level; a changeover of TICK's supply changes ONVBAT alone; the oscillator's stop leaves TICK at count 0 with OSF set. Every one ends in a next state. -/
def Obligations.SupplyEventsTakeEffect : Prop :=
  (∀ (sup : Supply) (s : State), (sup ≠ .vmain ∨ flag s SYS_SUPSTAT_VMAINOV = false) → s.sys.porPending = false →
     (islUp s 0 = true → exec (.supplyGood sup) s = .next (setF s (supOk sup))) ∧
     (islUp s 0 = false → exec (.supplyGood sup) s =
       .next (if suppliesGood (setF s (supOk sup)) then releaseSys (setF s (supOk sup)) else setF s (supOk sup)))) ∧
  (∀ s : State, flag s SYS_SUPSTAT_VMAINOV = true → exec (.supplyGood .vmain) s = .next s) ∧
  (∀ (sup : Supply) (s : State), (sup ≠ .vmain ∨ flag s SYS_SUPSTAT_VMAINOV = false) → s.sys.porPending = true → flag (setF s (supOk sup)) SYS_SUPSTAT_VMAINOK = true →
     flag (setF s (supOk sup)) SYS_SUPSTAT_VAUXOK = true →
     ∃ t, exec (.supplyGood sup) s = .next t ∧ rd t SYS_RSTCAUSE = 1 ∧ t.sys.porPending = false) ∧
  (∀ (s : State),
     exec (.supplyWarning .vmainLow true) s = .next (setF (setF s SYS_SUPSTAT_VMAINWARN) SYS_EVT_VMAINW) ∧
     exec (.supplyWarning .vmainOver true) s = .next (setF (setF s SYS_SUPSTAT_VMAINOV) SYS_EVT_VMAINW) ∧
     exec (.supplyWarning .vauxLow true) s = .next (setF (setF s SYS_SUPSTAT_VAUXWARN) SYS_EVT_VAUXW) ∧
     exec (.supplyWarning .vmainLow false) s = .next (clrF s SYS_SUPSTAT_VMAINWARN) ∧
     exec (.supplyWarning .vmainOver false) s = .next (clrF s SYS_SUPSTAT_VMAINOV) ∧
     exec (.supplyWarning .vauxLow false) s = .next (clrF s SYS_SUPSTAT_VAUXWARN)) ∧
  (∀ s : State, exec .vbatLow s = .next (setF (setF s SYS_SUPSTAT_VBATLOW) SYS_EVT_VBATLOW) ∧
     exec (.supplyWarning .vbatLow true) s = .next (setF (setF s SYS_SUPSTAT_VBATLOW) SYS_EVT_VBATLOW) ∧
     exec (.supplyWarning .vbatLow false) s = .next (clrF s SYS_SUPSTAT_VBATLOW)) ∧
  (∀ s : State, exec (.tickSupplyChangeover true) s = .next (setF s TICK_STAT_ONVBAT) ∧
     exec (.tickSupplyChangeover false) s = .next (clrF s TICK_STAT_ONVBAT)) ∧
  (∀ s : State, exec .tickOscillatorStop s = .next (resetTick s) ∧ (resetTick s).tick = { reads := s.tick.reads, mrefN := s.tick.mrefN } ∧ (resetTick s).sys = s.sys ∧
     (resetTick s).life = s.life ∧ rd (resetTick s) TICK_IEN = rd s TICK_IEN ∧ fget (resetTick s) TICK_CTL_LOCK = fget s TICK_CTL_LOCK ∧
     flag (resetTick s) TICK_STAT_ONVBAT = flag s TICK_STAT_ONVBAT ∧
     (∀ a, a / 0x100000 = 0x209 → a ≠ TICK_IEN → a ≠ TICK_CTL → a ≠ TICK_STAT → rd (resetTick s) a = resetVal a) ∧
     (∀ a, a / 0x100000 ≠ 0x209 → rd (resetTick s) a = rd s a))

/-- O5. Each reset command performs its reset and records its cause (02_power_reset_and_start_up, R50, R58, R61, R62, R63, R71, R374).
An external reset resets SYS and all logic islands and records EXT; the key in SYS_SWRST, a permitted debug reset, a brown-out and a watchdog whose count stands at its timeout reset all logic islands and record SWRST, DBG, BOD and WDOG; VAUX below 2.50 V makes a power-on reset due; a die reading of 160 °C or more resets and holds that die's islands; another word in SYS_SWRST resets nothing. -/
def Obligations.ResetCommandsReset : Prop :=
  (∀ s : State, ∃ t, exec .externalReset s = .next t ∧ t = setF (resetAll s) SYS_RSTCAUSE_EXT ∧ flag t SYS_RSTCAUSE_EXT = true) ∧
  (∀ (i : Initiator) (v : Word) (s u : State), Arrives i SYS_SWRST s u →
     (v = 0xA5C3 → exec (.softwareReset i v) s = .next (resetLogic SYS_RSTCAUSE_SWRST u)) ∧
     (v ≠ 0xA5C3 → exec (.softwareReset i v) s = .next u)) ∧
  (∀ s : State, dbgLevel s ≥ 1 → exec .debugReset s = .next (resetLogic SYS_RSTCAUSE_DBG s) ∧
     flag (resetLogic SYS_RSTCAUSE_DBG s) SYS_RSTCAUSE_DBG = true) ∧
  (∀ (sup : Supply) (deep : Bool) (s : State), (deep = false ∨ sup = .vmain) →
     exec (.supplyFail sup deep) s =
       .next (resetLogic SYS_RSTCAUSE_BOD (onlyIf (islUp s 16) (fun s => { s with rvTrig := s.rvTrig ++ [.supply] }) (clrF s (supOk sup))))) ∧
  (∀ s : State, ∃ t, exec (.supplyFail .vaux true) s = .next t ∧ t.sys.porPending = true ∧ t.sys.holdA = false ∧ t.sys.holdB = false) ∧
  (∀ s : State, flag s SYS_WDCTL_EN = true → s.sys.wdCount ≥ max 1 (fget s SYS_WDCTL_TIMEOUT) →
     exec .watchdogReset s = .next (resetLogic SYS_RSTCAUSE_WDOG s) ∧ flag (resetLogic SYS_RSTCAUSE_WDOG s) SYS_RSTCAUSE_WDOG = true) ∧
  (∀ (a b : BitVec 12) (s : State), islUp s 0 = true → a.toInt ≥ 640 → s.sys.holdA = false → b.toInt < 640 → b.toInt < (BitVec.ofNat 12 (fget s SYS_THCFG_WARN)).toInt →
     ∃ u, exec (.dieTemperatureSample a b) s = .next (thermalReset false u) ∧ u.sys.power = s.sys.power ∧
       flag (thermalReset false u) SYS_RSTCAUSE_THERM = true ∧ (thermalReset false u).sys.holdA = true)

/-- O6. Temperatures, power states, releases, GO, RECOVER and the watchdog do what SYS says of them (02_power_reset_and_start_up, R53, R55, R57, R58, R65, R67, R71, R73, R529, R533).
Each clause gives the whole next state of a SYS command where it has its effect: a sample below every limit, a thermal release, IDLE, SLEEP and a wake, SYS_NOSLEEP, a release step, GO and RECOVER from the boot ROM, a failed boot, and a write, a kick and a warning of the watchdog. -/
def Obligations.SysCommandsComplete : Prop :=
  (∀ (a b : BitVec 12) (s : State) (w : Int), islUp s 0 = true → w = (BitVec.ofNat 12 (fget s SYS_THCFG_WARN)).toInt →
     w ≤ 640 → a.toInt < w → b.toInt < w →
     exec (.dieTemperatureSample a b) s =
       .next (let u := wr (wr s SYS_TEMPA (BitVec.ofNat 32 (0x80000000 + a.toNat))) SYS_TEMPB (BitVec.ofNat 32 (0x80000000 + b.toNat))
         { u with sys := { u.sys with warnA := decide (a.toInt ≤ w - 20) || s.sys.warnA, warnB := decide (b.toInt ≤ w - 20) || s.sys.warnB } })) ∧
  (∀ s : State,
     ((BitVec.ofNat 12 (fget s SYS_TEMPA_TEMP)).toInt < 580 → exec (.thermalRelease false) s = .next { s with sys := { s.sys with holdA := false } }) ∧
     ((BitVec.ofNat 12 (fget s SYS_TEMPB_TEMP)).toInt < 580 → exec (.thermalRelease true) s = .next { s with sys := { s.sys with holdB := false } })) ∧
  (∀ (i : Fin 27) (s : State), power s i.val = .run → exec (.islandIdle i) s = .next (setPower s i.val .idle)) ∧
  (∀ (i : Fin 27) (s : State), power s i.val = .run ∨ power s i.val = .idle → sleepOk s i.val = true →
     getBit s SYS_NOSLEEP_ISL i.val = false →
     ((inbox s i.val).any TickMsg.isLoad = false → exec (.islandSleep i) s = .next (sleepCount i.val (setInbox (setPower s i.val .sleep) i.val []))) ∧
     ((inbox s i.val).any TickMsg.isLoad = true → exec (.islandSleep i) s =
       .next (sleepCount i.val (setInbox (setPower (setLoadSeen s i.val true) i.val .sleep) i.val [])))) ∧
  (∀ (i : Fin 27) (s : State), power s i.val = .sleep → i.val ≠ 12 →
     exec (.islandWake i) s = .next (setLoadSeen (runIsland i.val s) i.val false)) ∧
  (∀ s : State, power s 12 = .sleep → exec (.islandWake 12) s =
     .next (storeStep false (loadSeen s 12) (shadow s 12) s.tick.count (setLoadSeen (runIsland 12 s) 12 false))) ∧
  (∀ (i : Initiator) (v : Word) (s u : State), Arrives i SYS_NOSLEEP s u → flag u SYS_CTL_LOCK = false →
     (∀ n, n < 16 → power u n ≠ .sleep) → exec (.nosleepWrite i v) s = .next (fset u SYS_NOSLEEP_ISL (wget v 26 0 &&& sleepMask))) ∧
  (∀ (n : Fin 7) (s : State), 2 ≤ n.val → fget s SYS_STARTSTAT_STEP = n.val - 1 → s.sys.relBusy = false → flag s SYS_SUPSTAT_VMAINOK = true →
     flag s SYS_SUPSTAT_VAUXOK = true → (n.val = 4 → flag s SYS_STARTCTL_GO = true) → stepHeld s n.val = false →
     (n.val ≠ 4 ∨ islUp s 3 = true → exec (.releaseStep n) s = .next (stepDone n.val (forL (stepIslands n.val) releaseIsland s))) ∧
     (n.val = 4 ∧ islUp s 3 = false → ∃ t, exec (.releaseStep n) s = .next { t with sys := { t.sys with relBusy := true } } ∧
       t = forL (stepIslands 4) releaseIsland s)) ∧
  (∀ (s u : State), Arrives .host SYS_STARTCTL s u →
     exec (.go .host true) s = .next (clrF (setF u SYS_STARTCTL_GO) SYS_STARTSTAT_RECMODE) ∧ exec (.go .host false) s = .next u) ∧
  (∀ (s u : State), Arrives .host SYS_STARTCTL s u → u.sys.holdA = false → islUp u 11 = true →
     (flag (setF (setF (setF u SYS_STARTCTL_RECOVER) SYS_EVT_RECOVDONE) SPI_CTL_EN) SYS_STARTCTL_GO = false →
       exec (.recover .host true) s =
         .next (setF (setF (setF (setF u SYS_STARTCTL_RECOVER) SYS_EVT_RECOVDONE) SPI_CTL_EN) SYS_STARTSTAT_RECMODE)) ∧
     exec (.recover .host false) s = .next u) ∧
  (∀ (s : State), power s 2 = .run → power s 12 = .run → (pcOf s .host).toNat < 0x10000 → flag s SYS_STARTCTL_GO = false →
     flag s SYS_STARTCTL_RECOVER = false →
     (s.life.state = .blank → ∀ b0 b1, exec (.bootImageVerify b0 b1) s = .next (recoverWrite true s)) ∧
     (s.life.state ≠ .blank → ∀ u v b0 b1, u = bootReads 0 b0 (useScratch s) → v = bootReads 1 b1 u → exec (.bootImageVerify b0 b1) s = .next
       (if b0 = false ∧ copyValid u 0 = true then bootImage 0 u else if b1 = false ∧ copyValid v 1 = true then bootImage 1 v else recoverWrite true v))) ∧
  (∀ (i : Initiator) (v : Word) (s u : State), Arrives i SYS_WDCTL s u →
     (flag u SYS_CTL_LOCK = true → exec (.watchdogConfigWrite i v) s = .next u) ∧
     (flag u SYS_CTL_LOCK = false → ∃ t, t = fset (fset u SYS_WDCTL_EN (wget v 31 31)) SYS_WDCTL_TIMEOUT (wget v 23 0) ∧
       exec (.watchdogConfigWrite i v) s = .next (if flag u SYS_WDCTL_EN = false ∧ wget v 31 31 = 1
         then { t with sys := { t.sys with wdCount := 0 } } else t))) ∧
  (∀ (i : Initiator) (v : Word) (s u : State), Arrives i SYS_WDKICK s u →
     (v = 0x3C96 → flag u SYS_WDCTL_EN = true → exec (.watchdogKick i v) s = .next { u with sys := { u.sys with wdCount := 0 } }) ∧
     (v ≠ 0x3C96 → exec (.watchdogKick i v) s = .next u)) ∧
  (∀ s : State, flag s SYS_WDCTL_EN = true → s.sys.wdCount = max 1 ((fget s SYS_WDCTL_TIMEOUT + 1) / 2) →
     exec .watchdogWarning s = .next (setF s SYS_EVT_WDWARN))

/-- O7. Sequencers start and stop, the stock round queues its steps, visits begin and conversions are delivered (03_analog_front_end, R78, R80, R89, R90, R91, R94, R95, R96, R104, R117, R121).
A sequencer is started and stopped by its control register; the stock round queues one live step for each scanned channel whose turn it is; a granted visit begins; a conversion is delivered, or counted by a measuring visit; a measuring visit ends, of a calibration without its result if the sequencer has been disabled; a STALE record falls due. -/
def Obligations.SequencersVisitsAndConversionsProceed : Prop :=
  (∀ (i : Initiator) (k : Fin 4) (x : Bool) (s u : State), Arrives i (AFE_SCANCTL k.val) s u →
     (flag u (AFE_SCANCTL_EN k.val) = false → exec (.sequencerEnable i k x) s = .next (seqBegin k.val (fset u (AFE_SCANCTL_MODE k.val) x.toNat))) ∧
     (flag u (AFE_SCANCTL_EN k.val) = true → exec (.sequencerDisable i k x) s = .next (seqHalt k.val u))) ∧
  (∀ (g : Fin 16) (s u : State), afeUp s = true → u = stir 8 s → flag u (AFE_SCANCTL_EN (g.val / 4)) = true → flag u (AFE_SCANCTL_MODE (g.val / 4)) = false →
     (afeGrp u g.val).on = true → (afeGrp u g.val).queue = [] → (afeGrp u g.val).resume = none →
     (∀ j, j < 4 → flag u (AFE_CHSCAN_PIN (4 * g.val + j)) = false) →
     exec (.stockRound g) s = .next (setAfeGrp g.val { afeGrp u g.val with
       queue := ((List.range 4).filter (fun j => chScanned u (4 * g.val + j) && (afeGrp u g.val).round % 2 ^ fget u (AFE_CHSCAN_RATE (4 * g.val + j)) == 0)).map
         (fun j => stockStep j false)
       round := (afeGrp u g.val).round + 1 } u)) ∧
  (∀ (g : Fin 16) (sub : BitVec 16) (s u : State), afeUp s = true → u = atSub 8 sub (stir 8 s) → (afeGrp u g.val).on = true → (afeGrp u g.val).stop = false →
     (afeGrp u g.val).visit = none → (afeGrp u g.val).granted = some .cj →
     ∃ t, exec (.visitStart g sub) s = .next t ∧ t.regs = u.regs ∧ (afeGrp t g.val).granted = none ∧
       (afeGrp t g.val).visit = some { kind := .cj, input := 13, req := 3, need := fget u AFE_CJCFG_CJAVG }) ∧
  (∀ (g : Fin 16) (sub : BitVec 16) (code : BitVec 24) (op lim : Bool) (v : AfeVisit) (s u : State), afeUp s = true → u = atSub 8 sub (stir 8 s) →
     (afeGrp u g.val).visit = some v →
     (v.kind = .live → exec (.conversionEnd g sub code op lim) s = .next (liveConversion g.val v code.toInt op lim u)) ∧
     (v.kind ≠ .live → exec (.conversionEnd g sub code op lim) s = .next (measConversion g.val v code.toInt u))) ∧
  (∀ (g : Fin 16) (sub : BitVec 16) (v : AfeVisit) (s u : State), afeUp s = true → u = atSub 8 sub (stir 8 s) → (afeGrp u g.val).visit = some v → measDone v = true →
     ((afeGrp u g.val).stop = true → v.kind = .zero ∨ v.kind = .gain → exec (.calibrationVisitEnd g sub) s = .next (endVisit g.val v u)) ∧
     ((afeGrp u g.val).stop = false → v.kind = .zero → exec (.calibrationVisitEnd g sub) s = .next (endVisit g.val v (zeroEnd (4 * g.val + v.input) v.acc u))) ∧
     ((afeGrp u g.val).stop = false → v.kind = .gain → exec (.calibrationVisitEnd g sub) s = .next (endVisit g.val v (gainEnd (4 * g.val + v.input) v.acc u))) ∧
     (v.kind = .cj → exec (.calibrationVisitEnd g sub) s = .next (endVisit g.val v (cjEnd g.val v.acc u))) ∧
     (v.kind = .ref → exec (.calibrationVisitEnd g sub) s = .next (endVisit g.val v (refEnd g.val v u)))) ∧
  (∀ (g : Fin 16) (sub : BitVec 16) (ri x : Word) (v : AfeVisit) (s u : State), afeUp s = true → u = atSub 8 sub (stir 8 s) → (afeGrp u g.val).visit = some v → measDone v = true →
     (v.kind = .imp → exec (.impedanceCheckEnd g sub ri x) s = .next (endVisit g.val v (setAfeCh (4 * g.val + v.input)
       { afeCh u (4 * g.val + v.input) with impOff := some (edges u 8), impRes := (ri, x), change := true } u))) ∧
     (v.kind = .impSelf → exec (.impedanceCheckEnd g sub ri x) s = .next (endVisit g.val v (wr u (AFE_IMPSELF g.val) ri)))) ∧
  (∀ (n : Fin 64) (sub : BitVec 16) (s u : State), afeUp s = true → u = atSub 8 sub (stir 8 s) → flag u (AFE_CHSCAN_STALEEN n.val) = true → flag u (AFE_SCANCTL_EN (n.val / 16)) = true →
     chBlanked u n.val = false → (afeCh u n.val).stale + max 1 (32 * fget u (AFE_CHSCAN_STALE n.val)) ≤ edges u 8 →
     exec (.staleRecord n sub) s = .next (sendSample ⟨false, (afeCh u n.val).range, fget u (AFE_CALSTAT_GEN n.val), 0, 8, n.val, (afeCh u n.val).good, ⟨shadow s 8, sub⟩⟩
       (setAfeCh n.val { afeCh u n.val with stale := edges u 8 }
         (setF (setF u (AFE_CHSTAT_STALEF n.val)) (AFE_GSTAT_STALE (n.val / 4))))))

/-- O8. Blanking sources assert, hold and release; channel, range, rate and window settings are written; faults are recorded (03_analog_front_end, R76, R77, R79, R88, R98, R105, R107, R108, R110, R112, R556).
A pin that asserts, of an island that sleeps too, makes its enabled source blank; a release begins a hold, and a hold that has run out ends the blanking; the window, the profile registers and the rate take the written fields by their rules; a modulator or reference fault and the loop supply's report set their flags. -/
def Obligations.BlankingAndSettingsTakeEffect : Prop :=
  (∀ (pin : Fin 4) (sub : BitVec 16) (s u : State), islUp s 8 = true → u = atSub 8 sub (rouse 8 s) →
     (u.afe.pins.testBit pin.val = false → exec (.blankAssert pin sub) s =
       .next (sourceAsserts pin.val { u with afe := { u.afe with pins := u.afe.pins ||| 2 ^ pin.val } })) ∧
     (u.afe.pins.testBit pin.val = true → exec (.blankRelease pin sub) s =
       .next (sourceReleases pin.val { u with afe := { u.afe with pins := u.afe.pins - 2 ^ pin.val } }))) ∧
  (∀ (src : Nat) (s : State), (flag s (AFE_BLKCFG_EN src) = true → sourceAsserts src s =
       reblank (2 ^ src) (fun s => setHold src 0 (setBit s AFE_BLKSTAT_ACT src)) (setBit s AFE_EVT_BLKON src)) ∧
     (flag s (AFE_BLKCFG_EN src) = false → sourceAsserts src s = s) ∧
     (getBit s AFE_BLKSTAT_ACT src = true → fget s (AFE_BLKCFG_HOLD src) ≠ 0 → sourceReleases src s = setHold src (1 + edges s 8) s) ∧
     (getBit s AFE_BLKSTAT_ACT src = true → fget s (AFE_BLKCFG_HOLD src) = 0 → sourceReleases src s = sourceEnds src s) ∧
     (getBit s AFE_BLKSTAT_ACT src = false → sourceReleases src s = s)) ∧
  (∀ (src : Fin 8) (sub : BitVec 16) (s u : State), afeUp s = true → u = atSub 8 sub (stir 8 s) → tabGet (fun _ => 0) u.afe.hold src.val ≠ 0 →
     fget u (AFE_BLKCFG_HOLD src.val) ≤ edges u 8 + 1 - tabGet (fun _ => 0) u.afe.hold src.val →
     exec (.blankHoldExpiry src sub) s = .next (sourceEnds src.val u)) ∧
  (∀ (i : Initiator) (src : Fin 8) (v : Word) (sub : BitVec 16) (s u : State),
     (Arrives i (AFE_BLKCFG src.val) s u → exec (.blankConfigWrite i .cfg src v sub) s = .next (blkCfgWrite src.val v (atSub 8 sub u))) ∧
     (Arrives i (AFE_BLKSW) s u → exec (.blankConfigWrite i .sw src v sub) s = .next (blkSwWrite v (atSub 8 sub u))) ∧
     (Arrives i (AFE_BLKMAPLO src.val) s u → flag u AFE_CTL_LOCK = false → exec (.blankConfigWrite i .mapLo src v sub) s =
       .next (reblank (2 ^ src.val) (fun t => wr t (AFE_BLKMAPLO src.val) v) (atSub 8 sub u))) ∧
     (Arrives i (AFE_BLKMAPHI src.val) s u → flag u AFE_CTL_LOCK = false → exec (.blankConfigWrite i .mapHi src v sub) s =
       .next (reblank (2 ^ src.val) (fun t => wr t (AFE_BLKMAPHI src.val) v) (atSub 8 sub u))) ∧
     (Arrives i AFE_BLKWIN s u → flag u AFE_CTL_LOCK = false → exec (.blankWindowWrite i v) s = .next (fset u AFE_BLKWIN_WIN (min (wget v 15 0) 0xC000)))) ∧
  (∀ (i : Initiator) (n : Fin 64) (g : Fin 16) (v : Word) (s u : State),
     (Arrives i (AFE_CHCFG n.val) s u → wget v 3 0 ≤ 8 → exec (.channelConfigWrite i n false v) s =
       .next (wr u (AFE_CHCFG n.val) (wset (v &&& 0xF1FF) 3 0 (wget v 3 0)))) ∧
     (Arrives i (AFE_CHCFG n.val) s u → 8 < wget v 3 0 → exec (.channelConfigWrite i n false v) s =
       .next (wr u (AFE_CHCFG n.val) (wset (v &&& 0xF1FF) 3 0 (fget u (AFE_CHCFG_TYPE n.val))))) ∧
     (Arrives i (AFE_CHRNG n.val) s u → exec (.channelConfigWrite i n true v) s = .next (chRngWrite n.val v u)) ∧
     (Arrives i (AFE_GCFG g.val) s u → wget v 2 0 ≤ 4 → exec (.groupOdrWrite i g v) s = .next (fset u (AFE_GCFG_ODR g.val) (wget v 2 0))) ∧
     (Arrives i (AFE_GCFG g.val) s u → 4 < wget v 2 0 → exec (.groupOdrWrite i g v) s = .next u)) ∧
  (∀ (g : Fin 16) (s : State),
     (afeUp s = true → exec (.modulatorFault g) s = .next (setF (setAfeGrp g.val { afeGrp s g.val with modFlt := true } (stir 8 s)) (AFE_GSTAT_MODFLT g.val))) ∧
     exec (.modulatorFaultEnd g) s = .next (setAfeGrp g.val { afeGrp s g.val with modFlt := false } s)) ∧
  (∀ s : State,
     (flag s AFE_STAT_REFOK = true → islUp s 8 = true → exec .referenceFault s = .next (setF (clrF s AFE_STAT_REFOK) AFE_EVT_REFFLT)) ∧
     exec .referenceFaultEnd s = .next (setF s AFE_STAT_REFOK)) ∧
  (∀ (mA : BitVec 8) (s : State), afeUp s = true →
     (flag s AFE_STAT_LOOPOL = false → exec (.loopOverload mA true) s = .next (setF (setF (fset (stir 8 s) AFE_STAT_LOOPI mA.toNat) AFE_STAT_LOOPOL) AFE_EVT_LOOPOL)) ∧
     exec (.loopOverload mA false) s = .next (clrF (fset (stir 8 s) AFE_STAT_LOOPI mA.toNat) AFE_STAT_LOOPOL))

/-- O9. Stage, commit, abort, calnow and impnow on a channel; requests, promotions, the stage timeout and the window's close (04_live_calibration_and_linearisation, R122, R123, R126, R129, R130, R131, R132, R133, R134, R141, R142).
With no command held and no rota calibration of the channel, a command of AFE_CALCMD acts on it: STAGE waits for its boundary and then makes the channel STAGED, COMMIT activates a fit set, ABORT ends the stage, CALNOW and IMPNOW raise their requests. A request is raised at MINAGE, promoted by its age, CALDUE set at twice LIMIT; a stage ends at STGMAX; a window closes TAIL periods after the tone. -/
def Obligations.CalibrationCommandsTakeEffect : Prop :=
  (∀ (i : Initiator) (n : Fin 64) (sub : BitVec 16) (s u : State), Arrives i AFE_CALCMD s u → flag u AFE_CALCMD_BUSY = false →
     (afeCh u n.val).rota = none →
     (fget u (AFE_CALSTAT_STATE n.val) = 1 → exec (.stage i (BitVec.ofNat 7 n.val) sub) s = .next (calBusy { calBusy { atSub 8 sub u with afe := { u.afe with staged := u.afe.staged ++ [n.val] } } with
       afe := { u.afe with staged := u.afe.staged ++ [n.val], held := [] } })) ∧
     exec (.commit i (BitVec.ofNat 7 n.val) sub) s = .next (calRun [] (hostCommit n.val (atSub 8 sub u))) ∧
     (fget u (AFE_CALSTAT_STATE n.val) ≠ 0 → exec (.abort i (BitVec.ofNat 7 n.val) sub) s = .next (calRun [] (endStage n.val (atSub 8 sub u)))) ∧
     exec (.calnow i (BitVec.ofNat 7 n.val) sub) s = .next (calRun [] (setAfeCh n.val
       { afeCh u n.val with ageBase := 2 * fget u AFE_CALLIM_LIMIT, ageFrom := some (shadow u 8) } (atSub 8 sub u))) ∧
     (impPossible u (n.val / 4) = true → exec (.impnow i (BitVec.ofNat 7 n.val) sub) s = .next (calRun [] (setAfeCh n.val { afeCh u n.val with impReq := true } (atSub 8 sub u)))) ∧
     (impPossible u (n.val / 4) = false → exec (.impnow i (BitVec.ofNat 7 n.val) sub) s = .next (calRun [] (setF (atSub 8 sub u) AFE_CALEVT_IMPSKIP)))) ∧
  (∀ (n : Fin 64) (sub : BitVec 16) (s u : State), afeUp s = true → u = atSub 8 sub (stir 8 s) → u.afe.staged.contains n.val = true → fget u (AFE_CALSTAT_STATE n.val) = 1 →
     exec (.stageEffect n sub) s = .next (beginStage n.val (unStage n.val u))) ∧
  (∀ (n : Fin 64) (sub : BitVec 16) (e : Nat) (s u : State), afeUp s = true → u = atSub 8 sub (stir 8 s) → (afeCh u n.val).stage = some e → max 1 (fget u AFE_CALCTL_STGMAX) ≤ edges u 8 - e →
     exec (.stageTimeout n sub) s = .next (endStage n.val (setF u AFE_CALEVT_CALABORT))) ∧
  (∀ (n : Fin 64) (sub : BitVec 16) (e : Nat) (s u : State), afeUp s = true → u = atSub 8 sub (stir 8 s) → (afeCh u n.val).impOff = some e → fget u AFE_IMPCFG_TAIL ≤ edges u 8 - e →
     exec (.impWindowClose n sub) s = .next (impClose n.val u) ∧ (afeCh (impClose n.val u) n.val).oldSets = []) ∧
  (∀ (n : Fin 64) (s : State), afeUp s = true → inRota s n.val = true → (afeCh s n.val).req = none → fget s AFE_CALLIM_MINAGE ≤ calAge s n.val →
     exec (.calibrationRequest n) s = .next (setReq n.val
       (some ⟨agedLevel (calAge s n.val) (fget s AFE_CALCTL_LEVEL) (fget s AFE_CALLIM_LIMIT), fget s AFE_CALCTL_LEVEL, fget s AFE_CALLIM_LIMIT⟩) (stir 8 s))) ∧
  (∀ (n : Fin 64) (g : Fin 16) (q : RotaReq) (s : State), afeUp s = true →
     ((afeCh s n.val).req = some q → exec (.rotaAgePromotion (.channel n)) s = .next (setReq n.val
       (some ⟨min q.lvl (agedLevel (calAge s n.val) q.lev q.lim), q.lev, q.lim⟩) (stir 8 s))) ∧
     exec (.rotaAgePromotion (.junction g)) s = .next (setAfeGrp g.val { afeGrp s g.val with
       cjLvl := min (afeGrp s g.val).cjLvl (agedLevel (cjAge s g.val) (afeGrp s g.val).cjLev (afeGrp s g.val).cjLim) } (stir 8 s))) ∧
  (∀ (n : Fin 64) (s : State), afeUp s = true → getBit s AFE_CALCTL_ROTA (n.val / 16) = false → 2 * fget s AFE_CALLIM_LIMIT ≤ calAge s n.val →
     exec (.caldue n) s = .next (setF (stir 8 s) AFE_CALEVT_CALDUE))

/-- O10. Word 0 of a sample record and of a clearance record holds every field at its place, its reserved bits zero (03_analog_front_end, R96).
For every sample record whose fields are within their widths, the first word of its two is the sum of its fields at the places of the first table of R96 and each field reads back from it; for every clearance record whose fields are within their widths, word 0 begins with REC 0b01, its reserved bits are zero and the record reads back from it and its bound. -/
def Obligations.RecordWordsHoldTheirFields : Prop :=
  (∀ r : SampleRec, r.range < 8 → r.gen < 256 → r.pend < 32 → r.qual < 16 → r.chan < 64 →
     (sampleWord r).extractLsb' 62 2 = 0 ∧ (sampleWord r).extractLsb' 59 3 = 0 ∧ ((sampleWord r).extractLsb' 58 1).toNat = r.repl.toNat ∧
     ((sampleWord r).extractLsb' 55 3).toNat = r.range ∧ ((sampleWord r).extractLsb' 47 8).toNat = r.gen ∧
     ((sampleWord r).extractLsb' 42 5).toNat = r.pend ∧ ((sampleWord r).extractLsb' 38 4).toNat = r.qual ∧
     ((sampleWord r).extractLsb' 32 6).toNat = r.chan ∧ (sampleWord r).extractLsb' 0 32 = r.value) ∧
  (∀ r : ClearRec, r.kind < 4 → r.bit < 8 → r.chan < 128 →
     (clearWord r).extractLsb' 62 2 = 1 ∧ (clearWord r).extractLsb' 55 5 = 0 ∧ (clearWord r).extractLsb' 45 7 = 0 ∧ (clearWord r).extractLsb' 0 38 = 0 ∧
     clearOfWord (clearWord r) r.bound = r)

/-- O11. A register write, an RC read and the setting of a lock that reach their block do what the access codes say (00_scope, 01_islands_and_sluices, R8, R9, R10, R43).
A word write to a register with no behaviour of its own applies the access codes of its fields; a write that arrives anywhere does what its place gives; a write to SRAM stores its bytes; a read of an RC register answers its value and clears its RC fields, and a read of TICK waits for the next tick edge; a write that sets a lock is a write of its word with bit 31 set. -/
def Obligations.RegisterCommandsComplete : Prop :=
  (∀ (i : Initiator) (a v : Word) (z : Size) (s u : State), Arrives i a.toNat s u → shapeError true z a.toNat = false →
     exec (.registerWrite i a v z) s = .next (placeWrite i z a.toNat v u)) ∧
  (∀ (i : Initiator) (a v : Word) (b : Nat) (s u : State), Arrives i a.toNat s u → shapeError true .word a.toNat = false →
     region a.toNat = .block b → (blockWrites i b).all (fun r => !inRun r.base r.step r.cnt a.toNat) = true →
     exec (.registerWrite i a v .word) s = .next (codeWrite a.toNat v u)) ∧
  (∀ (i : Initiator) (a v : Word) (z : Size) (s u : State), Arrives i a.toNat s u → a.toNat % z.bytes = 0 → region a.toNat = .sram →
     exec (.registerWrite i a v z) s = .next (sramWrite a.toNat z v u)) ∧
  (∀ (i : Initiator) (a : Word) (b : Nat) (s u : State), Fetches i a.toNat s u → shapeError false .word a.toNat = false →
     region a.toNat = .block b → (blockReads i b).all (fun r => !inRun r.base r.step r.cnt a.toNat) = true → inRecWin a.toNat = false →
     (b ≠ 9 → exec (.rcRead i a) s = .next (setReply i ⟨rd u a.toNat, none⟩ (readClear a.toNat u))) ∧
     (b = 9 → exec (.rcRead i a) s = .next { u with tick := { u.tick with reads := u.tick.reads ++ [(i, a.toNat)] } })) ∧
  (∀ (i : Initiator) (b : Fin 17) (l : Nat) (v : Word) (s u : State), lockReg b.val = some l → Arrives i l s u →
     exec (.lockSet i b v) s = .next (placeWrite i .word l (v ||| 0x80000000) u))

/-- O12. A write of a word applies to each field its access code, and a read clears RC fields alone (00_scope, R8, R9).
For a field of a register: a write to RW stores its bits; RWL stores them while the lock is clear and has no effect once it is set; W1C clears exactly the bits written 1; W1S sets exactly the bits written 1; RO, RC and WO fields are not changed by a write; a read returns the word as it stands and clears the RC fields. Encodings that a table calls reserved are not stored (R8). -/
def Obligations.AccessCodesApply : Prop :=
  (∀ (lock : Bool) (a : Nat) (f : FieldRow) (v cur : Word), f.lo ≤ f.hi → f.hi < 32 → encOk a f.hi f.lo (wget v f.hi f.lo) = true →
     let old := wget cur f.hi f.lo; let new := wget v f.hi f.lo; let r := wget (fieldWrite lock a f v cur) f.hi f.lo
     (f.acc = .rw → r = new) ∧ (f.acc = .rwl → r = if lock then old else new) ∧ (f.acc = .w1c → r = old - (old &&& new)) ∧
     (f.acc = .w1s → r = old ||| new) ∧ ((f.acc = .ro ∨ f.acc = .rc ∨ f.acc = .wo) → fieldWrite lock a f v cur = cur)) ∧
  (∀ (s : State) (a : Nat) (r : RegRow), regRow a = some r → 
     codeRead a s = (rd s a, wr s a (r.fields.foldl (fun cur f => if f.acc = .rc then wset cur f.hi f.lo 0 else cur) (rd s a))))

/-- O13. A write that sets a lock stores its RWL fields under the lock before it, and a set lock freezes them (00_scope, R10).
For the RWL fields of SLU_CTL, STORE_CTL, POLD_CTL and LIFE_CTL: while the block's lock is clear a write stores them, also a write that sets the lock in the same word; once it is set they keep their values whatever is written, and the lock bit of every block stays set under any write by the access codes. -/
def Obligations.LockBitsFreezeFields : Prop :=
  (∀ (s : State) (v : Word),
     (flag s SLU_CTL_LOCK = false → fget (codeWrite SLU_CTL v s) SLU_CTL_TMO = wget v 7 0 ∧ fget (codeWrite SLU_CTL v s) SLU_CTL_LOCK = wget v 31 31) ∧
     (flag s STORE_CTL_LOCK = false → fget (codeWrite STORE_CTL v s) STORE_CTL_BOOTWE = wget v 0 0 ∧ fget (codeWrite STORE_CTL v s) STORE_CTL_LOCK = wget v 31 31) ∧
     (flag s POLD_CTL_LOCK = false → fget (codeWrite POLD_CTL v s) POLD_CTL_SNAPEN = wget v 8 8 ∧ fget (codeWrite POLD_CTL v s) POLD_CTL_PDIV = wget v 3 0) ∧
     (flag s SLU_CTL_LOCK = true → fget (codeWrite SLU_CTL v s) SLU_CTL_TMO = fget s SLU_CTL_TMO) ∧
     (flag s STORE_CTL_LOCK = true → fget (codeWrite STORE_CTL v s) STORE_CTL_BOOTWE = fget s STORE_CTL_BOOTWE) ∧
     (flag s POLD_CTL_LOCK = true → fget (codeWrite POLD_CTL v s) POLD_CTL_SNAPEN = fget s POLD_CTL_SNAPEN ∧
       fget (codeWrite POLD_CTL v s) POLD_CTL_PDIV = fget s POLD_CTL_PDIV) ∧
     (flag s LIFE_CTL_LOCK = true → fget (codeWrite LIFE_CTL v s) LIFE_CTL_DBGGRANT = fget s LIFE_CTL_DBGGRANT)) ∧
  (∀ (b l a : Nat) (v : Word) (s : State), lockReg b = some l → (rd s l).toNat.testBit 31 = true →
     (rd (codeWrite a v s) l).toNat.testBit 31 = true)

/-- O14. The fabric answers OFFACC, UNMAPPED and ACCERR with the initiator's bus error and the capture of the first error (01_islands_and_sluices, R7, R23, R24, R46, R48, R185).
A write outside the address map, to an island that is off, or that breaks the width rule ends with that error for its initiator, sets its bit of SLU_ERRSTAT, captures source, destination and address if none is captured, and for the host leaves the error to be taken at an instruction boundary; a read does the same but for that last. No register outside SLU changes. -/
def Obligations.FabricErrorsAnswerAccesses : Prop :=
  (∀ (i : Initiator) (w : Bool) (s : State) (a : Nat),
     (region a = .hole → accError s a = some .unmapped) ∧
     (∀ b, region a = .block b → islUp s (blockIsland b) = false → accError s a = some .offacc) ∧
     (region a = .warp → islUp s 3 = false → accError s a = some .offacc) ∧
     (∀ e, accError s a = some e → busFault i w s a = some e)) ∧
  (∀ (i : Initiator) (a : Nat) (e : BusErr) (f : State → State) (s : State), mayWrite i s = true → busFault i true s a = some e →
     access i a f s = writeError i e a s ∧
     (i = .host → (writeError i e a s).hostBus = ⟨0, some e⟩ ∧ (s.cpu.posted = none → (writeError i e a s).cpu.posted = some (BitVec.ofNat 32 a)))) ∧
  (∀ (kind src dst : Nat) (addr : Word) (s : State),
     (flag s SLU_ERRINFO_VALID = true → sluError kind src dst addr s = wr s SLU_ERRSTAT (rd s SLU_ERRSTAT ||| BitVec.ofNat 32 (2 ^ kind))) ∧
     (flag s SLU_ERRINFO_VALID = false → sluError kind src dst addr s =
       wr (wr (wr s SLU_ERRSTAT (rd s SLU_ERRSTAT ||| BitVec.ofNat 32 (2 ^ kind))) SLU_ERRINFO
         (BitVec.ofNat 32 (0x80000000 + dst % 32 * 65536 + src % 32 * 256 + kind))) SLU_ERRADDR addr))

/-- O15. A waiting requester is promoted one level at its limit and to level 0 at twice its limit, never above level 0 (R33).
The level at which a requester of a programmed level and limit stands at an age: below its limit its programmed level; from its limit one level above it, but never above level 0; from twice its limit level 0. -/
def Obligations.AgingPromotesRequesters : Prop :=
  ∀ lvl lim age : Nat, (age < lim → effLevel lvl lim age = lvl) ∧ (lim ≤ age → age < 2 * lim → effLevel lvl lim age = lvl - 1) ∧
    (2 * lim ≤ age → effLevel lvl lim age = 0) ∧ effLevel 0 lim age = 0

/-- O16. The four phases of a sluice, its timeout and the ages of requesters (01_islands_and_sluices, R16, R17, R22, R23, R25, R26, R29, R32, R33, R34, R553).
A free sluice of a running source takes a word, cut to the sluice's width, and raises REQ; the destination latches the word into a free entry and raises ACK; the source lowers REQ; the destination lowers ACK. A handshake past its time at an awake destination is abandoned and TIMEOUT is counted, or ends the access that it carries; an abandoned word is acknowledged and discarded. An age only grows, up to 0xFFFF. A tagged word that may not pass is a fatal fault and PROVLEAK. -/
def Obligations.SluicePhasesComplete : Prop :=
  (∀ (a b : Fin 27) (w : SluiceWord) (s : State), (sluiceLevel s.sys.variantM a.val b.val).isSome = true → running s a.val = true →
     (sluiceOf s a.val b.val).req = false → (sluiceOf s a.val b.val).ack = false → (isQuadrant a.val && b.val == 0) = false → w.tag = false →
     (w.acc = none ∨ ∃ i x, w.acc = some (i, x) ∧ accError s x.toNat = none) →
     exec (.sluiceRequest a b w) s = .next (raiseReq a.val b.val w s) ∧
     (let x := sluiceOf (raiseReq a.val b.val w s) a.val b.val
      x.req = true ∧ x.word = some { w with bits := BitVec.ofNat 64 (w.bits.toNat % 2 ^ sluiceWidth a.val b.val) } ∧ x.age = 0 ∧ x.lvl = (arbOf s a.val b.val).level)) ∧
  (∀ (a b : Fin 27) (w : SluiceWord) (s : State), (sluiceLevel s.sys.variantM a.val b.val).isSome = true → running s a.val = true →
     (sluiceOf s a.val b.val).req = false → (sluiceOf s a.val b.val).ack = false → (isQuadrant a.val && b.val == 0) = false → w.tag = true →
     refusesTag a.val b.val = true →
     exec (.sluiceRequest a b w) s = .next (fatalFault 1 none (bump (sluError 1 a.val b.val 0 s) SLU_LEAKCNT_COUNT))) ∧
  (∀ (a b : Fin 27) (n : Fin 3) (x : Sluice) (w : SluiceWord) (s : State), x = sluiceOf s a.val b.val → x.req = true → x.ack = false →
     x.word = some w → accepts s b.val = true → (x.rx.drop n.val).length < 2 →
     granted (setSluice a.val b.val { x with rx := x.rx.drop n.val } s) a.val b.val = true →
     ∃ t, exec (.sluiceLatch a b n) s = .next t ∧
       sluiceOf t a.val b.val = { x with ack := true, age := 0, rx := if x.dead then x.rx.drop n.val else x.rx.drop n.val ++ [w] } ∧
       t.regs = s.regs ∧ t.sys = (stir b.val s).sys) ∧
  (∀ (a b : Fin 27) (x : Sluice) (s : State), x = sluiceOf s a.val b.val → x.req = true → x.ack = true → running s a.val = true →
     exec (.sluiceAckSeen a b) s = .next (setSluice a.val b.val { x with req := false, word := none, dead := false } s)) ∧
  (∀ (a b : Fin 27) (x : Sluice) (s : State), x = sluiceOf s a.val b.val → x.req = false → x.ack = true → running s b.val = true →
     exec (.sluiceAckLow a b) s = .next (setSluice a.val b.val { x with ack := false, lvl := 0, lim := 0, since := 0 } s)) ∧
  (∀ (a b : Fin 27) (x : Sluice) (w : SluiceWord) (s : State), x = sluiceOf s a.val b.val → x.req = true → x.ack = false → x.word = some w →
     x.dead = false → accepts s b.val = true → waitEdges s a.val ≥ x.since + fget s SLU_CTL_TMO + 1 →
     (w.acc = none → exec (.handshakeTimeout a b) s =
       .next (bump (sluError 0 a.val b.val 0 (setSluice a.val b.val { x with dead := true } s)) SLU_TMOCNT_COUNT)) ∧
     (∀ i r, w.acc = some (i, r) → exec (.handshakeTimeout a b) s =
       .next (if w.wr then writeError i .timeout r.toNat (setSluice a.val b.val { x with dead := true } s)
         else busError i .timeout r.toNat (setSluice a.val b.val { x with dead := true } s)))) ∧
  (∀ (n : BitVec 16) (s : State),
     (∀ a b x, x = sluiceOf s a.val b.val → x.waits = true →
       exec (.agePromotion (.sluice a b) n) s = .next (setSluice a.val b.val { x with age := max x.age n.toNat } s)) ∧
     (∀ b r x, x = bankReq s b.val r.val → x.on = true →
       exec (.agePromotion (.warpBank b r) n) s = .next (setBankReq b.val r.val { x with age := max x.age n.toNat } s)) ∧
     (∀ k, hasWords s k.val = true → quadTurn s (k.val / 4) ≠ some k.val →
       exec (.agePromotion (.shuttle k) n) s =
         .next { s with loom := { s.loom with shAge := tabSet (fun _ => 0) s.loom.shAge k.val (max (shAge s k.val) n.toNat) } }) ∧
     (∀ l, (nandWaiting s l.val).isSome = true → ∃ t, exec (.agePromotion (.nand l) n) s = .next t ∧ nandAge t l.val = max (nandAge s l.val) n.toNat ∧
       t.regs = s.regs)) ∧
  (∀ (i : Fin 27) (m : TickMsg) (l : List TickMsg) (s : State), inbox s i.val = m :: l → running s i.val = true →
     ∃ u, exec (.islandTickRecognised i) s = .next (edgeWork i.val m.isLoad (shadow s i.val) (shadow u i.val) u) ∧ inbox u i.val = l ∧
       edges u i.val = edges s i.val + 1 ∧ subTick u i.val = 0 ∧ (hasShadow i.val = true → shadow u i.val = m.shadow (shadow s i.val)) ∧
       (hasShadow i.val = false → shadow u i.val = shadow s i.val) ∧ u.regs = s.regs ∧ u.sys.power = (stir i.val s).sys.power)

/-- O17. Vibration channels: enable, disable, settle, fault and recover; samples join segments; packets leave (05_vibration_front_end, R147, R148, R149, R150, R153, R154, R155, R156, R158, R160).
Setting EN makes an OFF channel SETTLING and clearing it makes it OFF; a sample joins its segment with its bias; a settled channel becomes ready, a channel 1 ms outside its bias window FAULT and one 1 ms inside SETTLING again; a full segment ends by its rules; the oldest packet leaves for the queue fabric; a blanking pin's level asserts or releases it as its polarity says, its hold ends after the set time, and pins and the tracking stage mark segments. -/
def Obligations.VibrationChannelsProceed : Prop :=
  (∀ (i : Initiator) (n : Fin 8) (v : Word) (s u : State),
     (Arrives i (VIB_CHCFG n.val) s u → wget (rd u (VIB_CHCFG n.val)) 0 0 = 0 → exec (.vibChannelEnable i n v) s =
       .next (vibEnable n.val (wr u (VIB_CHCFG n.val) ((v ||| 1) &&& 0xFF1FF737)))) ∧
     (Arrives i (VIB_CHCFG n.val) s u → wget (rd u (VIB_CHCFG n.val)) 0 0 = 1 → exec (.vibChannelDisable i n v) s =
       .next (vibDisable n.val (wr u (VIB_CHCFG n.val) ((v &&& ~~~1) &&& 0xFF1FF737)))) ∧
     (Arrives i (VIB_CHCFG n.val) s u → exec (.vibConfigWrite i n false v) s = .next (vibCfgWrite n.val v u)) ∧
     (Arrives i (VIB_CHBIAS n.val) s u → flag u VIB_CTL_LOCK = false → rd u (VIB_CHBIAS n.val) = v →
       exec (.vibConfigWrite i n true v) s = .next (wr u (VIB_CHBIAS n.val) v)) ∧
     (Arrives i (VIB_CHBIAS n.val) s u → flag u VIB_CTL_LOCK = true → exec (.vibConfigWrite i n true v) s = .next u)) ∧
  (∀ (n : Nat) (s : State), fget (vibState n 1 s) (VIB_CHSTAT_STATE n) = 1 ∧ fget (vibState n 2 s) (VIB_CHSTAT_STATE n) = 2 ∧ fget (vibState n 3 s) (VIB_CHSTAT_STATE n) = 3 ∧
     fget (vibState n 0 s) (VIB_CHSTAT_STATE n) = 0) ∧
  (∀ (n : Fin 8) (sub : BitVec 16) (sample : BitVec 24) (mv : BitVec 16) (s u : State), vibUp s = true → u = atSub 9 sub (stir 9 s) →
     fget u (VIB_CHSTAT_STATE n.val) ≠ 0 → (vibCh u n.val).samples.length < vibSegLen (vibCh u n.val).seg →
     exec (.vibSamplePeriod n sub sample mv) s = .next (vibSample n.val sample.toInt mv.toNat u) ∧
     (vibCh (vibSample n.val sample.toInt mv.toNat u) n.val).samples = (vibCh u n.val).samples ++ [sample.toInt] ∧
     (vibCh (vibSample n.val sample.toInt mv.toNat u) n.val).bias = (vibCh u n.val).bias + mv.toNat) ∧
  (∀ (n : Fin 8) (s : State),
     (fget s (VIB_CHSTAT_STATE n.val) = 1 → (vibCh s n.val).inRun ≥ (if wget (vibCh s n.val).sig 1 1 = 1 then max 1 (1600 * fget s (VIB_CHCFG_SETTLE n.val)) else 1) →
       (vibCh s n.val).back = false → exec (.vibSettleComplete n) s = .next (setVibCh n.val { vibCh s n.val with ready := true } s)) ∧
     (fget s (VIB_CHSTAT_STATE n.val) = 1 ∨ fget s (VIB_CHSTAT_STATE n.val) = 2 → (vibCh s n.val).outRun ≥ vibMs → exec (.vibFaultEntry n) s =
       .next (bump (setF (vibState n.val 3 (setVibCh n.val { vibCh s n.val with inRun := 0, ready := false } s))
         (if (vibCh s n.val).short_ then VIB_CHEVT_SHORT n.val else VIB_CHEVT_OPEN n.val)) (VIB_CHCNT_FLTCNT n.val))) ∧
     (fget s (VIB_CHSTAT_STATE n.val) = 3 → (vibCh s n.val).inRun ≥ vibMs → exec (.vibFaultExit n) s =
       .next (vibState n.val 1 (setVibCh n.val { vibCh s n.val with inRun := 0, outRun := 0, ready := false, mSettle := (vibCh s n.val).mSettle || vibOpenSeg (vibCh s n.val) } s)))) ∧
  (∀ (n : Fin 8) (s : State), fget s (VIB_CHSTAT_STATE n.val) ≠ 0 → vibSegLen (vibCh s n.val).seg ≤ (vibCh s n.val).samples.length →
     exec (.segmentEnd n) s = .next (vibSegmentEnd n.val s) ∧
     fget (vibSegmentEnd n.val s) (VIB_CHSEQ_SEQ n.val) = (vibCh s n.val).seq % 65536 ∧
     fget (vibSegmentEnd n.val s) (VIB_CHSTAT_LASTQ n.val) = vibQual s n.val ∧ (vibCh (vibSegmentEnd n.val s) n.val).samples = [] ∧
     (((vibCh s n.val).buf.map (·.bytes.length)).sum + (vibPacket s n.val (vibQual s n.val)).bytes.length ≤ 1024 →
       (vibCh (vibSegmentEnd n.val s) n.val).buf = (vibCh s n.val).buf ++ [vibPacket s n.val (vibQual s n.val)])) ∧
  (∀ (n : Fin 8) (s u : State), vibUp s = true → u = stir 9 s → u.vib.out.count n.val < (vibCh u n.val).buf.length →
     exec (.vibPacketSend n) s = .next { u with vib := { u.vib with out := u.vib.out ++ [n.val] } }) ∧
  (∀ (n : Fin 8) (s : State), vibUp s = true →
     (flag s (VIB_CHSTAT_STAGEFLT n.val) = false → exec (.vibStageFault n true) s = .next (setF (setVibCh n.val
       { vibCh s n.val with mStage := fget s (VIB_CHSTAT_STATE n.val) != 0 } (setF s (VIB_CHSTAT_STAGEFLT n.val))) (VIB_CHEVT_STAGE n.val))) ∧
     exec (.vibStageFault n false) s = .next (clrF s (VIB_CHSTAT_STAGEFLT n.val))) ∧
  (∀ (pin : Fin 4) (high : Bool) (s u : State), islUp s 9 = true → u = rouse 9 s →
     (high ≠ getBit u VIB_BLKCFG_POL pin.val → exec (.vibBlankAssert ⟨pin, high⟩) s = .next (vibMark { u with vib := { u.vib with
       pins := u.vib.pins ||| 2 ^ pin.val, rel := tabSet (fun _ => 0) u.vib.rel pin.val 0 } })) ∧
     (high = getBit u VIB_BLKCFG_POL pin.val → u.vib.pins.testBit pin.val = true → exec (.vibBlankAssert ⟨pin, high⟩) s = .next { u with vib := { u.vib with
       pins := u.vib.pins - 2 ^ pin.val, rel := tabSet (fun _ => 0) u.vib.rel pin.val (1 + edges u 9) } }) ∧
     (high = getBit u VIB_BLKCFG_POL pin.val → u.vib.pins.testBit pin.val = false → exec (.vibBlankAssert ⟨pin, high⟩) s = .next u)) ∧
  (∀ (pin : Fin 4) (s u : State), vibUp s = true → u = stir 9 s → tabGet (fun _ => 0) u.vib.rel pin.val ≠ 0 →
     edges u 9 + 1 - tabGet (fun _ => 0) u.vib.rel pin.val ≥ fget u VIB_BLKCFG_HOLD → exec (.vibBlankEnd pin) s =
       .next { vibMark u with vib := { (vibMark u).vib with rel := tabSet (fun _ => 0) (vibMark u).vib.rel pin.val 0 } })

/-- O18. The integer instructions write the result of R174 to gd and go on to the next instruction (R174).
In every engine whose profile has the instruction and that executes it, each of the thirty integer instructions answers the next state in which gd holds the value of R174 (written through the one operation that writes registers, which discards a write to g0) and the pc is advanced by 4; nothing else changes, so no flag is set and no exception raised. -/
def Obligations.IntegerInstructionsCompute : Prop :=
  (∀ (e : Engine) (d a b : Fin 32) (s u : State) (x y : Word) (r : Word → Host.Outcome State Fault Refusal), Runs e avAll s u → x = regOf u e a → y = regOf u e b →
     (r = fun v => .next (advance e (setReg e d v u))) →
     exec (.add e d a b) s = r (x + y) ∧ exec (.sub e d a b) s = r (x - y) ∧ exec (.and e d a b) s = r (x &&& y) ∧
     exec (.or e d a b) s = r (x ||| y) ∧ exec (.xor e d a b) s = r (x ^^^ y) ∧ exec (.nor e d a b) s = r (~~~(x ||| y)) ∧
     exec (.sll e d a b) s = r (BitVec.ofNat 32 (x.toNat * 2 ^ (y.toNat % 32))) ∧
     exec (.srl e d a b) s = r (BitVec.ofNat 32 (x.toNat / 2 ^ (y.toNat % 32))) ∧
     exec (.sra e d a b) s = r (BitVec.ofInt 32 (x.toInt / 2 ^ (y.toNat % 32))) ∧
     exec (.slt e d a b) s = r (if x.toInt < y.toInt then 1 else 0) ∧ exec (.sltu e d a b) s = r (if x.toNat < y.toNat then 1 else 0)) ∧
  (∀ (e : Engine) (d a b : Fin 32) (s u : State) (x y : Word) (r : Word → Host.Outcome State Fault Refusal), Runs e avHS s u → x = regOf u e a → y = regOf u e b →
     (r = fun v => .next (advance e (setReg e d v u))) →
     exec (.min e d a b) s = r (if x.toInt < y.toInt then x else y) ∧ exec (.max e d a b) s = r (if x.toInt > y.toInt then x else y) ∧
     exec (.mul e d a b) s = r (BitVec.ofNat 32 (x.toNat * y.toNat)) ∧ exec (.mulh e d a b) s = r (BitVec.ofInt 32 (x.toInt * y.toInt / 2 ^ 32)) ∧
     exec (.mulhu e d a b) s = r (BitVec.ofNat 32 (x.toNat * y.toNat / 2 ^ 32)) ∧
     exec (.div e d a b) s = r (if y = 0 then 0 else if x = 0x80000000 ∧ y = 0xFFFFFFFF then 0x80000000 else BitVec.ofInt 32 (x.toInt.tdiv y.toInt)) ∧
     exec (.rem e d a b) s = r (if y = 0 then x else if x = 0x80000000 ∧ y = 0xFFFFFFFF then 0 else BitVec.ofInt 32 (x.toInt.tmod y.toInt)) ∧
     exec (.divu e d a b) s = r (if y = 0 then 0 else BitVec.ofNat 32 (x.toNat / y.toNat)) ∧
     exec (.remu e d a b) s = r (if y = 0 then x else BitVec.ofNat 32 (x.toNat % y.toNat))) ∧
  (∀ (e : Engine) (d a : Fin 32) (i : BitVec 16) (n : BitVec 5) (s u : State) (x : Word) (r : Word → Host.Outcome State Fault Refusal), Runs e avAll s u → x = regOf u e a →
     (r = fun v => .next (advance e (setReg e d v u))) →
     exec (.addi e d a i) s = r (x + i.signExtend 32) ∧ exec (.andi e d a i) s = r (x &&& i.zeroExtend 32) ∧ exec (.ori e d a i) s = r (x ||| i.zeroExtend 32) ∧
     exec (.xori e d a i) s = r (x ^^^ i.zeroExtend 32) ∧ exec (.slti e d a i) s = r (if x.toInt < (i.signExtend 32).toInt then 1 else 0) ∧
     exec (.sltiu e d a i) s = r (if x.toNat < (i.signExtend 32).toNat then 1 else 0) ∧
     exec (.slli e d a n) s = r (BitVec.ofNat 32 (x.toNat * 2 ^ n.toNat)) ∧ exec (.srli e d a n) s = r (BitVec.ofNat 32 (x.toNat / 2 ^ n.toNat)) ∧
     exec (.srai e d a n) s = r (BitVec.ofInt 32 (x.toInt / 2 ^ n.toNat)) ∧ exec (.lui e d i) s = r (i.zeroExtend 32 <<< 16))

/-- O19. g0 reads zero, a register holds what was written to it, and a step of the pc leaves the registers (06_frambeth_instruction_set, R162, R164, R192).
In every engine: g0 reads as zero and a write to it is discarded; any other register reads as the value written, and every other register, the pc and the flags stay; advancing adds 4 to the pc and leaves every register and flag; neither touches memory, the control words, or another engine. -/
def Obligations.RegistersOfEnginesHold : Prop :=
  ∀ (e : Engine) (d n : Fin 32) (v : Word) (s : State),
    regOf s e 0 = 0 ∧ regOf (setReg e 0 v s) e n = regOf s e n ∧ (d.val ≠ 0 → regOf (setReg e d v s) e d = v) ∧
    (n ≠ d → regOf (setReg e d v s) e n = regOf s e n) ∧ pcOf (setReg e d v s) e = pcOf s e ∧
    (coreOf (setReg e d v s) e).fflags = (coreOf s e).fflags ∧ pcOf (advance e s) e = pcOf s e + 4 ∧
    regOf (advance e s) e n = regOf s e n ∧ (coreOf (advance e s) e).fflags = (coreOf s e).fflags ∧
    (setReg e d v s).loom = s.loom ∧ (advance e s).loom = s.loom ∧ (setReg e d v s).cpu.sram = s.cpu.sram ∧ (advance e s).cpu.cw = s.cpu.cw ∧
    (∀ f : Engine, f ≠ e → coreOf (setReg e d v s) f = coreOf s f ∧ coreOf (advance e s) f = coreOf s f)

/-- O20. A branch goes to its target if its condition holds and on otherwise; a jump links and goes to its target (06_frambeth_instruction_set, R162, R175).
In every engine that executes it: a branch puts the pc at its own address plus four times the sign-extended immediate if its comparison holds, else at the next instruction; jal writes pc + 4 to g31 and jumps by its 26-bit immediate; jalr writes pc + 4 to gd and jumps to the word address of gs plus the immediate. -/
def Obligations.BranchesAndJumpsComplete : Prop :=
  (∀ (e : Engine) (a b : Fin 32) (i : BitVec 16) (s u : State) (x y p : Word), Runs e avAll s u →
     x = regOf u e a → y = regOf u e b → p = pcOf u e →
     ∀ (go : Bool → Host.Outcome State Fault Refusal), (go = fun c => .next (jump e (if c then p + (i.signExtend 32 <<< 2) else p + 4) u)) →
     exec (.beq e a b i) s = go (decide (x = y)) ∧ exec (.bne e a b i) s = go (decide (x ≠ y)) ∧
     exec (.blt e a b i) s = go (decide (x.toInt < y.toInt)) ∧ exec (.bge e a b i) s = go (decide (x.toInt ≥ y.toInt)) ∧
     exec (.bltu e a b i) s = go (decide (x.toNat < y.toNat)) ∧ exec (.bgeu e a b i) s = go (decide (x.toNat ≥ y.toNat))) ∧
  (∀ (e : Engine) (d a : Fin 32) (i : BitVec 16) (j : BitVec 26) (s u : State), Runs e avAll s u →
     exec (.jal e j) s = .next (jump e (pcOf u e + (j.signExtend 32 <<< 2)) (setReg e 31 (pcOf u e + 4) u)) ∧
     exec (.jalr e d a i) s = .next (jump e ((regOf u e a + i.signExtend 32) &&& 0xFFFFFFFC) (setReg e d (pcOf u e + 4) u)))

/-- O21. Loads put the extended value in gd and stores put the low bytes in memory, in each of the three profiles (06_frambeth_instruction_set, 00_scope, R166, R167, R175, R194, R208, R227).
A host load that is aligned, permitted and reaches its place writes the value read, extended, to gd (from a TICK register only once the edge has answered it); a host store that is aligned and permitted is a write of the host initiator; a shuttle loads from its map, from warp memory once its bank grants it, and stores to local data or sends a store to warp memory while its sluice is free; a sequencer loads and stores words of its data store. The pc goes on. -/
def Obligations.LoadsAndStoresComplete : Prop :=
  (∀ (d a : Fin 32) (i : BitVec 16) (c : Ecc) (s u : State) (x : Nat), Runs .host avAll s u → x = (regOf u .host a + i.signExtend 32).toNat →
     mpuAllows u x 0 = true → inRecWin x = false → waitsBank .host false x u = false → (region x = .warp → c ≠ .uncorrectable) →
     ∀ (z : Size) (t v : State), x % z.bytes = 0 → (z = .word → region x ≠ .block 9) → t = busRead .host z x u → t.hostBus.err = none →
     v = (if region x = .warp ∧ c = .corrected then warpCorrected (x - 0x10000000) t else t) →
     (z = .byte → exec (.lb .host d a i c) s = .next (advance .host (setReg .host d ((t.hostBus.data.truncate 8 : BitVec 8).signExtend 32) v)) ∧
       exec (.lbu .host d a i c) s = .next (advance .host (setReg .host d t.hostBus.data v))) ∧
     (z = .half → exec (.lh .host d a i c) s = .next (advance .host (setReg .host d ((t.hostBus.data.truncate 16 : BitVec 16).signExtend 32) v)) ∧
       exec (.lhu .host d a i c) s = .next (advance .host (setReg .host d t.hostBus.data v))) ∧
     (z = .word → exec (.lw .host d a i c) s = .next (advance .host (setReg .host d t.hostBus.data v)))) ∧
  (∀ (d a : Fin 32) (i : BitVec 16) (c : Ecc) (s u : State) (x : Nat), Runs .host avAll s u → x = (regOf u .host a + i.signExtend 32).toNat →
     mpuAllows u x 0 = true → region x = .block 9 → x % 4 = 0 → busFault .host false u x = none →
     (u.cpu.await ≠ some x → exec (.lw .host d a i c) s = .next { tickRead .host x u with cpu := { (tickRead .host x u).cpu with await := some x } }) ∧
     (u.cpu.await = some x → u.tick.reads.any (fun r => r.1 == .host) = false → exec (.lw .host d a i c) s =
       .next (advance .host (setReg .host d u.hostBus.data { u with cpu := { u.cpu with await := none } })))) ∧
  (∀ (n : Fin 16) (d a : Fin 32) (i : BitVec 16) (c : Ecc) (s u v : State) (x r : Nat) (p : ShPlace), Runs (.shuttle n) avAll s u →
     x = (regOf u (.shuttle n) a + i.signExtend 32).toNat → p = shPlace x → p ≠ .none → r = 4 + n.val / 4 →
     (∀ o, p = .warp o → sluiceBusy u n.val = false ∧ bankGrants (bankAsk (bankOf o) r (rouse 3 u)) (bankOf o) r = true ∧
       c.join (warpBad (bankDone (bankOf o) r (bankAsk (bankOf o) r (rouse 3 u))) o) = .clean) →
     (p.isWarp = false → c.join (shBad u n.val p) = .clean) →
     (v = match p with | .warp o => bankDone (bankOf o) r (bankAsk (bankOf o) r (rouse 3 u)) | _ => u) →
     ∀ (m : Nat) (w : Word), w = shLoad v n.val p m → x % m = 0 → 
     (m = 1 → exec (.lb (.shuttle n) d a i c) s = .next (advance (.shuttle n) (setReg (.shuttle n) d ((w.truncate 8 : BitVec 8).signExtend 32) v)) ∧
       exec (.lbu (.shuttle n) d a i c) s = .next (advance (.shuttle n) (setReg (.shuttle n) d w v))) ∧
     (m = 2 → exec (.lh (.shuttle n) d a i c) s = .next (advance (.shuttle n) (setReg (.shuttle n) d ((w.truncate 16 : BitVec 16).signExtend 32) v)) ∧
       exec (.lhu (.shuttle n) d a i c) s = .next (advance (.shuttle n) (setReg (.shuttle n) d w v))) ∧
     (m = 4 → exec (.lw (.shuttle n) d a i c) s = .next (advance (.shuttle n) (setReg (.shuttle n) d w v)))) ∧
  (∀ (a b : Fin 32) (i : BitVec 16) (s u : State) (x : Nat) (v : Word), Runs .host avAll s u → x = (regOf u .host a + i.signExtend 32).toNat →
     v = regOf u .host b → mpuAllows u x 1 = true → waitsBank .host true x u = false →
     ∀ (z : Size) (t : State), x % z.bytes = 0 → t = busWrite .host z x v u → islUp t 2 = true →
     (z = .byte → exec (.sb .host a b i) s = .next (advance .host t)) ∧ (z = .half → exec (.sh .host a b i) s = .next (advance .host t)) ∧
     (z = .word → exec (.sw .host a b i) s = .next (advance .host t))) ∧
  (∀ (n : Fin 16) (a b : Fin 32) (i : BitVec 16) (s u : State) (x : Nat) (v : Word) (p : ShPlace), Runs (.shuttle n) avAll s u →
     x = (regOf u (.shuttle n) a + i.signExtend 32).toNat → v = regOf u (.shuttle n) b → p = shPlace x →
     ∀ (z : Size) (t : State), x % z.bytes = 0 →
     ((∃ o, p = .local_ o ∧ (shuttle u n.val).curEval = none ∧ t = setShuttle n.val ((shuttle u n.val).putLocal o (bytesOf z.bytes v.toNat) 0) u) ∨
      (∃ o, p = .warp o ∧ (shuttle u n.val).curEval = none ∧ inPublished u o = false ∧ ((shuttle u n.val).prov = true ∨ sluiceBusy u n.val = false) ∧
        t = warpSend n.val o z.bytes v u) ∨
      (∃ o e, p = .warp o ∧ (shuttle u n.val).curEval = some e ∧ inPublished u o = false ∧ ((shuttle u n.val).prov = true ∨ sluiceBusy u n.val = false) ∧
        shStore n.val p z.bytes v u = some t)  ∨
      (∃ o e, p = .local_ o ∧ (shuttle u n.val).curEval = some e ∧ shStore n.val p z.bytes v u = some t)) →
     (z = .byte → exec (.sb (.shuttle n) a b i) s = .next (advance (.shuttle n) t)) ∧
     (z = .half → exec (.sh (.shuttle n) a b i) s = .next (advance (.shuttle n) t)) ∧
     (z = .word → exec (.sw (.shuttle n) a b i) s = .next (advance (.shuttle n) t))) ∧
  (∀ (k : Fin 4) (d a b : Fin 32) (i : BitVec 16) (c : Ecc) (s u : State) (x : Nat), Runs (.seq k) avAll s u → x = (regOf u (.seq k) a + i.signExtend 32).toNat →
     0x10000 ≤ x → x < 0x10800 → x % 4 = 0 →
     exec (.lw (.seq k) d a i c) s = .next (advance (.seq k) (setReg (.seq k) d (rd u (0x20320000 + 0x1000 * k.val + (x - 0x10000))) u)) ∧
     exec (.sw (.seq k) a b i) s = .next (advance (.seq k) (wr u (0x20320000 + 0x1000 * k.val + (x - 0x10000)) (regOf u (.seq k) b))))

/-- O22. Control words are read and written with their old value returned; ecall, ebreak, eret and wfi (06_frambeth_instruction_set, R168, R169, R176, R182, R183, R184, R201).
Where the engine executes the instruction and may access the word: cwr puts the word in gd with what the read captures; cww, cws and cwc write, set or clear its writable bits and return its old value. ecall enters the host's exception by its mode; an armed ebreak halts; a privileged eret restores pc, mode and IE; a privileged wfi goes on with a line high and waits without. -/
def Obligations.ControlWordsAndSystemComplete : Prop :=
  (∀ (e : Engine) (d : Fin 32) (n : BitVec 16) (s u v : State) (w : Word), Runs e avAll s u → cwRead e n.toNat u = some (w, v) →
     (e ≠ .host ∨ hostPriv u = true ∨ cwUser n.toNat false = true) → exec (.cwr e d n) s = .next (advance e (setReg e d w v))) ∧
  (∀ (e : Engine) (d a : Fin 32) (n : BitVec 16) (s u v : State) (w m x : Word), Runs e avHS s u → cwRead e n.toNat u = some (w, v) →
     cwMask e n.toNat = some m → (e ≠ .host ∨ hostPriv u = true ∨ cwUser n.toNat true = true) → x = regOf u e a →
     exec (.cww e d a n) s = .next (advance e (setReg e d w (cwWrite e n.toNat ((w &&& ~~~m) ||| (x &&& m)) u))) ∧
     exec (.cws e d a n) s = .next (advance e (setReg e d w (cwWrite e n.toNat ((w &&& ~~~m) ||| ((w ||| x) &&& m)) u))) ∧
     exec (.cwc e d a n) s = .next (advance e (setReg e d w (cwWrite e n.toNat ((w &&& ~~~m) ||| ((w &&& ~~~x) &&& m)) u)))) ∧
  (∀ (s u : State), Runs .host avHost s u →
     (hostPriv u = true → exec (.ecall .host) s = .next (hostRaise 12 0 u)) ∧ (hostPriv u = false → exec (.ecall .host) s = .next (hostRaise 11 0 u))) ∧
  (∀ (e : Engine) (s u : State), Runs e avAll s u → (coreOf u e).armed = true → (∀ n, e ≠ .shuttle n) →
     exec (.ebreak e) s = .next (setCore e { coreOf u e with halted := true } u)) ∧
  (∀ (n : Fin 16) (s u : State), Runs (.shuttle n) avAll s u → (coreOf u (.shuttle n)).armed = true →
     exec (.ebreak (.shuttle n)) s = .next (shuttleFault n.val 10 u)) ∧
  (∀ (s u : State), Runs .host avHost s u → hostPriv u = true → ∃ t, exec (.eret .host) s = .next t ∧ pcOf t .host = cwGet u 0x101 &&& 0xFFFFFFFC ∧
     wget (cwGet t 0x100) 2 2 = wget (cwGet u 0x100) 3 3 ∧ wget (cwGet t 0x100) 0 0 = wget (cwGet u 0x100) 1 1 ∧ t.regs = u.regs) ∧
  (∀ (s u : State), Runs .host avHost { s with cpu := { s.cpu with wfi := false } } u → hostPriv u = true →
     ((claimLine u).isSome = true → exec (.wfi .host) s = .next (advance .host u)) ∧
     ((claimLine u).isSome = false → exec (.wfi .host) s = .next { u with cpu := { u.cpu with wfi := true } })) ∧
  (∀ (s u : State) (j : Nat), hostAtBoundary s = true → u = stir 2 s → wget (cwGet s 0x100) 0 0 = 1 → claimLine s = some j →
     (s.cpu.wfi = false → exec .hostInterrupt s = .next (hostEnter (pcOf u .host) (BitVec.ofNat 32 (0x80000000 + j)) 0 u)) ∧
     (s.cpu.wfi = true → exec .hostInterrupt s = .next (hostEnter (pcOf u .host + 4) (BitVec.ofNat 32 (0x80000000 + j)) 0 (advance .host u)))) ∧
  (∀ (s u : State) (a : Word), hostAtBoundary s = true → u = stir 2 s → s.cpu.posted = some a →
     exec .postedStoreBusError s = .next (hostEnter (pcOf s .host) 7 a { u with cpu := { s.cpu with posted := none } }))

/-- O23. Entering an exception saves the pc, the cause and the value, stacks the status and goes to the vector base (06_frambeth_instruction_set, R183, R184).
After the host takes an exception or an interrupt: cw.epc, cw.cause and cw.tval hold the saved values; PIE holds IE and IE is 0; PMODE holds MODE and MODE is 1; the pc is cw.vbase; no other control word, no general register and no register of the map changes. An exception of the instruction at the pc saves that pc; a memory error of a provisional engine takes the fault of its profile. -/
def Obligations.HostEntersExceptions : Prop :=
  (∀ (epc cause tval : Word) (s t : State), t = hostEnter epc cause tval s →
     cwGet t 0x101 = epc ∧ cwGet t 0x102 = cause ∧ cwGet t 0x103 = tval ∧ wget (cwGet t 0x100) 1 1 = wget (cwGet s 0x100) 0 0 ∧ wget (cwGet t 0x100) 0 0 = 0 ∧
     wget (cwGet t 0x100) 3 3 = wget (cwGet s 0x100) 2 2 ∧ wget (cwGet t 0x100) 2 2 = 1 ∧ hostPriv t = true ∧ pcOf t .host = cwGet s 0x104 ∧
     (∀ n, n ≠ 0x100 → n ≠ 0x101 → n ≠ 0x102 → n ≠ 0x103 → cwGet t n = cwGet s n) ∧ t.cpu.core.g = s.cpu.core.g ∧ t.regs = s.regs ∧ t.cpu.sram = s.cpu.sram) ∧
  (∀ (code : Nat) (tval : Word) (s : State), hostRaise code tval s = hostEnter (pcOf s .host) (BitVec.ofNat 32 code) tval s ∧
     (∀ a w av f, executes s .host = true → fetchFault .host (useStep .host s) = some (a, 0, 0) →
       runOn .host av w f s = hostRaise a (pcOf (useStep .host s) .host) (useStep .host s)) ∧
     (∀ w av f v, executes s .host = true → fetchFault .host (useStep .host s) = none → illegalStored .host (useStep .host s) = some v →
       runOn .host av w f s = hostRaise 1 v (useStep .host s)) ∧
     (∀ w av f, executes s .host = true → fetchFault .host (useStep .host s) = none → illegalStored .host (useStep .host s) = none → av.host = false →
       runOn .host av w f s = hostRaise 1 w (useStep .host s)))

/-- O24. The memory protection unit: what a user-mode access may do, and that privileged accesses are not checked (R187).
A privileged access is allowed at every address. In user mode a load (kind 0), store (1) or fetch (2) is allowed exactly if the lowest-numbered enabled region whose addresses hold it has the bit of that kind set; a region holds the addresses from BASE times 4,096 to LIMIT times 4,096 + 4,095 and none if LIMIT is less than BASE; after reset no user access is allowed. -/
def Obligations.ProtectionUnitDecides : Prop :=
  ∀ (s : State) (a kind : Nat) (holds : Nat → Prop),
    (holds = fun n => wget (cwGet s (0x120 + 2 * n)) 3 3 = 1 ∧ wget (cwGet s (0x120 + 2 * n)) 31 12 * 4096 ≤ a ∧
      a ≤ wget (cwGet s (0x121 + 2 * n)) 31 12 * 4096 + 4095) →
    (hostPriv s = true → mpuAllows s a kind = true) ∧
    (hostPriv s = false → (mpuAllows s a kind = true ↔
      ∃ n, n < 8 ∧ holds n ∧ (∀ m, m < n → ¬ holds m) ∧ wget (cwGet s (0x120 + 2 * n)) kind kind = 1)) ∧
    (∀ t : State, t.cpu.cw = [(0x100, 0)] → hostPriv t = false ∧ mpuAllows t a kind = false)

/-- O25. The binary32 instructions write their rounded, chosen, compared or converted result and accumulate flags (06_frambeth_instruction_set, R177, R178, R179, R180, R181).
Where the engine executes them: each arithmetic instruction puts the result of its operation on binary32 values in gd and adds the operation's flags to cw.fflags; fabs and fneg change the sign bit alone and set no flags; comparisons give 1 or 0; fcls gives sign and class; conversions saturate. The pc goes on. -/
def Obligations.BinaryInstructionsComplete : Prop :=
  (∀ (e : Engine) (d a b : Fin 32) (s u : State) (x y : Nat) (r : Nat × Nat → Host.Outcome State Fault Refusal), Runs e avHS s u →
     x = (regOf u e a).toNat → y = (regOf u e b).toNat → (r = fun p => .next (advance e (setReg e d (BitVec.ofNat 32 p.1) (addFlags e p.2 u)))) →
     exec (.fadd e d a b) s = r (fpAdd f32 x y) ∧ exec (.fsub e d a b) s = r (fpSub f32 x y) ∧ exec (.fmul e d a b) s = r (fpMul f32 x y) ∧
     exec (.fdiv e d a b) s = r (fpDiv f32 x y) ∧ exec (.fmin e d a b) s = r (fpMin f32 x y) ∧ exec (.fmax e d a b) s = r (fpMax f32 x y) ∧
     exec (.feq e d a b) s = r ((fpEq f32 x y).1.toNat, (fpEq f32 x y).2) ∧ exec (.flt e d a b) s = r ((fpLt f32 x y).1.toNat, (fpLt f32 x y).2) ∧
     exec (.fle e d a b) s = r ((fpLe f32 x y).1.toNat, (fpLe f32 x y).2)) ∧
  (∀ (e : Engine) (d a : Fin 32) (s u : State) (w : Word) (x : Nat) (r : Nat × Nat → Host.Outcome State Fault Refusal), Runs e avHS s u → w = regOf u e a →
     x = w.toNat → (r = fun p => .next (advance e (setReg e d (BitVec.ofNat 32 p.1) (addFlags e p.2 u)))) →
     exec (.fsqrt e d a) s = r (fpSqrt f32 x) ∧ exec (.fabs e d a) s = r (x % 2 ^ 31, 0) ∧ exec (.fneg e d a) s = r (if x < 2 ^ 31 then x + 2 ^ 31 else x - 2 ^ 31, 0) ∧
     exec (.fcls e d a) s = r (x / 2 ^ 31 * 16 + fpClass f32 x, 0) ∧ exec (.fcvtsw e d a) s = r (fpOfInt f32 w.toInt) ∧
     exec (.fcvtsu e d a) s = r (fpOfInt f32 (x : Int)) ∧ exec (.fcvtws e d a) s = r ((fpToS32 f32 x).1.toNat, (fpToS32 f32 x).2) ∧
     exec (.fcvtwu e d a) s = r ((fpToU32 f32 x).1.toNat, (fpToU32 f32 x).2))

/-- O26. Special operands of binary32: NaNs, zeros, infinities, saturation (06_frambeth_instruction_set, R178, R179, R180).
A NaN operand of an arithmetic operation gives 0x7FC00000; minimum and maximum take the other operand of one NaN and the quiet NaN of two, and -0 is less than +0; comparisons with a NaN are false; conversions of NaN and of values out of range saturate; division of a finite number by zero is an infinity and raises the flag of division by zero. -/
def Obligations.BinaryOperandsTreated : Prop :=
  (∀ x : Nat, x < 2 ^ 32 → (∃ q, fpUnpack f32 x = .nan q) →
     (∀ y, y < 2 ^ 32 → (fpAdd f32 x y).1 = 0x7FC00000 ∧ (fpAdd f32 y x).1 = 0x7FC00000 ∧ (fpMul f32 x y).1 = 0x7FC00000 ∧ (fpMul f32 y x).1 = 0x7FC00000 ∧
       (fpDiv f32 x y).1 = 0x7FC00000 ∧ (fpDiv f32 y x).1 = 0x7FC00000 ∧ (fpEq f32 x y).1 = false ∧ (fpLt f32 x y).1 = false ∧ (fpLe f32 x y).1 = false) ∧
     (fpSqrt f32 x).1 = 0x7FC00000 ∧ (fpToS32 f32 x).1 = 0x7FFFFFFF ∧ (fpToU32 f32 x).1 = 0xFFFFFFFF) ∧
  ((fpMin f32 0x80000000 0).1 = 0x80000000 ∧ (fpMax f32 0x80000000 0).1 = 0 ∧ (fpMin f32 0x7FC00000 0x3F800000).1 = 0x3F800000 ∧
   (fpMax f32 0x7FC00000 0x7FC00000).1 = 0x7FC00000 ∧ (fpDiv f32 0x3F800000 0).1 = 0x7F800000 ∧ (fpDiv f32 0x3F800000 0).2 ≠ 0 ∧
   (fpToS32 f32 0x4F000000).1 = 0x7FFFFFFF ∧ (fpToS32 f32 0xCF000001).1 = 0x80000000 ∧ (fpToU32 f32 0xBF800000).1 = 0 ∧
   (fpAdd f32 0x3F800000 0x3F800000).1 = 0x40000000 ∧ (fpMul f32 0x40400000 0x40000000).1 = 0x40C00000)

/-- O27. Every instruction of every profile reads back from its word with every operand, and a word spells at most the instruction it was made from (06_frambeth_instruction_set, R162, R170, R171, R172, R173).
For every instruction of Frambeth that the profile of its engine has, with every operand at every value its field admits (a load as one whose check of the codes finds nothing, since a word says nothing of that), reading the word of the instruction gives the instruction; and whatever word an engine reads as an instruction is the word of that instruction, so no bit of a word is dropped and a field that an instruction does not use is zero. -/
def Obligations.FrambethWordsAgree : Prop :=
  (∀ (i : Instr) (e : Engine) (w : Word), frambethWord i = some (e, w) → (opAvail (wordOp w) (wordFn w)).has e = true →
     (∀ (d a : Fin 32) (n : BitVec 16) (x : Ecc),
       (i = .lb e d a n x ∨ i = .lbu e d a n x ∨ i = .lh e d a n x ∨ i = .lhu e d a n x ∨ i = .lw e d a n x) → x = .clean) →
     decodeFrambeth e w = some i) ∧
  (∀ (i : Instr) (e : Engine) (w : Word), decodeFrambeth e w = some i → frambethWord i = some (e, w))

/-- O28. A few words written out from the four formats spell their instructions, and words that the tables do not define spell none (06_frambeth_instruction_set, R162, R170, R172, R173).
One word of each format, its fields written out from R170 and its codes from R172 and R173, reads as the instruction it stands for; a reserved opcode, a reserved function code, a field that must be zero, the reserved selection of a shift and an instruction that the profile of the engine lacks read as no instruction. -/
def Obligations.FrambethWordsSpelled : Prop :=
  decodeFrambeth .host (BitVec.ofNat 32 (0x004 * 2 ^ 21 + 3 * 2 ^ 16 + 2 * 2 ^ 11 + 1 * 2 ^ 6 + 0x00)) = some (.xor .host 1 2 3) ∧
  decodeFrambeth .host (BitVec.ofNat 32 (0xFFFF * 2 ^ 16 + 5 * 2 ^ 11 + 4 * 2 ^ 6 + 0x01)) = some (.addi .host 4 5 0xFFFF) ∧
  decodeFrambeth (.shuttle 7) (BitVec.ofNat 32 (0x7FF * 2 ^ 21 + 9 * 2 ^ 16 + 8 * 2 ^ 11 + 0x1E * 2 ^ 6 + 0x1A)) = some (.sw (.shuttle 7) 8 9 0xFFFE) ∧
  decodeFrambeth (.seq 2) (BitVec.ofNat 32 (0x3FFFFFF * 2 ^ 6 + 0x28)) = some (.jal (.seq 2) 0x3FFFFFF) ∧
  decodeFrambeth (.shuttle 7) (BitVec.ofNat 32 (0x018 * 2 ^ 21 + 6 * 2 ^ 16 + 5 * 2 ^ 11 + 4 * 2 ^ 6 + 0x3C)) = some (.hbin (.shuttle 7) 4 5 6) ∧
  decodeFrambeth .host (BitVec.ofNat 32 0x09) = none ∧ decodeFrambeth .host (BitVec.ofNat 32 (0x006 * 2 ^ 21)) = none ∧
  decodeFrambeth .host (BitVec.ofNat 32 (1 * 2 ^ 11 + 0x08)) = none ∧ decodeFrambeth .host (BitVec.ofNat 32 (0x60 * 2 ^ 16 + 0x07)) = none ∧
  decodeFrambeth .host (BitVec.ofNat 32 (0x80 * 2 ^ 16 + 0x07)) = none ∧
  decodeFrambeth (.shuttle 7) (BitVec.ofNat 32 (0x002 * 2 ^ 21 + 0x30)) = none ∧ decodeFrambeth (.seq 2) (BitVec.ofNat 32 (0x012 * 2 ^ 21)) = none

/-- O29. The shuttle instructions: gated operations, queue reads, the record taken by sget, waits, tags and histogram bins (06_frambeth_instruction_set, 07_the_loom, R190, R192, R193, R196, R201, R202, R301).
On a shuttle that executes them: an instruction whose effect leaves the loom is issued at once while nothing before it is provisional or queued, and else joins the gate queue with the evaluation's tag and pick; qrd takes the queue's next word or zeros; sget takes the next record, with a free slot and a snapshot if it is provisional; spwait, ptag and hbin complete. The pc goes on. -/
def Obligations.ShuttleInstructionsComplete : Prop :=
  (∀ (n : Fin 16) (a b : Fin 32) (s u : State) (x : Shuttle) (p v : Nat) (w : Word) (g : GateOp → Host.Outcome State Fault Refusal),
     Runs (.shuttle n) avShuttle s u → x = shuttle u n.val → p = (regOf u (.shuttle n) a).toNat → w = regOf u (.shuttle n) b → v = w.toNat →
     (x.prov = false ∧ x.gate = [] ∨ x.gate.length < 16) →
     (g = fun op => .next (advance (.shuttle n) (if x.prov = false ∧ x.gate = [] then issueOp n.val op u
       else setShuttle n.val { x with gate := x.gate ++ [⟨op, x.tagNow, x.pick⟩], cnt := tabSet (fun _ => 0) x.cnt 0x2B (tabGet (fun _ => 0) x.cnt 0x2B + 1) } u))) →
     (fget u (QUEUE_CFG_WSRC (p % 32)) = 0 → fget u (QUEUE_CFG_WSH (p % 32)) = n.val →
       exec (.qwr (.shuttle n) a b) s = g (.qwr (p % 32) w) ∧ exec (.qcmt (.shuttle n) a) s = g (.qcmt (p % 32)) ∧
       exec (.qabt (.shuttle n) a) s = g (.qabt (p % 32))) ∧
     (p % 32 < 24 → exec (.dout (.shuttle n) a b) s = g (.dout (p % 32) (v % 2 == 1))) ∧
     exec (.hirq (.shuttle n) a) s = g (.hirq (p % 256)) ∧ exec (.hinc (.shuttle n) a b) s = g (.hinc (p % 4096) (v % 32)) ∧
     exec (.xupd (.shuttle n) a b) s = g (.xupd (p % 4096) w x.stamp) ∧ exec (.srec (.shuttle n) a b) s = g (.srec (p % 65536) w x.stamp)) ∧
  (∀ (n : Fin 16) (d a : Fin 32) (q : Nat) (s u t : State) (w : Option QWord), Runs (.shuttle n) avShuttle s u → 1 ≤ d.val → d.val ≤ 29 →
     q = (regOf u (.shuttle n) a).toNat % 32 → flag u (QUEUE_CFG_RHOST q) = false → fget u (QUEUE_CFG_RSH q) = n.val →
     (t, w) = queueTake q ((shuttle u n.val).curEval.map (fun v => (n.val, v.entry))) u →
     exec (.qrd (.shuttle n) d a) s = .next (advance (.shuttle n) (setShuttle n.val ((((shuttle t n.val).setReg d.val ((w.map QWord.lo).getD 0)).setReg
       (d.val + 1) ((w.map QWord.hi).getD 0)).setReg (d.val + 2) ((w.map queueTag).getD 0)) t))) ∧
  (∀ (n : Fin 16) (d : Fin 32) (h : Held) (s u v : State), Runs (.shuttle n) avShuttle s u → 1 ≤ d.val → d.val ≤ 28 → v = skipDrops n.val (endEvaluation n.val u) →
     (heldOf v n.val).find? Held.waits = some h → (recIsPick h.w0 && h.pick == rd v LOOM_PICKNUM && pickAwaits v) = false →
     (recPend h.w0 = 0 → (shuttle v n.val).evals = [] → exec (.sget (.shuttle n) d) s = .next (takeRecord (.shuttle n) n.val d.val h none v)) ∧
     ((recPend h.w0 ≠ 0 ∨ (shuttle v n.val).evals ≠ []) → (∃ k, k < 8 ∧ k ∉ (shuttle v n.val).slots) →
       ∃ k, k < 8 ∧ k ∉ (shuttle v n.val).slots ∧ exec (.sget (.shuttle n) d) s = .next (takeRecord (.shuttle n) n.val d.val h (some k) v))) ∧
  (∀ (n : Fin 16) (d : Nat) (h : Held) (s t : State), 1 ≤ d → d ≤ 28 → t = takeRecord (.shuttle n) n.val d h none s →
     (shuttle t n.val).cur = some h.id ∧ (shuttle t n.val).pick = h.pick ∧ (shuttle t n.val).stamp = h.w1 ∧
     (shuttle t n.val).core.get d = h.w0.truncate 32 ∧ (shuttle t n.val).core.get (d + 1) = (h.w0 >>> 32).truncate 32 ∧
     (shuttle t n.val).core.get (d + 2) = h.w1.truncate 32 ∧ (shuttle t n.val).core.get (d + 3) = (h.w1 >>> 32).truncate 32 ∧
     pcOf t (.shuttle n) = pcOf s (.shuttle n) + 4 ∧ t.regs = s.regs) ∧
  (∀ (n : Fin 16) (d a b : Fin 32) (s u : State), Runs (.shuttle n) avShuttle s u →
     ((shuttle u n.val).evals.length ≤ (regOf u (.shuttle n) a).toNat % 16 → exec (.spwait (.shuttle n) a) s = .next (advance (.shuttle n) u)) ∧
     exec (.ptag (.shuttle n) d a) s = .next (advance (.shuttle n) (setReg (.shuttle n) d
       (if a.val ≠ 0 ∧ (shuttle u n.val).tagProv (tabGet (fun _ => 0) (shuttle u n.val).rtag a.val) = true then 1 else 0) u)) ∧
     (b.val ≤ 30 → ∀ r, r = hbinOf (regOf u (.shuttle n) a).toNat (regOf u (.shuttle n) b).toNat (regOf u (.shuttle n) (b + 1)).toNat →
       exec (.hbin (.shuttle n) d a b) s = .next (advance (.shuttle n) (setReg (.shuttle n) d (BitVec.ofNat 32 r.1) (addFlags (.shuttle n) r.2 u)))))

/-- O30. The scan instructions queue steps, wait for groups and ticks, and drive software blanking (06_frambeth_instruction_set, 03_analog_front_end, R90, R91, R93, R204, R205).
On a sequencer that executes them: scan puts a legal step behind a group's queue that it owns and that has room; scanw goes on once the group holds no more steps than gt; sblank asserts or releases the source; tickw goes on once the shadow has reached gs. A group of another sequencer is fault 2 and a reserved step fault 4. -/
def Obligations.ScanInstructionsComplete : Prop :=
  (∀ (k : Fin 4) (a b : Fin 32) (g : Nat) (w : Word) (s u : State), Runs (.seq k) avSeq s u → g = (regOf u (.seq k) a).toNat % 16 → w = regOf u (.seq k) b →
     (g / 4 = k.val → stepLegal w = true → (afeGrp u g).queue.length < 4 →
       exec (.scan (.seq k) a b) s = .next (advance (.seq k) (setAfeGrp g { afeGrp u g with queue := (afeGrp u g).queue ++ [w] } u))) ∧
     (g / 4 = k.val → groupSteps u g ≤ w.toNat → exec (.scanw (.seq k) a b) s = .next (advance (.seq k) u)) ∧
     (g / 4 ≠ k.val → exec (.scan (.seq k) a b) s = .next (seqFault k.val 2 ((pcOf u (.seq k)).toNat / 4) u) ∧
       exec (.scanw (.seq k) a b) s = .next (seqFault k.val 2 ((pcOf u (.seq k)).toNat / 4) u)) ∧
     (g / 4 = k.val → stepLegal w = false → exec (.scan (.seq k) a b) s = .next (seqFault k.val 4 ((pcOf u (.seq k)).toNat / 4) u))) ∧
  (∀ (k : Fin 4) (a b : Fin 32) (s u : State), Runs (.seq k) avSeq s u →
     exec (.sblank (.seq k) a b) s = .next (advance (.seq k) (seqBlank k.val ((regOf u (.seq k) a).toNat % 4) (regOf u (.seq k) b != 0) u)) ∧
     (0 ≤ (((shadow u 8).truncate 32 : Word) - regOf u (.seq k) a).toInt → exec (.tickw (.seq k) a) s = .next (advance (.seq k) u)))

/-- O31. Shuttle commands, the windows, the pick scheduler and warp memory (07_the_loom, R193, R210, R211, R212, R213, R215, R216, R227, R230, R235).
START, STOP and LOADLIB act in the states that accept them, a completed library copy stops the shuttle, a window reads and writes the selected shuttle's stores, PICKEN starts and stops the scheduler, PICKCFG takes its range, a boundary opens the next pick, the gate queue issues its confirmed head, and warp memory takes host writes, queued stores, and is cleared. -/
def Obligations.LoomCommandsComplete : Prop :=
  (∀ (i : Initiator) (n : Fin 16) (s u : State), Arrives i (LOOM_SHCMD n.val) s u → flag u (LOOM_SHCMD_BUSY n.val) = false →
     ((fget u (LOOM_SHSTAT_STATE n.val) = 0 ∨ fget u (LOOM_SHSTAT_STATE n.val) = 2) → flag u LOOM_STAT_FATAL = false →
       exec (.start i n) s = .next (shuttleStart n.val u)) ∧
     (fget u (LOOM_SHSTAT_STATE n.val) = 1 → exec (.stop i n) s = .next (completePicks (stopShuttle n.val 0 u))) ∧
     ((fget u (LOOM_SHSTAT_STATE n.val) = 0 ∨ fget u (LOOM_SHSTAT_STATE n.val) = 2) →
       exec (.loadlib i n) s = .next (setShState n.val 3 (setF u (LOOM_SHCMD_BUSY n.val)))) ∧
     (fget u (LOOM_SHSTAT_STATE n.val) = 1 → exec (.start i n) s = .next (setF u LOOM_EVT_CMDLOST) ∧ exec (.loadlib i n) s = .next (setF u LOOM_EVT_CMDLOST)) ∧
     (fget u (LOOM_SHSTAT_STATE n.val) = 0 → exec (.stop i n) s = .next (setF u LOOM_EVT_CMDLOST))) ∧
  (∀ (n : Fin 16) (s u : State), warpUp s = true → u = stir 3 s → fget u (LOOM_SHSTAT_STATE n.val) = 3 →
     exec (.loadlibComplete n) s = .next (setShState n.val 0 (clrF (setShuttle n.val { shuttle u n.val with
       lib := true, imem := tabClear (fun a => a < 4 * fget u LOOM_LIBID_SIZE) (shuttle u n.val).imem
       ibad := tabClear (fun k => 4 * k < 4 * fget u LOOM_LIBID_SIZE) (shuttle u n.val).ibad } u) (LOOM_SHCMD_BUSY n.val)))) ∧
  (∀ (i : Initiator) (k : Fin 24576) (w : Word) (a n : Nat) (s u v : State) (p : ShPlace), a = 0x20240000 + 4 * k.val → n = fget u LOOM_SHSEL_SEL → v = rouse (4 + n / 4) u →
     windowOpen v = true → p = (if k.val < 16384 then .imem (4 * k.val) else .local_ (4 * k.val - 0x10000)) →
     (Fetches i a s u → shBad v n p = .clean → exec (.shuttleWindowAccess i k none) s = .next (setReply i ⟨shLoad v n p 4, none⟩ v)) ∧
     (Fetches i a s u → shBad v n p = .corrected → exec (.shuttleWindowAccess i k none) s = .next (setReply i ⟨shLoad v n p 4, none⟩ (shCorrected n p v))) ∧
     (∀ t, t = shMend n p v → Arrives i a s u → 16384 ≤ k.val → exec (.shuttleWindowAccess i k (some w)) s = .next (setShuttle n { shuttle t n with
       dmem := (List.range 4).foldl (fun m j => tabSet (fun _ => 0) m (4 * k.val - 0x10000 + j) (BitVec.ofNat 8 (w.toNat / 256 ^ j))) (shuttle t n).dmem } t)) ∧
     (∀ t, t = shMend n p v → Arrives i a s u → k.val < 16384 → exec (.shuttleWindowAccess i k (some w)) s = .next (setShuttle n { shuttle t n with
       imem := (List.range 4).foldl (fun m j => tabSet (imemDefault t n) m (4 * k.val + j) (BitVec.ofNat 8 (w.toNat / 256 ^ j))) (shuttle t n).imem } t))) ∧
  (∀ (i : Initiator) (s u : State), Arrives i LOOM_CTL s u →
     (flag u LOOM_CTL_PICKEN = false → ∃ t, t = setF u LOOM_CTL_PICKEN ∧ exec (.pickEnable i) s = .next { t with loom := { t.loom with
       pickus := fget t LOOM_PICKCFG_PICKUS, acc := fget t LOOM_PICKCFG_PICKUS * 512 - 15625, sched := !flag t LOOM_STAT_FATAL, first := true, mark := true } }) ∧
     exec (.pickDisable i) s = .next (clrF u LOOM_CTL_PICKEN)) ∧
  (∀ (i : Initiator) (v : Word) (s u : State), Arrives i LOOM_PICKCFG s u →
     (flag u LOOM_CTL_LOCK = false → 250 ≤ wget v 13 0 → wget v 13 0 ≤ 10000 → exec (.pickConfigWrite i v) s = .next (pairUpdate (fset u LOOM_PICKCFG_PICKUS (wget v 13 0)))) ∧
     (wget v 13 0 < 250 ∨ 10000 < wget v 13 0 → exec (.pickConfigWrite i v) s = .next u)) ∧
  (∀ (s v u : State), warpUp s = true → v = stir 3 s → v.loom.sched = true → v.loom.acc ≥ v.loom.pickus * 512 →
     u = { v with loom := quietBump { v.loom with acc := v.loom.acc - v.loom.pickus * 512 } } →
     (flag v LOOM_CTL_PICKEN = true → exec .pickBoundary s = .next (completePicks (openPick u))) ∧
     (flag v LOOM_CTL_PICKEN = false → exec .pickBoundary s = .next (completePicks { clrF u LOOM_STAT_PICKON with loom := { u.loom with sched := false } }))) ∧
  (∀ (n : Fin 16) (g : GateEnt) (l : List GateEnt) (s u : State), warpUp s = true → u = stir 3 s → (shuttle u n.val).gate = g :: l → (shuttle u n.val).tagProv g.tag = false →
     exec (.gateQueueIssue n) s = .next (issueOp n.val g.op (setShuttle n.val { shuttle u n.val with gate := l } u))) ∧
  (∀ s u : State, warpUp s = true → u = stir 3 s → flag u LOOM_CTL_PICKEN = true → exec .warpTickLoss s = .next (fatalFault 7 none u)) ∧
  (∀ (i : Initiator) (o : BitVec 21) (z : Size) (v : Word) (s u : State), Arrives i (0x10000000 + o.toNat) s u → o.toNat % z.bytes = 0 →
     (warpRefused u o.toNat = false → bankBlocks i (0x10000000 + o.toNat) u = false →
       ∀ t, t = bankDone (bankOf o.toNat) (bankIni i) u → warpBad t o.toNat = .clean → exec (.warpHostWrite i o z v) s =
       .next { t with loom := { t.loom with warp := putBytes t.loom.warp o.toNat (bytesOf z.bytes v.toNat) } }) ∧
     (warpRefused u o.toNat = false → bankBlocks i (0x10000000 + o.toNat) u = true → exec (.warpHostWrite i o z v) s =
       .next (bankAsk (bankOf o.toNat) (bankIni i) u)) ∧
     (warpRefused u o.toNat = true → exec (.warpHostWrite i o z v) s = .next (writeError i .other (0x10000000 + o.toNat) (setF u LOOM_EVT_HWREJ)))) ∧
  (∀ (s u : State), islUp s 3 = true → flag s LOOM_STAT_CLR = true →
     u = restartWaits 3 (clrF { s with loom := { s.loom with warp := [], bad := [] } } LOOM_STAT_CLR) →
     (u.sys.relBusy = true → exec .warpClearComplete s = .next (stepDone 4 u)) ∧ (u.sys.relBusy = false → exec .warpClearComplete s = .next u))

/-- O32. Records are accepted, cleared, replaced, agreed and resolved; notices act; picks are reported, published, stores applied (07_the_loom, 08_provisional_evaluation, R218, R223, R229, R233, R237, R248, R249, R251, R254, R258).
The record that is next on the sluice of the AFE or of DIOL is accepted; a clearance, a replacement or an agreement is applied to every held entry; the next notice of a shuttle clears or squashes; the first entry due is resolved; a shuttle reports a pick beyond its latest; a publication ends; a granted store changes warp memory; a lockstep mismatch records its cause. -/
def Obligations.HeldRecordsAndNoticesProceed : Prop :=
  (∀ s u : State, warpUp s = true → u = stir 3 s →
     (∀ r l, u.afe.out = .sample r :: l → r.repl = false →
       exec (.recordAccept .afe) s = .next (acceptRecord (sampleWord r) (stampWord r.stamp) { u with afe := { u.afe with out := l } })) ∧
     (∀ w0 w1 l, u.dio.out = (w0, w1) :: l → exec (.recordAccept .diol) s = .next (acceptRecord w0 w1 { u with dio := { u.dio with out := l } }))) ∧
  (∀ s u : State, warpUp s = true → u = stir 3 s →
     (∀ r l, u.afe.out = .clear r :: l → exec .clearanceRecord s = .next (applyClearance r { u with afe := { u.afe with out := l } })) ∧
     (∀ r l, u.afe.out = .sample r :: l → r.repl = true → exec .replacementRecord s = .next (applyReplacement r { u with afe := { u.afe with out := l } })) ∧
     (∀ n w l, u.selv.agree = (n, w) :: l → exec .dupAgreement s = .next (applyAgreement n w { u with selv := { u.selv with agree := l } }))) ∧
  (∀ (n : Fin 16) (id : Nat) (l : List Notice) (s : State),
     ((shuttle s n.val).notices = .clear id :: l →
       exec (.clearNotice n) s = .next (completePicks (noticeClear n.val id (setShuttle n.val { shuttle s n.val with notices := l } s)))) ∧
     ((shuttle s n.val).notices = .squash id :: l →
       exec (.squashNotice n) s = .next (noticeSquash n.val id (setShuttle n.val { shuttle s n.val with notices := l } s)))) ∧
  (∀ (n : Fin 16) (h : Held) (s u : State), warpUp s = true → u = stir 3 s →
     (heldOf u n.val).find? (fun h => h.due && recPend h.w0 != 0 && h.resolved.isNone && h.reject != some true) = some h →
     exec (.deadlineResolution n) s = .next (heldResolve n.val h u)) ∧
  (∀ (n : Fin 16) (k : Word) (s u : State), warpUp s = true → u = stir 3 s → k = reportable u n.val → receives u n.val = true → flag u LOOM_STAT_FATAL = false →
     u.loom.issued = [] → u.loom.wstores = [] → 0 < (k - repOf u n.val).toInt → ∃ t, exec (.pickReport n) s = .next (completePicks t) ∧
       rd t (LOOM_SHDONE n.val) = k ∧ repOf t n.val = k ∧ t.sh = u.sh) ∧
  (∀ (k cfg : Word) (s u : State), warpUp s = true → u = stir 3 s → u.loom.pub = some (k, cfg) → u.loom.pubNext = none → flag u LOOM_STAT_FATAL = false →
     (∀ b, b < 8 → bankGrants u b 3 = true) → u.loom.bad = [] →
     ∃ t, exec .publicationComplete s = .next t ∧ t.loom.pub = none ∧ rd t LOOM_ATPICK = k ∧ flag t LOOM_ATSTAT_BUSY = false ∧ t.sys = u.sys) ∧
  (∀ (n : Fin 16) (w : WarpStore) (s u : State), warpUp s = true → u = stir 3 s → firstStore u n.val = some w → quadTurn u (n.val / 4) = some n.val →
     bankGrants u (bankOf w.addr) (4 + n.val / 4) = true → warpBad u w.addr = .clean →
     ∃ t, exec (.warpStoreApply n) s = .next t ∧ t.loom.warp = putBytes u.loom.warp w.addr (bytesOf w.size w.data.toNat) ∧
       t.loom.wstores = u.loom.wstores.erase w ∧ t.regs = u.regs) ∧
  (∀ s : State, islUp s 2 = true →
     ((rvUp s && rvState s == 1) = true → exec .lockstepMismatch s = .next { s with rvTrig := s.rvTrig ++ [.lockstep], sys := { s.sys with lockWait := true } }) ∧
     (rvUp s = false → exec .lockstepMismatch s = .next (lockReset { s with sys := { s.sys with lockWait := true } })))

/-- O33. The egress accepts a shuttle's oldest operation and sends a path's next item (09_alarm_patterns_and_duty_call, R206, R291, R292, R293, R294, R295).
With WARP up: EGRESS_ACCEPT takes the oldest issued operation of a shuttle that holds its quadrant's sluice, which leaves the sluice and is put into its paths, and does nothing for a shuttle without one; EGRESS_SEND moves a path's waiting item of the lowest sequence number to the items on its way while the words there leave a place. An item that fits is placed behind the others with the next sequence number. -/
def Obligations.EgressPathsProceed : Prop :=
  (∀ (n : Fin 16) (sub : BitVec 16) (s u : State), islUp s 3 = true → u = atSub 3 sub s →
     (∀ (o : Nat) (on : Bool), u.loom.issued.find? (fun p => p.1 == n.val) = some (n.val, .dout o on) → quadTurn u (n.val / 4) = some n.val →
       (egPath u 3).wait = [] →
       ∃ t, exec (.egressAccept ⟨n, sub⟩) s = .next t ∧ t.loom.issued = u.loom.issued.erase (n.val, .dout o on) ∧
         (egPath t 3).wait = [⟨.out o on, .out, (egPath u 3).seq⟩] ∧ (egPath t 3).seq = (egPath u 3).seq + 1 ∧ t.loom.outsh.testBit o = on ∧ t.loom.warp = u.loom.warp) ∧
     (∀ p, u.loom.issued.find? (fun p => p.1 == n.val) = some p → quadTurn u (n.val / 4) = some n.val →
       ∃ v t, exec (.egressAccept ⟨n, sub⟩) s = .next t ∧ t = egAccept p.2 v ∧ v.loom.issued = u.loom.issued.erase p ∧ v.regs = u.regs ∧ v.loom.wstores = u.loom.wstores) ∧
     (u.loom.issued.find? (fun p => p.1 == n.val) = none → exec (.egressAccept ⟨n, sub⟩) s = .next u) ∧
     (quadTurn u (n.val / 4) ≠ some n.val → exec (.egressAccept ⟨n, sub⟩) s = .next u)) ∧
  (∀ (p : Fin 4) (x : EgEnt) (s : State), islUp s 3 = true → egNext (egPath s p.val).wait = some x →
     (((egPath s p.val).sent.map (fun y => egWords p.val y.item)).sum < 3 → ∃ t, exec (.egressSend p) s = .next t ∧
       (egPath t p.val).wait = (egPath s p.val).wait.erase x ∧ (egPath t p.val).sent = (egPath s p.val).sent ++ [x] ∧ (egPath t p.val).seq = (egPath s p.val).seq ∧
       (∀ q, q ≠ p.val → egPath t q = egPath s q) ∧ t.regs = s.regs) ∧
     (3 ≤ ((egPath s p.val).sent.map (fun y => egWords p.val y.item)).sum → exec (.egressSend p) s = .next s)) ∧
  (∀ (p : Nat) (x : EgItem) (c : EgCls) (s : State),
     (((egPath s p).wait.filter (fun y => y.cls.inFifo)).length < fifoCap p → egFifo p x c s =
       setEgPath p { egPath s p with wait := (egPath s p).wait ++ [⟨x, c, (egPath s p).seq⟩], seq := (egPath s p).seq + 1 } s))

/-- O34. The stock library: commands of the ring, delays, suppression, shelving, the call, the dead-man watch and whole records (09_alarm_patterns_and_duty_call, R264, R268, R270, R279, R281, R282, R283, R285, R288, R289, R290).
Where a shuttle's library stands at a pick record, each part of its work answers the state after it, its stores and gated instructions having room: the next entry of the command ring is applied and TAIL advances; an expiry acts on a descriptor the shuttle owns; the call escalates and the dead-man watch warns and alarms. A record is evaluated along the chain of its source. -/
def Obligations.LibraryWorkProceeds : Prop :=
  (∀ (n : Fin 16) (e arg : Word) (s b t : State), libReady s n.val = true → (libRec s n.val).pick = true → (libSt s n.val).hook = none →
     b = libBegin n.val s → nextCommand b n.val = some (e, arg) →
     applyCommand n.val e arg (libRec s n.val) (setLib n.val { libSt b n.val with tail := (libSt b n.val).tail + 1, cmds := (libSt b n.val).cmds + 1 } b) = some t →
     (wget e 31 24 = 1 → exec (.ack n) s = .next t) ∧
     (wget e 31 24 = 2 → exec (.ackgrp n) s = .next t) ∧
     (wget e 31 24 = 3 → exec (.ackall n) s = .next t) ∧
     (wget e 31 24 = 4 → exec (.silence n) s = .next t) ∧
     (wget e 31 24 = 5 → exec (.shelve n) s = .next t) ∧
     (wget e 31 24 = 6 → exec (.unshelve n) s = .next t) ∧
     (wget e 31 24 = 7 → exec (.dutyaccept n) s = .next t) ∧
     (wget e 31 24 = 8 → exec (.dmreset n) s = .next t) ∧
     (wget e 31 24 = 9 → exec (.dmarm n) s = .next t)) ∧
  (∀ (n : Fin 16) (d : BitVec 12) (s b t : State), libReady s n.val = true → (libRec s n.val).pick = true → (libSt s n.val).hook = none →
     b = libBegin n.val s → (ownDescs b n.val).contains d.toNat = true →
     (∀ k, (libBlk b n.val d.toNat).dly = some k → (libBlk b n.val d.toNat).held = false → 0 ≤ ((shuttle b n.val).pick - k).toInt →
       libNext n.val d.toNat (libDesc b n.val d.toNat) (libRec s n.val) (setBlk n.val d.toNat { libBlk b n.val d.toNat with a := (libBlk b n.val d.toNat).c, dly := none } b) = some t →
       ((libBlk b n.val d.toNat).c = true → exec (.onDelayExpiry n d) s = .next t) ∧ ((libBlk b n.val d.toNat).c = false → exec (.offDelayExpiry n d) s = .next t)) ∧
     (supOff n.val d.toNat (libDesc b n.val d.toNat) (libRec s n.val) b = some t → exec (.suppressionHoldExpiry n d) s = .next t) ∧
     (0 ≤ ((shuttle b n.val).pick - (libBlk b n.val d.toNat).shelf).toInt → unshelve n.val d.toNat (libDesc b n.val d.toNat) (libRec s n.val) b = some t →
       exec (.shelvingExpiry n d) s = .next t)) ∧
  (∀ (n : Fin 16) (s b t : State), libReady s n.val = true → (libRec s n.val).pick = true → (libSt s n.val).hook = none →
     b = libBegin n.val s → isDuty b n.val = true →
     (escalates b n.val = true → statusSum b n.val 0 15 0 ≠ 0 → setCall n.val ((duty b n.val).stage + 1) false (shuttle b n.val).pick b = some t →
       exec (.dutyCallEscalation n) s = .next t) ∧
     (preDue b n.val = true → deadPre n.val (libRec s n.val) b = some t → exec (.deadmanPrewarning n) s = .next t) ∧
     (deadDue b n.val = true → Sys2Proof.Machine.deadAlarm n.val (libRec s n.val) b = some t → exec (.deadmanAlarm n) s = .next t)) ∧
  (∀ (n : Fin 16) (s : State), libReady s n.val = true → libRoutine s n.val = none →
     ((libRec s n.val).pick = false → lget (libRec s n.val).w0 63 62 ≠ 3 →
       (∀ t, runChain n.val ((recSrc (libRec s n.val).w0).getD 0) (libRec s n.val) s = some t → exec (.libraryEvaluateRecord n) s = .next (libWorked n.val t)) ∧
       (runChain n.val ((recSrc (libRec s n.val).w0).getD 0) (libRec s n.val) s = none → exec (.libraryEvaluateRecord n) s = .next s)) ∧
     ((libRec s n.val).pick = true → (libSt s n.val).hook = none → ∀ t u, (pickFirst n.val (libRec s n.val) (libBegin n.val s)).bind (runChain n.val 144 (libRec s n.val)) = some t →
       (libSt t n.val).hook = none → LibStep.then_ (dutyWork n.val (libRec s n.val)) (statusWork n.val) t = some u → exec (.libraryPickWork n) s = .next (libWorked n.val u)))

/-- O35. Queues: configuration, writes, commit, abort, frontends, visibility, takes, flush and disable (10_queue_fabric, R300, R301, R302, R303, R304, R305, R306, R308, R309, R310, R311).
Each clause gives the whole next state of a queue command where it has its effect: a depth that fits the pool is taken and one that does not sets CFGERR; a byte joins the open packet; a commit of a complete packet commits exactly LEN bytes; an abort and a commit that is short turn it bad; a take removes the word at the read end; a flush empties the queue. -/
def Obligations.QueueCommandsTakeEffect : Prop :=
  (∀ (i : Initiator) (q : Fin 32) (v : Word) (s u : State), Arrives i (QUEUE_CFG q.val) s u → flag u QUEUE_CTLG_LOCK = false → flag u (QUEUE_CTL_EN q.val) = false →
     (8 ≤ wget v 6 0 → wget v 6 0 ≤ 64 → queuePool u - fget u (QUEUE_CFG_DEPTH q.val) + wget v 6 0 ≤ 1024 → exec (.queueConfigWrite i q v) s =
       .next (fset (wr u (QUEUE_CFG q.val) (v &&& 0xCF3F107F)) QUEUE_POOL_USED (queuePool (wr u (QUEUE_CFG q.val) (v &&& 0xCF3F107F))))) ∧
     (wget v 6 0 < 8 ∨ 64 < wget v 6 0 ∨ 1024 < queuePool u - fget u (QUEUE_CFG_DEPTH q.val) + wget v 6 0 → exec (.queueConfigWrite i q v) s = .next (setF u QUEUE_EVT_CFGERR))) ∧
  (∀ (i : Initiator) (q : Fin 32) (v : Word) (s u : State), Arrives i (QUEUE_WR q.val) s u → fget u (QUEUE_CFG_WSRC q.val) = 1 → wget v 31 16 = 0 →
     flag u (QUEUE_CTL_EN q.val) = true → flag u (QUEUE_CFG_WIDTH q.val) = false → (que u q.val).disc = false →
     ((que u q.val).open_ = none → queueUsed { que u q.val with offPkt := false } < fget u (QUEUE_CFG_DEPTH q.val) →
       exec (.queueWr i q v) s = .next (setQue q.val { que u q.val with offPkt := false, open_ := some [v.truncate 8] } (setQue q.val { que u q.val with offPkt := false } u))) ∧
     (∀ b0 b1 b2, (que u q.val).open_ = some [b0, b1, b2] → 4 ≤ b2.toNat + 256 * (v.truncate 8 : Byte).toNat →
       b2.toNat + 256 * (v.truncate 8 : Byte).toNat ≤ 8 * fget u (QUEUE_CFG_DEPTH q.val) →
       exec (.queueWr i q v) s = .next (setQue q.val { que u q.val with offPkt := false, open_ := some [b0, b1, b2, v.truncate 8] } (setQue q.val { que u q.val with offPkt := false } u)))) ∧
  (∀ (i : Initiator) (q : Fin 32) (s u : State), Arrives i (QUEUE_WCMD q.val) s u → fget u (QUEUE_CFG_WSRC q.val) = 1 →
     ((que u q.val).disc = true ∨ (que u q.val).offPkt = true →
       exec (.queueCommit i q) s = .next (setQue q.val { que u q.val with disc := false, offPkt := false } u) ∧
       exec (.queueAbort i q) s = .next (setQue q.val { que u q.val with disc := false, offPkt := false } u)) ∧
     (∀ l n, (que u q.val).disc = false → (que u q.val).offPkt = false → (que u q.val).open_ = some l → packetLen l = some n →
       (n ≤ l.length → exec (.queueCommit i q) s = .next (queueCommitted q.val (l.take n) u)) ∧
       (l.length < n → exec (.queueCommit i q) s = .next (queueBad q.val false u)) ∧
       exec (.queueAbort i q) s = .next (queueBad q.val false u))) ∧
  (∀ (q : Nat) (l : List Byte) (s : State), que (queueCommitted q l s) q = { que s q with open_ := none, commits := (que s q).commits ++ [packWords true 64 l] } ∧
     (∀ r, r ≠ q → que (queueCommitted q l s) r = que s r) ∧ (queueCommitted q l s).regs = s.regs ∧
     (∀ more, que (queueBad q more s) q = { que s q with open_ := none, disc := more }) ∧ (∀ more r, r ≠ q → que (queueBad q more s) r = que s r)) ∧
  (∀ (p : FrontPacket) (l : List FrontPacket) (s u : State), warpUp s = true → u = stir 3 s →
     (∀ n, vibNext u = some (n, p) → exec (.queueFrontendWrite .vib) s = .next (vibLeft n (frontWrite 2 [p] u).1 (frontWrite 2 [p] u).2)) ∧
     (∀ k m t, u.comms = k :: m → (can u k).held = p :: l →
       t = setCan k { can (frontWrite 3 [p] u).2 k with held := (frontWrite 3 [p] u).1 ++ l } (frontWrite 3 [p] u).2 →
       exec (.queueFrontendWrite .comms) s = .next (if (frontWrite 3 [p] u).1 = [] then { t with comms := [] } else t)) ∧
     (∀ src, (queueFront p.queue src (p.sent == 0) (nextWrite p) s).2 = true → p.sent + 2 < p.bytes.length →
       frontWrite src (p :: l) s = ({ p with sent := p.sent + 2 } :: l, (queueFront p.queue src (p.sent == 0) (nextWrite p) s).1)) ∧
     (∀ src, (queueFront p.queue src (p.sent == 0) (nextWrite p) s).2 = true → p.bytes.length ≤ p.sent + 2 →
       frontWrite src (p :: l) s = (l, (queueFront p.queue src (p.sent == 0) (nextWrite p) s).1))) ∧
  (∀ (q : Fin 32) (sub : BitVec 16) (p : List QWord) (l : List (List QWord)) (s u : State), warpUp s = true → u = atSub 3 sub (stir 3 s) → (que u q.val).commits = p :: l →
     (flag u (QUEUE_CFG_NOTIFY q.val) = false ∨ flag u (QUEUE_CFG_RHOST q.val) = true → exec (.packetVisible ⟨q, sub⟩) s =
       .next (setQue q.val { que u q.val with commits := l, visible := (que u q.val).visible ++ p } u)) ∧
     (flag u (QUEUE_CFG_NOTIFY q.val) = true → flag u (QUEUE_CFG_RHOST q.val) = false → exec (.packetVisible ⟨q, sub⟩) s =
       .next (queueRecord q.val (p.map (·.bytes)).sum (setQue q.val { que u q.val with commits := l, visible := (que u q.val).visible ++ p } u)))) ∧
  (∀ (q : Fin 32) (w : QWord) (l : List QWord) (s u : State), Fetches .host (QUEUE_RDTAG q.val) s u → flag u (QUEUE_CFG_RHOST q.val) = true →
     (que u q.val).visible = w :: l → exec (.queueHostTake q) s = .next (setReply .host ⟨queueTag w, none⟩
       (wr (wr (setQue q.val { que u q.val with visible := l } u) (QUEUE_RDLO q.val) (w.data.truncate 32)) (QUEUE_RDHI q.val) ((w.data >>> 32).truncate 32)))) ∧
  (∀ (i : Initiator) (q : Fin 32) (s u : State), Arrives i (QUEUE_CTL q.val) s u →
     (flag u (QUEUE_CTL_EN q.val) = true → exec (.queueFlush i q) s = .next (setF (Sys2Proof.Machine.queueFlush q.val u) (QUEUE_CTL_EN q.val)) ∧
       exec (.queueDisable i q) s = .next (clrF (Sys2Proof.Machine.queueFlush q.val u) (QUEUE_CTL_EN q.val)))) ∧
  (∀ (q : Nat) (s : State), let x := que s q; let t := Sys2Proof.Machine.queueFlush q s
     (que t q).visible = [] ∧ (que t q).commits = [] ∧ (que t q).open_ = none ∧ (que t q).tent = [] ∧ (que t q).disc = (x.disc || x.open_.isSome))

/-- O36. Field banks come up, go down, hold and fail; inputs change, break, count and are gated (11_isolated_digital_io, R314, R316, R317, R319, R320, R321, R322, R323, R324, R335, R336).
A status word is received and marks its bank; a bank without one for 16 edges is marked down; an output bank holds its states and then fails by FAIL; a field supply starts its islands afresh; an input's level, wire-break, count record and frequency gate have their effects; the counter is cleared. -/
def Obligations.FieldBanksAndInputsProceed : Prop :=
  (∀ (k : Fin 9) (v : BitVec 16) (s : State), dioUp s = true →
     ((dioBank s k.val).on = true → exec (.bankStatusWord k v) s = .next (statusWord k.val v.toNat s) ∧
       (dioBank (statusWord k.val v.toNat s) k.val).evt = 0) ∧
     (∀ u, u = stir 10 s → bankUp u k.val = true → (dioBank u k.val).last + 16 ≤ edges u 10 → exec (.bankDown k) s = .next (markDown k.val u))) ∧
  (∀ (b : Fin 3) (s : State), (dioBank s (6 + b.val)).on = true →
     ((dioBank s (6 + b.val)).state = 1 → exec (.logicSideLoss b) s = .next (bankSettle b.val (clrBit (setBank (6 + b.val)
       { dioBank s (6 + b.val) with state := 2, held := bankCmd s b.val, evt := (dioBank s (6 + b.val)).evt ||| 2 ^ 19 } s) DIO_STAT_OEN b.val))) ∧
     ((dioBank s (6 + b.val)).state = 2 → exec (.holdExpiry b) s = .next (bankSettle b.val (setBank (6 + b.val) { dioBank s (6 + b.val) with state := 3 } s)))) ∧
  (∀ (m : Nat) (s : State), let k := dioBank s (6 + m / 8)
     (k.state = 0 → outTarget s m = false) ∧ (k.state = 2 → outTarget s m = k.held.testBit (m % 8)) ∧
     (k.state = 3 → outPar s m = true → outTarget s m = false) ∧
     (k.state = 3 → outPar s m = false → outFail s m = 0 → outTarget s m = false) ∧ (k.state = 3 → outPar s m = false → outFail s m = 1 → outTarget s m = true) ∧
     (k.state = 3 → outPar s m = false → outFail s m = 2 → outTarget s m = k.held.testBit (m % 8)) ∧
     (outActual s m = true → k.on = true ∧ k.uv = false ∧ outTarget s m = true)) ∧
  (∀ (v : Fin 4) (s : State),
     ((dioBank s (5 + v.val)).on = false → v.val ≠ 0 →
       exec (.fieldSupplyRelease v) s = .next (bankFresh true (5 + v.val) s)) ∧
     exec (.fieldSupplyRelease v) s = .next (forL (supplyBanks v.val) (fun k s => if (dioBank s k).on then s else bankFresh true k s) s) ∧
     exec (.fieldSupplyLoss v) s = .next (forL (supplyBanks v.val) (bankFresh false) s) ∧
     (∀ k on, (dioBank (bankFresh on k s) k).on = on ∧ (dioBank (bankFresh on k s) k).state = 0 ∧ (dioBank (bankFresh on k s) k).uv = false ∧
       (dioBank (bankFresh on k s) k).held = 0 ∧ (dioBank (bankFresh on k s) k).cfg = {} ∧ (dioBank (bankFresh on k s) k).evt = 0)) ∧
  (∀ (n : Fin 48) (back sub : BitVec 16) (s t : State), inMeasured s n.val = true → filterPassed s n.val back.toNat = true →
     t = countEdge n.val (setIn n.val { dioIn s n.val with level := !(dioIn s n.val).level } s) →
     ((dioIn s n.val).wb = true → exec (.inputChange n back sub) s = .next t) ∧
     ((dioIn s n.val).wb = false → exec (.inputChange n back sub) s = .next (tellInput n.val (stateRecord n.val (dioStamp s (n.val / 8) back.toNat sub) t)))) ∧
  (∀ (n : Fin 48) (sub : BitVec 16) (s : State), inMeasured s n.val = true →
     (wget (inCfg s n.val) 4 4 = 1 → (dioBank s (n.val / 8)).wbsup = false → exec (.wireBreak n sub) s = .next (Sys2Proof.Machine.wireBreak n.val true (dioStamp s (n.val / 8) 0 sub) s)) ∧
     exec (.wireBreakEnd n sub) s = .next (Sys2Proof.Machine.wireBreak n.val false (dioStamp s (n.val / 8) 0 sub) s)) ∧
  (∀ (k : Fin 6) (v : BitVec 16) (s : State), (dioBank s k.val).on = true →
     (v.toNat < 1500 → exec (.inputSupplyLow k v) s = .next (setBank k.val { dioBank s k.val with
       vsup := v.toNat, wbsup := true, evt := if (dioBank s k.val).wbsup then (dioBank s k.val).evt else (dioBank s k.val).evt ||| 2 } s)) ∧
     (1500 ≤ v.toNat → exec (.wireBreakSuppressionEnd k v) s = .next (setBank k.val { dioBank s k.val with vsup := v.toNat, wbsup := false } s))) ∧
  (∀ (n : Fin 48) (v : BitVec 32) (wb : Bool) (t : BitVec 64) (s u : State), dioUp s = true → u = stir 10 s → (dioIn u n.val).due = some (v, wb, t) →
     exec (.countRecord n) s = .next (sendInput n.val 1 (if wb then 5 else 0) v t (setIn n.val { dioIn u n.val with due := none } u))) ∧
  (∀ (n : Fin 48) (cnt iv cyc : BitVec 32) (ticks sub : BitVec 16) (s u : State), inMeasured s n.val = true → wget (inCfg s n.val) 3 3 = 1 →
     gateFits (wget (inCfg s n.val) 15 12) ticks.toNat = true → cnt.toNat < 2 ∨ 0 < iv.toNat → u = sendCount n.val s →
     ∃ t, exec (.frequencyGateEnd n cnt iv cyc ticks sub) s = .next t ∧
     (((dioIn u n.val).gwb || (dioIn u n.val).wb) = false → (dioIn t n.val).freq = gateFreq cnt.toNat iv.toNat cyc.toNat ticks.toNat) ∧
     (((dioIn u n.val).gwb || (dioIn u n.val).wb) = true → (dioIn t n.val).freq = (dioIn u n.val).freq) ∧
     (dioIn t n.val).gwb = (dioIn u n.val).wb ∧ (dioIn t n.val).cnt = (dioIn u n.val).cnt ∧
     gateFreq 0 iv.toNat cyc.toNat ticks.toNat = 0 ∧ gateFreq 1 iv.toNat cyc.toNat ticks.toNat = 0) ∧
  (∀ (i : Initiator) (n : Fin 48) (s u : State), Arrives i (DIO_INCFG n.val) s u →
     (bankUp u (n.val / 8) = true → exec (.clrcnt i n) s = .next (setIn n.val { dioIn u n.val with cnt := 0 } u)) ∧
     (bankUp u (n.val / 8) = false → exec (.clrcnt i n) s = .next u))

/-- O37. Field outputs: commands by the loom and the host, undervoltage, restore, switch faults, foreign drive, release and marker (11_isolated_digital_io, R328, R329, R330, R332, R333, R337, R338, R339, R340, R342).
A command of the loom or the host drives the outputs of its own source while commands are accepted; undervoltage turns a bank's outputs off until it is restored; the sequence of a switch fault runs through limit, shutdown, retry and latch; foreign drive is flagged; the release takes paralleled outputs off; the first-pick marker enables the banks that are up. -/
def Obligations.FieldOutputsProceed : Prop :=
  (∀ (x : EgEnt) (o : Nat) (on : Bool) (s u t : State), dioUp s = true → u = stir 10 s → egTake 3 u = (some x, t) → x.item = .out o on →
     (o < 24 → outHost t o = false → accepting t = true → exec .outputCommand s = .next (outCommand o on t)) ∧
     (outHost t o = true ∨ accepting t = false → exec .outputCommand s = .next t)) ∧
  (∀ (i : Initiator) (v : Word) (s u : State), Arrives i DIO_OCMD s u → wget v 31 16 = 0 → wget v 12 8 < 24 →
     (outHost u (wget v 12 8) = false → exec (.hostOutputCommand i v) s = .next (setF u DIO_EVT_OCMDREJ)) ∧
     (outHost u (wget v 12 8) = true → accepting u = true → exec (.hostOutputCommand i v) s = .next (outCommand (wget v 12 8) (wget v 0 0 == 1) u)) ∧
     (outHost u (wget v 12 8) = true → accepting u = false → exec (.hostOutputCommand i v) s = .next u)) ∧
  (∀ (b : Fin 3) (v : BitVec 16) (s : State), let k := dioBank s (6 + b.val); k.on = true →
     (v.toNat < 1800 → exec (.outputSupplyWarning b v) s = .next (setBank (6 + b.val) { k with vsup := v.toNat, uvw := true, ready := k.ready && decide (1700 < v.toNat), evt := k.evt ||| 2 ^ 17 } s)) ∧
     (v.toNat < 1600 → exec (.outputUndervoltage b v) s =
       .next (bankSettle b.val (setBank (6 + b.val) { k with vsup := v.toNat, uv := true, ready := false, evt := k.evt ||| 2 ^ 18 } s))) ∧
     (k.uv = true → wget (outBankCfg s b.val) 3 3 = 1 → exec (.outputAutoRestore b) s =
       .next (bankSettle b.val (setBank (6 + b.val) { k with uv := false, ready := false, evt := k.evt ||| 2 ^ 16 } s))) ∧
     (k.uv = true → wget (outBankCfg s b.val) 3 3 ≠ 1 → exec (.outputAutoRestore b) s = .next (setBank (6 + b.val) { k with ready := true } s))) ∧
  (∀ (i : Initiator) (b : Fin 3) (s u : State), Arrives i (DIO_OXCMD b.val) s u → bankUp u (6 + b.val) = true → (dioBank u (6 + b.val)).on = true →
     ((dioBank u (6 + b.val)).uv = true → (dioBank u (6 + b.val)).ready = true → exec (.restore i b) s = .next (bankRestore b.val u)) ∧
     exec (.clrlatch i b) s = .next (forN 8 (fun j => outUnlatch (8 * b.val + j)) u)) ∧
  (∀ (m : Fin 24) (hot : Bool) (s : State), let x := dioOut s m.val
     (outActual s m.val = true → x.fault = .none → exec (.outputCurrentLimit m) s = .next (setOut m.val { x with fault := .curlim } s)) ∧
     (outActual s m.val = true → exec (.retryCountReset m) s = .next (setOut m.val { x with fault := .none, retries := 0 } s)) ∧
     (outActual s m.val = true → x.fault = .curlim → exec (.outputThermalShutdown m hot) s = .next (bankFlag (6 + m.val / 8) (2 ^ (m.val % 8)) (setOut m.val
       { x with fault := if min (x.retries + 1) 255 ≥ wget (outBankCfg s (m.val / 8)) 7 4 then .latched else .thermal
                hot := hot, retries := min (x.retries + 1) 255, shorts := x.shorts + 1 } s))) ∧
     (x.fault = .thermal → exec (.outputRetry m) s = .next (outSettle m.val (setOut m.val { x with fault := .none, hot := false } s))) ∧
     (x.fault ≠ .thermal → exec (.outputRetry m) s = .next (setOut m.val { x with hot := false } s))) ∧
  (∀ (m : Fin 24) (s : State), let x := dioOut s m.val
     ((dioBank s (6 + m.val / 8)).on = true → outActual s m.val = false → x.fdrv = false →
       (outPar s m.val = true → exec (.foreignDrive m) s = .next (setOut m.val { x with fdrv := true } (bankFlag (6 + m.val / 8) (2 ^ (8 + m.val % 8)) s))) ∧
       (outPar s m.val = false → exec (.foreignDrive m) s =
         .next (setOut m.val { x with fdrv := true } (bankFlag (6 + m.val / 8) (2 ^ (8 + m.val % 8) + 2 ^ (m.val % 8)) s)))) ∧
     exec (.foreignDriveEnd m) s = .next (setOut m.val { x with fdrv := false } s)) ∧
  (∀ (x : EgEnt) (s u t : State), dioUp s = true → u = stir 10 s → egTake 3 u = (some x, t) →
     (x.item = .release → exec .releaseOrder s = .next (forN 3 bankSettle { t with dio := { t.dio with rel := true } })) ∧
     (x.item = .assume → exec .assumeOrder s = .next (forN 3 bankSettle { t with dio := { t.dio with rel := false } })) ∧
     (x.item = .marker → exec .firstPickMarker s = .next (firstPick t)))

/-- O38. CAN controllers: enable, disable, integrate, recover, receive, select, send, lose, err, request, abort and alarms (12_can_fd_controllers, R343, R345, R349, R350, R351, R352, R354, R355, R356, R357, R358).
Each clause gives the whole next state of a CAN command where it has its effect; the errors' counters move by the rules of error confinement, an accepted request raises REQ, an abort ends it, an alarm item or a FLOOD entry takes its place, and a flush empties the alarm memory. -/
def Obligations.CanControllersProceed : Prop :=
  (∀ (i : Initiator) (k : Fin 3) (s u c : State), Arrives i (CAN_CTL k.val) s u → flag u (CAN_CTL_EN k.val) = false → fget u (CAN_STAT_STATE k.val) = canOff →
     (can u k.val).closing = false → c = codeWrite (CAN_CTL k.val) (wset ((rd u (CAN_CTL k.val) ||| 1) &&& 0xFFFFFFBF) 0 0 0) u →
     (canTimingOk c k.val = true → exec (.canEnable i k) s = .next (canSync k.val (setCanState k.val canIntegrating (setF c (CAN_CTL_EN k.val))))) ∧
     (canTimingOk c k.val = false → exec (.canEnable i k) s = .next (canSync k.val (setF c (CAN_EVT_CFGERR k.val))))) ∧
  (∀ (i : Initiator) (k : Fin 3) (s u c : State), Arrives i (CAN_CTL k.val) s u → flag u (CAN_CTL_EN k.val) = true → wget (rd u (CAN_CTL k.val)) 6 6 = 0 →
     c = clrF (codeWrite (CAN_CTL k.val) (wset ((rd u (CAN_CTL k.val) &&& 0xFFFFFFFE) &&& 0xFFFFFFBF) 0 0 1) u) (CAN_CTL_EN k.val) →
     ((can u k.val).bus.isSome = true ∨ (can u k.val).rxing = true → exec (.canDisable i k) s = .next (canSync k.val (setCan k.val { can u k.val with closing := true } c))) ∧
     ((can u k.val).bus.isSome = false → (can u k.val).rxing = false → exec (.canDisable i k) s = .next (canSync k.val (canClose k.val c)))) ∧
  (∀ (i : Initiator) (k : Fin 3) (s u : State), Arrives i (CAN_CTL k.val) s u → flag u (CAN_CTL_EN k.val) = true → fget u (CAN_STAT_STATE k.val) = canBusOff →
     exec (.canRecover i k) s = .next (canSync k.val (setCanState k.val canRecovering
       (codeWrite (CAN_CTL k.val) (wset ((rd u (CAN_CTL k.val) ||| 0x40) &&& 0xFFFFFFBF) 0 0 1) u)))) ∧
  (∀ (k : Fin 3) (s u : State), commsUp s = true → u = stir 11 s →
     (fget u (CAN_STAT_STATE k.val) = canIntegrating → exec (.canIntegrationComplete k) s = .next (canSync k.val (canConfine k.val (setCanState k.val canActive u)))) ∧
     (fget u (CAN_STAT_STATE k.val) = canRecovering → exec (.canRecoveryComplete k) s =
       .next (canSync k.val (setF (setCanState k.val canActive (setCan k.val { can u k.val with tec := 0, rxe := 0 } u)) (CAN_EVT_RECOVERED k.val))))) ∧
  (∀ (k : Fin 3) (id : BitVec 29) (ide rtr fdf brs esi : Bool) (dlc : BitVec 4) (data : BitVec 512) (s u : State) (f : CanFrame),
     canOnline s k.val = true → fget s (CAN_CTL_MODE k.val) ≠ 3 → (can s k.val).bus = none → u = stir 11 s →
     f = { id := if ide then id.toNat else id.toNat % 2048, ide := ide, rtr := rtr && !fdf, fdf := fdf, brs := fdf && brs, esi := fdf && esi, dlc := dlc.toNat
           data := bytesOf (if rtr && !fdf then 0 else canLen fdf dlc.toNat) data.toNat } →
     (fdf = true → flag u (CAN_CTL_FDEN k.val) = false → exec (.canFrameReceived k id ide rtr fdf brs esi dlc data) s =
       .next (canIdle k.val (canCount k.val (can u k.val).tec ((can u k.val).rxe + 1) (canError k.val 2 false u)))) ∧
     (fdf = false ∨ flag u (CAN_CTL_FDEN k.val) = true → exec (.canFrameReceived k id ide rtr fdf brs esi dlc data) s =
       .next (canIdle k.val (canCount k.val (can (canAccept k.val f u) k.val).tec (recGood (can (canAccept k.val f u) k.val).rxe) (canAccept k.val f u))))) ∧
  (∀ (k : Fin 3) (s u : State), commsUp s = true → u = stir 11 s → (can u k.val).held ≠ [] → u.comms = [] →
     exec (.canRxPacketSend k) s = .next { u with comms := [k.val] }) ∧
  (∀ (k : Fin 3) (sof : Bool) (s u : State), canOnline s k.val = true → (can s k.val).bus = none → (can s k.val).rxing = false → flag s (CAN_CTL_EN k.val) = true → u = stir 11 s →
     (∀ w f, fget s (CAN_CTL_MODE k.val) = 0 ∨ fget s (CAN_CTL_MODE k.val) = 3 → canWinner (canPending s k.val) = some (w, f) →
       exec (.canFrameSelection ⟨k, sof⟩) s = .next (canSync k.val (setCan k.val { can s k.val with bus := some { who := w, frame := withEsi s k.val f } } u))) ∧
     (fget s (CAN_CTL_MODE k.val) ≠ 3 → (fget s (CAN_CTL_MODE k.val) ≠ 0 ∨ canWinner (canPending s k.val) = none) → sof = true →
       exec (.canFrameSelection ⟨k, sof⟩) s = .next (canSync k.val (setCan k.val { can s k.val with rxing := true } u)))) ∧
  (∀ (k : Fin 3) (delay : BitVec 8) (j : Nat) (t : CanTx) (s u : State), commsUp s = true → u = stir 11 s → (can u k.val).bus = some t → t.who = .host j →
     (fget u (CAN_CTL_MODE k.val) ≠ 3 → j < 64 → t.frame.fdf = false ∨ t.frame.brs = false →
       exec (.canFrameTransmitted ⟨k, delay⟩) s = .next (canIdle k.val (canCount k.val ((can u k.val).tec - 1) (can u k.val).rxe
       (setF (setF (clrF u (CAN_MBSTAT_REQ k.val j)) (CAN_MBSTAT_DONE k.val j)) (CAN_EVT_TXDONE k.val))))) ∧
     (∀ v, v = canAborted k.val j u → t.abort = true ∨ flag u (CAN_MBCFG_ONESHOT k.val j) = true →
       exec (.canArbitrationLost k) s = .next (canSync k.val (setCan k.val { can v k.val with bus := none, rxing := true } v))) ∧
     (t.abort = false → flag u (CAN_MBCFG_ONESHOT k.val j) = false →
       exec (.canArbitrationLost k) s = .next (canSync k.val (setCan k.val { can u k.val with bus := none, rxing := true } u)))) ∧
  (∀ (k : Fin 3) (code : Fin 7) (data exc : Bool) (s u : State), canOnline s k.val = true → u = stir 11 s →
     (∀ v, code.val = 0 → flag u (CAN_CTL_PXE k.val) = true → v = setF (bump (if (can u k.val).bus.isSome = true then canFailed k.val u else canIdle k.val u) (CAN_ERRCNT_PXCNT k.val)) (CAN_EVT_PX k.val) →
       ((can u k.val).closing = false → exec (.canBusError k code data exc) s = .next (canSync k.val (setCanState k.val canIntegrating v))) ∧
       ((can u k.val).closing = true → exec (.canBusError k code data exc) s = .next v)) ∧
     (code.val ≠ 0 ∨ flag u (CAN_CTL_PXE k.val) = false → (can u k.val).bus = none → exec (.canBusError k code data exc) s =
       .next (canIdle k.val (canCount k.val (can u k.val).tec ((can u k.val).rxe + if exc then 8 else 1) (canError k.val (if code.val = 0 then 2 else code.val) data u)))) ∧
     (code.val ≠ 0 ∨ flag u (CAN_CTL_PXE k.val) = false → (can u k.val).bus.isSome = true → exec (.canBusError k code data exc) s =
       .next (canFailed k.val (canCount k.val (if exc then (can u k.val).tec else (can u k.val).tec + 8) (can u k.val).rxe
         (canError k.val (if code.val = 0 then 2 else code.val) data u))))) ∧
  (∀ (i : Initiator) (k : Fin 3) (j : Fin 64) (s u c : State), Arrives i (CAN_MBSTAT k.val j.val) s u → c = codeWrite (CAN_MBSTAT k.val j.val) 0 u → fget c (CAN_MBCFG_ROLE k.val j.val) = 2 →
     exec (.canTxRequest i k j) s = .next (setF c (CAN_MBSTAT_REQ k.val j.val)) ∧
     ((can c k.val).bus.map (·.who) = some (.host j.val) → exec (.canTxAbort i k j) s =
       .next (setCan k.val { can c k.val with bus := (can c k.val).bus.map (fun t => { t with abort := true }) } c)) ∧
     ((can c k.val).bus.map (·.who) ≠ some (.host j.val) → flag c (CAN_MBSTAT_REQ k.val j.val) = true → exec (.canTxAbort i k j) s = .next (canAborted k.val j.val c))) ∧
  (∀ (x : EgEnt) (s u t : State), commsUp s = true → u = stir 11 s → egTake 1 u = (some x, t) →
     (∀ id st first last n fan, x.item = .state id st first last n fan → exec .canAlarmItem s = .next (canItem (wget fan 29 28) id (wget fan 21 16) st first last n x.seq t)) ∧
     (∀ f, x.item = .flood f → exec .canFloodItem s = .next (forN 3 (canFlood f) t))) ∧
  (∀ (k id mbox : Nat) (st : Word) (first last : BitVec 64) (n q : Nat) (s : State),
     (fget s (CAN_MBCFG_ROLE k mbox) ≠ 3 → canItem k id mbox st first last n q s = setF (bump s (CAN_ALMCNT_FANLOST k)) (CAN_EVT_FANLOST k)) ∧
     (fget s (CAN_MBCFG_ROLE k mbox) = 3 → (tabGet (fun _ => {}) (can s k).alarms id).rep = 0 → (can s k).bus = none → canItem k id mbox st first last n q s =
       canSync k (setCan k { can s k with
         alarms := tabSet (fun _ => {}) (can s k).alarms id { st := st, rep := n, first := first, last := last, mbox := mbox, seq := q, fresh := false } } s))) ∧
  (∀ (i : Initiator) (k : Fin 3) (s u c : State), Arrives i (CAN_ALMCTL k.val) s u → c = codeWrite (CAN_ALMCTL k.val) ((rd u (CAN_ALMCTL k.val) ||| 0x40000000) &&& 0xBFFFFFFF) u →
     (can c k.val).bus = none → exec (.canAlarmFlush i k) s = .next (canSync k.val (setCan k.val { can c k.val with alarms := [], flood := none, late := none } c)))

/-- O39. Ethernet ports, SPI target and UART: frames, commands, captures, links, transactions and bytes (13_ethernet_and_host_links, R363, R364, R365, R366, R367, R370, R371, R372, R378, R379).
Each clause gives the whole next state of a command of the links where it has its effect: a frame is filtered, counted or stored, the buffer released, a slot queued and its frame ended, a capture read, the link and the port changed, an SPI transaction begun and ended, a byte sent, taken and received. -/
def Obligations.LinksProceed : Prop :=
  (∀ (p : Fin 2) (f : List Byte) (back : BitVec 8) (sub : BitVec 16) (s u v : State), commsUp s = true → u = stir 11 s →
     v = setPort p.val { ethPort u p.val with offAt := none } u →
     (ethListens u p.val back.toNat = false → ∀ bad, exec (.ethFrameReceived p f bad back sub) s = .next v) ∧
     (ethListens u p.val back.toNat = true →
     exec (.ethFrameReceived p f true back sub) s = .next (bump v (ETH_CNT_RXBAD p.val)) ∧
     (f.length < 60 ∨ 1518 < f.length → exec (.ethFrameReceived p f false back sub) s = .next (bump v (ETH_CNT_RXBAD p.val))) ∧
     (60 ≤ f.length → f.length ≤ 1518 → isPause f = true ∨ ethAccepts v p.val (f.take 6) = false →
       exec (.ethFrameReceived p f false back sub) s = .next (bump v (ETH_FCNT_FILTERED p.val))) ∧
     (60 ≤ f.length → f.length ≤ 1518 → isPause f = false → ethAccepts v p.val (f.take 6) = true →
       exec (.ethFrameReceived p f false back sub) s = .next (
         let d := f.take 6
         let e := exactEntry v p.val d
         let r := ptpCapture p.val f ⟨commsShadow u back.toNat, sub⟩ v
         ethStore p.val (f.length + (isMulticast d).toNat * 2 ^ 16 + (isBroadcast d).toNat * 2 ^ 17 + e.getD 0 * 2 ^ 18 + e.isSome.toNat * 2 ^ 21 + r.2.toNat * 2 ^ 22) f r.1)))) ∧
  (∀ (i : Initiator) (p : Fin 2) (v : Word) (s u : State), Arrives i (ETH_RXTAIL p.val) s u →
     (wget v 1 0 = 0 → exec (.ethRxRelease i p v) s = .next (codeWrite (ETH_RXTAIL p.val) v u)) ∧ (wget v 1 0 ≠ 0 → exec (.ethRxRelease i p v) s = .next u)) ∧
  (∀ (i : Initiator) (p : Fin 2) (v : Word) (s u : State), Arrives i (ETH_TXCMD p.val) s u → wget v 10 0 ≤ 1518 → (ethPort u p.val).cmds.any (fun c => c.1 == wget v 17 16) = false →
     (wget v 10 0 ≠ 0 → exec (.ethTxCommand i p v) s = .next (setBit (setPort p.val { ethPort u p.val with
       cmds := (ethPort u p.val).cmds ++ [(wget v 17 16, wget v 10 0)] } u) (ETH_STAT_TXREQ p.val) (wget v 17 16))) ∧
     (wget v 10 0 = 0 → exec (.ethTxCommand i p v) s = .next (setBit u (ETH_TXSTAT_DONE p.val) (wget v 17 16)))) ∧
  (∀ (p : Fin 2) (k n : Nat) (l : List (Nat × Nat)) (f : List Byte) (s u : State), commsUp s = true → u = stir 11 s → (ethPort u p.val).cmds = (k, n) :: l → flag u (ETH_CTL_EN p.val) = true → flag u (ETH_STAT_LINK p.val) = true →
     f = bytesAt u.links.mem (txSlot p.val k) n ++ List.replicate (60 - n) 0 →
     exec (.ethFrameTransmitted p true) s = .next (setF (setBit (clrBit (setPort p.val { ethPort u p.val with
       cmds := l, finish := false, wire := f ++ bytesOf 4 (crc32 f) } u) (ETH_STAT_TXREQ p.val) k) (ETH_TXSTAT_DONE p.val) k) (ETH_EVT_TXDONE p.val)) ∧
     (flag u (ETH_STAT_DUPLEX p.val) = false → exec (.ethFrameTransmitted p false) s = .next (setF (bump (setBit (clrBit (setPort p.val { ethPort u p.val with
       cmds := l, finish := false } u) (ETH_STAT_TXREQ p.val) k) (ETH_TXSTAT_ERR p.val) k) (ETH_FCNT_TXERRCNT p.val)) (ETH_EVT_TXERR p.val)))) ∧
  (∀ (i : Initiator) (p : Fin 2) (c : PtpCap) (l : List PtpCap) (s u : State), Fetches i (ETH_PTPSEQ p.val) s u → (ethPort u p.val).caps = c :: l →
     exec (.ptpCaptureRead i p) s = .next (setReply i ⟨BitVec.ofNat 32 (2 ^ 31 + c.seq % 65536), none⟩
       (wr (wr (setPort p.val { ethPort u p.val with caps := l } u) (ETH_PTPTLO p.val) (BitVec.ofNat 32 c.stamp.tick.toNat)) (ETH_PTPTHI p.val)
         (BitVec.ofNat 32 (c.stamp.sub.toNat * 65536 + c.stamp.tick.toNat / 2 ^ 32))))) ∧
  (∀ (i : Initiator) (p : Fin 2) (s u c : State), Arrives i (ETH_CTL p.val) s u →
     (flag u (ETH_CTL_EN p.val) = false → c = codeWrite (ETH_CTL p.val) (rd u (ETH_CTL p.val) ||| 1) u → flag c (ETH_CTL_EN p.val) = true →
       exec (.ethPortEnable i p) s = .next (setPort p.val { ethPort c p.val with enAt := edges c 11, offAt := none } c)) ∧
     (flag u (ETH_CTL_EN p.val) = true → c = codeWrite (ETH_CTL p.val) (rd u (ETH_CTL p.val) &&& 0xFFFFFFFE) u → flag c (ETH_CTL_EN p.val) = false →
       exec (.ethPortDisable i p) s = .next (ethLinkDown p.val (setPort p.val { ethPort c p.val with
         finish := flag c (ETH_STAT_LINK p.val) && !(ethPort c p.val).cmds.isEmpty
         offAt := if flag c (ETH_STAT_LINK p.val) then some (edges c 11) else none } c)))) ∧
  (∀ (p : Fin 2) (fdx : Bool) (s u : State), commsUp s = true → u = stir 11 s →
     (flag u (ETH_CTL_EN p.val) = true → flag u (ETH_STAT_LINK p.val) = false → (flag u (ETH_CTL_ANEN p.val) = true → (ethPort u p.val).enAt + 49152 ≤ edges u 11) →
       exec (.ethLinkUp p fdx) s = .next (setF (putF (setF u (ETH_STAT_LINK p.val)) (ETH_STAT_DUPLEX p.val)
       (if flag u (ETH_CTL_ANEN p.val) then fdx else flag u (ETH_CTL_FDX p.val))) (ETH_EVT_LINKUP p.val))) ∧
     (flag u (ETH_STAT_LINK p.val) = true → exec (.ethLinkDown p) s = .next (setF (clrF (clrF u (ETH_STAT_LINK p.val)) (ETH_STAT_DUPLEX p.val)) (ETH_EVT_LINKDN p.val)))) ∧
  (∀ (a : BitVec 16) (m : BitVec 8) (n : BitVec 13) (data : List Byte) (op : Byte) (k : SpiKind) (s u : State), commsUp s = true → u = stir 11 s →
     let b := fun k p => { u with links := { u.links with spi := some k, spiErr := false, spiPos := p, snap := [], miso := [] } }
     (u.links.spi = none → flag u SPI_CTL_EN = true →
       exec (.spiStatus ⟨0x05, m⟩) s = .next (setMiso (List.replicate m.toNat (spiStatusByte u)) (b .status 0)) ∧
       (a.toNat < 4096 → exec (.spiRead a n) s = .next (setMiso (spiShifts n.toNat (b .read a.toNat)).1 (spiShifts n.toNat (b .read a.toNat)).2) ∧
         exec (.spiWrite a data) s = .next (spiPut data (b .write a.toNat))) ∧
       (a.toNat < 0x800 → exec (.spiTransactionError 0x02 a) s = .next (spiPut [0] (b .write a.toNat))) ∧
       (4096 ≤ a.toNat → exec (.spiRead a n) s = .next (setMiso (List.replicate n.toNat 0) (spiError (b .read a.toNat))) ∧
         exec (.spiWrite a data) s = .next (spiError (b .write a.toNat)) ∧
         exec (.spiTransactionError 0x0B a) s = .next (setMiso [0] (spiError (b .read a.toNat))) ∧ exec (.spiTransactionError 0x02 a) s = .next (setMiso [0] (spiError (b .write a.toNat)))) ∧
       (op ≠ 0x05 → op ≠ 0x0B → op ≠ 0x02 → exec (.spiTransactionError op a) s = .next (setMiso [0] (spiError (b .other 0))) ∧
         exec (.spiStatus ⟨op, m⟩) s = .next (setMiso (List.replicate m.toNat 0) (spiError (b .other 0))))) ∧
     (flag u SPI_CTL_EN = true → u.links.spiErr = false →
       (u.links.spi = some .status → exec (.spiStatus ⟨0x05, m⟩) s = .next (setMiso (List.replicate m.toNat (spiStatusByte u)) u)) ∧
       (u.links.spi = some .read → exec (.spiRead a n) s = .next (setMiso (spiShifts n.toNat u).1 (spiShifts n.toNat u).2)) ∧
       (u.links.spi = some .write → exec (.spiWrite a data) s = .next (spiPut data u))) ∧
     (u.links.spi = none → flag u SPI_CTL_EN = false → exec (.spiStatus ⟨0x05, m⟩) s = .next (setMiso (List.replicate m.toNat 0) u) ∧
       exec (.spiRead a n) s = .next (setMiso (List.replicate n.toNat 0) u)) ∧
     (u.links.spi = some k → exec .spiCsRise s = .next (
       let t := bump (setF { u with links := { u.links with spi := none, spiErr := false } } SPI_EVT_CSEND) SPI_CNT_XFERCNT
       if k = .write then setF t SPI_EVT_SWR else t)) ∧
     (u.links.spi = none → flag u SPI_CTL_EN = true → exec .spiCsRise s = .next (setF u SPI_EVT_CSEND))) ∧
  (∀ (i : Initiator) (v : Word) (s u : State),
     (Arrives i UART_DATA s u → u.links.tx.length < 64 → exec (.uartSend i v) s = .next { u with links := { u.links with tx := u.links.tx ++ [v.truncate 8] } }) ∧
     (Arrives i UART_DATA s u → 64 ≤ u.links.tx.length → exec (.uartSend i v) s = .next (setF u UART_EVT_TXOVF)) ∧
     (∀ b fe l, Fetches i UART_DATA s u → u.links.rx = (b, fe) :: l → exec (.uartTake i) s =
       .next (setReply i ⟨BitVec.ofNat 32 (2 ^ 31 + fe.toNat * 256 + b.toNat), none⟩ { u with links := { u.links with rx := l } })) ∧
     (Fetches i UART_DATA s u → u.links.rx = [] → exec (.uartTake i) s = .next (setReply i ⟨0, none⟩ u))) ∧
  (∀ (b : Byte) (s u : State), commsUp s = true → u = stir 11 s → flag u UART_CTL_EN = true → u.links.rx.length < 64 →
     exec (.uartByteReceived b false) s = .next { u with links := { u.links with rx := u.links.rx ++ [(b, false)] } } ∧
     exec (.uartByteReceived b true) s = .next (setF { u with links := { u.links with rx := u.links.rx ++ [(b, true)] } } UART_EVT_FRAMERR))

/-- O40. An edge of the tick oscillator: halt and missed ticks, increment, count and what a load ends (14_tick_counter_and_calendar, R381, R382, R383, R387, R388, R397, R399).
The edge answers a next state whose count is the old count plus 0, 1 or 2 by the accumulator and the trim in force, or, where a count load is pending, the loaded value with the missed ticks added if ADDMISS and HALT are set; the accumulator follows; a load ends a HALT set before the edge, sets SETSEEN and LOADDONE and clears the command bits; an OSF clear of the host takes effect at the edge if SETSEEN is set there, by the load of that edge too; MISSED counts the edges of a halt; the reads of the window made since the edge before are answered; no register outside the TICK block changes. -/
def Obligations.TickEdgeAdvancesCount : Prop :=
  ∀ s : State, ∃ t, exec .tickEdge s = .next t ∧
    (flag s TICK_CMD_LOADCNT = false → t.tick.count = s.tick.count + BitVec.ofNat 48 (tickInc (flag s TICK_CTL_HALT) s.tick.acc s.tick.trim).1.val) ∧
    edgeHalt s = (if flag s TICK_CMD_LOADCNT then (flag s TICK_CTL_HALT && !s.tick.haltNext) || s.tick.haltEnd else flag s TICK_CTL_HALT) ∧
    (flag s TICK_CMD_LOADCNT = true → t.tick.count = BitVec.ofNat 48 (fget s TICK_SETHI_SETCNT * 2 ^ 32 + fget s TICK_SETLO_SETCNT) +
      BitVec.ofNat 48 (if flag s TICK_CTL_ADDMISS = true ∧ edgeHalt s = true then min (fget s TICK_MISSED_MISSED + 1) (2 ^ 32 - 1) else 0)) ∧
    t.tick.acc = (tickInc (edgeHalt s) s.tick.acc s.tick.trim).2 ∧ t.tick.trim = trimValue s ∧
    (flag s TICK_CMD_LOADCNT = true ∨ flag s TICK_CMD_LOADCAL = true → flag t TICK_EVT_LOADDONE = true ∧ flag t TICK_CMD_LOADCNT = false ∧
      flag t TICK_CMD_LOADCAL = false ∧ flag t TICK_STAT_LOADPEND = false) ∧
    (flag s TICK_CMD_LOADCNT = true → flag t TICK_CTL_HALT = (flag s TICK_CTL_HALT && s.tick.haltNext) ∧ (s.tick.osfClr = false → flag t TICK_STAT_SETSEEN = true)) ∧
    (s.tick.osfClr = true → flag s TICK_STAT_SETSEEN = true ∨ flag s TICK_CMD_LOADCNT = true → flag t TICK_STAT_OSF = false ∧ flag t TICK_STAT_SETSEEN = false) ∧
    (edgeHalt s = true → fget t TICK_MISSED_MISSED = min (fget s TICK_MISSED_MISSED + 1) (2 ^ 32 - 1)) ∧
    (∀ a, a / 0x100000 ≠ 0x209 → rd t a = rd s a) ∧ t.life = s.life ∧ t.sys.power = s.sys.power ∧ t.tick.reads = []

/-- O41. The increment of an edge by the trim accumulator (14_tick_counter_and_calendar, R383, R394).
Halted, the increment is 0 and the accumulator stays; else the trim is added, and from 2^20 on the edge adds 2 and from -2^20 down it adds 0, the accumulator going back by 2^20. -/
def Obligations.TickStepOfAccumulator : Prop :=
  ∀ (acc trim : Int), (tickInc true acc trim = (0, acc)) ∧
    (acc + trim ≥ 1048576 → tickInc false acc trim = (2, acc + trim - 1048576)) ∧
    (acc + trim ≤ -1048576 → tickInc false acc trim = (0, acc + trim + 1048576)) ∧
    (-1048576 < acc + trim → acc + trim < 1048576 → tickInc false acc trim = (1, acc + trim))

/-- O42. Loads, halts, captures, trim, alarms, MAINSREF and OSF (14_tick_counter_and_calendar, R387, R388, R389, R392, R393, R394, R395, R396, R397, R399).
Each clause gives the whole next state of a TICK command where it has its effect: a load requested, a capture of slot 0, HALT set and cleared, a trim in range, an alarm armed and fired, an edge of MAINSREF that opens and one that closes a window, its loss, OSF set by the detector and by SYS, and OSF cleared after a set. -/
def Obligations.TickCommandsComplete : Prop :=
  (∀ (i : Initiator) (s u : State), Arrives i TICK_CMD s u → fget u TICK_CMD_LOADCAL = 0 → fget u TICK_CMD_LOADCNT ≤ 1 →
     exec (.loadcnt i) s = .next (setF (fset (setF u TICK_CMD_LOADCNT) TICK_CMD_LOADCAL 0) TICK_STAT_LOADPEND)) ∧
  (∀ (i : Initiator) (s u : State), Arrives i TICK_CMD s u → fget u TICK_CMD_LOADCNT = 0 → fget u TICK_CMD_LOADCAL ≤ 1 →
     exec (.loadcal i) s = .next (setF (setF (fset u TICK_CMD_LOADCNT 0) TICK_CMD_LOADCAL) TICK_STAT_LOADPEND)) ∧
  (∀ (i : Initiator) (s u : State), Arrives i TICK_CMD s u → ∃ t, exec (.cap0 i) s = .next t ∧
     tabGet (fun _ => 0) t.tick.capReq 0 = 1 ∧ t.tick.count = u.tick.count) ∧
  (∀ (i : Initiator) (s u : State), Arrives i TICK_CTL s u → flag u TICK_CTL_HALT = false →
     exec (.haltSet i) s = .next { wr (setF u TICK_CTL_HALT) TICK_MISSED 0 with tick := { u.tick with haltNext := true, haltEnd := false } }) ∧
  (∀ (i : Initiator) (s u : State), Arrives i TICK_CTL s u → flag u TICK_CTL_HALT = true →
     exec (.haltClear i) s = .next { clrF u TICK_CTL_HALT with tick := { u.tick with haltNext := false, haltEnd := !u.tick.haltNext } }) ∧
  (∀ (i : Initiator) (v : Word) (s u : State), Arrives i TICK_TRIM s u →
     (flag u TICK_CTL_LOCK = false → wget v 10 0 ≠ 0x400 → exec (.trimWrite i v) s = .next (fset u TICK_TRIM_TRIM (wget v 10 0))) ∧
     (flag u TICK_CTL_LOCK = true ∨ wget v 10 0 = 0x400 → exec (.trimWrite i v) s = .next u)) ∧
  (∀ (i : Initiator) (n : Fin 4) (v : Word) (s u : State), Arrives i (TICK_ALMHI n.val) s u → ∃ t, exec (.tickAlarmArm i n v) s = .next t ∧
     t.regs = (fset (fset u (TICK_ALMHI_ALM n.val) (wget v 15 0)) (TICK_ALMHI_ARM n.val) (wget v 31 31)).regs ∧
     tabGet (fun _ => false) t.tick.late n.val =
       (wget v 31 31 == 1 && decide (u.tick.count.toNat ≥ alarmValue (fset (fset u (TICK_ALMHI_ALM n.val) (wget v 15 0)) (TICK_ALMHI_ARM n.val) (wget v 31 31)) n.val)) ∧
     t.tick.count = u.tick.count) ∧
  (∀ (n : Fin 4) (d : AlarmDue) (s : State), d = tabGet (fun _ => {}) s.tick.due n.val → d.due = true → flag s (TICK_ALMHI_ARM n.val) = true →
     ∃ t, exec (.tickAlarmFire n) s = .next t ∧
       t.regs = (fset (setBit (clrF s (TICK_ALMHI_ARM n.val)) TICK_EVT_ALM n.val) ⟨TICK_ALMSTAT, 4 * n.val + 1, 4 * n.val⟩
         (2 * d.past.toNat + d.skipped.toNat)).regs ∧ t.tick.count = s.tick.count ∧ t.sys = s.sys) ∧
  (∀ (s : State) (n : Nat) (k : TickSt), n = fget s TICK_MREFCFG_CYC → k = { s.tick with mrefQual := false, mrefGap := 0 } →
     flag s TICK_CTL_MREFEN = true → flag s SYS_SUPSTAT_VAUXOK = true → s.tick.mrefQual = true →
     (n ≠ 0 → s.tick.mrefOpen = false →
       exec .mainsrefEdge s = .next { s with tick := { k with mrefOpen := true, mrefCyc := 0, mrefTick := 0 } }) ∧
     (s.tick.mrefOpen = true → s.tick.mrefCyc + 1 < n →
       exec .mainsrefEdge s = .next { s with tick := { k with mrefCyc := s.tick.mrefCyc + 1 } }) ∧
     (n ≠ 0 → s.tick.mrefOpen = true → n ≤ s.tick.mrefCyc + 1 → ∃ t, exec .mainsrefEdge s = .next t ∧
       t.regs = (setF (setF (fset s TICK_MREFRES_TICKS s.tick.mrefTick) TICK_MREFRES_VALID) TICK_EVT_MREFDONE).regs ∧
       t.tick = { k with mrefOpen := true, mrefCyc := 0, mrefTick := 0 }) ∧
     (n = 0 → ∃ t, exec .mainsrefEdge s = .next t ∧ t.regs = (setF (setF (fset s TICK_MREFRES_TICKS 0) TICK_MREFRES_VALID) TICK_EVT_MREFDONE).regs ∧
       t.tick = { k with mrefOpen := true, mrefCyc := 0, mrefTick := 0 })) ∧
  (∀ s : State, flag s TICK_CTL_MREFEN = true → flag s SYS_SUPSTAT_VAUXOK = true → s.tick.mrefOpen = true → 3277 ≤ s.tick.mrefGap →
     exec .mainsrefLoss s = .next { setF s TICK_EVT_MREFLOSS with tick := { s.tick with mrefOpen := false, mrefCyc := 0, mrefTick := 0 } }) ∧
  (∀ s : State, ∃ t, t.regs = (setF (clrF (setF s TICK_STAT_OSF) TICK_STAT_SETSEEN) TICK_EVT_OSFSET).regs ∧
     t.tick = { s.tick with osfClr := false } ∧ exec .oscDetectorTimeout s = .next t ∧ (islUp s 0 = true → exec .sysTickLoss s = .next t)) ∧
  (∀ s u : State, Arrives .host TICK_STAT s u → exec (.osfClear .host) s = .next { u with tick := { u.tick with osfClr := true } })

/-- O43. The recorder takes items, opens and closes series, serves the cursor; the page queue and NAND operations proceed (15_event_recorder_and_storage, R403, R404, R405, R407, R408, R411, R412, R415, R422, R423, R424).
Each clause gives the whole next state of a STORE command where it has its effect: an item of path 0 is applied and taken, or counted while frozen; a series opens and closes; a close copies its series; the calendar loads; the cursor starts, completes and is read; the page is queued; a NAND operation is requested, granted and ended; programming is suspended and resumed; the log is located. -/
def Obligations.RecorderAndStorageProceed : Prop :=
  (∀ (s u : State) (x : EgItem) (e : EgEnt), islUp s 12 = true → flag s STORE_STAT_READY = true → (egTake 0 s).1 = some e → e.item = x → u = rouse 12 s →
     (flag u REC_STAT_FROZEN = false →
       (∀ k b, x = .hist k b → exec .recorderHistIncrement s = .next (egTake 0 (recHist (k % 4096) (b % 32) u)).2) ∧
       (∀ k v t, x = .extreme k v t → exec .recorderExtremeOffer s = .next (egTake 0 (recExtr (k % 4096) v t u)).2) ∧
       (∀ id st f l n fan, x = .state id st f l n fan → (recState id n st f l u).2 = true → exec .recorderStateChange s = .next (egTake 0 (recState id n st f l u).1).2) ∧
       (∀ f, x = .flood f → (recAppend 4 (floodBody f) u).2 = true → exec .recorderFlood s = .next (egTake 0 (recAppend 4 (floodBody f) u).1).2)) ∧
     (flag u REC_STAT_FROZEN = true → (∀ k b, x = .hist k b → exec .recorderHistIncrement s = .next (egTake 0 (bump u REC_CNT_FROZDISC)).2) ∧
       (∀ k v t, x = .extreme k v t → exec .recorderExtremeOffer s = .next (egTake 0 (bump u REC_CNT_FROZDISC)).2) ∧
       (∀ id st f l n fan, x = .state id st f l n fan → exec .recorderStateChange s = .next (egTake 0 (bump u REC_CNT_FROZDISC)).2) ∧
       (∀ f, x = .flood f → exec .recorderFlood s = .next (egTake 0 (bump u REC_CNT_FROZDISC)).2))) ∧
  (∀ (i : Initiator) (k : Fin 4096) (v : Word) (s u c : State),
     (Arrives i (REC_HDESC k.val) s u → getBit u ⟨REC_HDESC k.val, 31, 0⟩ 31 = false → exec (.seriesEnable i false k v) s =
       .next (openHist k.val 0 1 (codeWrite (REC_HDESC k.val) (v ||| 0x80000000) u))) ∧
     (Arrives i (REC_XDESC k.val) s u → getBit u ⟨REC_XDESC k.val, 31, 0⟩ 31 = false → exec (.seriesEnable i true k v) s =
       .next (openExtr k.val 0 1 (codeWrite (REC_XDESC k.val) (v ||| 0x80000000) u))) ∧
     (Arrives i (REC_HDESC k.val) s u → getBit u ⟨REC_HDESC k.val, 31, 0⟩ 31 = true →
       c = dropFromClose false k.val 1 (dropFromClose false k.val 0 (codeWrite (REC_HDESC k.val) (v &&& 0x7FFFFFFF) u)) →
       exec (.seriesDisable i false k v) s = .next (setHist k.val { gen := genUp (liveHist c k.val).gen } c)) ∧
     (Arrives i (REC_XDESC k.val) s u → getBit u ⟨REC_XDESC k.val, 31, 0⟩ 31 = true →
       c = dropFromClose true k.val 1 (dropFromClose true k.val 0 (codeWrite (REC_XDESC k.val) (v &&& 0x7FFFFFFF) u)) →
       exec (.seriesDisable i true k v) s = .next (setExtr k.val { gen := genUp (liveExtr c k.val).gen } c))) ∧
  (∀ (n : Fin 2) (s u : State), islUp s 12 = true → u = rouse 12 s →
     ((tabGet (fun _ => {}) u.store.due n.val).due = true → exec (.periodClose n) s =
       .next (closeClock n.val (tabGet (fun _ => {}) u.store.due n.val).skip (setStore { u.store with due := tabSet (fun _ => {}) u.store.due n.val {} } u))) ∧
     (∀ x k l, (closeJob u n.val).todo = (x, k) :: l → (copySeries n.val x k (closeJob u n.val).skip u).2 = true →
       exec (.seriesCopy n) s = .next (setCloseJob n.val { closeJob u n.val with todo := l } (copySeries n.val x k (closeJob u n.val).skip u).1)) ∧
     (∀ x k l, (closeJob u n.val).todo = (x, k) :: l → (copySeries n.val x k (closeJob u n.val).skip u).2 = false →
       exec (.seriesCopy n) s = .next (copySeries n.val x k (closeJob u n.val).skip u).1)) ∧
  (∀ (i : Initiator) (n : Fin 2) (v : Word) (s u : State),
     (Arrives i REC_CMD s u → exec (.recClose i n) s = .next (closeNow n.val u) ∧ exec (.calload i) s = .next (calLoad u) ∧
       exec (.recFlush i) s = .next (completePage u) ∧ exec (.recNext i) s = .next (startLoad (fset u REC_CURIDX_IDX (fget u REC_CURIDX_IDX + 1)))) ∧
     (Arrives i REC_CURIDX s u → exec (.cursorLoad i v) s = .next (startLoad (fset u REC_CURIDX_IDX v.toNat)))) ∧
  (∀ (c : CurLoad) (st : Nat) (s u t : State), islUp s 12 = true → u = rouse 12 s → u.store.cursor = some c → flag u REC_CURSTAT_BUSY = true → loadStatus u c = some st →
     t = setStore { u.store with cursor := some { c with status := some st } } (clrF (fset u REC_CURSTAT_STATUS st) REC_CURSTAT_BUSY) →
     exec .cursorLoadComplete s = .next (setStore { (forL u.store.held (fun h s => setReply h.1 ⟨windowWord s h.2, none⟩ s) t).store with held := [] }
       (forL u.store.held (fun h s => setReply h.1 ⟨windowWord s h.2, none⟩ s) t))) ∧
  (∀ (k : Fin 64) (s : State), accError s (0x20800800 + 4 * k.val) = none →
     (flag (rouse 12 s) REC_CURSTAT_BUSY = false → exec (.recWindowRead .host k) s = .next (setReply .host ⟨windowWord (rouse 12 s) k.val, none⟩ (rouse 12 s))) ∧
     (flag (rouse 12 s) REC_CURSTAT_BUSY = true → exec (.recWindowRead .host k) s =
       .next (setStore { (rouse 12 s).store with held := (rouse 12 s).store.held ++ [(.host, k.val)] } (rouse 12 s)))) ∧
  (∀ (p : QPage) (s u : State), islUp s 12 = true → u = rouse 12 s → u.store.openPg = some p → p.since + 1024 * fget u REC_CFG_FLUSHT ≤ edges u 12 → flag u STORE_STAT_SUSP = false →
     exec .flushTimeout s = .next (completePage u)) ∧
  (∀ (i : Initiator) (part : Fin 4) (s u : State), Arrives i STORE_NCMD s u → let w := fset u STORE_NCMD_PART part.val
     exec (.nandRead i part) s = .next (nandCommand 1 part.val w) ∧ exec (.nandProgram i part) s = .next (nandCommand 2 part.val w) ∧ exec (.nandErase i part) s = .next (nandCommand 3 part.val w)) ∧
  (∀ (op part base n : Nat) (s : State), flag s STORE_NCMD_BUSY = false → partition part = some (base, n) → fget s STORE_NADDR_BLOCK < n → base + fget s STORE_NADDR_BLOCK ≠ 126 → base + fget s STORE_NADDR_BLOCK ≠ 127 →
     blockGood s (base + fget s STORE_NADDR_BLOCK) = true →
     (op = 1 → nandCommand op part s = setF (clrF (setStore { s.store with hostReq := some (.hostRead (32 * (base + fget s STORE_NADDR_BLOCK) + fget s STORE_NADDR_PAGE)) } s) STORE_NRES_VALID) STORE_NCMD_BUSY) ∧
     (op = 2 ∨ op = 3 → part = 2 → s.life.state ≠ .custody → flag s STORE_STAT_SUSP = false → nandCommand op part s =
       setF (clrF (setStore { s.store with hostReq := some (if op = 2 then .hostProgram (32 * (base + fget s STORE_NADDR_BLOCK) + fget s STORE_NADDR_PAGE) (bufPage s)
         else .hostErase (base + fget s STORE_NADDR_BLOCK)) } s) STORE_NRES_VALID) STORE_NCMD_BUSY) ∧
     (op = 2 ∨ op = 3 → part = 2 → s.life.state ≠ .custody → flag s STORE_STAT_SUSP = true → nandCommand op part s = nandEnd 5 s) ∧
     (op = 2 ∨ op = 3 → part = 1 → nandCommand op part s = nandEnd 4 s)) ∧
  (∀ (l : Nat) (fail : Bool) (ecc : EccBits) (s u : State), islUp s 12 = true → u = rouse 12 s →
     (∀ o, u.store.op = none → nandPick u = some l → nandWaiting u l = some o → (∀ b, o ≠ .erase b) → exec .nandOperationGrant s = .next (setStore { u.store with
       op := some o, ages := tabSet (fun _ => 0) u.store.ages l 0, hostReq := if l = 1 then none else u.store.hostReq } u)) ∧
     (∀ b, u.store.op = some (.hostErase b) → exec (.nandOperationComplete false ecc) s = .next (nandEnd 0 (nandErase b (setStore { u.store with op := none } u))) ∧
       exec (.nandOperationComplete true ecc) s = .next (nandEnd 6 (retireBlock b (setStore { u.store with op := none } u)))) ∧
     (∀ p, u.store.op = some (.program p) → exec (.nandOperationComplete fail ecc) s = .next (recordEnd p fail (setStore { u.store with op := none } u))) ∧
     (∀ p, u.store.op = some (.hostRead p) → exec (.nandOperationComplete fail ecc) s = .next (hostReadEnd p ecc (setStore { u.store with op := none } u)))) ∧
  (∀ s : State, islUp s 12 = true → flag s STORE_STAT_READY = false →
     (logScan s = none → exec .storeLogLocated s = .next (owe 1 (setF (setStore { s.store with hblk := if blockGood s 128 then 128 else nextGood s 1536 128, hpg := 0, seq := 1 } s) STORE_STAT_READY))) ∧
     (∀ hi pg lo, logScan s = some (hi, pg, lo) → exec .storeLogLocated s = .next (owe 1 (setF (fset (fset (setStore
       { s.store with hblk := pg / 32, hpg := pg % 32 + 1, seq := (hi + 1) % 2 ^ 32 } s) REC_HEAD_SEQ hi) REC_TAIL_SEQ lo) STORE_STAT_READY)))) ∧
  (∀ (t : BitVec 12) (s u : State), islUp s 12 = true → u = fset (rouse 12 s) STORE_STAT_NTEMP t.toNat →
     (500 < t.toInt → flag u STORE_STAT_SUSP = false → u.store.hostReq = none → exec (.nandProgramSuspend t) s = .next (setF (setF u STORE_STAT_SUSP) STORE_EVT_SUSP)) ∧
     (500 < t.toInt → flag u STORE_STAT_SUSP = false → ∀ b, u.store.hostReq = some (.hostErase b) → exec (.nandProgramSuspend t) s =
       .next (nandEnd 5 (setStore { u.store with hostReq := none } (setF (setF u STORE_STAT_SUSP) STORE_EVT_SUSP)))) ∧
     (t.toInt ≤ 500 → exec (.nandProgramSuspend t) s = .next u) ∧
     (t.toInt < 480 → flag u STORE_STAT_SUSP = true → exec (.nandProgramResume t) s = .next (setStore { u.store with drain := u.store.pages.length } (setF (clrF u STORE_STAT_SUSP) STORE_EVT_RESUME))) ∧
     (480 ≤ t.toInt → exec (.nandProgramResume t) s = .next u))

/-- O44. The LCD starts, frames and stops; the annunciator updates and clears; glyphs and FLOOD entries are applied (16_display_drivers, R432, R433, R434, R435, R436, R439, R440, R441, R442, R443, R444).
Each clause gives the whole next state of a DISP command where it has its effect: the LCD is enabled and reaches its target, a frame ends within tolerance, a pump retry waits, a reading is taken, targets are written, an update and a clearing refresh start and end with the marker, an item of path 2 and the Reeve's word are applied. -/
def Obligations.DisplayDriversProceed : Prop :=
  (∀ (i : Initiator) (s u c : State), Arrives i DISP_CTL s u →
     (c = ladderShow (codeWrite DISP_CTL (rd u DISP_CTL ||| 1) u) → flag u DISP_CTL_LCDEN = false → flag c DISP_CTL_LCDEN = true → flag c DISP_LCDSTAT_RUN = false →
       exec (.lcdEnable i) s = .next (evenFrame (setDisp { c.disp with frame := 0, bad := 0 } c))) ∧
     (c = ladderShow (codeWrite DISP_CTL (rd u DISP_CTL &&& 0xFFFFFFFE) u) → flag u DISP_CTL_LCDEN = true → exec (.lcdDisable i) s = .next c)) ∧
  (∀ (v : BitVec 8) (s u : State), dispUp s = true → u = stir 13 s →
     (flag u DISP_CTL_LCDEN = true → flag u DISP_LCDSTAT_RUN = false → onLadder u = true ∨ vlcdOk u v.toNat = true → exec (.lcdPumpReady v) s = .next (
       let t := fset u DISP_LCDSTAT_VMEAS v.toNat
       setF (putF (evenFrame (setDisp { t.disp with frame := 0, bad := 0 } t)) DISP_LCDSTAT_PUMPOK (!onLadder t)) DISP_LCDSTAT_RUN)) ∧
     (flag u DISP_LCDSTAT_RUN = true → frameOver u = true → exec (.lcdFrameEnd v) s = .next (frameEnd v.toNat u)) ∧
     (flag u DISP_LCDSTAT_RUN = false ∨ frameOver u = false → exec (.lcdFrameEnd v) s = .next u)) ∧
  (∀ (f c land : Nat), (commonLevel f c c = if (f + c) % 2 = 0 then 4 else 0) ∧ (land ≠ c → commonLevel f c land = if (f + c) % 2 = 0 then 1 else 3) ∧
     (segmentLevel f c false = 2) ∧ (segmentLevel f c true = 4 - commonLevel f c c) ∧
     (∀ on, commonLevel f c land + commonLevel (f + 1) c land = 4 ∧ segmentLevel f c on + segmentLevel (f + 1) c on = 4)) ∧
  (∀ (i : Initiator) (s u : State), Arrives i DISP_CMD s u →
     (flag u DISP_CTL_LADDER = false → exec (.pumpretry i) s = .next (setDisp { u.disp with retry := true } u)) ∧
     (flag u DISP_CTL_LADDER = true → exec (.pumpretry i) s = .next u) ∧
     (mainReady u = true → exec (.update i) s = .next (engineStart false u)) ∧
     (u.disp.clear = .none → exec (.clear i) s = .next (clearStart (setDisp { u.disp with clear := .asked } u)))) ∧
  (∀ (t : BitVec 12) (s u : State), dispUp s = true → u = stir 13 s → exec (.dieTemperatureWord t) s =
     .next (fset (setF (fset u DISP_STAT_TEMP t.toNat) DISP_STAT_TEMPV) DISP_STAT_BAND (bandOf (setF (fset u DISP_STAT_TEMP t.toNat) DISP_STAT_TEMPV)))) ∧
  (∀ (i : Initiator) (v : Word) (s u : State),
     (Arrives i (DISP_ANTGT 0) s u → exec (.annunciatorTargetWrite i false v) s = .next (forN 16 (fun j => setTarget j (wget v (2 * j + 1) (2 * j))) u)) ∧
     (Arrives i (DISP_ANTGT 1) s u → exec (.annunciatorTargetWrite i true v) s = .next (forN 8 (fun j => setTarget (16 + j) (wget v (2 * j + 1) (2 * j))) u)) ∧
     (∀ j, setTarget j 3 u = u)) ∧
  (∀ (reeve : Bool) (s u : State), dispUp s = true → u = stir 13 s →
     (andlyOver u = true → mainReady u = true → exec .mainUpdateStart s = .next (engineStart false u)) ∧
     exec .markerAcknowledged s = .next (markerAck u) ∧
     (engineOver u (engine u reeve) = true → exec (.updateEnd reeve) s = .next (engineEnd reeve u)) ∧
     (engineOver u (engine u reeve) = false → exec (.updateEnd reeve) s = .next u) ∧
     (clearOver u = true → exec .clearingRefreshEnd s = .next (clearEnd u)) ∧
     (clearOver u = false → exec .clearingRefreshEnd s = .next u) ∧
     ((engine u false).run = true → (engine (markerAck u) false).acked = true) ∧ ((engine u true).run = true → (engine (markerAck u) true).acked = true) ∧
     ((engine u false).run = true → (markerAck u).tick.marker = true)) ∧
  (∀ (s t : State) (e : EgEnt), islUp s 13 = true → egTake 2 s = (some e, t) →
     (∀ id st first last n fan, e.item = .state id st first last n fan → exec .glyphItem s = .next (glyphApply (wget fan 14 8) (wget st 3 0) (rouse 13 t))) ∧
     (∀ f, e.item = .flood f → exec .dispFloodItem s = .next (floodApply (rouse 13 t)))) ∧
  (∀ (e : Nat) (s u : State), dispUp s = true → u = stir 13 s → u.disp.flood = some e → e + max 1 (32768 * fget u DISP_ANCFG_FLHOLD) ≤ edges u 13 →
     exec .floodHoldExpiry s = .next (glyphApply (fget u DISP_ANCFG_FLOODG) 0 (setDisp { u.disp with flood := none } u))) ∧
  (∀ (w : Nat) (l : List Nat) (s : State), islUp s 13 = true → s.disp.clear = .none → s.rv.segs = w :: l →
     exec .reeveSegmentWord s = .next (segmentWord w { rouse 13 s with rv := { s.rv with segs := l } }))

/-- O45. The polder is released, loses power, counts, cycles and records; its seal and its inputs change (17_polder_metrology_island, R451, R452, R454, R455, R462, R463, R466, R467, R469, R472, R474).
Each clause gives the whole next state of an event of the polder where it has its effect: it releases itself, saves its totalisers at the power-fail warning, is reset, counts a pulse, ends a cycle, records a day, finds an input out of range and back, and sees its seal change, with the events and flags of each. -/
def Obligations.PolderProceeds : Prop :=
  (∀ s : State, s.sys.variantM = true →
     (polUp s = true → exec .polderRelease s = .next (setPol { s.pol with warn := false } s)) ∧
     (polUp s = false → ∃ t, exec .polderRelease s = .next t ∧ power t 17 = .run ∧ t.nor.copyA = polCommitted s ∧ t.pol.par = polCommitted s ∧
       t.pol.count = s.nor.save.count ∧ t.pol.tot = s.nor.save.tot ∧ t.pol.unsync = true ∧ t.pol.warn = false ∧ t.pol.staged = [] ∧ t.pol.parflt = (polCommitted s).isNone ∧
       (s.nor.save.tx = [] → t.nor.save = s.nor.save ∧ t.nor.slots = s.nor.slots) ∧
       (s.nor.save.tx = [] → (polCommitted s).isSome = true → s.nor.events.length < 32768 → t.nor.events = s.nor.events ++ [⟨.start, s.nor.save.count, s.nor.audit, []⟩]))) ∧
  (∀ s : State, polUp s = true → ∃ t, exec .polderReset s = .next t ∧ power t 17 = .off ∧ inbox t 17 = [] ∧ t.pol = {} ∧ t.nor = s.nor ∧ flag t SYS_EVT_ISLDOWN = true) ∧
  (∀ (cyc : Fin 1200000) (s u : State) (c : Tick), polUp s = true → u = stir 17 s → c = (polAt u.pol cyc.val).1 →
     (u.pol.warn = true → exec (.polderPowerFailWarning cyc) s = .next u) ∧
     (u.pol.warn = false → u.nor.events.length < 32768 → exec (.polderPowerFailWarning cyc) s = .next (polWarn (setNor { u.nor with save := ⟨c, u.pol.tot, u.pol.tx, [(0, (polMeter u 0).day), (1, (polMeter u 1).day)]⟩, events := u.nor.events ++ [⟨.pwrfail, c, u.nor.audit, []⟩] } (setPol { u.pol with warn := true } u)))) ∧
     (u.pol.warn = false → 32768 ≤ u.nor.events.length → exec (.polderPowerFailWarning cyc) s = .next (setNor { u.nor with save := ⟨c, u.pol.tot, u.pol.tx, [(0, (polMeter u 0).day), (1, (polMeter u 1).day)]⟩, unrec := u.nor.unrec + 1 } (setPol { u.pol with warn := true } u)))) ∧
  (∀ (inp : Fin 4) (rev : Bool) (cyc : Fin 1200000) (x : PolMeter) (s u : State), polUp s = true → u = stir 17 s → x = polMeter u (inp.val / 2) →
     (u.pol.par = none ∨ u.pol.warn = true → exec (.polderPulse inp rev cyc) s = .next u) ∧
     (u.pol.par.isSome = true → u.pol.warn = false →
       (inp.val % 2 = 0 → pulseApart x.at1 cyc.val = true →
         exec (.polderPulse inp rev cyc) s = .next (setMeter (inp.val / 2) { x with n1 := x.n1 + 1, at1 := some cyc.val, fwd := x.fwd + (!rev).toNat, rev := x.rev + rev.toNat } u)) ∧
       (inp.val % 2 = 1 → pulseApart x.at2 cyc.val = true →
         exec (.polderPulse inp rev cyc) s = .next (setMeter (inp.val / 2) { x with n2 := x.n2 + 1, at2 := some cyc.val } u)))) ∧
  (∀ (c : PolCur) (m : Fin 2) (s u : State), polUp s = true → u = stir 17 s → ∃ t, exec (.polderCycle c) s = .next t ∧
     t.pol.cyc = u.pol.cyc + 1 ∧ t.pol.count = (polAt u.pol 1200000).1 ∧ t.pol.hold = (polAt u.pol 1200000).2 ∧ t.pol.acc = (u.pol.acc + 32768 * 1200000) % 12000000 ∧
     (polMeter t m.val).n1 = 0 ∧ (polMeter t m.val).n2 = 0 ∧ (polMeter t m.val).fwd = 0 ∧ (polMeter t m.val).rev = 0 ∧ (u.pol.par = none → t.pol.tot = u.pol.tot) ∧ t.pol.par = polCommitted t ∧
     ((u.pol.cyc + 1) % 10 = 0 → t.pol.seq = u.pol.seq + 1 ∧ t.pol.snap = none ∧ t.nor.save = ⟨t.pol.count, t.pol.tot, t.pol.tx, [(0, (polMeter t 0).day), (1, (polMeter t 1).day)]⟩) ∧
     ((u.pol.cyc + 1) % 10 ≠ 0 → u.pol.snap = none → t.pol.seq = u.pol.seq ∧ t.pol.out = u.pol.out ∧ (u.nor.save.tx = [] → t.nor.save = u.nor.save)) ∧
     t.nor.audit = u.nor.audit ∧ t.regs = u.regs) ∧
  (∀ (d : PolDay) (l : List PolDay) (s u v : State), polUp s = true → u = stir 17 s → u.nor.days = d :: l → v = setNor { u.nor with days := l } u →
     (freeSlots u < 2 → exec .polderDailyRecord s = .next v) ∧
     (4 ≤ freeSlots u → exec .polderDailyRecord s = .next (polAppend (polRecord 0x11 1 d.day d.b d.stop d.tb u.nor.audit) (polAppend (polRecord 0x11 0 d.day d.a d.stop d.ta u.nor.audit) v)))) ∧
  (∀ (m : Fin 2) (i j : Fin 4) (cyc : Fin 1200000) (x : PolMeter) (c : Tick) (s u : State), polUp s = true → u = stir 17 s → x = polMeter u m.val → c = (polAt u.pol cyc.val).1 →
     i.val = 2 * m.val → j.val = 2 * m.val + 1 →
     (x.tflt = false → exec (.polderInputFault i cyc) s = .next (polFlagEvt 21 (polEvent .tempflt c [BitVec.ofNat 32 m.val] (setMeter m.val { x with tflt := true } u)))) ∧
     (x.dflt = false → exec (.polderInputFault j cyc) s = .next (polFlagEvt 21 (polEvent .densflt c [BitVec.ofNat 32 m.val] (setMeter m.val { x with dflt := true } u)))) ∧
     (x.tflt = true → exec (.polderInputFault i cyc) s = .next u) ∧ (x.dflt = true → exec (.polderInputFault j cyc) s = .next u) ∧
     exec (.polderInputFaultEnd i) s = .next (setMeter m.val { x with tflt := false } u) ∧ exec (.polderInputFaultEnd j) s = .next (setMeter m.val { x with dflt := false } u)) ∧
  (∀ (cyc : Fin 1200000) (c : Tick) (s u : State), polUp s = true → u = stir 17 s → c = (polAt u.pol cyc.val).1 →
     (u.pol.unsealed = false → exec (.sealChange true cyc) s = .next (polEvent .sealopen c [] (polFlagEvt 17 (setPol { u.pol with unsealed := true } u)))) ∧
     (u.pol.unsealed = true → u.pol.staged = [] → exec (.sealChange false cyc) s = .next (polEvent .sealclose c [] (polFlagEvt 17 (setPol { u.pol with unsealed := false } u)))) ∧
     (u.pol.unsealed = true → u.pol.staged ≠ [] → ∀ t, t = polEvent .sealclose c [] (polFlagEvt 17 (setPol { u.pol with unsealed := false } u)) →
       exec (.sealChange false cyc) s = .next (polEvent .discard c [] (setPol { t.pol with staged := [] } t))) ∧
     (∀ b, u.pol.unsealed = b → exec (.sealChange b cyc) s = .next u))

/-- O46. Requests to the polder, its answers, its time, link words, results and LOGWARN at the mailbox (17_polder_metrology_island, R462, R466, R469, R472, R474, R475, R476, R477, R479).
A request that finds no other busy reaches the polder while the link is up and its answer is put on its way; one that finds another busy is lost. An answer, a result record, a link word and LOGWARN that arrive valid have their effects and one that fails its CRC is counted; a request without an answer ends with status 7; time is asked for and treated; the link goes down. -/
def Obligations.PolderRequestsAndMailbox : Prop :=
  (∀ (i : Initiator) (arg : BitVec 8) (idx : BitVec 16) (s u : State), Arrives i POLD_REQ s u → flag u POLD_STAT_BUSY = false → polUp u = true → flag u POLD_STAT_LINK = true →
     let sent := fun (op a8 ix : Nat) => let v := w32 (op * 2 ^ 24 + a8 * 2 ^ 16 + ix); let c := setF (wr u POLD_RSPSTAT (w32 (0x40000000 + op * 65536))) POLD_STAT_BUSY
       let b := polClockAsked c
       let r := polRequest op (wget v 23 16) (wget v 15 0) (rd b POLD_REQARG) b
       setPol { r.2.2.pol with out := r.2.2.pol.out ++ [.response r.1 r.2.1] } r.2.2
     exec (.ident i false) s = .next (sent 0x01 0 0) ∧ exec (.pubkey i false) s = .next (sent 0x02 0 0) ∧ exec (.txstart i arg false) s = .next (sent 0x10 arg.toNat 0) ∧
     exec (.txstop i arg false) s = .next (sent 0x11 arg.toNat 0) ∧ exec (.logread i arg false) s = .next (sent 0x20 arg.toNat 0) ∧
     exec (.parread i idx false) s = .next (sent 0x30 0 idx.toNat) ∧ exec (.parwrite i idx false) s = .next (sent 0x31 0 idx.toNat) ∧
     exec (.parcommit i false) s = .next (sent 0x32 0 0) ∧ exec (.pardiscard i false) s = .next (sent 0x33 0 0)) ∧
  (∀ (m i : Nat) (v : Word) (s : State),
     (s.pol.parflt = true → txStart m s = (6, [], s) ∧ txStop m s = (6, [], s)) ∧
     (s.pol.parflt = false → 2 ≤ m → txStart m s = (2, [], s) ∧ txStop m s = (2, [], s)) ∧
     (s.pol.parflt = false → m < 2 → s.pol.unsealed = false → (polTx s m).isSome = true → txStart m s = (4, [], s)) ∧
     (s.pol.unsealed = false → parWrite i v s = (1, [], s)) ∧
     (s.pol.unsealed = true → parIndex i = true → parOk i v = true → parWrite i v s = (0, [], setPol { s.pol with staged := tabPut s.pol.staged i v } s)) ∧
     (s.pol.unsealed = true → parIndex i = false ∨ parOk i v = false → parWrite i v s = (2, [], s)) ∧
     (s.pol.unsealed = false → parCommit 0 s = (1, [], s))) ∧
  (∀ (st : Nat) (w : List Word) (s u : State), islUp s 0 = true → u = stir 0 s →
     (∀ t, polTake isResponse u = (some (.response st w), t) →
       exec (.polderResponse true) s = .next (protErr t) ∧
       (flag (linkHeard t) POLD_STAT_BUSY = true → exec (.polderResponse false) s = .next (polEnd st w (linkHeard t))) ∧
       (flag (linkHeard t) POLD_STAT_BUSY = false → exec (.polderResponse false) s = .next (linkHeard t))) ∧
     (askedLong u = true → exec .polderNoresp s = .next (polEnd 7 [] (setPol { u.pol with out := u.pol.out.filter (fun m => !isResponse m) } u)))) ∧
  (∀ (cyc : Fin 1200000) (s u : State), polUp s = true → u = stir 17 s → islUp u 0 = true →
     (timeDue u = true → exec (.polderTimeRequest true) s = .next (protErr (setPol { u.pol with rqCyc := some u.pol.cyc } u)) ∧
       exec (.polderTimeRequest false) s = .next (capTrigger 2 0 (linkHeard (setPol { u.pol with rqCyc := some u.pol.cyc, timeRq := true } u)))) ∧
     (timeDue u = false → ∀ b, exec (.polderTimeRequest b) s = .next u) ∧
     (u.pol.timeRq = true → tabGet (fun _ => 0) u.tick.capReq 2 = 0 → flag u (TICK_CAPSTAT_VALID 2) = true →
       exec (.polderTimeResponse true cyc) s = .next (setPol { u.pol with timeRq := false } u) ∧
       exec (.polderTimeResponse false cyc) s = .next (polTime (BitVec.ofNat 48 ((rd u (TICK_CAPT 2)).toNat + (rd u (TICK_CAPTHI 2)).toNat % 65536 * 2 ^ 32))
         (flag u (TICK_CAPSTAT_OSF 2)) cyc.val (setPol { u.pol with timeRq := false } u)))) ∧
  (∀ s u v : State, u = stir 17 s → v = stir 0 s →
     (polUp s = true → islUp u 0 = true → exec (.polderLinkWord true) s = .next (protErr u) ∧ exec (.polderLinkWord false) s = .next (polLink false u)) ∧
     (islUp s 0 = true → linkSilent v = true → exec .polderLinkDown s = .next (setF (clrF v POLD_STAT_LINK) POLD_EVT_LINKDN))) ∧
  (∀ (s u : State), islUp s 0 = true → u = stir 0 s →
     (∀ k l, u.loom.snapReq = k :: l → u.sys.variantM = true → polUp u = true →
       exec (.polderSnapshotRequest false) s = .next (setPol { u.pol with snap := some k } { u with loom := { u.loom with snapReq := l } }) ∧
       exec (.polderSnapshotRequest true) s = .next { u with loom := { u.loom with snapReq := l } }) ∧
     (∀ w t, polTake (fun m => !isResponse m) u = (some (.result w), t) → exec (.polderResultRecord true) s = .next (protErr t) ∧
       exec (.polderResultRecord false) s = .next (setF (forN 32 (fun i u => wr u (POLD_RES i) (w.getD i 0)) (linkHeard t)) POLD_EVT_RESNEW)) ∧
     (u.pol.warnTx = true → exec (.logwarn false) s = .next (setF (linkHeard (setPol { u.pol with warnTx := false } u)) POLD_EVT_LOGWARN) ∧
       exec (.logwarn true) s = .next (protErr (setPol { u.pol with warnTx := false } u))))

/-- O47. The selvedge link: lanes, pairing, roles, heartbeats, takeover, handover, state copies and votes (18_selvedge_duplex, R483, R484, R485, R486, R487, R488, R489, R490, R491, R492, R493).
Each clause gives the whole next state of a selvedge command where it has its effect: a lane that comes up or goes down, EN and CDUP written, keepalives, a pairing that times out, a lone start and a fenced one, heartbeats sent and received by role, a missed heartbeat, a takeover, state copies requested, sent and received, a handover requested, and votes. -/
def Obligations.SelvedgeProceeds : Prop :=
  (∀ (n : Fin 2) (s u : State), selvUp s = true → u = stir 14 s →
     (flag u (laneBit n.val) = false → exec (.selvLaneUp n) s = .next (pairUpdate (setF (setF u (laneBit n.val)) SELV_EVT_LANEUP))) ∧
     (flag u (laneBit n.val) = true → exec (.selvLaneDown n) s = .next (pairUpdate (setF (clrF u (laneBit n.val)) SELV_EVT_LANEDN)))) ∧
  (∀ (i : Initiator) (s u : State), Arrives i SELV_CTL s u → flag u SELV_CTL_EN = false → wget (rd u SELV_CTL) 31 31 = 0 → wget (rd u SELV_CTL) 2 2 = 0 →
     exec (.selvEnable i) s = .next (selvEnable (cdupUpdate (fset u SELV_CTL_CDUP (fget u SELV_CTL_CDUP))))) ∧
  (∀ (i : Initiator) (s u : State), Arrives i SELV_CTL s u → flag u SELV_CTL_EN = true → wget (rd u SELV_CTL) 31 31 = 0 → wget (rd u SELV_CTL) 2 2 = 0 →
     exec (.selvDisable i) s = .next (selvDisable (cdupUpdate (fset u SELV_CTL_CDUP (fget u SELV_CTL_CDUP))))) ∧
  (∀ (i : Initiator) (s u c : State), Arrives i SELV_CTL s u → flag u SELV_CTL_EN = true → wget (rd u SELV_CTL) 31 31 = 0 →
     c = cdupUpdate (fset u SELV_CTL_CDUP (fget u SELV_CTL_CDUP)) → selvRoleOf c = .active → fget c SELV_STAT_PROLE = 1 → (c.selv.peer.map (·.copyOk)).getD false = true →
     exec (.switch i) s = .next (setSelv { c.selv with request := true } c)) ∧
  (∀ (i : Initiator) (on : Bool) (s u : State), Arrives i SELV_CTL s u → wget (rd u SELV_CTL) 31 31 = 0 → wget (rd u SELV_CTL) 2 2 = 0 →
     exec (.cdupWrite i on) s = .next (cdupUpdate (fset u SELV_CTL_CDUP on.toNat))) ∧
  (∀ s u : State, selvUp s = true → u = stir 14 s →
     (keepDue u = false → exec .selvKeepaliveSend s = .next u) ∧
     (keepDue u = true → exec .selvKeepaliveSend s = .next (setSelv { u.selv with keepAt := edges u 14, sentKeep := some ⟨fget u SELV_CFG_UNIT, selvRoleOf u, selvEpoch u, fget u LOOM_PICKCFG_PICKUS, flag u SELV_CTL_CDUP, flag u SELV_STAT_COPYOK⟩ } u))) ∧
  (∀ (k : Keepalive) (s u : State), selvUp s = true → u = stir 14 s → flag u SELV_CTL_EN = true → let t := fset (fset u SELV_STAT_PROLE k.role.code) SELV_EPOCH_PEPOCH k.epoch.toNat
     exec (.selvKeepaliveReceived k) s = .next (pairUpdate (setSelv { u.selv with heard := some (edges u 14), peer := some k } t))) ∧
  (∀ (e : Nat) (s u : State), selvUp s = true → u = stir 14 s → u.selv.heard = some e → e + 96 ≤ edges u 14 →
     exec .selvPairTimeout s = .next (pairUpdate (setSelv { u.selv with heard := none } u))) ∧
  (∀ (rolei : Bool) (s u t : State), selvUp s = true → u = stir 14 s → t = putF u SELV_STAT_ROLEI rolei → flag t SELV_CTL_EN = true → selvRoleOf t = .none → flag t SELV_STAT_PAIRED = false →
     fget t SELV_CFG_ALONE ≤ u.selv.alone →
     (flag t SELV_CFG_FENCE = false → exec (.selvLoneStart rolei) s = .next (relayDiol .assume (becomeActive t))) ∧
     (flag t SELV_CFG_FENCE = true → rolei = true → exec (.selvLoneStart rolei) s = .next (setF t SELV_EVT_FENCED)) ∧
     (flag t SELV_CFG_FENCE = true → rolei = false → exec (.selvLoneStart rolei) s = .next (relayDiol .assume (becomeActive t)))) ∧
  (∀ (rolei : Bool) (p : Word) (l : List Word) (s u t : State), selvUp s = true → u = stir 14 s → u.selv.bounds = p :: l → t = putF (setSelv { u.selv with bounds := l } u) SELV_STAT_ROLEI rolei →
     flag t SELV_CTL_EN = true →
     (selvRoleOf t = .none → flag t SELV_STAT_PAIRED = false → exec (.selvHeartbeatSend rolei) s = .next (setSelv { t.selv with alone := t.selv.alone + 1, beat := false } t)) ∧
     (selvRoleOf t = .active → exec (.selvHeartbeatSend rolei) s =
       .next (setSelv { t.selv with sentBeat := some ⟨.active, selvEpoch t, p, rd t LOOM_PICKDONE, t.selv.request⟩, request := false, giving := t.selv.giving || t.selv.request, beat := false } t)) ∧
     (selvRoleOf t = .standby → exec (.selvHeartbeatSend rolei) s =
       .next (noBeat (standbyBoundary (setSelv { t.selv with sentBeat := some ⟨.standby, selvEpoch t, p, rd t LOOM_PICKDONE, false⟩ } t))))) ∧
  (∀ s : State, let m := fget s SELV_STAT_MISS
     (s.selv.granted = true → standbyBoundary s = takeover s) ∧
     (s.selv.granted = false → s.selv.beat = true → standbyBoundary s = fset s SELV_STAT_MISS 0) ∧
     (s.selv.granted = false → s.selv.beat = false → m < 2 → standbyBoundary s = fset s SELV_STAT_MISS (m + 1)) ∧
     (s.selv.granted = false → s.selv.beat = false → 2 ≤ m → flag s SELV_CFG_FENCE = true → flag s SELV_STAT_ROLEI = true → standbyBoundary s = setF s SELV_EVT_FENCED) ∧
     (s.selv.granted = false → s.selv.beat = false → 2 ≤ m → (flag s SELV_CFG_FENCE = false ∨ flag s SELV_STAT_ROLEI = false) → standbyBoundary s = takeover s) ∧
     takeover s = setSelv { (setF (becomeActive s) SELV_EVT_TAKEOVER).selv with taking := true } (setF (becomeActive s) SELV_EVT_TAKEOVER)) ∧
  (∀ s u t : State, selvUp s = true → u = stir 14 s → u.selv.taking = true → t = setSelv { u.selv with taking := false } u →
     (u.selv.good = none → exec .takeoverCopyComplete s = .next (relayDiol .assume (setF t SELV_EVT_NOCOPY))) ∧
     (∀ h, u.selv.good = some h → exec .takeoverCopyComplete s = .next (relayDiol .assume
       (forN 24 (fun m u => if outPar u m then relayDiol (.out m (h.outsh.testBit m)) u else u)
         { t with loom := { t.loom with warp := putBytes t.loom.warp (fget t SELV_CPCFG_CPPAGE * 4096) (bytesAt t.loom.warp ((fget t SELV_RXCFG_RXPAGE + 64 * fget t SELV_STAT_BUFNEW) * 4096) (1024 * h.len)) } })))) ∧
  (∀ (h : Heartbeat) (s u t : State), selvUp s = true → u = stir 14 s → flag u SELV_CTL_EN = true → t = cdupUpdate (leaveNone (peerReport h.role h.epoch u)) →
     let b := setSelv { t.selv with beat := true } t
     (h.role ≠ .active → exec (.selvHeartbeatReceived h) s = .next t) ∧
     (h.role = .active → selvRoleOf t = .standby →
       exec (.selvHeartbeatReceived h) s = .next (fset (setSelv { t.selv with beat := true, due := if h.handover then some h.done else t.selv.due } t) SELV_STAT_MISS 0)) ∧
     (h.role = .active → selvRoleOf t = .active → epochGreater h.epoch (selvEpoch t) = true → t.selv.giving = false →
       exec (.selvHeartbeatReceived h) s = .next (setF (selvRole .standby b) SELV_EVT_SPLIT)) ∧
     (h.role = .active → selvRoleOf t = .active → epochGreater h.epoch (selvEpoch t) = true → t.selv.giving = true →
       exec (.selvHeartbeatReceived h) s = .next (selvRole .standby b)) ∧
     (h.role = .active → selvRoleOf t = .active → epochGreater h.epoch (selvEpoch t) = false → h.epoch ≠ selvEpoch t → exec (.selvHeartbeatReceived h) s = .next b)) ∧
  (∀ (k : Word) (o : Nat) (l : List (Word × Nat)) (s u t : State), selvUp s = true → u = stir 14 s → u.loom.copyReq = (k, o) :: l → t = { u with loom := { u.loom with copyReq := l } } → selvRoleOf t = .active →
     (t.selv.sending = none → exec .stateCopyRequest s = .next (copyStart k o t)) ∧
     (t.selv.sending ≠ none → t.selv.wait = none → exec .stateCopyRequest s = .next (setSelv { t.selv with wait := some (k, o) } t)) ∧
     (t.selv.sending ≠ none → t.selv.wait ≠ none →
       exec .stateCopyRequest s = .next (let v := setF (bump t SELV_CNT_COPYSKIP) SELV_EVT_COPYSKIP; setSelv { v.selv with wait := some (k, o) } v))) ∧
  (∀ (r : CopyHdr) (s u t : State), selvUp s = true → u = stir 14 s → u.selv.sending = some r →
     (∀ d, d = bytesAt u.loom.warp (fget u SELV_CPCFG_CPPAGE * 4096) (1024 * r.len) → t = setSelv { u.selv with sending := none, wait := none, sent := some ⟨r, d, copyCrcs r d⟩ } u) →
     (u.selv.wait = none → exec .stateCopySent s = .next t) ∧ (∀ k o, u.selv.wait = some (k, o) → exec .stateCopySent s = .next (copyStart k o t))) ∧
  (∀ (k : Word) (o : Nat) (s : State), let n := min (fget s SELV_CPCFG_CPLEN) (min 256 (fget s LOOM_PICKCFG_PICKUS * 64 / 1000)); let q := s.selv.txSeq + 1
     let u := if n < fget s SELV_CPCFG_CPLEN then setF s SELV_EVT_COPYTRUNC else s
     copyStart k o s = setSelv { s.selv with txSeq := q, sending := some ⟨q, k, selvEpoch s, n, o⟩ } (fset u SELV_COPYSEQ_TXSEQ q.toNat)) ∧
  (∀ (r : CopyHdr) (data : List Byte) (good : Bool) (s u t : State), selvUp s = true → u = stir 14 s → selvRoleOf u = .standby → flag u SELV_CTL_EN = true →
     let buf := if flag u SELV_STAT_COPYOK then 1 - fget u SELV_STAT_BUFNEW else 0
     t = { u with loom := { u.loom with warp := putBytes u.loom.warp ((fget u SELV_RXCFG_RXPAGE + 64 * buf) * 4096) (data.take (256 * 1024)) } } →
     (good = false → exec (.stateCopyReceived r data good) s = .next (setF (bump t SELV_CNT_COPYERR) SELV_EVT_COPYERR)) ∧
     (good = true → t.selv.good = none → t.selv.due = none →
       exec (.stateCopyReceived r data good) s = .next (setSelv { t.selv with good := some r } (setF (fset (fset t SELV_STAT_BUFNEW buf) SELV_COPYSEQ_RXSEQ r.seq.toNat) SELV_STAT_COPYOK)))) ∧
  (∀ (v w : Vote) (s u t : State), selvUp s = true → u = stir 14 s → flag u SELV_STAT_CDUPON = true → w = { v with at_ := edges u 14 } →
     t = setSelv { u.selv with pvotes := tabPut u.selv.pvotes v.src w, votes := u.selv.votes.filter (fun x => x.src != v.src) } u →
     (∀ x, u.selv.votes.filter (fun y => y.src == v.src) = [x] → w.at_ - x.at_ ≤ fget u SELV_AGRCFG_AGRWIN →
       (votesAgree t x w = true → exec (.partnerVoteReceived v) s = .next (setSelv { t.selv with agree := t.selv.agree ++ [(x.src, x.stamp)] } t)) ∧
       (votesAgree t x w = false → exec (.partnerVoteReceived v) s = .next (setF (bump t SELV_AGRCNT_DISAGREE) SELV_EVT_DISAGREE))) ∧
     (u.selv.votes.filter (fun y => y.src == v.src) = [] → exec (.partnerVoteReceived v) s = .next t)) ∧
  (∀ (x : Vote) (s u : State), selvUp s = true → u = stir 14 s → u.selv.votes.find? (fun x => decide (edges u 14 - x.at_ > fget u SELV_AGRCFG_AGRWIN)) = some x →
     exec .voteExpiry s = .next (let t := setSelv { u.selv with votes := u.selv.votes.erase x } u; setF (bump t SELV_AGRCNT_DISAGREE) SELV_EVT_DISAGREE))

/-- O48. The Reeve: supply, triggers by state, ARM, DISARM, ENGAGE, RESUME, ACKH, APPLY, configuration, sources and markers (19_reeve_degraded_operation, R502, R503, R504, R505, R506, R507, R508, R509, R510, R511, R512).
Each clause gives the whole next state of a Reeve command where it has its effect: VREEVE arrives and is lost, a trigger is recorded and acts by STATE, the commands of RV_CMD act in the states that take them and are refused with CMDERR in the others, a configuration write is put in force, staged or refused by STATE, a code is compared and counted, an input delayed, a source turns stale, and a marker is seen. -/
def Obligations.ReeveProceeds : Prop :=
  (∀ s : State, rvUp s = false →
     exec .reevePowerUp s = .next (setRv { maps := (List.range 6).foldl (fun t i => tabSet (fun _ => 0) t i (rd s (if i < 4 then AFE_RVMAP i else DIO_RVMAP (i - 4)))) [] } (runIsland 16 s))) ∧
  (∀ s : State, rvUp s = true → (s.sys.lockWait = false → (resetIsland 16 s).sys.lockWait = false → exec .reeveSupplyLoss s = .next (resetIsland 16 s)) ∧
     ((resetIsland 16 s).sys.lockWait = true → exec .reeveSupplyLoss s = .next (resetLogic SYS_RSTCAUSE_LOCKSTEP (resetIsland 16 s)))) ∧
  (∀ (c : RvCause) (l : List RvCause) (s t : State), s.rvTrig = c :: l → rvUp s = true → t = rvCauseSet c.bit (stir 16 { s with rvTrig := l }) → (c ≠ .lockstep ∨ s.sys.lockWait = false) →
     (rvState t = 0 → exec .reeveTrigger s = .next (setF t RV_EVT_UNARMED)) ∧
     (rvState t = 1 → (rvEngage t).sys.lockWait = s.sys.lockWait → exec .reeveTrigger s = .next (rvEngage t)) ∧
     (rvState t = 2 → exec .reeveTrigger s = .next (setRv { t.rv with marks := 0 } (clrF t RV_STAT_MARKSEEN)))) ∧
  (∀ (b : Nat) (s : State), (flag (setBit s RV_CAUSE_CAUSE b) RV_CAUSE_VALID = true → rvCauseSet b s = setBit s RV_CAUSE_CAUSE b) ∧
     (flag (setBit s RV_CAUSE_CAUSE b) RV_CAUSE_VALID = false → rvCauseSet b s = setF (fset (setBit s RV_CAUSE_CAUSE b) RV_CAUSE_FIRST b) RV_CAUSE_VALID) ∧
     rvEngage s = selvDemote (dioTakeover (let t := clrF (clrF (fset s RV_STAT_STATE 2) RV_STAT_MARKSEEN) RV_STAT_KH
       let u := clrF (setRv { t.rv with staged := [] } t) RV_STAT_STAGED
       rvShow (setF (setRv { u.rv with marks := 0 } u) RV_EVT_ENGAGED)))) ∧
  (∀ (i : Initiator) (s u : State), Arrives i RV_CMD s u →
     (rvState u = 0 → exec (.arm i) s = .next (rvShow (rvNormal (fset u RV_STAT_STATE 1))) ∧ exec (.disarm i) s = .next (setF u RV_EVT_CMDERR) ∧ exec (.apply i) s = .next u) ∧
     (rvState u = 1 → exec (.arm i) s = .next (setF u RV_EVT_CMDERR) ∧ exec (.apply i) s = .next (rvApply u) ∧
       exec (.disarm i) s = .next (rvShow (rvDiscard (clrF (fset u RV_STAT_STATE 0) RV_STAT_KH)))) ∧
     (rvState u = 2 → exec (.arm i) s = .next (setF u RV_EVT_CMDERR) ∧ exec (.disarm i) s = .next (setF u RV_EVT_CMDERR) ∧ exec (.apply i) s = .next (setF u RV_EVT_CMDERR))) ∧
  (∀ (i : Initiator) (s u : State), Arrives i RV_CMD s u → let t := rvCauseSet 4 u
     exec (.ackh i) s = .next (clrF u RV_STAT_KH) ∧
     (rvState t = 0 → exec (.engage i) s = .next (setF t RV_EVT_UNARMED)) ∧ (rvState t = 1 → exec (.engage i) s = .next (rvEngage t)) ∧
     (rvState t = 2 → exec (.engage i) s = .next (setRv { t.rv with marks := 0 } (clrF t RV_STAT_MARKSEEN))) ∧
     (rvState u = 2 → flag u RV_STAT_MARKSEEN = true → exec (.resume i) s = .next (rvShow (setF (clrF (fset u RV_STAT_STATE 1) RV_STAT_KH) RV_EVT_RESUMED))) ∧
     (rvState u < 2 ∨ flag u RV_STAT_MARKSEEN = false → exec (.resume i) s = .next (setF u RV_EVT_CMDERR))) ∧
  (∀ (i : Initiator) (reg : RvReg) (v : Word) (s u : State), Arrives i reg.addr s u → let w := rd (codeWrite reg.addr v u) reg.addr
     (rvState u = 0 → exec (.reeveConfigWrite i reg v) s = .next (rvShow (codeWrite reg.addr v u))) ∧
     (rvState u = 1 → exec (.reeveConfigWrite i reg v) s = .next (setF (setRv { u.rv with staged := tabPut u.rv.staged reg.addr w } u) RV_STAT_STAGED)) ∧
     (rvState u = 2 → exec (.reeveConfigWrite i reg v) s = .next (setF u RV_EVT_CMDERR))) ∧
  (∀ (c : RvCode) (l : List RvCode) (s u t : State), rvUp s = true → u = stir 16 s → u.afe.rvOut = c :: l → t = { u with afe := { u.afe with rvOut := l } } →
     (rvState t = 0 → exec .reeveChannelCode s = .next t) ∧
     (0 < rvState t → exec .reeveChannelCode s = .next (forN 16 (fun n u => if rvValid u n && rvOf u n == c.chan then rvCode n c.code c.range u else u) t))) ∧
  (∀ (n : Nat) (code : Int) (s : State), let x := rvSrc s n; let lo := rvLimit s (RV_ALO n); let hi := rvLimit s (RV_AHI n); let hys : Int := wget (rd s (RV_AHYS n)) 23 0; let need := max 1 (fget s (RV_ACFG_DLY n))
     (getBit s RV_ALM_SRC n = false → (hi < code ∨ code < lo) →
       (x.cnt + 1 < need → rvCompare n code s = setRvSrc n { x with cnt := x.cnt + 1 } s) ∧
       (need ≤ x.cnt + 1 → rvCompare n code s = rvShow (rvHorn n (setF (setBit (setRvSrc n { x with cnt := 0 } s) RV_ALM_SRC n) RV_EVT_ALM)))) ∧
     (getBit s RV_ALM_SRC n = true → lo + hys ≤ code → code ≤ hi - hys →
       (x.cnt + 1 < need → rvCompare n code s = setRvSrc n { x with cnt := x.cnt + 1 } s) ∧
       (need ≤ x.cnt + 1 → rvCompare n code s = rvShow (clrBit (setRvSrc n { x with cnt := 0 } s) RV_ALM_SRC n)))) ∧
  (∀ (w : RvInput) (l : List RvInput) (s u t : State), rvUp s = true → u = stir 16 s → u.dio.rvOut = w :: l → t = { u with dio := { u.dio with rvOut := l } } →
     (rvState t = 0 → exec .reeveInputWord s = .next t) ∧
     (0 < rvState t → rvValid t (16 + w.des) = true → exec .reeveInputWord s = .next (rvInput w t))) ∧
  (∀ (m : Fin 8) (l : Bool) (s u : State), let n := 16 + m.val; let cfg := rvCfg u n
     rvUp s = true → u = stir 16 s → (rvSrc u n).level = some l → rvValid u n = true → 0 < rvState u → wget cfg 2 2 = 0 → getBit u RV_FLT_SRC n = false → (rvSrc u n).since + 32 * wget cfg 23 16 ≤ edges u 16 →
     (l = (wget cfg 0 0 == 1) → getBit u RV_ALM_SRC n = false → exec (.reeveInputDelayExpiry m) s = .next (rvShow (rvHorn n (setF (setBit u RV_ALM_SRC n) RV_EVT_ALM)))) ∧
     (l ≠ (wget cfg 0 0 == 1) → getBit u RV_ALM_SRC n = true → exec (.reeveInputDelayExpiry m) s = .next (rvShow (clrBit u RV_ALM_SRC n)))) ∧
  (∀ (n : Fin 16) (m : Fin 8) (s u : State), rvUp s = true → u = stir 16 s → 0 < rvState u →
     (rvValid u n.val = true → (rvSrc u n.val).last + max 1 (32 * fget u (RV_ACFG_STALE n.val)) ≤ edges u 16 → exec (.reeveSourceStale n) s = .next (rvFaultOn n.val u)) ∧
     (rvValid u (16 + m.val) = true → wget (rvCfg u (16 + m.val)) 2 2 = 0 → (rvSrc u (16 + m.val)).last + 96 ≤ edges u 16 → exec (.reeveInputStale m) s = .next (rvFaultOn (16 + m.val) u))) ∧
  (∀ (n : Nat) (s : State), let t := setF (setBit (setRvSrc n { rvSrc s n with held := edges s 16 - (rvSrc s n).since } s) RV_FLT_SRC n) RV_EVT_FLT
     (getBit s RV_FLT_SRC n = true → rvFaultOn n s = s) ∧
     (getBit s RV_FLT_SRC n = false → wget (rvCfg t n) 8 8 = 0 → rvFaultOn n s = rvShow t) ∧ (getBit s RV_FLT_SRC n = false → wget (rvCfg t n) 8 8 = 1 → rvFaultOn n s = rvShow (rvHorn n t))) ∧
  (∀ s u : State, rvUp s = true → u = stir 16 s → u.rv.marks ≠ 0 → let t := setRv { u.rv with marks := u.rv.marks - 1 } u
     (rvState u = 2 → exec .reeveMarker s = .next (setF t RV_STAT_MARKSEEN)) ∧ (rvState u ≠ 2 → exec .reeveMarker s = .next t))

/-- O49. PERF: counters selected, wrapping, frozen, gathered, written and resumed; bandwidth windows (20_performance_monitoring, R515, R516, R517, R519, R520, R521, R522).
Each clause gives the whole next state of a PERF command where it has its effect: a selection is stored, with EN cleared and CFGERR where it is not allowed; a wrap sets OVF or increments the chained successor; a command sets BUSY and its edge or, found busy, CMDLOST; the common edge captures or resumes; the gathered values are stored; a bandwidth window ends. -/
def Obligations.PerformanceMonitorProceeds : Prop :=
  (∀ (i : Initiator) (k : Fin 64) (v : Word) (s u : State), Arrives i (PERF_SEL k.val) s u → flag u PERF_CTL_LOCK = false → (flag u (PERF_SEL_EN k.val) = true → flag u PERF_STAT_FROZEN = true) →
     let w := v &&& 0xE01F0FFF
     ((wget v 31 31 = 1 → selOk u k.val v = true) → exec (.perfCounterSelect i k v) s = .next (let t := wr u (PERF_SEL k.val) w
       setPerf { t.perf with base := tabSet (fun _ => 0) t.perf.base k.val ((ownCount t k.val).getD 0) } t)) ∧
     (wget v 31 31 = 1 → selOk u k.val v = false →
       exec (.perfCounterSelect i k v) s = .next (setF (clrF (wr u (PERF_SEL k.val) w) (PERF_SEL_EN k.val)) PERF_EVT_CFGERR))) ∧
  (∀ (k : Fin 64) (pc : Word) (s0 s : State), unitCounts s0 k.val = true → mayWrap s0 k.val = true → flag s0 (PERF_SEL_CHAIN k.val) = false → islUp s0 15 = true → flag s0 (PERF_SEL_SAMPLE k.val) = false →
     s = (if (ownCount s0 k.val).isSome = true ∧ perfEvt s0 k.val ≠ 0x21 then unitCount k.val 0 s0 else s0) →
     let chained := flag s (PERF_SEL_CHAIN (k.val + 1)) = true ∧ flag s (PERF_SEL_EN (k.val + 1)) = true ∧ k.val < 63
     let n := tabGet (fun _ => 0) s.perf.units (k.val + 1) + 1
     (¬ chained → exec (.perfCounterWrap k pc) s0 = .next (setF (setBit s (if k.val < 32 then PERF_OVFLO_OVF else PERF_OVFHI_OVF) (k.val % 32)) PERF_EVT_OVF)) ∧
     (chained → n ≠ 0 → exec (.perfCounterWrap k pc) s0 = .next { s with perf := { s.perf with units := tabSet (fun _ => 0) s.perf.units (k.val + 1) n } })) ∧
  (∀ (i : Initiator) (s u : State), Arrives i PERF_CMD s u →
     (flag u PERF_STAT_BUSY = true → ∀ c ∈ [Instr.freeze i, .snap i, .unfreeze i], exec c s = .next (setF u PERF_EVT_CMDLOST)) ∧
     (flag u PERF_STAT_BUSY = false → let sent := fun (c : PerfCmd) => setF (setPerf { u.perf with cmd := some c, edge := edges u 15 + 2, passed := false } u) PERF_STAT_BUSY
       exec (.freeze i) s = .next (sent .freeze) ∧ exec (.snap i) s = .next (sent .snap) ∧
       (u.perf.resume = [] → exec (.unfreeze i) s = .next (sent .unfreeze)) ∧
       (∀ k v, u.perf.resume = [(k, some v)] → exec (.unfreeze i) s = .next (setPerf { (setUnit k v (sent .unfreeze)).perf with resume := [] } (setUnit k v (sent .unfreeze)))))) ∧
  (∀ (l : List Word) (s u : State), perfUp s = true → s.perf.passed = false → s.perf.edge ≤ edges s 15 → u = stir 15 s →
     (s.perf.cmd = some .unfreeze → exec (.perfCommonEdge l) s = .next (forN 64 perfRebase (clrF (clrF (setPerf { u.perf with cmd := none, frozen := false } u) PERF_STAT_BUSY) PERF_STAT_FROZEN))) ∧
     (s.perf.cmd = some .snap → u.perf.frozen = false → let t := unitsCapture (unitsCount l u)
       exec (.perfCommonEdge l) s = .next (setPerf { t.perf with passed := true, frozen := t.perf.frozen } t)) ∧
     (s.perf.cmd = some .freeze → u.perf.frozen = false → let t := unitsCapture (unitsCount l u)
       exec (.perfCommonEdge l) s = .next (setPerf { t.perf with passed := true, frozen := true } t)) ∧
     (s.perf.cmd ≠ none → s.perf.cmd ≠ some .unfreeze → u.perf.frozen = true → exec (.perfCommonEdge l) s = .next (setPerf { u.perf with passed := true } u))) ∧
  (∀ s t : State, perfUp s = true → s.perf.passed = true →
     t = (let v := forN 64 (fun k s => if flag s (PERF_SEL_EN k) then wr s (PERF_VAL k) (tabGet (fun _ => 0) s.perf.snap k) else s) (stir 15 s)
       clrF (setPerf { v.perf with cmd := none, passed := false } v) PERF_STAT_BUSY) →
     (s.perf.cmd = some .freeze → exec .perfGatherComplete s = .next (setF (setF t PERF_STAT_FROZEN) PERF_EVT_DONE)) ∧
     (s.perf.cmd = some .snap → exec .perfGatherComplete s = .next (setF (setF t PERF_STAT_SNAPV) PERF_EVT_DONE))) ∧
  (∀ (i : Initiator) (k : Fin 64) (v : Word) (s u : State), Arrives i (PERF_VAL k.val) s u → flag u PERF_STAT_FROZEN = true →
     exec (.perfValueWrite i k v) s = .next (setPerf { u.perf with resume := tabSet (fun _ => none) u.perf.resume k.val (some v) } (wr u (PERF_VAL k.val) v))) ∧
  (∀ (words stalls : List Word) (s t : State), perfUp s = true → s.perf.bwFrom + max 1 (fget s PERF_BWWIN_WIN) ≤ edges s 15 →
     t = forN 8 (fun p u =>
       let live := fget s PERF_BWWIN_WIN ≠ 0 ∧ (sluiceLevel u.sys.variantM (fget u (PERF_BWSEL_SRC p)) (fget u (PERF_BWSEL_DST p))).isSome = true
       wr (wr u (PERF_BWWORDS p) (if live then words.getD p 0 else 0)) (PERF_BWSTALL p) (if live then stalls.getD p 0 else 0)) (stir 15 s) →
     exec (.bandwidthWindowEnd words stalls) s = .next (setF (setPerf { t.perf with bwFrom := edges t 15 } t) PERF_EVT_BWDONE))

/-- O50. No step of the machine undoes a fuse (21_lifecycle_and_custody, R527, R530, R531, R535).
For every earlier state of the fuses and every machine state in which no fuse of that earlier state is undone: whatever command step performs, no fuse of it is undone in the next state. So from any state on the lifecycle state and MINVER never go back, a programmed key stays, and what is revoked, programmed or spoiled stays so. -/
def Obligations.LifecycleFusesOnlyAdvance : Prop :=
  ∀ (f : LifeSt) (s t : State), FusesKept f s.life → step s = .next t → FusesKept f t.life

/-- O51. At reset no fuse of the reset state is undone (21_lifecycle_and_custody, R527, R530).
State.reset meets the invariant on the fuses for its own fuses, and so does every state for the fuses it has: the claim that every step keeps it starts from any state. -/
def Obligations.FusesHoldAtReset : Prop :=
  FusesKept State.reset.life State.reset.life ∧ ∀ x : LifeSt, FusesKept x x

/-- O52. A lifecycle command with its condition met sets BUSY with its data staged; one without it is refused (21_lifecycle_and_custody, R527, R530, R531).
A host write of LIFE_CMD with KEY, no command in progress: KEYPROG, KEYREVOKE, ADVANCE, MINVER and KSPROG whose conditions hold become the command in progress and change nothing else; CUSTODY also lets STORE queue its open page; a command that is not accepted sets REFUSED alone; a write by the debug port does nothing. -/
def Obligations.LifecycleCommandsAreAccepted : Prop :=
  (∀ (a : BitVec 8) (s u : State), Arrives .host LIFE_CMD s u → u.life.cmd = none → (u.life.state = .blank ∨ u.life.state = .develop) → a.toNat < 4 →
     slotProg u a.toNat = false → tabGet (fun _ => false) u.life.dead a.toNat = false →
     exec (.keyprog .host a) s = .next { u with life := { u.life with cmd := some (.keyprog a.toNat ((List.range 8).map (fun i => rd u (LIFE_KEYDATA i)))) } }) ∧
  (∀ (a : BitVec 8) (s u : State) (n : Nat), Arrives .host LIFE_CMD s u → u.life.cmd = none → (u.life.state = .develop ∨ u.life.state = .field) → a.toNat < 4 →
     n < 4 → n ≠ a.toNat → slotProg u n = true → slotRevoked u n = false →
     exec (.keyrevoke .host a) s = .next { u with life := { u.life with cmd := some (.keyrevoke a.toNat) } }) ∧
  (∀ s u : State, Arrives .host LIFE_CMD s u → u.life.cmd = none → (u.life.state = .develop ∨ u.life.state = .blank ∧ slotProg u 0 = true) →
     exec (.advance .host) s = .next { u with life := { u.life with cmd := some .advance } }) ∧
  (∀ (a : BitVec 8) (s u : State), Arrives .host LIFE_CMD s u → u.life.cmd = none → u.life.state = .field → u.life.minver < a.toNat →
     exec (.minver .host a) s = .next { u with life := { u.life with cmd := some (.minver a.toNat) } }) ∧
  (∀ (a : BitVec 8) (s u : State), Arrives .host LIFE_CMD s u → u.life.cmd = none → u.life.state ≠ .custody → a.toNat < 2 →
     tabGet (fun _ => false) u.life.ksProg a.toNat = false → tabGet (fun _ => false) u.life.ksDead a.toNat = false →
     exec (.ksprog .host a) s = .next { u with life := { u.life with cmd := some (.ksprog a.toNat ((List.range 8).map (fun i => rd u (LIFE_KEYDATA i)))) } }) ∧
  (∀ (a : BitVec 8) (s u : State), Arrives .host LIFE_CMD s u → u.life.cmd = none → (u.life.state = .develop ∨ u.life.state = .field) →
     flag u STORE_STAT_SUSP = false → islUp u 12 = true →
     exec (.custody .host a) s = .next (completePage (rouse 12 { u with life := { u.life with cmd := some (.custody (a.toNat.testBit 0)) } }))) ∧
  (∀ (v : Word) (s : State), (lifeCmdWrite .debug v s = s) ∧ (wget v 31 16 ≠ 0xC7D2 → lifeCmdWrite .host v s = s) ∧
     (wget v 31 16 = 0xC7D2 → lifeAccepted (wget v 3 0) (wget v 15 8) s = none → lifeCmdWrite .host v s = setF s LIFE_EVT_REFUSED) ∧
     (wget v 31 16 = 0xC7D2 → s.life.cmd.isSome = true → lifeCmdWrite .host v s = setF s LIFE_EVT_REFUSED))

/-- O53. A lifecycle command completes with its fuses and DONE, or spoils its slot with FAIL; the key store is read (21_lifecycle_and_custody, R530, R531, R536).
The command in progress programs its fuses and sets DONE, or with a failed row marks its slot or half and sets FAIL; CUSTODY first freezes the recorder and waits until STORE has programmed its queue. A key store word goes only to a privileged host load. -/
def Obligations.LifecycleCommandsTakeEffect : Prop :=
  (∀ (c : LifeCmd) (s : State), s.life.cmd = some c → (∀ z, c ≠ .custody z) →
     exec (.lifeCommandComplete true) s = .next (setF { s with life := lifeEffect c { s.life with cmd := none } } LIFE_EVT_DONE) ∧
     exec (.lifeCommandComplete false) s = .next (setF { s with life := lifeFailed c { s.life with cmd := none } } LIFE_EVT_FAIL)) ∧
  (∀ (z : Bool) (s u : State), s.life.cmd = some (.custody z) → custodyReady s = true → u = recorderFreeze (rouse 12 s) →
     exec (.lifeCommandComplete true) s = .next (setF { u with life := lifeEffect (.custody z) { u.life with cmd := none } } LIFE_EVT_DONE) ∧
     exec (.lifeCommandComplete false) s = .next (setF { u with life := { u.life with cmd := none } } LIFE_EVT_FAIL) ∧
     (lifeEffect (.custody z) { u.life with cmd := none }).state = .custody ∧
     (z = true → (∀ k, k < 4 → tabGet (fun _ => false) (lifeEffect (.custody z) { u.life with cmd := none }).revoked k = true) ∧
       (∀ i, i < 16 → tabGet (fun _ => 0) (lifeEffect (.custody z) { u.life with cmd := none }).cks i = 0xFFFFFFFF))) ∧
  (∀ (k : Fin 16) (s u : State), Fetches .host (LIFE_CKS k.val) s u → mpuAllows s (LIFE_CKS k.val) 0 = true →
     (hostPriv u = true → exec (.customerKeyRead .host k) s = .next (setReply .host ⟨cksWord u k.val, none⟩ u)) ∧
     (hostPriv u = false → exec (.customerKeyRead .host k) s = .next (setReply .host ⟨0, none⟩ u)))

/-- O54. The boot ROM answers each recovery request at the mailbox with its STATUS and data and raises the alert (21_lifecycle_and_custody, R532, R533).
While the boot ROM serves requests, a request with a new SEQ is taken and answered: STATUS with the identification and lifecycle words; KEYPROG and ADVANCE with the fuses programmed and 0, or with the status of a failed row or of a refused command; ERASECOPY and WRITE with blocks erased or a sector written, or refused for their operands, the suspended NAND or the state CUSTODY; READ with half a page; POLDER with the polder's answer; RESET with a software reset. The numbers of a failed row's status and the arguments' places are the model's free values. -/
def Obligations.RecoveryRequestsAreAnswered : Prop :=
  (∀ (s u : State) (w : Word), w = boxWord s 0x800 → recServes s = true → wget w 7 0 = 1 → s.cpu.recSeq ≠ some (wget w 31 16) →
     u = rouse 11 (clrF { s with cpu := { s.cpu with recSeq := some (wget w 31 16) } } SPI_CTL_ALERT) →
     exec .recoveryStatus s = .next (recAnswer (wget w 31 16) 0 (wordBytes [rd u SYS_DEVID, lifeStat u, lifeKeyStat u, rd u SYS_RSTCAUSE]) u)) ∧
  (∀ (s u : State) (w : Word), w = boxWord s 0x800 → recServes s = true → wget w 7 0 = 3 → s.cpu.recSeq ≠ some (wget w 31 16) →
     u = rouse 11 (clrF { s with cpu := { s.cpu with recSeq := some (wget w 31 16) } } SPI_CTL_ALERT) →
     (s.life.state = .develop ∨ (s.life.state = .blank ∧ slotProg s 0 = true) → s.life.cmd = none →
       exec (.recoveryAdvance true) s = .next (recAnswer (wget w 31 16) 0 [] (setF (setLife { u.life with state := nextLife u.life.state } u) LIFE_EVT_DONE)) ∧
       exec (.recoveryAdvance false) s = .next (recAnswer (wget w 31 16) (1 + Config.recFailStatus % 3) [] (setF u LIFE_EVT_FAIL))) ∧
     (s.life.state = .blank → (∀ n, n < 4 → slotProg s n = false) → ∀ ok, exec (.recoveryAdvance ok) s = .next (recAnswer (wget w 31 16) 1 [] (setF u LIFE_EVT_REFUSED))) ∧
     (s.life.state = .field ∨ s.life.state = .custody → ∀ ok, exec (.recoveryAdvance ok) s =
       .next (recAnswer (wget w 31 16) 1 [] (clrF { s with cpu := { s.cpu with recSeq := some (wget w 31 16) } } SPI_CTL_ALERT)))) ∧
  (∀ (n : Nat) (s u v : State) (w : Word), w = boxWord s 0x800 → recServes s = true → wget w 7 0 = 2 → s.cpu.recSeq ≠ some (wget w 31 16) →
     u = rouse 11 (clrF { s with cpu := { s.cpu with recSeq := some (wget w 31 16) } } SPI_CTL_ALERT) → (s.life.state = .blank ∨ s.life.state = .develop) → n = recArg u 2 0 →
     v = forN 8 (fun i s => wr s (LIFE_KEYDATA i) (boxWord s (0x810 + 4 * i))) u →
     (4 ≤ n → ∀ ok, exec (.recoveryKeyprog ok) s = .next (recAnswer (wget w 31 16) 2 [] u)) ∧
     (n < 4 → s.life.cmd = none → slotProg s n = false → tabGet (fun _ => false) s.life.dead n = false →
       exec (.recoveryKeyprog true) s = .next (recAnswer (wget w 31 16) 0 [] (setF (setLife { v.life with
         prog := tabSet (fun _ => false) v.life.prog n true, keys := tabSet (fun _ => []) v.life.keys n (keyData v) } v) LIFE_EVT_DONE)) ∧
       exec (.recoveryKeyprog false) s = .next (recAnswer (wget w 31 16) (1 + Config.recFailStatus % 3) [] (setF (setLife { v.life with
         dead := tabSet (fun _ => false) v.life.dead n true } v) LIFE_EVT_FAIL))) ∧
     (n < 4 → slotProg s n = true → ∀ ok, exec (.recoveryKeyprog ok) s = .next (recAnswer (wget w 31 16) 1 [] (setF v LIFE_EVT_REFUSED)))) ∧
  (∀ (c : Nat) (s u : State) (w : Word), w = boxWord s 0x800 → recServes s = true → wget w 7 0 = 4 → s.cpu.recSeq ≠ some (wget w 31 16) →
     u = rouse 11 (clrF { s with cpu := { s.cpu with recSeq := some (wget w 31 16) } } SPI_CTL_ALERT) → c = recArg u 4 0 →
     (s.life.state ≠ .custody → 2 ≤ c → ∀ f, exec (.erasecopy f) s = .next (recAnswer (wget w 31 16) 2 [] u)) ∧
     (s.life.state ≠ .custody → c < 2 → recNand u = false → ∀ f, exec (.erasecopy f) s = .next (recAnswer (wget w 31 16) 3 [] u)) ∧
     (s.life.state ≠ .custody → c < 2 → recNand u = true →
       exec (.erasecopy none) s = .next (recAnswer (wget w 31 16) 0 [] ((copyBlocks u c).foldl (fun s b => nandErase b s) (rouse 12 u))) ∧
       ∀ (k : Fin 62) (b : Nat), (copyBlocks u c)[k.val]? = some b →
         exec (.erasecopy (some k)) s = .next (recAnswer (wget w 31 16) 3 [] (retireBlock b (((copyBlocks u c).take k.val).foldl (fun s b => nandErase b s) (rouse 12 u))))) ∧
     (s.life.state = .custody → ∀ f, exec (.erasecopy f) s = .next (recAnswer (wget w 31 16) 1 [] (clrF { s with cpu := { s.cpu with recSeq := some (wget w 31 16) } } SPI_CTL_ALERT)))) ∧
  (∀ (c x : Nat) (s u : State) (w : Word), w = boxWord s 0x800 → recServes s = true → wget w 7 0 = 5 → s.cpu.recSeq ≠ some (wget w 31 16) →
     u = rouse 11 (clrF { s with cpu := { s.cpu with recSeq := some (wget w 31 16) } } SPI_CTL_ALERT) → s.life.state ≠ .custody → c = recArg u 5 0 → x = recArg u 5 1 →
     ((copyPages u c)[x / 4096]? = none → ∀ f, exec (.recoveryWrite f) s = .next (recAnswer (wget w 31 16) 2 [] u)) ∧
     (2 ≤ c ∨ x % 1024 ≠ 0 → ∀ f, exec (.recoveryWrite f) s = .next (recAnswer (wget w 31 16) 2 [] u)) ∧
     (∀ page y f, (copyPages u c)[x / 4096]? = some page → u.cpu.recPg = some (page, y) → x % 4096 ≤ y → exec (.recoveryWrite f) s = .next (recAnswer (wget w 31 16) 2 [] u)) ∧
     (∀ page, c < 2 → x % 1024 = 0 → (copyPages u c)[x / 4096]? = some page → (∀ y, u.cpu.recPg = some (page, y) → y < x % 4096) →
       (recNand u = false → ∀ f, exec (.recoveryWrite f) s = .next (recAnswer (wget w 31 16) 3 [] u)) ∧
       (recNand u = true → exec (.recoveryWrite true) s = .next (recAnswer (wget w 31 16) 3 [] (retireBlock (page / 32) (rouse 12 u)))) ∧
       (recNand u = true → ∀ v, v = writeSector page (x % 4096) (bytesAt u.links.mem (spiBox + 0x810) 1024) (rouse 12 u) →
         exec (.recoveryWrite false) s = .next (recAnswer (wget w 31 16) 0 [] { v with cpu := { v.cpu with recPg := some (page, x % 4096) } })))) ∧
  (∀ (s : State) (w : Word), w = boxWord s 0x800 → recServes s = true → wget w 7 0 = 5 → s.cpu.recSeq ≠ some (wget w 31 16) → s.life.state = .custody →
     ∀ f, exec (.recoveryWrite f) s = .next (recAnswer (wget w 31 16) 1 [] (clrF { s with cpu := { s.cpu with recSeq := some (wget w 31 16) } } SPI_CTL_ALERT))) ∧
  (∀ (p b pg h : Nat) (e : EccBits) (s u : State) (w : Word), w = boxWord s 0x800 → recServes s = true → wget w 7 0 = 6 → s.cpu.recSeq ≠ some (wget w 31 16) →
     u = rouse 11 (clrF { s with cpu := { s.cpu with recSeq := some (wget w 31 16) } } SPI_CTL_ALERT) → p = recArg u 6 0 → b = recArg u 6 1 → pg = recArg u 6 2 → h = recArg u 6 3 →
     (partition p = none → exec (.recoveryRead e) s = .next (recAnswer (wget w 31 16) 2 [] u)) ∧
     (∀ base n, partition p = some (base, n) →
       (n ≤ b ∨ 32 ≤ pg ∨ 2 ≤ h → exec (.recoveryRead e) s = .next (recAnswer (wget w 31 16) 2 [] u)) ∧
       (b < n → pg < 32 → h < 2 →
         (base + b = 126 ∨ base + b = 127 → exec (.recoveryRead e) s = .next (recAnswer (wget w 31 16) 1 [] u)) ∧
         (base + b ≠ 126 → base + b ≠ 127 → islUp u 12 = false ∨ blockGood u (base + b) = false → exec (.recoveryRead e) s = .next (recAnswer (wget w 31 16) 3 [] u)) ∧
         (base + b ≠ 126 → base + b ≠ 127 → islUp u 12 = true → blockGood u (base + b) = true → ∀ v, v = rouse 12 u →
           (tabFind v.nand.pages (32 * (base + b) + pg) = none → exec (.recoveryRead e) s = .next (recAnswer (wget w 31 16) 0 (List.replicate 2048 0xFF) v)) ∧
           (∀ d, tabFind v.nand.pages (32 * (base + b) + pg) = some d →
             (e.bad = true → exec (.recoveryRead e) s = .next (recAnswer (wget w 31 16) 3 [] (eccCount e v))) ∧
             (e.bad = false → exec (.recoveryRead e) s = .next (recAnswer (wget w 31 16) 0 ((d.data.drop (2048 * h)).take 2048) (eccCount e v)))))))) ∧
  (∀ (op : Nat) (lost : Bool) (s u v : State) (w : Word), w = boxWord s 0x800 → recServes s = true → wget w 7 0 = 7 → s.cpu.recSeq ≠ some (wget w 31 16) →
     u = rouse 11 (clrF { s with cpu := { s.cpu with recSeq := some (wget w 31 16) } } SPI_CTL_ALERT) → op = recArg u 7 0 →
     v = polReqWrite lost (w32 (op * 2 ^ 24 + recArg u 7 1 % 256 * 65536)) (wr u POLD_REQARG (w32 (recArg u 7 2))) →
     (u.sys.variantM = false → exec (.recoveryPolder lost) s = .next (recAnswer (wget w 31 16) 1 [] u)) ∧
     (u.sys.variantM = true → op ≠ 0x01 → op ≠ 0x02 → op ≠ 0x20 → exec (.recoveryPolder lost) s = .next (recAnswer (wget w 31 16) 2 [] u)) ∧
     (u.sys.variantM = true → (op = 0x01 ∨ op = 0x02 ∨ op = 0x20) →
       (flag u POLD_STAT_BUSY = true → exec (.recoveryPolder lost) s = .next (recAnswer (wget w 31 16) 1 [] u)) ∧
       (∀ st l t, flag u POLD_STAT_BUSY = false → polTake isResponse v = (some (.response st l), t) → exec (.recoveryPolder lost) s =
         .next (recAnswer (wget w 31 16) (if st = 0 then 0 else if st = 2 then 2 else 1) (wordBytes l) (polEnd st l t))) ∧
       (∀ t, flag u POLD_STAT_BUSY = false → polTake isResponse v = (none, t) → exec (.recoveryPolder lost) s = .next (recAnswer (wget w 31 16) 1 [] (polEnd 7 [] t))))) ∧
  (∀ (s : State) (w : Word), w = boxWord s 0x800 → recServes s = true → wget w 7 0 = 8 → s.cpu.recSeq ≠ some (wget w 31 16) →
     exec .recoveryReset s = .next (resetLogic SYS_RSTCAUSE_SWRST s)) ∧
  (∀ (page off : Nat) (d : List Byte) (s : State),
     (tabFind s.nand.pages page = none → writeSector page off d s =
       nandPut page ⟨List.replicate off 0xFF ++ d ++ List.replicate (3072 - off) 0xFF, List.replicate 16 0xFF⟩ s) ∧
     (∀ p x, tabFind s.nand.pages page = some p → s.cpu.recPg = some (page, x) →
       writeSector page off d s = nandPut page { p with data := p.data.take off ++ d ++ p.data.drop (off + 1024) } s))

/-- O55. The instructions of the IEEE 1149.1 port, the accesses of the debug port, and halt, step and resume (13_ethernet_and_host_links, R61, R373, R374, R375, R376, R527).
From another instruction than EXTEST: IDCODE and DBGSTAT load the word they shift out, SAMPLE/PRELOAD and EXTEST take cells, BYPASS only selects. At BASIC or more DBGACC accesses the address map as the debug initiator and a shuttle only at EXPERT; halt, step, resume and arm change the engine's debug state alone; EXPERT is granted where the lifecycle permits it. Below BASIC each is BYPASS. Leaving EXTEST performs a debug reset. -/
def Obligations.DebugPortCommandsComplete : Prop :=
  (∀ (code : Byte) (s : State), s.dbg.ir ≠ .extest → (code ≠ 0x00 ∧ code ≠ 0x01 ∧ code ≠ 0x02 ∧ code ≠ 0x10 ∧ code ≠ 0x11 ∧ code ≠ 0x12) →
     jtagOf code = .bypass ∧ exec .bypass s = .next { s with dbg := { s.dbg with ir := .bypass } } ∧
     exec .idcode s = .next { s with dbg := { s.dbg with ir := .idcode, out := 0xB64165AB } } ∧
     (∀ l p, exec (.samplePreload l p) s = .next { s with dbg := { s.dbg with ir := .samplePreload, cells := l, bound := p } }) ∧
     exec .dbgstat s = .next { s with dbg := { s.dbg with ir := .dbgstat, out := BitVec.ofNat 32 (dbgLevel s) } }) ∧
  (∀ s : State, s.dbg.ir = .extest → ∃ t, exec .bypass s = .next t ∧ t = setDbg { (resetLogic SYS_RSTCAUSE_DBG s).dbg with ir := .bypass } (resetLogic SYS_RSTCAUSE_DBG s)) ∧
  (∀ s : State, dbgLevel s ≥ 1 → s.dbg.ir ≠ .extest →
     (∀ l c, exec (.extest l c) s = .next { s with dbg := { s.dbg with ir := .extest, cells := l, bound := c } }) ∧
     (∀ a v, exec (.dbgacc (.bus a (some v))) s = .next (busWrite .debug .word a.toNat v { s with dbg := { s.dbg with ir := .dbgacc } })) ∧
     (∀ a, exec (.dbgacc (.bus a none)) s = .next (busRead .debug .word a.toNat { s with dbg := { s.dbg with ir := .dbgacc } })) ∧
     (∀ n x v, exec (.dbgacc (.shuttle n x v)) s = .next (dbgShuttle n.val x v { s with dbg := { s.dbg with ir := .dbgacc } })) ∧
     (dbgMax s = 2 → exec .debugExpertRequest s = .next { s with dbg := { s.dbg with ir := .dbgctl, expert := true } })) ∧
  (∀ (e : Option (Fin 16)) (g : Engine) (s u : State), g = dbgEngine e → dbgLevel s ≥ 1 → s.dbg.ir ≠ .extest → islUp s g.island = true →
     u = { s with dbg := { s.dbg with ir := .dbgctl } } →
     exec (.debugHalt e) s = .next (setCore g { coreOf u g with halted := true, step := false } u) ∧
     exec (.debugStep e) s = .next (setCore g { coreOf u g with step := (coreOf u g).halted } u) ∧
     exec (.debugResume e) s = .next (setCore g { coreOf u g with halted := false, step := false } u) ∧
     exec (.debugArm e) s = .next (setCore g { coreOf u g with armed := true } u)) ∧
  (∀ s : State, dbgLevel s = 0 → s.dbg.ir ≠ .extest → ∀ e l c o,
     exec (.debugHalt e) s = exec .bypass s ∧ exec (.extest l c) s = exec .bypass s ∧ exec (.dbgacc o) s = exec .bypass s ∧
     exec .debugExpertRequest s = exec .bypass s)

/-- O56. Every command answers a next state in every state and leaves the waiting commands alone, so step never stops (00_scope, 01_islands_and_sluices).
For every command and every state, exec answers a next state whose queue of waiting commands is the one it was given; and for every state step answers a next state whose queue is the queue without its first command (the empty queue stays empty). So no command and no value of an operand stops the block with a fault or a refusal. -/
def Obligations.EveryCommandProceeds : Prop :=
  (∀ (c : Instr) (s : State), ∃ t, exec c s = .next t ∧ t.pending = s.pending) ∧
  (∀ s : State, ∃ t, step s = .next t ∧ t.pending = s.pending.tail)

/-- O57. The commands of the sluices keep every sluice within its bounds: one word in its handshake, two in its receive register (01_islands_and_sluices, R16, R17, R553).
In every state in which each sluice holds a word in its handshake exactly while REQ is raised and at most two words in its receive register, each of the six commands of the sluices and their arbiters (the four phases, the timeout and the promotion by age) answers a next state in which this holds of every sluice again; and it holds right after reset. -/
def Obligations.SluicesStayWithinBounds : Prop :=
  (SluicesWf State.reset) ∧
  (∀ (s t : State) (src dst : Fin 27) (w : SluiceWord) (taken : Fin 3) (who : Requester) (age : BitVec 16), SluicesWf s →
     (exec (.sluiceRequest src dst w) s = .next t ∨ exec (.sluiceLatch src dst taken) s = .next t ∨ exec (.sluiceAckSeen src dst) s = .next t ∨
       exec (.sluiceAckLow src dst) s = .next t ∨ exec (.handshakeTimeout src dst) s = .next t ∨ exec (.agePromotion who age) s = .next t) → SluicesWf t)
end

