-- ==== Sys2Proof/Laws/Tab.lean ====
section
/-! SUPPORT. What storing in a sparse table does: the stored key reads the stored value, every other key reads as before, and
the canonical form is kept. -/

namespace Sys2Proof
variable {α : Type}

@[simp] theorem tabFind_put_self (t : Tab α) (i : Nat) (v : α) : tabFind (tabPut t i v) i = some v := by
  induction t with
  | nil => simp [tabPut, tabFind]
  | cons e t ih =>
    obtain ⟨k, w⟩ := e
    simp only [tabPut]
    split_ifs with h1 h2
    · simp [tabFind]
    · simp [tabFind]
    · have : k ≠ i := fun h => h2 h.symm
      simp [tabFind, this, ih]

theorem tabFind_put_ne (t : Tab α) (i j : Nat) (v : α) (h : j ≠ i) : tabFind (tabPut t i v) j = tabFind t j := by
  induction t with
  | nil => simp [tabPut, tabFind, Ne.symm h]
  | cons e t ih =>
    obtain ⟨k, w⟩ := e
    simp only [tabPut]
    split_ifs with h1 h2
    · simp [tabFind, Ne.symm h]
    · subst h2; simp [tabFind, Ne.symm h]
    · simp [tabFind, ih]

@[simp] theorem tabFind_drop_self (t : Tab α) (i : Nat) : tabFind (tabDrop t i) i = none := by
  induction t with
  | nil => rfl
  | cons e t ih =>
    obtain ⟨k, w⟩ := e
    simp only [tabDrop]
    split_ifs with h1
    · exact ih
    · simp [tabFind, h1, ih]

theorem tabFind_drop_ne (t : Tab α) (i j : Nat) (h : j ≠ i) : tabFind (tabDrop t i) j = tabFind t j := by
  induction t with
  | nil => rfl
  | cons e t ih =>
    obtain ⟨k, w⟩ := e
    simp only [tabDrop]
    split_ifs with h1
    · subst h1; simp [tabFind, Ne.symm h, ih]
    · simp [tabFind, ih]

/-- Canonical form as a proposition over the list: pairwise rising keys. -/
theorem tabRising_iff (t : Tab α) : tabRising t = true ↔ t.Pairwise (fun a b => a.1 < b.1) := by
  induction t with
  | nil => simp [tabRising]
  | cons e t ih =>
    cases t with
    | nil => simp [tabRising]
    | cons f t =>
      obtain ⟨k, v⟩ := e; obtain ⟨l, w⟩ := f
      simp only [tabRising, Bool.and_eq_true, decide_eq_true_eq, ih, List.pairwise_cons]
      constructor
      · rintro ⟨h, h1, h2⟩
        refine ⟨?_, h1, h2⟩
        intro b hb
        rcases List.mem_cons.mp hb with rfl | hb
        · exact h
        · exact lt_trans h (h1 b hb)
      · rintro ⟨h, h1, h2⟩
        exact ⟨h (l, w) (by simp), h1, h2⟩

theorem mem_tabPut (t : Tab α) (i : Nat) (v : α) (e : Nat × α) (h : e ∈ tabPut t i v) : e = (i, v) ∨ e ∈ t := by
  induction t with
  | nil => simpa [tabPut] using h
  | cons f t ih =>
    obtain ⟨k, w⟩ := f
    simp only [tabPut] at h
    split_ifs at h with h1 h2
    · simpa using h
    · rcases List.mem_cons.mp h with h | h
      · exact .inl h
      · exact .inr (List.mem_cons_of_mem _ h)
    · rcases List.mem_cons.mp h with h | h
      · exact .inr (by simp [h])
      · rcases ih h with h | h
        · exact .inl h
        · exact .inr (List.mem_cons_of_mem _ h)

theorem mem_tabDrop (t : Tab α) (i : Nat) (e : Nat × α) (h : e ∈ tabDrop t i) : e ∈ t := by
  induction t with
  | nil => simp [tabDrop] at h
  | cons f t ih =>
    obtain ⟨k, w⟩ := f
    simp only [tabDrop] at h
    split_ifs at h with h1
    · exact List.mem_cons_of_mem _ (ih h)
    · rcases List.mem_cons.mp h with h | h
      · simp [h]
      · exact List.mem_cons_of_mem _ (ih h)

theorem tabPut_rising (t : Tab α) (i : Nat) (v : α) (h : t.Pairwise (fun a b => a.1 < b.1)) :
    (tabPut t i v).Pairwise (fun a b => a.1 < b.1) := by
  induction t with
  | nil => simp [tabPut]
  | cons f t ih =>
    obtain ⟨k, w⟩ := f
    rw [List.pairwise_cons] at h
    simp only [tabPut]
    split_ifs with h1 h2
    · refine List.pairwise_cons.mpr ⟨?_, List.pairwise_cons.mpr h⟩
      intro b hb
      rcases List.mem_cons.mp hb with rfl | hb
      · exact h1
      · exact lt_trans h1 (h.1 b hb)
    · subst h2; exact List.pairwise_cons.mpr h
    · refine List.pairwise_cons.mpr ⟨?_, ih h.2⟩
      intro b hb
      rcases mem_tabPut t i v b hb with rfl | hb
      · simp only; omega
      · exact h.1 b hb

theorem tabDrop_rising (t : Tab α) (i : Nat) (h : t.Pairwise (fun a b => a.1 < b.1)) :
    (tabDrop t i).Pairwise (fun a b => a.1 < b.1) := by
  induction t with
  | nil => simp [tabDrop]
  | cons f t ih =>
    obtain ⟨k, w⟩ := f
    rw [List.pairwise_cons] at h
    simp only [tabDrop]
    split_ifs with h1
    · exact ih h.2
    · exact List.pairwise_cons.mpr ⟨fun b hb => h.1 b (mem_tabDrop t i b hb), ih h.2⟩

/-- After clearing, a cleared key reads as unlisted and every other key as before. -/
theorem tabGet_clear (d : Nat → α) (p : Nat → Bool) (t : Tab α) (i : Nat) :
    tabGet d (tabClear p t) i = if p i then d i else tabGet d t i := by
  unfold tabGet tabClear
  induction t with
  | nil => cases p i <;> simp [tabFind]
  | cons e t ih =>
    obtain ⟨k, w⟩ := e
    by_cases hk : p k
    · by_cases hi : k = i
      · subst hi; simp [hk] at ih ⊢; simpa using ih
      · simp [hk, tabFind, hi] at ih ⊢; exact ih
    · by_cases hi : k = i
      · subst hi; simp [hk, tabFind]
      · simp [hk, tabFind, hi] at ih ⊢; exact ih

variable [DecidableEq α]

@[simp] theorem tabGet_set_self (d : Nat → α) (t : Tab α) (i : Nat) (v : α) : tabGet d (tabSet d t i v) i = v := by
  unfold tabGet tabSet
  split_ifs with h
  · simp [h]
  · simp

theorem tabGet_set_ne (d : Nat → α) (t : Tab α) (i j : Nat) (v : α) (h : j ≠ i) :
    tabGet d (tabSet d t i v) j = tabGet d t j := by
  unfold tabGet tabSet
  split_ifs with hv
  · rw [tabFind_drop_ne _ _ _ h]
  · rw [tabFind_put_ne _ _ _ _ h]

theorem tabGet_set (d : Nat → α) (t : Tab α) (i j : Nat) (v : α) :
    tabGet d (tabSet d t i v) j = if j = i then v else tabGet d t j := by
  split_ifs with h
  · subst h; simp
  · exact tabGet_set_ne d t i j v h

theorem tabWf_iff (d : Nat → α) (t : Tab α) :
    tabWf d t = true ↔ t.Pairwise (fun a b => a.1 < b.1) ∧ ∀ e ∈ t, e.2 ≠ d e.1 := by
  simp [tabWf, tabRising_iff]

/-- Storing keeps the canonical form. -/
theorem tabSet_wf (d : Nat → α) (t : Tab α) (i : Nat) (v : α) (h : tabWf d t = true) : tabWf d (tabSet d t i v) = true := by
  rw [tabWf_iff] at h ⊢
  unfold tabSet
  split_ifs with hv
  · exact ⟨tabDrop_rising t i h.1, fun e he => h.2 e (mem_tabDrop t i e he)⟩
  · refine ⟨tabPut_rising t i v h.1, fun e he => ?_⟩
    rcases mem_tabPut t i v e he with rfl | he
    · exact hv
    · exact h.2 e he

/-- Clearing a range of keys keeps the canonical form. -/
theorem tabClear_wf (d : Nat → α) (p : Nat → Bool) (t : Tab α) (h : tabWf d t = true) : tabWf d (tabClear p t) = true := by
  rw [tabWf_iff] at h ⊢
  exact ⟨h.1.filter _, fun e he => h.2 e (List.mem_of_mem_filter he)⟩

end Sys2Proof
end

