-- ==== Sys2Proof/Laws/State.lean ====
section
/-! SUPPORT. What the register operations leave of every other field of the state. -/

namespace Sys2Proof.Machine

@[simp] theorem wr_regs (s : State) (a : Nat) (v : Word) : (wr s a v).regs = tabSet resetVal s.regs a v := rfl

@[simp] theorem wr_hostBus (s : State) (a : Nat) (v : Word) : (wr s a v).hostBus = s.hostBus := rfl
@[simp] theorem wr_dbgBus (s : State) (a : Nat) (v : Word) : (wr s a v).dbgBus = s.dbgBus := rfl
@[simp] theorem wr_sys (s : State) (a : Nat) (v : Word) : (wr s a v).sys = s.sys := rfl
@[simp] theorem wr_slu (s : State) (a : Nat) (v : Word) : (wr s a v).slu = s.slu := rfl
@[simp] theorem wr_tick (s : State) (a : Nat) (v : Word) : (wr s a v).tick = s.tick := rfl
@[simp] theorem wr_life (s : State) (a : Nat) (v : Word) : (wr s a v).life = s.life := rfl
@[simp] theorem wr_dbg (s : State) (a : Nat) (v : Word) : (wr s a v).dbg = s.dbg := rfl
@[simp] theorem wr_store (s : State) (a : Nat) (v : Word) : (wr s a v).store = s.store := rfl
@[simp] theorem wr_nand (s : State) (a : Nat) (v : Word) : (wr s a v).nand = s.nand := rfl
@[simp] theorem wr_afe (s : State) (a : Nat) (v : Word) : (wr s a v).afe = s.afe := rfl
@[simp] theorem wr_vib (s : State) (a : Nat) (v : Word) : (wr s a v).vib = s.vib := rfl
@[simp] theorem wr_cpu (s : State) (a : Nat) (v : Word) : (wr s a v).cpu = s.cpu := rfl
@[simp] theorem wr_seq (s : State) (a : Nat) (v : Word) : (wr s a v).seq = s.seq := rfl
@[simp] theorem wr_sh (s : State) (a : Nat) (v : Word) : (wr s a v).sh = s.sh := rfl
@[simp] theorem wr_loom (s : State) (a : Nat) (v : Word) : (wr s a v).loom = s.loom := rfl
@[simp] theorem wr_que (s : State) (a : Nat) (v : Word) : (wr s a v).que = s.que := rfl
@[simp] theorem wr_dio (s : State) (a : Nat) (v : Word) : (wr s a v).dio = s.dio := rfl
@[simp] theorem wr_comms (s : State) (a : Nat) (v : Word) : (wr s a v).comms = s.comms := rfl
@[simp] theorem wr_can (s : State) (a : Nat) (v : Word) : (wr s a v).can = s.can := rfl
@[simp] theorem wr_links (s : State) (a : Nat) (v : Word) : (wr s a v).links = s.links := rfl
@[simp] theorem wr_selv (s : State) (a : Nat) (v : Word) : (wr s a v).selv = s.selv := rfl
@[simp] theorem wr_disp (s : State) (a : Nat) (v : Word) : (wr s a v).disp = s.disp := rfl
@[simp] theorem wr_pol (s : State) (a : Nat) (v : Word) : (wr s a v).pol = s.pol := rfl
@[simp] theorem wr_nor (s : State) (a : Nat) (v : Word) : (wr s a v).nor = s.nor := rfl
@[simp] theorem wr_rv (s : State) (a : Nat) (v : Word) : (wr s a v).rv = s.rv := rfl
@[simp] theorem wr_rvTrig (s : State) (a : Nat) (v : Word) : (wr s a v).rvTrig = s.rvTrig := rfl
@[simp] theorem wr_perf (s : State) (a : Nat) (v : Word) : (wr s a v).perf = s.perf := rfl
@[simp] theorem wr_pending (s : State) (a : Nat) (v : Word) : (wr s a v).pending = s.pending := rfl

@[simp] theorem fset_hostBus (s : State) (F : Fld) (v : Nat) : (fset s F v).hostBus = s.hostBus := rfl
@[simp] theorem fset_dbgBus (s : State) (F : Fld) (v : Nat) : (fset s F v).dbgBus = s.dbgBus := rfl
@[simp] theorem fset_sys (s : State) (F : Fld) (v : Nat) : (fset s F v).sys = s.sys := rfl
@[simp] theorem fset_slu (s : State) (F : Fld) (v : Nat) : (fset s F v).slu = s.slu := rfl
@[simp] theorem fset_tick (s : State) (F : Fld) (v : Nat) : (fset s F v).tick = s.tick := rfl
@[simp] theorem fset_life (s : State) (F : Fld) (v : Nat) : (fset s F v).life = s.life := rfl
@[simp] theorem fset_dbg (s : State) (F : Fld) (v : Nat) : (fset s F v).dbg = s.dbg := rfl
@[simp] theorem fset_store (s : State) (F : Fld) (v : Nat) : (fset s F v).store = s.store := rfl
@[simp] theorem fset_nand (s : State) (F : Fld) (v : Nat) : (fset s F v).nand = s.nand := rfl
@[simp] theorem fset_afe (s : State) (F : Fld) (v : Nat) : (fset s F v).afe = s.afe := rfl
@[simp] theorem fset_vib (s : State) (F : Fld) (v : Nat) : (fset s F v).vib = s.vib := rfl
@[simp] theorem fset_cpu (s : State) (F : Fld) (v : Nat) : (fset s F v).cpu = s.cpu := rfl
@[simp] theorem fset_seq (s : State) (F : Fld) (v : Nat) : (fset s F v).seq = s.seq := rfl
@[simp] theorem fset_sh (s : State) (F : Fld) (v : Nat) : (fset s F v).sh = s.sh := rfl
@[simp] theorem fset_loom (s : State) (F : Fld) (v : Nat) : (fset s F v).loom = s.loom := rfl
@[simp] theorem fset_que (s : State) (F : Fld) (v : Nat) : (fset s F v).que = s.que := rfl
@[simp] theorem fset_dio (s : State) (F : Fld) (v : Nat) : (fset s F v).dio = s.dio := rfl
@[simp] theorem fset_comms (s : State) (F : Fld) (v : Nat) : (fset s F v).comms = s.comms := rfl
@[simp] theorem fset_can (s : State) (F : Fld) (v : Nat) : (fset s F v).can = s.can := rfl
@[simp] theorem fset_links (s : State) (F : Fld) (v : Nat) : (fset s F v).links = s.links := rfl
@[simp] theorem fset_selv (s : State) (F : Fld) (v : Nat) : (fset s F v).selv = s.selv := rfl
@[simp] theorem fset_disp (s : State) (F : Fld) (v : Nat) : (fset s F v).disp = s.disp := rfl
@[simp] theorem fset_pol (s : State) (F : Fld) (v : Nat) : (fset s F v).pol = s.pol := rfl
@[simp] theorem fset_nor (s : State) (F : Fld) (v : Nat) : (fset s F v).nor = s.nor := rfl
@[simp] theorem fset_rv (s : State) (F : Fld) (v : Nat) : (fset s F v).rv = s.rv := rfl
@[simp] theorem fset_rvTrig (s : State) (F : Fld) (v : Nat) : (fset s F v).rvTrig = s.rvTrig := rfl
@[simp] theorem fset_perf (s : State) (F : Fld) (v : Nat) : (fset s F v).perf = s.perf := rfl
@[simp] theorem fset_pending (s : State) (F : Fld) (v : Nat) : (fset s F v).pending = s.pending := rfl

@[simp] theorem setF_hostBus (s : State) (F : Fld) : (setF s F).hostBus = s.hostBus := rfl
@[simp] theorem setF_dbgBus (s : State) (F : Fld) : (setF s F).dbgBus = s.dbgBus := rfl
@[simp] theorem setF_sys (s : State) (F : Fld) : (setF s F).sys = s.sys := rfl
@[simp] theorem setF_slu (s : State) (F : Fld) : (setF s F).slu = s.slu := rfl
@[simp] theorem setF_tick (s : State) (F : Fld) : (setF s F).tick = s.tick := rfl
@[simp] theorem setF_life (s : State) (F : Fld) : (setF s F).life = s.life := rfl
@[simp] theorem setF_dbg (s : State) (F : Fld) : (setF s F).dbg = s.dbg := rfl
@[simp] theorem setF_store (s : State) (F : Fld) : (setF s F).store = s.store := rfl
@[simp] theorem setF_nand (s : State) (F : Fld) : (setF s F).nand = s.nand := rfl
@[simp] theorem setF_afe (s : State) (F : Fld) : (setF s F).afe = s.afe := rfl
@[simp] theorem setF_vib (s : State) (F : Fld) : (setF s F).vib = s.vib := rfl
@[simp] theorem setF_cpu (s : State) (F : Fld) : (setF s F).cpu = s.cpu := rfl
@[simp] theorem setF_seq (s : State) (F : Fld) : (setF s F).seq = s.seq := rfl
@[simp] theorem setF_sh (s : State) (F : Fld) : (setF s F).sh = s.sh := rfl
@[simp] theorem setF_loom (s : State) (F : Fld) : (setF s F).loom = s.loom := rfl
@[simp] theorem setF_que (s : State) (F : Fld) : (setF s F).que = s.que := rfl
@[simp] theorem setF_dio (s : State) (F : Fld) : (setF s F).dio = s.dio := rfl
@[simp] theorem setF_comms (s : State) (F : Fld) : (setF s F).comms = s.comms := rfl
@[simp] theorem setF_can (s : State) (F : Fld) : (setF s F).can = s.can := rfl
@[simp] theorem setF_links (s : State) (F : Fld) : (setF s F).links = s.links := rfl
@[simp] theorem setF_selv (s : State) (F : Fld) : (setF s F).selv = s.selv := rfl
@[simp] theorem setF_disp (s : State) (F : Fld) : (setF s F).disp = s.disp := rfl
@[simp] theorem setF_pol (s : State) (F : Fld) : (setF s F).pol = s.pol := rfl
@[simp] theorem setF_nor (s : State) (F : Fld) : (setF s F).nor = s.nor := rfl
@[simp] theorem setF_rv (s : State) (F : Fld) : (setF s F).rv = s.rv := rfl
@[simp] theorem setF_rvTrig (s : State) (F : Fld) : (setF s F).rvTrig = s.rvTrig := rfl
@[simp] theorem setF_perf (s : State) (F : Fld) : (setF s F).perf = s.perf := rfl
@[simp] theorem setF_pending (s : State) (F : Fld) : (setF s F).pending = s.pending := rfl
@[simp] theorem clrF_hostBus (s : State) (F : Fld) : (clrF s F).hostBus = s.hostBus := rfl
@[simp] theorem clrF_dbgBus (s : State) (F : Fld) : (clrF s F).dbgBus = s.dbgBus := rfl
@[simp] theorem clrF_sys (s : State) (F : Fld) : (clrF s F).sys = s.sys := rfl
@[simp] theorem clrF_slu (s : State) (F : Fld) : (clrF s F).slu = s.slu := rfl
@[simp] theorem clrF_tick (s : State) (F : Fld) : (clrF s F).tick = s.tick := rfl
@[simp] theorem clrF_life (s : State) (F : Fld) : (clrF s F).life = s.life := rfl
@[simp] theorem clrF_dbg (s : State) (F : Fld) : (clrF s F).dbg = s.dbg := rfl
@[simp] theorem clrF_store (s : State) (F : Fld) : (clrF s F).store = s.store := rfl
@[simp] theorem clrF_nand (s : State) (F : Fld) : (clrF s F).nand = s.nand := rfl
@[simp] theorem clrF_afe (s : State) (F : Fld) : (clrF s F).afe = s.afe := rfl
@[simp] theorem clrF_vib (s : State) (F : Fld) : (clrF s F).vib = s.vib := rfl
@[simp] theorem clrF_cpu (s : State) (F : Fld) : (clrF s F).cpu = s.cpu := rfl
@[simp] theorem clrF_seq (s : State) (F : Fld) : (clrF s F).seq = s.seq := rfl
@[simp] theorem clrF_sh (s : State) (F : Fld) : (clrF s F).sh = s.sh := rfl
@[simp] theorem clrF_loom (s : State) (F : Fld) : (clrF s F).loom = s.loom := rfl
@[simp] theorem clrF_que (s : State) (F : Fld) : (clrF s F).que = s.que := rfl
@[simp] theorem clrF_dio (s : State) (F : Fld) : (clrF s F).dio = s.dio := rfl
@[simp] theorem clrF_comms (s : State) (F : Fld) : (clrF s F).comms = s.comms := rfl
@[simp] theorem clrF_can (s : State) (F : Fld) : (clrF s F).can = s.can := rfl
@[simp] theorem clrF_links (s : State) (F : Fld) : (clrF s F).links = s.links := rfl
@[simp] theorem clrF_selv (s : State) (F : Fld) : (clrF s F).selv = s.selv := rfl
@[simp] theorem clrF_disp (s : State) (F : Fld) : (clrF s F).disp = s.disp := rfl
@[simp] theorem clrF_pol (s : State) (F : Fld) : (clrF s F).pol = s.pol := rfl
@[simp] theorem clrF_nor (s : State) (F : Fld) : (clrF s F).nor = s.nor := rfl
@[simp] theorem clrF_rv (s : State) (F : Fld) : (clrF s F).rv = s.rv := rfl
@[simp] theorem clrF_rvTrig (s : State) (F : Fld) : (clrF s F).rvTrig = s.rvTrig := rfl
@[simp] theorem clrF_perf (s : State) (F : Fld) : (clrF s F).perf = s.perf := rfl
@[simp] theorem clrF_pending (s : State) (F : Fld) : (clrF s F).pending = s.pending := rfl

end Sys2Proof.Machine
end

