-- ==== Sys2Proof/Laws/Ops.lean ====
section
/-! SUPPORT. Registers and fields: a read after a write, and what a write leaves. -/

namespace Sys2Proof.Machine

@[simp] theorem rd_wr_self (s : State) (a : Nat) (v : Word) : rd (wr s a v) a = v := by
  simp [rd, wr]

theorem rd_wr_ne (s : State) (a b : Nat) (v : Word) (h : b ≠ a) : rd (wr s a v) b = rd s b := by
  simp [rd, wr, tabGet_set_ne _ _ _ _ _ h]

theorem rd_wr (s : State) (a b : Nat) (v : Word) : rd (wr s a v) b = if b = a then v else rd s b := by
  split
  · next h => subst h; simp
  · next h => exact rd_wr_ne s a b v h

/-- A record update of another field does not change a register. -/
theorem rd_of_regs (s t : State) (a : Nat) (h : t.regs = s.regs) : rd t a = rd s a := by simp [rd, h]

@[simp] theorem rd_fset_ne (s : State) (F : Fld) (v b : Nat) (h : b ≠ F.addr) : rd (fset s F v) b = rd s b := by
  simp [fset, rd_wr_ne _ _ _ _ h]

@[simp] theorem rd_fset_self (s : State) (F : Fld) (v : Nat) : rd (fset s F v) F.addr = wset (rd s F.addr) F.hi F.lo v := by
  simp [fset]

/-- Bit `j` of a word with a field replaced. -/
theorem wset_getLsbD (w : Word) (hi lo v j : Nat) (hlo : lo ≤ hi) (hj : j < 32) :
    (wset w hi lo v).getLsbD j = if lo ≤ j ∧ j ≤ hi then v.testBit (j - lo) else w.getLsbD j := by
  have hm : (2 ^ (hi + 1) - 2 ^ lo) = (2 ^ (hi + 1 - lo) - 1) * 2 ^ lo := by
    rw [Nat.sub_mul, Nat.one_mul, ← Nat.pow_add, Nat.sub_add_cancel (by omega)]
  have hmb : (2 ^ (hi + 1) - 2 ^ lo).testBit j = (decide (lo ≤ j) && decide (j ≤ hi)) := by
    rw [hm, Nat.testBit_mul_two_pow, Nat.testBit_two_pow_sub_one]
    by_cases h1 : lo ≤ j <;> by_cases h2 : j ≤ hi <;> simp [h1, h2] <;> omega
  have hv : (v % 2 ^ (hi + 1 - lo) * 2 ^ lo).testBit j = (decide (lo ≤ j) && (decide (j ≤ hi) && v.testBit (j - lo))) := by
    rw [Nat.testBit_mul_two_pow, Nat.testBit_mod_two_pow]
    by_cases h1 : lo ≤ j
    · by_cases h2 : j ≤ hi
      · have : j - lo < hi + 1 - lo := by omega
        simp [h1, h2, this]
      · have : ¬ j - lo < hi + 1 - lo := by omega
        simp [h1, h2, this]
    · simp [h1]
  simp only [wset, BitVec.getLsbD_or, BitVec.getLsbD_and, BitVec.getLsbD_not, BitVec.getLsbD_ofNat, hj, decide_true, Bool.true_and, hmb, hv]
  by_cases h1 : lo ≤ j <;> by_cases h2 : j ≤ hi <;> simp [h1, h2]

/-- The field just written holds the value, as far as it fits. -/
theorem wget_wset (w : Word) (hi lo v : Nat) (hlo : lo ≤ hi) (hhi : hi < 32) : wget (wset w hi lo v) hi lo = v % 2 ^ (hi + 1 - lo) := by
  apply Nat.eq_of_testBit_eq
  intro i
  rw [wget, Nat.testBit_mod_two_pow, Nat.testBit_div_two_pow, Nat.testBit_mod_two_pow]
  by_cases h : i < hi + 1 - lo
  · have := wset_getLsbD w hi lo v (i + lo) hlo (by omega)
    rw [← BitVec.testBit_toNat] at this
    rw [Nat.add_comm] at this
    simp only [h, decide_true, Bool.true_and]
    rw [Nat.add_comm] at this
    rw [this, if_pos (by omega)]
    congr 1
    omega
  · simp [h]

/-- A field of other bits keeps its value. -/
theorem wget_wset_ne (w : Word) (hi lo v h l : Nat) (hlo : lo ≤ hi) (hhi : hi < 32) (hh : h < 32) (hd : h < lo ∨ hi < l) :
    wget (wset w hi lo v) h l = wget w h l := by
  apply Nat.eq_of_testBit_eq
  intro i
  simp only [wget, Nat.testBit_mod_two_pow, Nat.testBit_div_two_pow]
  by_cases hi' : i < h + 1 - l
  · have := wset_getLsbD w hi lo v (i + l) hlo (by omega)
    rw [if_neg (by omega)] at this
    simp only [hi', decide_true, Bool.true_and]
    rw [BitVec.testBit_toNat, BitVec.testBit_toNat, this]
  · simp [hi']

theorem fget_fset (s : State) (F : Fld) (v : Nat) (hlo : F.lo ≤ F.hi) (hhi : F.hi < 32) :
    fget (fset s F v) F = v % 2 ^ (F.hi + 1 - F.lo) := by
  simp [fget, wget_wset _ _ _ _ hlo hhi]

/-- A field of another register keeps its value. -/
theorem fget_fset_addr (s : State) (F G : Fld) (v : Nat) (h : G.addr ≠ F.addr) : fget (fset s F v) G = fget s G := by
  simp [fget, h]

/-- A field of other bits keeps its value. -/
theorem fget_fset_bits (s : State) (F G : Fld) (v : Nat) (hlo : F.lo ≤ F.hi) (hhi : F.hi < 32) (hg : G.hi < 32)
    (hd : G.hi < F.lo ∨ F.hi < G.lo) : fget (fset s F v) G = fget s G := by
  by_cases h : G.addr = F.addr
  · simp [fget, h, wget_wset_ne _ _ _ _ _ _ hlo hhi hg hd]
  · exact fget_fset_addr s F G v h

/-- A record update of another field does not change a flag or a field of a register. -/
theorem fget_of_regs (s t : State) (F : Fld) (h : t.regs = s.regs) : fget t F = fget s F := by simp [fget, rd_of_regs s t _ h]

theorem flag_of_regs (s t : State) (F : Fld) (h : t.regs = s.regs) : flag t F = flag s F := by simp [flag, fget_of_regs s t F h]

theorem flag_setF (s : State) (F : Fld) (h : F.hi = F.lo) (hhi : F.hi < 32) : flag (setF s F) F = true := by
  simp [flag, setF, fget_fset s F 1 (by omega) hhi, h]

theorem flag_clrF (s : State) (F : Fld) (h : F.hi = F.lo) (hhi : F.hi < 32) : flag (clrF s F) F = false := by
  simp [flag, clrF, fget_fset s F 0 (by omega) hhi]

end Sys2Proof.Machine
end

