-- ==== Sys2Proof/Laws/Access.lean ====
section
/-! SUPPORT. What the shared access operations do: a write or a read that reaches its block, and one that does not. -/

namespace Sys2Proof.Machine

/-- A write that reaches its block is performed there. -/
theorem access_reaches (i : Initiator) (a : Nat) (f : State → State) (s : State) (h : writeReaches i a s = true) :
    access i a f s = f (arrived i a s) := by
  simp only [writeReaches, Bool.and_eq_true, Option.isNone_iff_eq_none, Bool.not_eq_true'] at h
  simp [access, arrived, h.1, h.2]

/-- A write that the fabric or the block answers with an error changes the errors alone. -/
theorem access_fails (i : Initiator) (a : Nat) (f : State → State) (s : State) (e : BusErr) (h : mayWrite i s = true)
    (he : busFault i true s a = some e) : access i a f s = writeError i e a s := by
  simp [access, h, he]

/-- A read that reaches its block is performed there. -/
theorem accessRead_reaches (i : Initiator) (a : Nat) (f : State → Word × State) (s : State) (h : readReaches i a s = true) :
    accessRead i a f s = setReply i ⟨(f (rouse (addrIsland a) s)).1, none⟩ (f (rouse (addrIsland a) s)).2 := by
  simp only [readReaches, Bool.and_eq_true, Bool.or_eq_true, beq_iff_eq, decide_eq_true_eq, Option.isNone_iff_eq_none, Bool.not_eq_true'] at h
  simp [accessRead, h.1, h.2]

/-- A fetch without an error mends nothing. -/
theorem fetchMend_clean (e : Engine) (s : State) (h : fetchBad e s = .clean) : fetchMend e s = s := by
  cases e <;> simp [fetchMend, h]

/-- An instruction that an engine executes is performed with a single step used up. -/
theorem runOn_executable (e : Engine) (av : Avail) (w : Word) (f : State → State) (s : State) (h : executable e av s = true) :
    runOn e av w f s = f (useStep e s) := by
  simp only [executable, Bool.and_eq_true, Option.isNone_iff_eq_none, decide_eq_true_eq, beq_iff_eq] at h
  obtain ⟨⟨⟨⟨h1, h2⟩, h3⟩, h4⟩, h5⟩ := h
  simp [runOn, h1, h2, h3, h4, h5, fetchMend_clean _ _ h3]

theorem access_arrives {i : Initiator} {a : Nat} {s u : State} (f : State → State) (h : Arrives i a s u) : access i a f s = f u := by
  rw [h.2]; exact access_reaches i a f s h.1

theorem accessRead_fetches {i : Initiator} {a : Nat} {s u : State} (f : State → Word × State) (h : Fetches i a s u) :
    accessRead i a f s = setReply i ⟨(f u).1, none⟩ (f u).2 := by
  rw [h.2]; exact accessRead_reaches i a f s h.1

theorem runOn_runs {e : Engine} {av : Avail} {s u : State} (w : Word) (f : State → State) (h : Runs e av s u) : runOn e av w f s = f u := by
  rw [h.2]; exact runOn_executable e av w f s h.1

/-- A reset of all logic islands records its cause (R61, R62). -/
theorem resetLogic_cause (F : Fld) (s : State) (h : F.hi = F.lo) (hhi : F.hi < 32) : flag (resetLogic F s) F = true := by
  have e : (resetLogic F s).regs = (setF (restartFrom 2 (noteReset (resetIslands logicIslands s))) F).regs := rfl
  rw [flag_of_regs _ _ F e]
  exact flag_setF _ F h hhi

/-- A thermal reset records its cause and holds its die (R58, R62). -/
theorem thermalReset_cause (b : Bool) (s : State) :
    flag (thermalReset b s) SYS_RSTCAUSE_THERM = true ∧ (b = false → (thermalReset b s).sys.holdA = true) ∧
      (b = true → (thermalReset b s).sys.holdB = true) := by
  have e : (thermalReset b s).regs =
      (setF (restartFrom (if b then 4 else 2) (noteReset (resetIslands (dieIslands b) s))) SYS_RSTCAUSE_THERM).regs := by cases b <;> rfl
  refine ⟨?_, ?_, ?_⟩
  · rw [flag_of_regs _ _ _ e]
    exact flag_setF _ _ rfl (by decide)
  · rintro rfl; rfl
  · rintro rfl; rfl

/-- A field of one bit is that bit. -/
theorem wget_bit (w : Word) (j : Nat) : wget w j j = (w.getLsbD j).toNat := by
  rw [← BitVec.testBit_toNat, Nat.testBit, Nat.shiftRight_eq_div_pow]
  simp only [wget]
  have : j + 1 - j = 1 := by omega
  rw [this]; have h := Nat.mod_two_eq_zero_or_one (w.toNat / 2 ^ j)
  rcases h with h | h <;> simp [h, Nat.one_and_eq_mod_two]

/-- A write by the access codes changes no other register. -/
theorem codeWrite_rd (a b : Nat) (v : Word) (s : State) (h : b ≠ a) : rd (codeWrite a v s) b = rd s b := by
  simp only [codeWrite]; split
  · exact rd_wr_ne _ _ _ _ h
  · rfl

/-- A write by the access codes changes no field of another register. -/
theorem codeWrite_fget (a : Nat) (F : Fld) (v : Word) (s : State) (h : F.addr ≠ a) : fget (codeWrite a v s) F = fget s F := by
  simp only [fget, codeWrite_rd _ _ _ _ h]

/-- A write by the access codes leaves what the CAN controllers hold beyond their registers. -/
theorem codeWrite_can (a : Nat) (v : Word) (s : State) : (codeWrite a v s).can = s.can := by simp only [codeWrite]; split <;> rfl

/-- A write by the access codes leaves what the links hold beyond their registers. -/
theorem codeWrite_links (a : Nat) (v : Word) (s : State) : (codeWrite a v s).links = s.links := by simp only [codeWrite]; split <;> rfl

/-- A write by the access codes leaves each CAN controller. -/
theorem codeWrite_can' (a : Nat) (v : Word) (s : State) (k : Nat) : can (codeWrite a v s) k = can s k := by simp only [can, codeWrite_can]

/-- A flag is the bit of its register. -/
theorem flag_bit (s : State) (F : Fld) (h : F.hi = F.lo) : flag s F = (rd s F.addr).getLsbD F.lo := by
  simp only [flag, fget, h, wget_bit]; cases (rd s F.addr).getLsbD F.lo <;> rfl

end Sys2Proof.Machine
end

