-- ==== Sys2Proof/Laws/FrameAfe.lean ====
section
/-! SUPPORT. What the operations and commands leave alone, one lemma each: the shared operations and the analog front end. -/

set_option maxRecDepth 20000
set_option linter.all false

namespace Sys2Proof.Machine

/-- What a command leaves alone, unless it completes a lifecycle operation: the fuses, the queue of commands and the package variant. -/
def State.rest (s : State) : LifeSt × List Instr × Bool := ({ s.life with cmd := none }, s.pending, s.sys.variantM)
@[simp] theorem rest_mk (a1 a2 a3 a4 a5 a6 a7 a8 a9 a10 a11 a12 a13 a14 a15 a16 a17 a18 a19 a20 a21 a22 a23 a24 a25 a26 a27 a28 a29) :
  (State.mk a1 a2 a3 a4 a5 a6 a7 a8 a9 a10 a11 a12 a13 a14 a15 a16 a17 a18 a19 a20 a21 a22 a23 a24 a25 a26 a27 a28 a29).rest = ({ a7 with cmd := none }, a29, a4.variantM) := rfl
@[simp] theorem ite_rest (c : Prop) [Decidable c] (a b : State) : (if c then a else b).rest = if c then a.rest else b.rest := by split <;> rfl
@[simp] theorem ite2_rest {α : Type} (c : Prop) [Decidable c] (a b : α × State) : (if c then a else b).2.rest = if c then a.2.rest else b.2.rest := by split <;> rfl
@[simp] theorem ite1_rest {α : Type} (c : Prop) [Decidable c] (a b : State × α) : (if c then a else b).1.rest = if c then a.1.rest else b.1.rest := by split <;> rfl
@[simp] theorem foldl_rest {α : Type} (f : State → α → State) (h : ∀ s x, (f s x).rest = s.rest) (l : List α) (s : State) : (l.foldl f s).rest = s.rest := by
  induction l generalizing s with
  | nil => rfl
  | cons a l ih => simp [ih, h]
/-- An outcome keeps them: the next state, if that is what it is, has them as `s` has. -/
def KeptO (s : State) (o : Host.Outcome State Fault Refusal) : Prop := ∀ t, o = .next t → t.rest = s.rest
@[simp] theorem keptO_next (s t : State) : KeptO s (.next t) ↔ t.rest = s.rest := ⟨fun h => h t rfl, fun h u hu => by cases hu; exact h⟩
@[simp] theorem keptO_fault (s : State) (f : Fault) : KeptO s (.fault f) := by intro u hu; cases hu
@[simp] theorem keptO_refused (s : State) (f : Refusal) : KeptO s (.refused f) := by intro u hu; cases hu
@[simp] theorem rest_fold (x : State) : (({ x.life with cmd := none }, x.pending, x.sys.variantM) : LifeSt × List Instr × Bool) = x.rest := rfl

/-! ### Ops -/

@[simp] theorem wr_rest (s : State) (a : Nat) (v : Word) : (wr s a v).rest = s.rest := by
  unfold wr; simp

@[simp] theorem fset_rest (s : State) (F : Fld) (v : Nat) : (fset s F v).rest = s.rest := by
  unfold fset; simp

@[simp] theorem setF_rest (s : State) (F : Fld) : (setF s F).rest = s.rest := by
  unfold setF; simp

@[simp] theorem clrF_rest (s : State) (F : Fld) : (clrF s F).rest = s.rest := by
  unfold clrF; simp

@[simp] theorem putF_rest (s : State) (F : Fld) (b : Bool) : (putF s F b).rest = s.rest := by
  unfold putF; simp

@[simp] theorem setBit_rest (s : State) (F : Fld) (i : Nat) : (setBit s F i).rest = s.rest := by
  unfold setBit; simp

@[simp] theorem clrBit_rest (s : State) (F : Fld) (i : Nat) : (clrBit s F i).rest = s.rest := by
  unfold clrBit; simp

@[simp] theorem bumpBy_rest (s : State) (F : Fld) (n : Nat) : (bumpBy s F n).rest = s.rest := by
  unfold bumpBy; simp

@[simp] theorem bump_rest (s : State) (F : Fld) : (bump s F).rest = s.rest := by
  unfold bump; simp

@[simp] theorem onlyIf_rest (c : Bool) (f : State → State) (s : State) (hf : ∀ s, (f s).rest = s.rest) : (onlyIf c f s).rest = s.rest := by
  unfold onlyIf; simp [hf]

@[simp] theorem forN_rest (n : Nat) (f : Nat → State → State) (s : State) (hf : ∀ y0 s, (f y0 s).rest = s.rest) : (forN n f s).rest = s.rest := by
  unfold forN; simp [hf]

@[simp] theorem forL_rest {α : Type} (l : List α) (f : α → State → State) (s : State) (hf : ∀ y0 s, (f y0 s).rest = s.rest) : (forL l f s).rest = s.rest := by
  unfold forL; simp [hf]

@[simp] theorem setPower_rest (s : State) (i : Nat) (p : Power) : (setPower s i p).rest = s.rest := by
  unfold setPower; simp

@[simp] theorem atSub_rest (i : Nat) (b : BitVec 16) (s : State) : (atSub i b s).rest = s.rest := by
  unfold atSub; simp

@[simp] theorem setInbox_rest (s : State) (i : Nat) (l : List TickMsg) : (setInbox s i l).rest = s.rest := by
  unfold setInbox; simp

@[simp] theorem setShadow_rest (s : State) (i : Nat) (t : Tick) : (setShadow s i t).rest = s.rest := by
  unfold setShadow; simp

@[simp] theorem setEdges_rest (s : State) (i : Nat) (n : Nat) : (setEdges s i n).rest = s.rest := by
  unfold setEdges; simp

@[simp] theorem setLoadSeen_rest (s : State) (i : Nat) (b : Bool) : (setLoadSeen s i b).rest = s.rest := by
  unfold setLoadSeen; simp

@[simp] theorem stir_rest (i : Nat) (s : State) : (stir i s).rest = s.rest := by
  unfold stir; simp

@[simp] theorem restartWaits_rest (i : Nat) (s : State) : (restartWaits i s).rest = s.rest := by
  unfold restartWaits; simp

@[simp] theorem runIsland_rest (i : Nat) (s : State) : (runIsland i s).rest = s.rest := by
  unfold runIsland; simp

/-! ### Access -/

@[simp] theorem setReply_rest (i : Initiator) (r : BusReply) (s : State) : (setReply i r s).rest = s.rest := by
  unfold setReply; (repeat' split) <;> simp

@[simp] theorem sluError_rest (kind src dst : Nat) (addr : Word) (s : State) : (sluError kind src dst addr s).rest = s.rest := by
  unfold sluError; simp

@[simp] theorem busError_rest (i : Initiator) (e : BusErr) (a : Nat) (s : State) : (busError i e a s).rest = s.rest := by
  unfold busError; (repeat' split) <;> simp

@[simp] theorem dropSluices_rest (i : Nat) (s : State) : (dropSluices i s).rest = s.rest := by
  unfold dropSluices; simp

@[simp] theorem storeSecond_rest (sec : Nat) (s : State) : (storeSecond sec s).rest = s.rest := by
  unfold storeSecond; simp

@[simp] theorem storeSeconds_rest : ∀ x0 x1 s, (storeSeconds x0 x1 s).rest = s.rest := by
  intro x0
  induction x0 with
  | zero =>
    intros; unfold storeSeconds
    simp
  | succ n ih =>
    intros; unfold storeSeconds
    simp [ih]

@[simp] theorem storeCalInvalid_rest (s : State) : (storeCalInvalid s).rest = s.rest := by
  unfold storeCalInvalid; simp

@[simp] theorem storeCalStep_rest (a b : Tick) (s : State) : (storeCalStep a b s).rest = s.rest := by
  unfold storeCalStep; simp

@[simp] theorem periodStep_rest (edge load : Bool) (a b : Tick) (n : Nat) (s : State) : (periodStep edge load a b n s).rest = s.rest := by
  unfold periodStep
  lift_lets
  repeat (intro x1; clear_value x1)
  simp [*]

@[simp] theorem storeStep_rest (edge load : Bool) (a b : Tick) (s : State) : (storeStep edge load a b s).rest = s.rest := by
  unfold storeStep; simp

@[simp] theorem wakeIsland_rest (i : Nat) (s : State) : (wakeIsland i s).rest = s.rest := by
  unfold wakeIsland
  lift_lets
  repeat (intro x1; first | ((have hx1 : State.rest (x1) = State.rest s := (by (simp [x1, *]; done))); clear_value x1) | clear_value x1)
  simp [*]

@[simp] theorem rouse_rest (i : Nat) (s : State) : (rouse i s).rest = s.rest := by
  unfold rouse; (repeat' split) <;> simp

@[simp] theorem writeError_rest (i : Initiator) (e : BusErr) (a : Nat) (s : State) : (writeError i e a s).rest = s.rest := by
  unfold writeError; simp

@[simp] theorem wordError_rest (e : BusErr) (w : SluiceWord) (s : State) : (wordError e w s).rest = s.rest := by
  unfold wordError; (repeat' split) <;> simp

@[simp] theorem access_rest (i : Initiator) (a : Nat) (f : State → State) (s : State) (hf : ∀ s, (f s).rest = s.rest) : (access i a f s).rest = s.rest := by
  unfold access; (repeat' split) <;> simp [hf]

@[simp] theorem accessRead_rest (i : Initiator) (a : Nat) (f : State → Word × State) (s : State) (hf : ∀ s, (f s).2.rest = s.rest) : (accessRead i a f s).rest = s.rest := by
  unfold accessRead; (repeat' split) <;> simp [hf]

/-! ### AfeBase -/

@[simp] theorem setAfeGrp_rest (g : Nat) (x : AfeGrp) (s : State) : (setAfeGrp g x s).rest = s.rest := by
  unfold setAfeGrp; simp

@[simp] theorem setAfeCh_rest (n : Nat) (x : AfeCh) (s : State) : (setAfeCh n x s).rest = s.rest := by
  unfold setAfeCh; simp

@[simp] theorem afeSend_rest (r : AfeRec) (s : State) : (afeSend r s).rest = s.rest := by
  unfold afeSend; simp

@[simp] theorem sendSample_rest (r : SampleRec) (s : State) : (sendSample r s).rest = s.rest := by
  unfold sendSample; simp

@[simp] theorem sendClear_rest (kind bit chan : Nat) (bound : Stamp) (s : State) : (sendClear kind bit chan bound s).rest = s.rest := by
  unfold sendClear; simp

@[simp] theorem sendReplacement_rest (old new : OpenSample) (s : State) : (sendReplacement old new s).rest = s.rest := by
  unfold sendReplacement; simp

@[simp] theorem blankTick_rest (s : State) : (blankTick s).rest = s.rest := by
  unfold blankTick; simp

@[simp] theorem sampleFlags_rest (n q : Nat) (s : State) : (sampleFlags n q s).rest = s.rest := by
  unfold sampleFlags; (repeat' split) <;> simp

@[simp] theorem deliver_rest (d : Delivery) (s : State) : (deliver d s).rest = s.rest := by
  unfold deliver
  lift_lets
  repeat (intro x1; first | ((have hx1 : State.rest (x1) = State.rest s := (by (simp [x1, *]; done))); clear_value x1) | clear_value x1)
  simp [*]

@[simp] theorem reeveFeed_rest (n : Nat) (code : Int) (range : Nat) (s : State) : (reeveFeed n code range s).rest = s.rest := by
  unfold reeveFeed; simp

/-! ### AfeCal -/

@[simp] theorem setReq_rest (n : Nat) (r : Option RotaReq) (s : State) : (setReq n r s).rest = s.rest := by
  unfold setReq; (repeat' split) <;> simp

@[simp] theorem cjStart_rest (g base : Nat) (s : State) : (cjStart g base s).rest = s.rest := by
  unfold cjStart; simp

@[simp] theorem calBusy_rest (s : State) : (calBusy s).rest = s.rest := by
  unfold calBusy; simp

@[simp] theorem unStage_rest (n : Nat) (s : State) : (unStage n s).rest = s.rest := by
  unfold unStage; simp

@[simp] theorem beginStage_rest (n : Nat) (s : State) : (beginStage n s).rest = s.rest := by
  unfold beginStage; simp

@[simp] theorem endStage_rest (n : Nat) (s : State) : (endStage n s).rest = s.rest := by
  unfold endStage; simp

@[simp] theorem settleCommit_rest (n : Nat) (at_ : Stamp) (S : List Word) (s : State) : (settleCommit n at_ S s).rest = s.rest := by
  unfold settleCommit
  lift_lets
  repeat (intro x1; first | ((have hx1 : State.rest (x1) = State.rest s := (by (simp [x1, *]; done))); clear_value x1) | clear_value x1)
  simp [*]

@[simp] theorem storeSet_rest (base : Nat) (S : List Word) (s : State) : (storeSet base S s).rest = s.rest := by
  unfold storeSet; simp

@[simp] theorem commitSet_rest (n : Nat) (S : List Word) (s : State) : (commitSet n S s).rest = s.rest := by
  unfold commitSet
  lift_lets
  repeat (intro x1; first | ((have hx1 : State.rest (x1) = State.rest s := (by (simp [x1, *]; done))); clear_value x1) | clear_value x1)
  simp [*]

@[simp] theorem hostCommit_rest (n : Nat) (s : State) : (hostCommit n s).rest = s.rest := by
  unfold hostCommit; simp

@[simp] theorem calDo_rest (op n : Nat) (s : State) : (calDo op n s).rest = s.rest := by
  unfold calDo; (repeat' split) <;> simp

@[simp] theorem calRun_rest : ∀ x0 s, (calRun x0 s).rest = s.rest := by
  intro x0
  induction x0 with
  | nil =>
    intros; unfold calRun
    simp
  | cons n l ih =>
    intros; unfold calRun
    simp [ih]

@[simp] theorem calCmdWrite_rest (v : Word) (s : State) : (calCmdWrite v s).rest = s.rest := by
  unfold calCmdWrite; simp

@[simp] theorem endRota_rest (n : Nat) (keepAge : Bool) (s : State) : (endRota n keepAge s).rest = s.rest := by
  unfold endRota; simp

@[simp] theorem failRota_rest (n : Nat) (s : State) : (failRota n s).rest = s.rest := by
  unfold failRota; simp

@[simp] theorem cutRota_rest (n : Nat) (s : State) : (cutRota n s).rest = s.rest := by
  unfold cutRota; simp

@[simp] theorem zeroEnd_rest (n : Nat) (acc : List Int) (s : State) : (zeroEnd n acc s).rest = s.rest := by
  unfold zeroEnd; simp <;> intros <;> (repeat' split) <;> simp

@[simp] theorem gainEnd_rest (n : Nat) (acc : List Int) (s : State) : (gainEnd n acc s).rest = s.rest := by
  unfold gainEnd
  lift_lets
  repeat (intro x1; first | ((have hx1 : State.rest (x1) = State.rest s := (by (simp [x1, *]; done))); clear_value x1) | clear_value x1)
  simp [*] <;> intros <;> (repeat' split) <;> simp [*]

@[simp] theorem cjEnd_rest (g : Nat) (acc : List Int) (s : State) : (cjEnd g acc s).rest = s.rest := by
  unfold cjEnd
  lift_lets
  repeat (intro x1; first | ((have hx1 : State.rest (x1) = State.rest s := (by (simp [x1, *]; done))); clear_value x1) | clear_value x1)
  simp [*]

@[simp] theorem refEnd_rest (g : Nat) (v : AfeVisit) (s : State) : (refEnd g v s).rest = s.rest := by
  unfold refEnd; simp

@[simp] theorem impFail_rest (n : Nat) (s : State) : (impFail n s).rest = s.rest := by
  unfold impFail; simp

@[simp] theorem impPass_rest (n : Nat) (s : State) : (impPass n s).rest = s.rest := by
  unfold impPass
  lift_lets
  repeat (intro x1; first | ((have hx1 : State.rest (x1) = State.rest s := (by (simp [x1, *]; done))); clear_value x1) | clear_value x1)
  simp [*]

@[simp] theorem impClose_rest (n : Nat) (s : State) : (impClose n s).rest = s.rest := by
  unfold impClose
  lift_lets
  repeat (intro x1; first | ((have hx1 : State.rest (x1) = State.rest s := (by (simp [x1, *]; done))); clear_value x1) | clear_value x1)
  (repeat' split) <;> simp [*]

/-! ### AfeScan -/

@[simp] theorem dropSteps_rest (g : Nat) (s : State) : (dropSteps g s).rest = s.rest := by
  unfold dropSteps; simp

@[simp] theorem loopLive_rest (s : State) : (loopLive s).rest = s.rest := by
  unfold loopLive; simp

@[simp] theorem groupOff_rest (g : Nat) (s : State) : (groupOff g s).rest = s.rest := by
  unfold groupOff
  lift_lets
  repeat (intro x1; first | ((have hx1 : State.rest (x1) = State.rest s := (by (simp [x1, *]; done))); clear_value x1) | clear_value x1)
  simp [*]

@[simp] theorem seqHalt_rest (k : Nat) (s : State) : (seqHalt k s).rest = s.rest := by
  unfold seqHalt
  lift_lets
  repeat (intro x1; ((have hx1 : State.rest (x1) = State.rest s := (by (simp [x1, *]))); clear_value x1))
  simp [*]

theorem rest_seq (S : State) (x : Tab Core) : ({ S with seq := x } : State).rest = S.rest := by simp
theorem rest_seq_of (S : State) (x : Tab Core) (s3 : State) (h : s3 = { S with seq := x }) : s3.rest = S.rest := by subst h; exact rest_seq _ _
@[simp] theorem seqBegin_rest (k : Nat) (s : State) : (seqBegin k s).rest = s.rest := by
  unfold seqBegin
  extract_lets s1 s2 c s3
  have h1 : s1.rest = s.rest := by simp [s1]
  have h2 : s2.rest = s1.rest := by simp [s2]
  clear_value s1 s2
  have h3 := rest_seq_of s2 _ s3 rfl
  clear_value s3
  refine (forN_rest _ _ _ ?_).trans (h3.trans (h2.trans h1))
  intro i t
  refine (forN_rest _ _ _ ?_).trans ?_
  · intros; simp
  · simp

@[simp] theorem scanCtlWrite_rest (k : Nat) (v : Word) (s : State) : (scanCtlWrite k v s).rest = s.rest := by
  unfold scanCtlWrite; simp

@[simp] theorem seqFault_rest (k cause pc : Nat) (s : State) : (seqFault k cause pc s).rest = s.rest := by
  unfold seqFault; simp

@[simp] theorem stockRound_rest (g : Nat) (s : State) : (stockRound g s).rest = s.rest := by
  unfold stockRound
  lift_lets
  repeat (intro x1; first | ((have hx1 : State.rest (x1) = State.rest s := (by (simp [x1, *]; done))); clear_value x1) | clear_value x1)
  (repeat' split) <;> simp [*]

@[simp] theorem dropSkipped_rest (g : Nat) (s : State) : (dropSkipped g s).rest = s.rest := by
  unfold dropSkipped; simp

@[simp] theorem arbitrate_rest (g : Nat) (s : State) : (arbitrate g s).rest = s.rest := by
  unfold arbitrate
  lift_lets
  repeat (intro x1; first | ((have hx1 : State.rest (x1) = State.rest s := (by (simp [x1, *]; done))); clear_value x1) | clear_value x1)
  simp [*]

@[simp] theorem endVisit_rest (g : Nat) (v : AfeVisit) (s : State) : (endVisit g v s).rest = s.rest := by
  unfold endVisit
  lift_lets
  repeat (intro x1; first | ((have hx1 : State.rest (x1) = State.rest s := (by (simp [x1, *]; done))); clear_value x1) | clear_value x1)
  simp [*]

@[simp] theorem turnOdr_rest (g odr : Nat) (s : State) : (turnOdr g odr s).rest = s.rest := by
  unfold turnOdr; simp

@[simp] theorem applyProfile_rest (n odr : Nat) (fixr : Bool) (rng : Nat) (s : State) : (applyProfile n odr fixr rng s).1.rest = s.rest := by
  unfold applyProfile
  lift_lets
  repeat (intro x1; first | ((have hx1 : State.rest (x1) = State.rest s := (by (simp [x1, *]; done))); clear_value x1) | clear_value x1)
  simp [*]

@[simp] theorem dropOffChannels_rest (g : Nat) (s : State) : (dropOffChannels g s).rest = s.rest := by
  unfold dropOffChannels; simp

@[simp] theorem beginLive_rest (g : Nat) (w : Word) (done : Nat) (s : State) : (beginLive g w done s).rest = s.rest := by
  unfold beginLive
  lift_lets
  repeat (intro x1; first | ((have hx1 : State.rest (x1) = State.rest s := (by (simp [x1, *]; done))); clear_value x1) | ((have hx1 : State.rest (x1.1) = State.rest s := (by (simp [x1, *]; done))); clear_value x1) | clear_value x1)
  simp [*]

@[simp] theorem beginCal_rest (g n : Nat) (s : State) : (beginCal g n s).rest = s.rest := by
  unfold beginCal
  lift_lets
  repeat (intro x1; first | ((have hx1 : State.rest (x1) = State.rest s := (by (simp [x1, *]; done))); clear_value x1) | clear_value x1)
  (repeat' split) <;> simp [*]

@[simp] theorem beginImp_rest (g n : Nat) (s : State) : (beginImp g n s).rest = s.rest := by
  unfold beginImp
  lift_lets
  repeat (intro x1; first | ((have hx1 : State.rest (x1) = State.rest s := (by (simp [x1, *]; done))); clear_value x1) | clear_value x1)
  simp [*]

@[simp] theorem beginStep_rest (g : Nat) (w : Word) (done : Nat) (s : State) : (beginStep g w done s).rest = s.rest := by
  unfold beginStep; (repeat' split) <;> simp

@[simp] theorem visitStart_rest (g : Nat) (s : State) : (visitStart g s).rest = s.rest := by
  unfold visitStart
  lift_lets
  repeat (intro x1; first | ((have hx1 : State.rest (x1) = State.rest s := (by (simp [x1, *]; done))); clear_value x1) | clear_value x1)
  (repeat' split) <;> simp [*]

@[simp] theorem releaseTriggers_rest (n : Nat) (l : List Stamp) (s : State) : (releaseTriggers n l s).rest = s.rest := by
  unfold releaseTriggers; simp

@[simp] theorem resolveTriggers_rest (n : Nat) (l : List Stamp) (t : Option Trig) (d : Delivery) (s : State) : (resolveTriggers n l t d s).1.rest = s.rest := by
  unfold resolveTriggers
  split
  · rfl
  · dsimp only
    split
    · simp
    · refine forL_rest _ _ _ ?_
      intros
      split <;> simp

@[simp] theorem downRange_rest (n : Nat) (v : AfeVisit) (code : Int) (s : State) : (downRange n v code s).rest = s.rest := by
  unfold downRange
  lift_lets
  repeat (intro x1; clear_value x1)
  simp [*]

@[simp] theorem deliverLive_rest (g n : Nat) (v : AfeVisit) (unsettled : Bool) (code0 : Int) (op lim : Bool) (s : State) : (deliverLive g n v unsettled code0 op lim s).1.rest = s.rest := by
  unfold deliverLive
  lift_lets
  repeat (intro x1; first | ((have hx1 : State.rest (x1) = State.rest s := (by (simp [x1, *]; done))); clear_value x1) | ((have hx1 : State.rest (x1.1) = State.rest s := (by (simp [x1, *]; done))); clear_value x1) | clear_value x1)
  (repeat' split) <;> simp [*]

@[simp] theorem pinnedGoesOn_rest (g n : Nat) (v : AfeVisit) (s : State) : (pinnedGoesOn g n v s).rest = s.rest := by
  unfold pinnedGoesOn
  lift_lets
  repeat (intro x1; first | ((have hx1 : State.rest (x1) = State.rest s := (by (simp [x1, *]; done))); clear_value x1) | ((have hx1 : State.rest (x1.1) = State.rest s := (by (simp [x1, *]; done))); clear_value x1) | clear_value x1)
  simp [*]

@[simp] theorem pinnedCheck_rest (g n : Nat) (v : AfeVisit) (s : State) : (pinnedCheck g n v s).rest = s.rest := by
  unfold pinnedCheck; simp

@[simp] theorem afterLive_rest (g n : Nat) (v : AfeVisit) (odr : Nat) (sent : Bool) (s : State) : (afterLive g n v odr sent s).rest = s.rest := by
  unfold afterLive
  lift_lets
  repeat (intro x1; first | ((have hx1 : State.rest (x1) = State.rest s := (by (simp [x1, *]; done))); clear_value x1) | clear_value x1)
  simp [*]

@[simp] theorem liveConversion_rest (g : Nat) (v : AfeVisit) (code : Int) (op lim : Bool) (s : State) : (liveConversion g v code op lim s).rest = s.rest := by
  unfold liveConversion
  lift_lets
  repeat (intro x1; first | ((have hx1 : State.rest (x1) = State.rest s := (by (simp [x1, *]; done))); clear_value x1) | ((have hx1 : State.rest (x1.1) = State.rest s := (by (simp [x1, *]; done))); clear_value x1) | clear_value x1)
  simp [*]

@[simp] theorem measConversion_rest (g : Nat) (v : AfeVisit) (code : Int) (s : State) : (measConversion g v code s).rest = s.rest := by
  unfold measConversion
  lift_lets
  repeat (intro x1; clear_value x1)
  simp [*]

@[simp] theorem afeConversion_rest (g : Nat) (code : Int) (op lim : Bool) (s : State) : (afeConversion g code op lim s).rest = s.rest := by
  unfold afeConversion; (repeat' split) <;> simp

@[simp] theorem calVisitEnd_rest (g : Nat) (s : State) : (calVisitEnd g s).rest = s.rest := by
  unfold calVisitEnd; (repeat' split) <;> simp

@[simp] theorem impVisitEnd_rest (g : Nat) (ri x : Word) (s : State) : (impVisitEnd g ri x s).rest = s.rest := by
  unfold impVisitEnd; (repeat' split) <;> simp

@[simp] theorem blankChannel_rest (srcs n : Nat) (bound : Stamp) (s : State) : (blankChannel srcs n bound s).rest = s.rest := by
  unfold blankChannel
  lift_lets
  repeat (intro x1; first | ((have hx1 : State.rest (x1) = State.rest s := (by (first | (simp [x1, *]; done) | (simp only [x1]; (repeat' split) <;> (simp [*]; done))))); clear_value x1) | clear_value x1)
  simp [*]

@[simp] theorem unblankChannel_rest (n : Nat) (s : State) : (unblankChannel n s).rest = s.rest := by
  unfold unblankChannel; simp

@[simp] theorem reblank_rest (srcs : Nat) (f : State → State) (s : State) (hf : ∀ s, (f s).rest = s.rest) : (reblank srcs f s).rest = s.rest := by
  unfold reblank
  lift_lets
  repeat (intro x1; first | ((have hx1 : State.rest (x1) = State.rest s := (by (simp [x1, hf, *]; done))); clear_value x1) | clear_value x1)
  simp [hf, *]

@[simp] theorem setHold_rest (src h : Nat) (s : State) : (setHold src h s).rest = s.rest := by
  unfold setHold; simp

@[simp] theorem sourceAsserts_rest (src : Nat) (s : State) : (sourceAsserts src s).rest = s.rest := by
  unfold sourceAsserts; simp

@[simp] theorem sourceEnds_rest (src : Nat) (s : State) : (sourceEnds src s).rest = s.rest := by
  unfold sourceEnds; simp

@[simp] theorem sourceReleases_rest (src : Nat) (s : State) : (sourceReleases src s).rest = s.rest := by
  unfold sourceReleases; simp

@[simp] theorem softSource_rest (j : Nat) (f : State → State) (s : State) (hf : ∀ s, (f s).rest = s.rest) : (softSource j f s).rest = s.rest := by
  unfold softSource
  lift_lets
  repeat (intro x1; first | ((have hx1 : State.rest (x1) = State.rest s := (by (simp [x1, hf, *]; done))); clear_value x1) | clear_value x1)
  simp [hf, *]

@[simp] theorem blkSwWrite_rest (v : Word) (s : State) : (blkSwWrite v s).rest = s.rest := by
  unfold blkSwWrite; simp

@[simp] theorem seqBlank_rest (k j : Nat) (on : Bool) (s : State) : (seqBlank k j on s).rest = s.rest := by
  unfold seqBlank
  simp only [fset_rest]
  exact softSource_rest _ _ _ (fun _ => rfl)

@[simp] theorem blkCfgWrite_rest (src : Nat) (v : Word) (s : State) : (blkCfgWrite src v s).rest = s.rest := by
  unfold blkCfgWrite
  lift_lets
  repeat (intro x1; first | ((have hx1 : State.rest (x1) = State.rest s := (by (simp [x1, *]; done))); clear_value x1) | clear_value x1)
  simp [*]

@[simp] theorem blkMapWrite_rest (a src : Nat) (v : Word) (s : State) : (blkMapWrite a src v s).rest = s.rest := by
  unfold blkMapWrite; simp

@[simp] theorem blkWinWrite_rest (v : Word) (s : State) : (blkWinWrite v s).rest = s.rest := by
  unfold blkWinWrite; simp

@[simp] theorem holdExpiry_rest (src : Nat) (s : State) : (holdExpiry src s).rest = s.rest := by
  unfold holdExpiry; simp

@[simp] theorem staleRecord_rest (n : Nat) (s : State) : (staleRecord n s).rest = s.rest := by
  unfold staleRecord
  lift_lets
  repeat (intro x1; first | ((have hx1 : State.rest (x1) = State.rest s := (by (simp [x1, *]; done))); clear_value x1) | clear_value x1)
  simp [*]

@[simp] theorem chCfgWrite_rest (n : Nat) (v : Word) (s : State) : (chCfgWrite n v s).rest = s.rest := by
  unfold chCfgWrite; simp

@[simp] theorem chRngWrite_rest (n : Nat) (v : Word) (s : State) : (chRngWrite n v s).rest = s.rest := by
  unfold chRngWrite; simp

@[simp] theorem odrWrite_rest (g : Nat) (v : Word) (s : State) : (odrWrite g v s).rest = s.rest := by
  unfold odrWrite; simp

@[simp] theorem afeEvent_rest (sub : BitVec 16) (f : State → State) (s : State) (hf : ∀ s, (f s).rest = s.rest) : (afeEvent sub f s).rest = s.rest := by
  unfold afeEvent; simp [hf]

@[simp] theorem execSequencerEnable_keptO (i : Initiator) (k : Fin 4) (expert : Bool) (s : State) : KeptO s (execSequencerEnable i k expert s) := by
  unfold execSequencerEnable; simp

@[simp] theorem execSequencerDisable_keptO (i : Initiator) (k : Fin 4) (expert : Bool) (s : State) : KeptO s (execSequencerDisable i k expert s) := by
  unfold execSequencerDisable; simp

@[simp] theorem execStockRound_keptO (g : Fin 16) (s : State) : KeptO s (execStockRound g s) := by
  unfold execStockRound; simp

@[simp] theorem execVisitStart_keptO (g : Fin 16) (sub : BitVec 16) (s : State) : KeptO s (execVisitStart g sub s) := by
  unfold execVisitStart; simp

@[simp] theorem execConversionEnd_keptO (g : Fin 16) (sub : BitVec 16) (code : BitVec 24) (op lim : Bool) (s : State) : KeptO s (execConversionEnd g sub code op lim s) := by
  unfold execConversionEnd; simp

@[simp] theorem execStaleRecord_keptO (n : Fin 64) (sub : BitVec 16) (s : State) : KeptO s (execStaleRecord n sub s) := by
  unfold execStaleRecord; simp

@[simp] theorem afePin_rest (sub : BitVec 16) (f : State → State) (s : State) (hf : ∀ s, (f s).rest = s.rest) : (afePin sub f s).rest = s.rest := by
  unfold afePin; simp [hf]

@[simp] theorem execBlankAssert_keptO (pin : Fin 4) (sub : BitVec 16) (s : State) : KeptO s (execBlankAssert pin sub s) := by
  unfold execBlankAssert; simp

@[simp] theorem execBlankRelease_keptO (pin : Fin 4) (sub : BitVec 16) (s : State) : KeptO s (execBlankRelease pin sub s) := by
  unfold execBlankRelease; simp

@[simp] theorem execBlankHoldExpiry_keptO (src : Fin 8) (sub : BitVec 16) (s : State) : KeptO s (execBlankHoldExpiry src sub s) := by
  unfold execBlankHoldExpiry; simp

@[simp] theorem execBlankConfigWrite_keptO (i : Initiator) (r : BlankReg) (src : Fin 8) (v : Word) (sub : BitVec 16) (s : State) : KeptO s (execBlankConfigWrite i r src v sub s) := by
  unfold execBlankConfigWrite; (repeat' split) <;> simp

@[simp] theorem execBlankWindowWrite_keptO (i : Initiator) (v : Word) (s : State) : KeptO s (execBlankWindowWrite i v s) := by
  unfold execBlankWindowWrite; simp

@[simp] theorem execChannelConfigWrite_keptO (i : Initiator) (n : Fin 64) (rng : Bool) (v : Word) (s : State) : KeptO s (execChannelConfigWrite i n rng v s) := by
  unfold execChannelConfigWrite; simp

@[simp] theorem execGroupOdrWrite_keptO (i : Initiator) (g : Fin 16) (v : Word) (s : State) : KeptO s (execGroupOdrWrite i g v s) := by
  unfold execGroupOdrWrite; simp

@[simp] theorem execModulatorFault_keptO (g : Fin 16) (s : State) : KeptO s (execModulatorFault g s) := by
  unfold execModulatorFault; simp

@[simp] theorem execModulatorFaultEnd_keptO (g : Fin 16) (s : State) : KeptO s (execModulatorFaultEnd g s) := by
  unfold execModulatorFaultEnd; simp

@[simp] theorem execReferenceFault_keptO (s : State) : KeptO s (execReferenceFault s) := by
  unfold execReferenceFault; simp

@[simp] theorem execReferenceFaultEnd_keptO (s : State) : KeptO s (execReferenceFaultEnd s) := by
  unfold execReferenceFaultEnd; simp

@[simp] theorem execLoopOverload_keptO (mA : BitVec 8) (limit : Bool) (s : State) : KeptO s (execLoopOverload mA limit s) := by
  unfold execLoopOverload; simp

@[simp] theorem execCalibrationVisitEnd_keptO (g : Fin 16) (sub : BitVec 16) (s : State) : KeptO s (execCalibrationVisitEnd g sub s) := by
  unfold execCalibrationVisitEnd; simp

@[simp] theorem execCalibrationRequest_keptO (n : Fin 64) (s : State) : KeptO s (execCalibrationRequest n s) := by
  unfold execCalibrationRequest; simp

@[simp] theorem execRotaAgePromotion_keptO (who : RotaWho) (s : State) : KeptO s (execRotaAgePromotion who s) := by
  unfold execRotaAgePromotion; (repeat' split) <;> simp

@[simp] theorem execCaldue_keptO (n : Fin 64) (s : State) : KeptO s (execCaldue n s) := by
  unfold execCaldue; simp

@[simp] theorem calCommand_rest (i : Initiator) (op : Nat) (chan : BitVec 7) (sub : BitVec 16) (s : State) : (calCommand i op chan sub s).rest = s.rest := by
  unfold calCommand; simp

@[simp] theorem execStage_keptO (i : Initiator) (chan : BitVec 7) (sub : BitVec 16) (s : State) : KeptO s (execStage i chan sub s) := by
  unfold execStage; simp

@[simp] theorem execStageEffect_keptO (n : Fin 64) (sub : BitVec 16) (s : State) : KeptO s (execStageEffect n sub s) := by
  unfold execStageEffect; simp

@[simp] theorem execCommit_keptO (i : Initiator) (chan : BitVec 7) (sub : BitVec 16) (s : State) : KeptO s (execCommit i chan sub s) := by
  unfold execCommit; simp

@[simp] theorem execAbort_keptO (i : Initiator) (chan : BitVec 7) (sub : BitVec 16) (s : State) : KeptO s (execAbort i chan sub s) := by
  unfold execAbort; simp

@[simp] theorem execStageTimeout_keptO (n : Fin 64) (sub : BitVec 16) (s : State) : KeptO s (execStageTimeout n sub s) := by
  unfold execStageTimeout; (try with_reducible refine (keptO_next _ _).2 ?_) <;> (apply afeEvent_rest) <;> intros <;> (try simp only []) <;> (repeat' split) <;> simp

@[simp] theorem execCalnow_keptO (i : Initiator) (chan : BitVec 7) (sub : BitVec 16) (s : State) : KeptO s (execCalnow i chan sub s) := by
  unfold execCalnow; simp

@[simp] theorem execImpnow_keptO (i : Initiator) (chan : BitVec 7) (sub : BitVec 16) (s : State) : KeptO s (execImpnow i chan sub s) := by
  unfold execImpnow; simp

@[simp] theorem execImpedanceCheckEnd_keptO (g : Fin 16) (sub : BitVec 16) (ri x : Word) (s : State) : KeptO s (execImpedanceCheckEnd g sub ri x s) := by
  unfold execImpedanceCheckEnd; simp

@[simp] theorem execImpWindowClose_keptO (n : Fin 64) (sub : BitVec 16) (s : State) : KeptO s (execImpWindowClose n sub s) := by
  unfold execImpWindowClose; simp

end Sys2Proof.Machine
end

