-- ==== Sys2Proof/Laws/FrameSys.lean ====
section
/-! SUPPORT. What the operations and commands leave alone, one lemma each: the vibration unit, the queues, the held values, the shuttles, resets, the ticks and the system block. -/

set_option maxRecDepth 20000
set_option linter.all false

namespace Sys2Proof.Machine

/-! ### Codes -/

@[simp] theorem codeWrite_rest (a : Nat) (v : Word) (s : State) : (codeWrite a v s).rest = s.rest := by
  unfold codeWrite; (repeat' split) <;> simp

@[simp] theorem readClear_rest (a : Nat) (s : State) : (readClear a s).rest = s.rest := by
  unfold readClear; (repeat' split) <;> simp

/-! ### Vib -/

@[simp] theorem setVibCh_rest (n : Nat) (x : VibCh) (s : State) : (setVibCh n x s).rest = s.rest := by
  unfold setVibCh; simp

@[simp] theorem vibState_rest (n st : Nat) (s : State) : (vibState n st s).rest = s.rest := by
  unfold vibState; simp

@[simp] theorem vibSource_rest (n : Nat) (s : State) : (vibSource n s).rest = s.rest := by
  unfold vibSource; simp

@[simp] theorem vibNewSegment_rest (n : Nat) (s : State) : (vibNewSegment n s).rest = s.rest := by
  unfold vibNewSegment; simp

@[simp] theorem vibEnable_rest (n : Nat) (s : State) : (vibEnable n s).rest = s.rest := by
  unfold vibEnable; simp

@[simp] theorem vibDisable_rest (n : Nat) (s : State) : (vibDisable n s).rest = s.rest := by
  unfold vibDisable; simp

@[simp] theorem vibCfgWrite_rest (n : Nat) (v : Word) (s : State) : (vibCfgWrite n v s).rest = s.rest := by
  unfold vibCfgWrite
  lift_lets
  repeat (intro x1; first | ((have hx1 : State.rest (x1) = State.rest s := (by (simp [x1, *]; done))); clear_value x1) | clear_value x1)
  (repeat' split) <;> simp [*]

@[simp] theorem vibBiasWrite_rest (n : Nat) (v : Word) (s : State) : (vibBiasWrite n v s).rest = s.rest := by
  unfold vibBiasWrite; simp

@[simp] theorem vibSample_rest (n : Nat) (sample : Int) (mv : Nat) (s : State) : (vibSample n sample mv s).rest = s.rest := by
  unfold vibSample
  lift_lets
  repeat (intro x1; first | ((have hx1 : State.rest (x1) = State.rest s := (by (simp [x1, *]; done))); clear_value x1) | clear_value x1)
  simp [*]

@[simp] theorem vibSettled_rest (n : Nat) (s : State) : (vibSettled n s).rest = s.rest := by
  unfold vibSettled; simp

@[simp] theorem vibFault_rest (n : Nat) (s : State) : (vibFault n s).rest = s.rest := by
  unfold vibFault
  lift_lets
  repeat (intro x1; first | ((have hx1 : State.rest (x1) = State.rest s := (by (simp [x1, *]; done))); clear_value x1) | clear_value x1)
  simp [*]

@[simp] theorem vibRecover_rest (n : Nat) (s : State) : (vibRecover n s).rest = s.rest := by
  unfold vibRecover; simp

@[simp] theorem vibSegmentEnd_rest (n : Nat) (s : State) : (vibSegmentEnd n s).rest = s.rest := by
  unfold vibSegmentEnd
  lift_lets
  repeat (intro x1; first | ((have hx1 : State.rest (x1) = State.rest s := (by (simp [x1, *]; done))); clear_value x1) | clear_value x1)
  simp [*]

@[simp] theorem vibSend_rest (n : Nat) (s : State) : (vibSend n s).rest = s.rest := by
  unfold vibSend; simp

@[simp] theorem vibLeft_rest (n : Nat) (l : List FrontPacket) (s : State) : (vibLeft n l s).rest = s.rest := by
  unfold vibLeft; simp

@[simp] theorem vibMark_rest (s : State) : (vibMark s).rest = s.rest := by
  unfold vibMark; simp

@[simp] theorem vibPin_rest (pin : Nat) (high : Bool) (s : State) : (vibPin pin high s).rest = s.rest := by
  unfold vibPin; simp

@[simp] theorem vibHoldEnd_rest (pin : Nat) (s : State) : (vibHoldEnd pin s).rest = s.rest := by
  unfold vibHoldEnd; simp

@[simp] theorem vibBlkWrite_rest (v : Word) (s : State) : (vibBlkWrite v s).rest = s.rest := by
  unfold vibBlkWrite; simp

@[simp] theorem execVibChannelEnable_keptO (i : Initiator) (n : Fin 8) (v : Word) (s : State) : KeptO s (execVibChannelEnable i n v s) := by
  unfold execVibChannelEnable; simp

@[simp] theorem execVibChannelDisable_keptO (i : Initiator) (n : Fin 8) (v : Word) (s : State) : KeptO s (execVibChannelDisable i n v s) := by
  unfold execVibChannelDisable; simp

@[simp] theorem execVibConfigWrite_keptO (i : Initiator) (n : Fin 8) (bias : Bool) (v : Word) (s : State) : KeptO s (execVibConfigWrite i n bias v s) := by
  unfold execVibConfigWrite; simp

@[simp] theorem execVibSamplePeriod_keptO (n : Fin 8) (sub : BitVec 16) (sample : BitVec 24) (mv : BitVec 16) (s : State) : KeptO s (execVibSamplePeriod n sub sample mv s) := by
  unfold execVibSamplePeriod; simp

@[simp] theorem execVibSettleComplete_keptO (n : Fin 8) (s : State) : KeptO s (execVibSettleComplete n s) := by
  unfold execVibSettleComplete; simp

@[simp] theorem execVibFaultEntry_keptO (n : Fin 8) (s : State) : KeptO s (execVibFaultEntry n s) := by
  unfold execVibFaultEntry; simp

@[simp] theorem execVibFaultExit_keptO (n : Fin 8) (s : State) : KeptO s (execVibFaultExit n s) := by
  unfold execVibFaultExit; simp

@[simp] theorem execSegmentEnd_keptO (n : Fin 8) (s : State) : KeptO s (execSegmentEnd n s) := by
  unfold execSegmentEnd; simp

@[simp] theorem execVibPacketSend_keptO (n : Fin 8) (s : State) : KeptO s (execVibPacketSend n s) := by
  unfold execVibPacketSend; simp

@[simp] theorem execVibStageFault_keptO (n : Fin 8) (on : Bool) (s : State) : KeptO s (execVibStageFault n on s) := by
  unfold execVibStageFault; simp

@[simp] theorem execVibBlankAssert_keptO (p : PinLevel) (s : State) : KeptO s (execVibBlankAssert p s) := by
  unfold execVibBlankAssert; simp

@[simp] theorem execVibBlankEnd_keptO (pin : Fin 4) (s : State) : KeptO s (execVibBlankEnd pin s) := by
  unfold execVibBlankEnd; simp

/-! ### DioBase -/

@[simp] theorem setBank_rest (k : Nat) (b : DioBank) (s : State) : (setBank k b s).rest = s.rest := by
  unfold setBank; simp

@[simp] theorem setIn_rest (n : Nat) (x : DioIn) (s : State) : (setIn n x s).rest = s.rest := by
  unfold setIn; simp

@[simp] theorem setOut_rest (m : Nat) (x : DioOut) (s : State) : (setOut m x s).rest = s.rest := by
  unfold setOut; simp

@[simp] theorem bankFlag_rest (k : Nat) (mask : Nat) (s : State) : (bankFlag k mask s).rest = s.rest := by
  unfold bankFlag; simp

@[simp] theorem loadBank_rest (k : Nat) (s : State) : (loadBank k s).rest = s.rest := by
  unfold loadBank; simp

@[simp] theorem outSettle_rest (m : Nat) (s : State) : (outSettle m s).rest = s.rest := by
  unfold outSettle
  lift_lets
  repeat (intro x1; first | ((have hx1 : State.rest (x1) = State.rest s := (by (simp [x1, *]; done))); clear_value x1) | clear_value x1)
  simp [*]

@[simp] theorem bankSettle_rest (b : Nat) (s : State) : (bankSettle b s).rest = s.rest := by
  unfold bankSettle; simp

@[simp] theorem bankHold_rest (b : Nat) (s : State) : (bankHold b s).rest = s.rest := by
  unfold bankHold; simp

@[simp] theorem bankEnable_rest (b : Nat) (s : State) : (bankEnable b s).rest = s.rest := by
  unfold bankEnable; simp

@[simp] theorem dioTakeover_rest (s : State) : (dioTakeover s).rest = s.rest := by
  unfold dioTakeover; simp

@[simp] theorem dioReset_rest (s : State) : (dioReset s).rest = s.rest := by
  unfold dioReset; simp

/-! ### Queue -/

@[simp] theorem setQue_rest (q : Nat) (x : Queue) (s : State) : (setQue q x s).rest = s.rest := by
  unfold setQue; simp

@[simp] theorem queueBad_rest (q : Nat) (more : Bool) (s : State) : (queueBad q more s).rest = s.rest := by
  unfold queueBad; simp

@[simp] theorem queueOversize_rest (q : Nat) (s : State) : (queueOversize q s).rest = s.rest := by
  unfold queueOversize; simp

@[simp] theorem queueCommitted_rest (q : Nat) (l : List Byte) (s : State) : (queueCommitted q l s).rest = s.rest := by
  unfold queueCommitted; simp

@[simp] theorem queueLenCheck_rest (q : Nat) (old new : List Byte) (s : State) : (queueLenCheck q old new s).rest = s.rest := by
  unfold queueLenCheck; (repeat' split) <;> simp

@[simp] theorem queueOffWrite_rest (q : Nat) (first : Bool) (s : State) : (queueOffWrite q first s).rest = s.rest := by
  unfold queueOffWrite; simp

@[simp] theorem queueWrite_rest (q : Nat) (v : Word) (s : State) : (queueWrite q v s).rest = s.rest := by
  unfold queueWrite
  lift_lets
  repeat (intro x1; first | ((have hx1 : State.rest (x1) = State.rest s := (by (simp [x1, *]; done))); clear_value x1) | clear_value x1)
  simp [*]

@[simp] theorem queueCommit_rest (q : Nat) (s : State) : (queueCommit q s).rest = s.rest := by
  unfold queueCommit; simp <;> intros <;> (repeat' split) <;> simp

@[simp] theorem queueAbort_rest (q : Nat) (s : State) : (queueAbort q s).rest = s.rest := by
  unfold queueAbort; simp <;> intros <;> (repeat' split) <;> simp

@[simp] theorem queueFront_rest (q : Nat) (src : Nat) (first : Bool) (b : List Byte) (s : State) : (queueFront q src first b s).1.rest = s.rest := by
  unfold queueFront
  lift_lets
  repeat (intro x1; first | ((have hx1 : State.rest (x1) = State.rest s := (by (simp [x1, *]; done))); clear_value x1) | clear_value x1)
  (repeat' split) <;> simp [*]

@[simp] theorem queueTake_rest (q : Nat) (tent : Option (Nat × Nat)) (s : State) : (queueTake q tent s).1.rest = s.rest := by
  unfold queueTake; simp <;> intros <;> (repeat' split) <;> simp

@[simp] theorem queueConfirmTakes_rest (sh e : Nat) (s : State) : (queueConfirmTakes sh e s).rest = s.rest := by
  unfold queueConfirmTakes; simp

@[simp] theorem queueUndoTakes_rest (p : QTake → Bool) (s : State) : (queueUndoTakes p s).rest = s.rest := by
  unfold queueUndoTakes; simp

@[simp] theorem queueFlush_rest (q : Nat) (s : State) : (queueFlush q s).rest = s.rest := by
  unfold queueFlush
  lift_lets
  repeat (intro x1; first | ((have hx1 : State.rest (x1) = State.rest s := (by (simp [x1, *]; done))); clear_value x1) | clear_value x1)
  simp [*]

@[simp] theorem queueWriterReset_rest (p : Nat → Nat → Bool) (s : State) : (queueWriterReset p s).rest = s.rest := by
  unfold queueWriterReset; simp

@[simp] theorem queueCfgWrite_rest (q : Nat) (v : Word) (s : State) : (queueCfgWrite q v s).rest = s.rest := by
  unfold queueCfgWrite; simp

@[simp] theorem queueCtlWrite_rest (q : Nat) (v : Word) (s : State) : (queueCtlWrite q v s).rest = s.rest := by
  unfold queueCtlWrite
  lift_lets
  repeat (intro x1; first | ((have hx1 : State.rest (x1) = State.rest s := (by (simp [x1, *]; done))); clear_value x1) | clear_value x1)
  simp [*]

@[simp] theorem queueWrWrite_rest (q : Nat) (v : Word) (s : State) : (queueWrWrite q v s).rest = s.rest := by
  unfold queueWrWrite; simp

@[simp] theorem queueWcmdWrite_rest (q : Nat) (v : Word) (s : State) : (queueWcmdWrite q v s).rest = s.rest := by
  unfold queueWcmdWrite; (repeat' split) <;> simp

@[simp] theorem queueRdtag_rest (i : Initiator) (q : Nat) (s : State) : (queueRdtag i q s).2.rest = s.rest := by
  have h := queueTake_rest q none s
  unfold queueRdtag
  split
  · rfl
  · split
    · split <;> simp_all
    · rfl

/-! ### Held -/

@[simp] theorem setHeld_rest (n : Nat) (l : List Held) (s : State) : (setHeld n l s).rest = s.rest := by
  unfold setHeld; simp

@[simp] theorem setShuttle_rest (n : Nat) (x : Shuttle) (s : State) : (setShuttle n x s).rest = s.rest := by
  unfold setShuttle; simp

@[simp] theorem heldSet_rest (n : Nat) (x : Held) (s : State) : (heldSet n x s).rest = s.rest := by
  unfold heldSet; simp

@[simp] theorem heldEnd_rest (n id : Nat) (s : State) : (heldEnd n id s).rest = s.rest := by
  unfold heldEnd; simp

@[simp] theorem sendNotice_rest (n : Nat) (x : Notice) (s : State) : (sendNotice n x s).rest = s.rest := by
  unfold sendNotice; simp

@[simp] theorem heldClear_rest (n : Nat) (h : Held) (mask : Nat) (s : State) : (heldClear n h mask s).rest = s.rest := by
  unfold heldClear; simp

@[simp] theorem heldDrop_rest (n : Nat) (h : Held) (s : State) : (heldDrop n h s).rest = s.rest := by
  unfold heldDrop; simp

@[simp] theorem heldReplay_rest (n : Nat) (h : Held) (w0 w1 : BitVec 64) (s : State) : (heldReplay n h w0 w1 s).rest = s.rest := by
  unfold heldReplay; simp

@[simp] theorem heldLate_rest (n : Nat) (h : Held) (bits : Nat) (s : State) : (heldLate n h bits s).rest = s.rest := by
  unfold heldLate; simp

@[simp] theorem clearanceAt_rest (r : ClearRec) (n : Nat) (h : Held) (s : State) : (clearanceAt r n h s).rest = s.rest := by
  unfold clearanceAt; (repeat' split) <;> simp

@[simp] theorem applyClearance_rest (r : ClearRec) (s : State) : (applyClearance r s).rest = s.rest := by
  unfold applyClearance; simp

@[simp] theorem replacementAt_rest (r : SampleRec) (n : Nat) (h : Held) (s : State) : (replacementAt r n h s).rest = s.rest := by
  unfold replacementAt; simp

@[simp] theorem applyReplacement_rest (r : SampleRec) (s : State) : (applyReplacement r s).rest = s.rest := by
  unfold applyReplacement; simp

@[simp] theorem agreementAt_rest (src : Nat) (w1 : BitVec 64) (n : Nat) (h : Held) (s : State) : (agreementAt src w1 n h s).rest = s.rest := by
  unfold agreementAt; simp

@[simp] theorem applyAgreement_rest (src : Nat) (w1 : BitVec 64) (s : State) : (applyAgreement src w1 s).rest = s.rest := by
  unfold applyAgreement; simp

@[simp] theorem clearDup_rest (s : State) : (clearDup s).rest = s.rest := by
  unfold clearDup; simp

@[simp] theorem ageHeld_rest (s : State) : (ageHeld s).rest = s.rest := by
  unfold ageHeld; simp

@[simp] theorem heldResolve_rest (n : Nat) (h : Held) (s : State) : (heldResolve n h s).rest = s.rest := by
  unfold heldResolve
  lift_lets
  repeat (intro x1; first | ((have hx1 : State.rest (x1) = State.rest s := (by (simp [x1, *]; done))); clear_value x1) | clear_value x1)
  simp [*]

@[simp] theorem resolveDue_rest (n : Nat) (s : State) : (resolveDue n s).rest = s.rest := by
  unfold resolveDue; (repeat' split) <;> simp

/-! ### SelvBase -/

@[simp] theorem setSelv_rest (x : SelvSt) (s : State) : (setSelv x s).rest = s.rest := by
  unfold setSelv; simp

@[simp] theorem sendKeepalive_rest (s : State) : (sendKeepalive s).rest = s.rest := by
  unfold sendKeepalive; simp

@[simp] theorem setEgPath_rest (p : Nat) (x : EgPath) (s : State) : (setEgPath p x s).rest = s.rest := by
  unfold setEgPath; simp

@[simp] theorem relayDiol_rest (x : EgItem) (s : State) : (relayDiol x s).rest = s.rest := by
  unfold relayDiol; simp

@[simp] theorem cdupUpdate_rest (s : State) : (cdupUpdate s).rest = s.rest := by
  unfold cdupUpdate
  lift_lets
  repeat (intro x1; first | ((have hx1 : State.rest (x1) = State.rest s := (by (simp [x1, *]; done))); clear_value x1) | clear_value x1)
  simp [*]

@[simp] theorem copyAbandon_rest (s : State) : (copyAbandon s).rest = s.rest := by
  unfold copyAbandon; simp

@[simp] theorem selvRole_rest (r : Role) (s : State) : (selvRole r s).rest = s.rest := by
  unfold selvRole
  lift_lets
  repeat (intro x1; first | ((have hx1 : State.rest (x1) = State.rest s := (by (simp [x1, *]; done))); clear_value x1) | clear_value x1)
  simp [*]

@[simp] theorem selvDemote_rest (s : State) : (selvDemote s).rest = s.rest := by
  unfold selvDemote; simp

@[simp] theorem becomeActive_rest (s : State) : (becomeActive s).rest = s.rest := by
  unfold becomeActive; simp

@[simp] theorem leaveNone_rest (s : State) : (leaveNone s).rest = s.rest := by
  unfold leaveNone; simp

@[simp] theorem pairUpdate_rest (s : State) : (pairUpdate s).rest = s.rest := by
  unfold pairUpdate
  lift_lets
  repeat (intro x1; first | ((have hx1 : State.rest (x1) = State.rest s := (by (first | (simp [x1, *]; done) | (simp only [x1]; (repeat' split) <;> (simp [*]; done))))); clear_value x1) | clear_value x1)
  simp [*]

@[simp] theorem voteAgreed_rest (v : Vote) (s : State) : (voteAgreed v s).rest = s.rest := by
  unfold voteAgreed; simp

@[simp] theorem voteDisagreed_rest (s : State) : (voteDisagreed s).rest = s.rest := by
  unfold voteDisagreed; simp

@[simp] theorem compareVotes_rest (loc rem : Vote) (s : State) : (compareVotes loc rem s).rest = s.rest := by
  unfold compareVotes; simp

@[simp] theorem localVote_rest (v : Vote) (s : State) : (localVote v s).rest = s.rest := by
  unfold localVote; simp <;> intros <;> (repeat' split) <;> simp

/-! ### PerfBase -/

@[simp] theorem sampleSend_rest (isl unit : Nat) (pc : Word) (s : State) : (sampleSend isl unit pc s).rest = s.rest := by
  unfold sampleSend; simp

@[simp] theorem sampleSquash_rest (s : State) : (sampleSquash s).rest = s.rest := by
  unfold sampleSquash; simp

@[simp] theorem sleepCount_rest (i : Nat) (s : State) : (sleepCount i s).rest = s.rest := by
  unfold sleepCount; simp

@[simp] theorem perfIslandReset_rest (i : Nat) (s : State) : (perfIslandReset i s).rest = s.rest := by
  unfold perfIslandReset; simp

/-! ### Shuttle -/

@[simp] theorem setShState_rest (n st : Nat) (s : State) : (setShState n st s).rest = s.rest := by
  unfold setShState; simp

@[simp] theorem setBankReq_rest (b r : Nat) (x : BankReq) (s : State) : (setBankReq b r x s).rest = s.rest := by
  unfold setBankReq; simp

@[simp] theorem bankAsk_rest (b r : Nat) (s : State) : (bankAsk b r s).rest = s.rest := by
  unfold bankAsk; simp

@[simp] theorem quadNext_rest (q : Nat) (s : State) : (quadNext q s).rest = s.rest := by
  unfold quadNext; simp <;> intros <;> (repeat' split) <;> simp

@[simp] theorem bankDone_rest (b r : Nat) (s : State) : (bankDone b r s).rest = s.rest := by
  unfold bankDone; simp

@[simp] theorem quadTook_rest (q : Nat) (s : State) : (quadTook q s).rest = s.rest := by
  unfold quadTook; simp

@[simp] theorem bankDrop_rest (n : Nat) (s : State) : (bankDrop n s).rest = s.rest := by
  unfold bankDrop; simp

@[simp] theorem warpSend_rest (n o size : Nat) (v : Word) (s : State) : (warpSend n o size v s).rest = s.rest := by
  unfold warpSend; simp

@[simp] theorem setWarpBad_rest (o : Nat) (e : Ecc) (s : State) : (setWarpBad o e s).rest = s.rest := by
  unfold setWarpBad; simp

@[simp] theorem warpCorrected_rest (o : Nat) (s : State) : (warpCorrected o s).rest = s.rest := by
  unfold warpCorrected; simp

theorem shStore_rest (n : Nat) (p : ShPlace) (size : Nat) (v : Word) (s : State) : ∀ t, shStore n p size v s = some t → t.rest = s.rest := by
  intro t h
  unfold shStore at h
  simp only at h
  cases hc : (shuttle s n).curEval with
  | none =>
    simp only [hc] at h
    cases p <;> simp only [Option.some.injEq] at h <;> subst h <;> simp
  | some e =>
    simp only [hc] at h
    split at h
    · simp only [Option.some.injEq] at h; subst h; cases p <;> simp
    · split at h
      · simp only [Option.some.injEq] at h; subst h; cases p <;> simp
      · simp at h

@[simp] theorem issueOp_rest (n : Nat) (op : GateOp) (s : State) : (issueOp n op s).rest = s.rest := by
  unfold issueOp; (repeat' split) <;> simp

@[simp] theorem gateIssue_rest (n : Nat) (s : State) : (gateIssue n s).rest = s.rest := by
  unfold gateIssue; simp <;> intros <;> (repeat' split) <;> simp

theorem gated_rest (n : Nat) (op : GateOp) (s : State) : ∀ t, gated n op s = some t → t.rest = s.rest := by
  intro t h
  unfold gated at h
  simp only at h
  split at h
  · split at h
    · cases h
    · simp only [Option.some.injEq] at h; subst h; simp
  · simp only [Option.some.injEq] at h; subst h; simp

@[simp] theorem squashEvals_rest (n : Nat) (dead : List Eval) (s : State) : (squashEvals n dead s).rest = s.rest := by
  unfold squashEvals
  lift_lets
  repeat (intro x1; first | ((have hx1 : State.rest (x1) = State.rest s := (by (simp [x1, *]; done))); clear_value x1) | clear_value x1)
  simp [*]

@[simp] theorem redeliver_rest (n : Nat) (ids : List Nat) (s : State) : (redeliver n ids s).rest = s.rest := by
  unfold redeliver; simp

@[simp] theorem squashFrom_rest (n id : Nat) (s : State) : (squashFrom n id s).rest = s.rest := by
  unfold squashFrom
  lift_lets
  repeat (intro x1; first | ((have hx1 : State.rest (x1) = State.rest s := (by (simp [x1, *]; done))); clear_value x1) | clear_value x1)
  (repeat' split) <;> simp [*]

@[simp] theorem releaseHeld_rest (n : Nat) (s : State) : (releaseHeld n s).rest = s.rest := by
  unfold releaseHeld; simp

@[simp] theorem issueAll_rest (n : Nat) (s : State) : (issueAll n s).rest = s.rest := by
  unfold issueAll; simp

@[simp] theorem stopShuttle_rest (n st : Nat) (s : State) : (stopShuttle n st s).rest = s.rest := by
  unfold stopShuttle
  lift_lets
  repeat (intro x1; ((have hx1 : State.rest (x1) = State.rest s := (by (simp [x1, *]))); clear_value x1))
  simp [*]

@[simp] theorem fatalStop_rest (n st : Nat) (s : State) : (fatalStop n st s).rest = s.rest := by
  unfold fatalStop
  lift_lets
  repeat (intro x1; first | ((have hx1 : State.rest (x1) = State.rest s := (by (simp [x1, *]; done))); clear_value x1) | clear_value x1)
  simp [*]

@[simp] theorem fatalFault_rest (cause : Nat) (sh : Option Nat) (s : State) : (fatalFault cause sh s).rest = s.rest := by
  unfold fatalFault
  lift_lets
  repeat (intro x1; first | ((have hx1 : State.rest (x1) = State.rest s := (by (simp [x1, *]; done))); clear_value x1) | clear_value x1)
  simp [*]

@[simp] theorem shuttleFails_rest (n code fatal : Nat) (s : State) : (shuttleFails n code fatal s).rest = s.rest := by
  unfold shuttleFails; simp

@[simp] theorem shuttleFaultNow_rest (n cause : Nat) (s : State) : (shuttleFaultNow n cause s).rest = s.rest := by
  unfold shuttleFaultNow; simp

@[simp] theorem shuttleFault_rest (n cause : Nat) (s : State) : (shuttleFault n cause s).rest = s.rest := by
  unfold shuttleFault; simp <;> intros <;> (repeat' split) <;> simp

@[simp] theorem warpCheck_rest (e : Ecc) (o : Nat) (f : State → State) (s : State) (hf : ∀ s, (f s).rest = s.rest) : (warpCheck e o f s).rest = s.rest := by
  unfold warpCheck; (repeat' split) <;> simp [hf]

@[simp] theorem warpStore_rest (o : Nat) (l : List Byte) (s : State) : (warpStore o l s).rest = s.rest := by
  unfold warpStore; (try simp only []); (repeat' (first | rfl | ((with_reducible apply warpCheck_rest) <;> intros)))

@[simp] theorem warpApply_rest (n : Nat) (s : State) : (warpApply n s).rest = s.rest := by
  unfold warpApply; (repeat' split) <;> simp

@[simp] theorem confirmOne_rest (n : Nat) (e : Eval) (s : State) : (confirmOne n e s).rest = s.rest := by
  unfold confirmOne
  lift_lets
  repeat (intro x1; first | ((have hx1 : State.rest (x1) = State.rest s := (by (first | (simp [x1, *]; done) | (simp only [x1]; (apply forL_rest) <;> intros <;> (repeat' split) <;> (simp [*]; done))))); clear_value x1) | clear_value x1)
  (repeat' split) <;> simp [*]

@[simp] theorem confirmLoop_rest : ∀ x0 x1 s, (confirmLoop x0 x1 s).rest = s.rest := by
  intro x0
  induction x0 with
  | zero =>
    intros; unfold confirmLoop
    simp
  | succ n ih =>
    intros; unfold confirmLoop
    (repeat' split) <;> simp [ih]

@[simp] theorem noticeClear_rest (n id : Nat) (s : State) : (noticeClear n id s).rest = s.rest := by
  unfold noticeClear; (repeat' split) <;> simp

@[simp] theorem noticeSquash_rest (n id : Nat) (s : State) : (noticeSquash n id s).rest = s.rest := by
  unfold noticeSquash; (repeat' split) <;> simp

/-! ### Egress -/

@[simp] theorem egPlace_rest (p : Nat) (x : EgItem) (c : EgCls) (s : State) : (egPlace p x c s).rest = s.rest := by
  unfold egPlace; simp

@[simp] theorem egShed_rest (p : Nat) (c : EgCls) (s : State) : (egShed p c s).rest = s.rest := by
  unfold egShed
  lift_lets
  repeat (intro x1; first | ((have hx1 : State.rest (x1) = State.rest s := (by (first | (simp [x1, *]; done) | (simp only [x1]; (repeat' split) <;> (simp [*]; done))))); clear_value x1) | clear_value x1)
  simp [*]

@[simp] theorem egFifo_rest (p : Nat) (x : EgItem) (c : EgCls) (s : State) : (egFifo p x c s).rest = s.rest := by
  unfold egFifo
  lift_lets
  repeat (intro x1; clear_value x1)
  simp [*]

@[simp] theorem egMerged_rest (p : Nat) (s : State) : (egMerged p s).rest = s.rest := by
  unfold egMerged; simp

@[simp] theorem egState_rest (p id : Nat) (st : Word) (stamp : BitVec 64) (fan : Word) (s : State) : (egState p id st stamp fan s).rest = s.rest := by
  unfold egState; (repeat' split) <;> simp

@[simp] theorem egOut_rest (o : Nat) (on : Bool) (s : State) : (egOut o on s).rest = s.rest := by
  unfold egOut
  lift_lets
  repeat (intro x1; first | ((have hx1 : State.rest (x1) = State.rest s := (by (simp [x1, *]; done))); clear_value x1) | clear_value x1)
  simp [*]

@[simp] theorem egAccept_rest (op : GateOp) (s : State) : (egAccept op s).rest = s.rest := by
  unfold egAccept
  lift_lets
  repeat (intro x1; skip)
  (repeat' split) <;> simp [*]

@[simp] theorem egressAccept_rest (n : Nat) (s : State) : (egressAccept n s).rest = s.rest := by
  unfold egressAccept; (repeat' split) <;> simp

@[simp] theorem egFlood_rest (p : Nat) (s : State) : (egFlood p s).rest = s.rest := by
  unfold egFlood
  lift_lets
  repeat (intro x1; first | ((have hx1 : State.rest (x1) = State.rest s := (by (simp [x1, *]; done))); clear_value x1) | clear_value x1)
  (repeat' split) <;> simp [*]

@[simp] theorem egressSend_rest (p : Nat) (s : State) : (egressSend p s).rest = s.rest := by
  unfold egressSend; simp <;> intros <;> (repeat' split) <;> simp

@[simp] theorem egTake_rest (p : Nat) (s : State) : (egTake p s).2.rest = s.rest := by
  unfold egTake; simp <;> intros <;> (repeat' split) <;> simp

@[simp] theorem execEgressAccept_keptO (a : ShuttleAt) (s : State) : KeptO s (execEgressAccept a s) := by
  unfold execEgressAccept; simp

@[simp] theorem execEgressSend_keptO (p : Fin 4) (s : State) : KeptO s (execEgressSend p s) := by
  unfold execEgressSend; simp

/-! ### NandBase -/

@[simp] theorem setStore_rest (x : StoreSt) (s : State) : (setStore x s).rest = s.rest := by
  unfold setStore; simp

@[simp] theorem setNand_rest (x : NandSt) (s : State) : (setNand x s).rest = s.rest := by
  unfold setNand; simp

@[simp] theorem nandPut_rest (page : Nat) (p : NandPage) (s : State) : (nandPut page p s).rest = s.rest := by
  unfold nandPut; simp

@[simp] theorem nandErase_rest (b : Nat) (s : State) : (nandErase b s).rest = s.rest := by
  unfold nandErase; simp

@[simp] theorem nandLose_rest (page : Nat) (s : State) : (nandLose page s).rest = s.rest := by
  unfold nandLose; simp

@[simp] theorem nandCut_rest (s : State) : (nandCut s).rest = s.rest := by
  unfold nandCut; (repeat' split) <;> simp

@[simp] theorem retireBlock_rest (b : Nat) (s : State) : (retireBlock b s).rest = s.rest := by
  unfold retireBlock; simp

/-! ### Reset -/

@[simp] theorem clearBlock_rest (b : Nat) (s : State) : (clearBlock b s).rest = s.rest := by
  unfold clearBlock; simp

@[simp] theorem abortOpen_rest (i : Nat) (s : State) : (abortOpen i s).rest = s.rest := by
  unfold abortOpen; (try simp only []); (repeat' (first | rfl | (simp; done) | split | ((first | with_reducible apply forL_rest | with_reducible refine (forL_rest _ _ _ ?_).trans ?_) <;> intros)))

@[simp] theorem bankLeave_rest (r : Nat) (s : State) : (bankLeave r s).rest = s.rest := by
  unfold bankLeave; simp

@[simp] theorem resetSysIsland_rest (s : State) : (resetSysIsland s).rest = s.rest := by
  unfold resetSysIsland
  lift_lets
  intro sup cause s1 s2 s3
  have h1 : s1.rest = s.rest := by simp [s1]
  have h2 : s2.rest = s1.rest := by simp [s2]
  have h3 : s3.rest = s2.rest := by simp [s3]
  clear_value s1 s2 s3
  refine Eq.trans ?_ (h3.trans (h2.trans h1))
  rfl

@[simp] theorem resetWarp_rest (s : State) : (resetWarp s).rest = s.rest := by
  unfold resetWarp; simp

@[simp] theorem resetQuadrant_rest (i : Nat) (s : State) : (resetQuadrant i s).rest = s.rest := by
  unfold resetQuadrant; simp

@[simp] theorem writerReset_rest (src : Nat) (s : State) : (writerReset src s).rest = s.rest := by
  unfold writerReset; simp

@[simp] theorem dropSent_rest (p : Nat) (s : State) : (dropSent p s).rest = s.rest := by
  unfold dropSent; simp

@[simp] theorem resetIslandState_rest (i : Nat) (s : State) : (resetIslandState i s).rest = s.rest := by
  unfold resetIslandState
  lift_lets
  repeat (intro x1; first | ((have hx1 : State.rest (x1) = State.rest s := (by (simp [x1, *]; done))); clear_value x1) | clear_value x1)
  (repeat' split) <;> simp [*]

@[simp] theorem resetIsland_rest (i : Nat) (s : State) : (resetIsland i s).rest = s.rest := by
  unfold resetIsland
  lift_lets
  repeat (intro x1; first | ((have hx1 : State.rest (x1) = State.rest s := (by (simp [x1, *]; done))); clear_value x1) | clear_value x1)
  simp [*]

@[simp] theorem resetIslands_rest (l : List Nat) (s : State) : (resetIslands l s).rest = s.rest := by
  unfold resetIslands; simp

@[simp] theorem noteReset_rest (s : State) : (noteReset s).rest = s.rest := by
  unfold noteReset; simp

@[simp] theorem restartFrom_rest (step : Nat) (s : State) : (restartFrom step s).rest = s.rest := by
  unfold restartFrom; simp

@[simp] theorem resetLogic_rest (cause : Fld) (s : State) : (resetLogic cause s).rest = s.rest := by
  unfold resetLogic; simp

@[simp] theorem releaseSys_rest (s : State) : (releaseSys s).rest = s.rest := by
  unfold releaseSys
  lift_lets
  repeat (intro x1; ((have hx1 : State.rest (x1) = State.rest s := (by (simp [x1, *]))); clear_value x1))
  simp [*]

@[simp] theorem resetAll_rest (s : State) : (resetAll s).rest = s.rest := by
  unfold resetAll; simp

/-! ### TickBlk -/

@[simp] theorem setOsf_rest (s : State) : (setOsf s).rest = s.rest := by
  unfold setOsf; simp

@[simp] theorem capTrigger_rest (slot : Nat) (tag : Nat) (s : State) : (capTrigger slot tag s).rest = s.rest := by
  unfold capTrigger; simp

@[simp] theorem tickHalt_rest (on : Bool) (s : State) : (tickHalt on s).rest = s.rest := by
  unfold tickHalt; (repeat' split) <;> simp

@[simp] theorem tickCtlWrite_rest (v : Word) (s : State) : (tickCtlWrite v s).rest = s.rest := by
  unfold tickCtlWrite
  lift_lets
  repeat (intro x1; ((have hx1 : State.rest (x1) = State.rest s := (by (first | (simp [x1, *]; done) | (simp only [x1]; (apply onlyIf_rest) <;> intros <;> (repeat' split) <;> (simp [*]; done))))); clear_value x1))
  simp [*]

@[simp] theorem tickCmdWrite_rest (v : Word) (s : State) : (tickCmdWrite v s).rest = s.rest := by
  unfold tickCmdWrite
  lift_lets
  repeat (intro x1; first | ((have hx1 : State.rest (x1) = State.rest s := (by (simp [x1, *]; done))); clear_value x1) | clear_value x1)
  simp [*]

@[simp] theorem tickTrimWrite_rest (v : Word) (s : State) : (tickTrimWrite v s).rest = s.rest := by
  unfold tickTrimWrite; simp

theorem rest_tick (S : State) (x : TickSt) : ({ S with tick := x } : State).rest = S.rest := by simp
@[simp] theorem tickAlarmWrite_rest (n : Nat) (v : Word) (s : State) : (tickAlarmWrite n v s).rest = s.rest :=
  (rest_tick _ _).trans (by rw [fset_rest, fset_rest])

@[simp] theorem osfClear_rest (s : State) : (osfClear s).rest = s.rest := by
  unfold osfClear; simp

@[simp] theorem tickStatWrite_rest (i : Initiator) (v : Word) (s : State) : (tickStatWrite i v s).rest = s.rest := by
  unfold tickStatWrite; simp

@[simp] theorem capture_rest (slot : Nat) (count : Tick) (cal : Cal) (osf halt : Bool) (tag : Nat) (s : State) : (capture slot count cal osf halt tag s).rest = s.rest := by
  unfold capture
  lift_lets
  repeat (intro x1; first | ((have hx1 : State.rest (x1) = State.rest s := (by (simp [x1, *]; done))); clear_value x1) | clear_value x1)
  simp [*]

@[simp] theorem sendEdge_rest (m : TickMsg) (i : Nat) (s : State) : (sendEdge m i s).rest = s.rest := by
  unfold sendEdge; simp

@[simp] theorem alarmCheck_rest (old : Tick) (load : Bool) (n : Nat) (s : State) : (alarmCheck old load n s).rest = s.rest := by
  unfold alarmCheck
  lift_lets
  repeat (intro x1; clear_value x1)
  simp [*]

@[simp] theorem mrefSample_rest (s : State) : (mrefSample s).rest = s.rest := by
  unfold mrefSample
  lift_lets
  repeat (intro x1; clear_value x1)
  simp [*]

@[simp] theorem tickAnswers_rest (s : State) : (tickAnswers s).rest = s.rest := by
  unfold tickAnswers; simp

@[simp] theorem tickEdge_rest (s : State) : (tickEdge s).rest = s.rest := by
  unfold tickEdge
  lift_lets
  repeat (intro x1; first | ((have hx1 : State.rest (x1) = State.rest s := (by (simp [x1, *]; done))); clear_value x1) | clear_value x1)
  simp [*]

@[simp] theorem resetTick_rest (s : State) : (resetTick s).rest = s.rest :=
  (rest_tick _ _).trans (by rw [putF_rest, fset_rest, wr_rest, clearBlock_rest])

@[simp] theorem execTickEdge_keptO (s : State) : KeptO s (execTickEdge s) := by
  unfold execTickEdge; simp

@[simp] theorem execLoadcnt_keptO (i : Initiator) (s : State) : KeptO s (execLoadcnt i s) := by
  unfold execLoadcnt; simp

@[simp] theorem execLoadcal_keptO (i : Initiator) (s : State) : KeptO s (execLoadcal i s) := by
  unfold execLoadcal; simp

@[simp] theorem execCap0_keptO (i : Initiator) (s : State) : KeptO s (execCap0 i s) := by
  unfold execCap0; simp

@[simp] theorem execHaltSet_keptO (i : Initiator) (s : State) : KeptO s (execHaltSet i s) := by
  unfold execHaltSet; simp

@[simp] theorem execHaltClear_keptO (i : Initiator) (s : State) : KeptO s (execHaltClear i s) := by
  unfold execHaltClear; simp

@[simp] theorem execTrimWrite_keptO (i : Initiator) (v : Word) (s : State) : KeptO s (execTrimWrite i v s) := by
  unfold execTrimWrite; simp

@[simp] theorem execTickAlarmArm_keptO (i : Initiator) (n : Fin 4) (v : Word) (s : State) : KeptO s (execTickAlarmArm i n v s) := by
  unfold execTickAlarmArm; simp

@[simp] theorem execTickAlarmFire_keptO (n : Fin 4) (s : State) : KeptO s (execTickAlarmFire n s) := by
  unfold execTickAlarmFire
  extract_lets d s1 s2
  split
  · refine (keptO_next _ _).2 ((rest_tick _ _).trans ?_)
    simp only [s2, s1, fset_rest, setBit_rest, clrF_rest]
  · exact (keptO_next _ _).2 rfl

@[simp] theorem execMainsrefEdge_keptO (s : State) : KeptO s (execMainsrefEdge s) := by
  unfold execMainsrefEdge; simp only []; (repeat' split) <;> simp

@[simp] theorem execMainsrefLoss_keptO (s : State) : KeptO s (execMainsrefLoss s) := by
  unfold execMainsrefLoss; (repeat' split) <;> simp

@[simp] theorem execOscDetectorTimeout_keptO (s : State) : KeptO s (execOscDetectorTimeout s) := by
  unfold execOscDetectorTimeout; simp

@[simp] theorem execSysTickLoss_keptO (s : State) : KeptO s (execSysTickLoss s) := by
  unfold execSysTickLoss; (repeat' split) <;> simp

@[simp] theorem execOsfClear_keptO (i : Initiator) (s : State) : KeptO s (execOsfClear i s) := by
  unfold execOsfClear; simp

@[simp] theorem execTickSupplyChangeover_keptO (toBat : Bool) (s : State) : KeptO s (execTickSupplyChangeover toBat s) := by
  unfold execTickSupplyChangeover; simp

@[simp] theorem execTickOscillatorStop_keptO (s : State) : KeptO s (execTickOscillatorStop s) := by
  unfold execTickOscillatorStop; simp

/-! ### Sys -/

@[simp] theorem stepDone_rest (n : Nat) (s : State) : (stepDone n s).rest = s.rest := by
  unfold stepDone; simp

@[simp] theorem dispRelease_rest (s : State) : (dispRelease s).rest = s.rest := by
  unfold dispRelease; simp

@[simp] theorem releaseIsland_rest (i : Nat) (s : State) : (releaseIsland i s).rest = s.rest := by
  unfold releaseIsland; (repeat' split) <;> simp

@[simp] theorem releaseStep_rest (n : Nat) (s : State) : (releaseStep n s).rest = s.rest := by
  unfold releaseStep; simp

@[simp] theorem execReleaseStep_keptO (step : Fin 7) (s : State) : KeptO s (execReleaseStep step s) := by
  unfold execReleaseStep; simp

@[simp] theorem supplyGood_rest (sup : Supply) (s : State) : (supplyGood sup s).rest = s.rest := by
  unfold supplyGood; (try simp only []); (repeat' (first | rfl | (simp; done) | split))

@[simp] theorem execSupplyGood_keptO (sup : Supply) (s : State) : KeptO s (execSupplyGood sup s) := by
  unfold execSupplyGood; simp

@[simp] theorem supplyFail_rest (sup : Supply) (deep : Bool) (s : State) : (supplyFail sup deep s).rest = s.rest := by
  unfold supplyFail
  lift_lets
  repeat (intro x1; first | ((have hx1 : State.rest (x1) = State.rest s := (by (first | (simp (zetaDelta := true) [x1, *]; done) | (simp only [x1]; (apply onlyIf_rest) <;> intros <;> (repeat' split) <;> ((simp (zetaDelta := true) [*]; done)))))); clear_value x1) | skip)
  simp (zetaDelta := true) [*]; done

@[simp] theorem execSupplyFail_keptO (sup : Supply) (deep : Bool) (s : State) : KeptO s (execSupplyFail sup deep s) := by
  unfold execSupplyFail; simp

@[simp] theorem supplyWarning_rest (w : SupplyWarn) (on : Bool) (s : State) : (supplyWarning w on s).rest = s.rest := by
  unfold supplyWarning; (repeat' split) <;> simp

@[simp] theorem execSupplyWarning_keptO (w : SupplyWarn) (on : Bool) (s : State) : KeptO s (execSupplyWarning w on s) := by
  unfold execSupplyWarning; simp

@[simp] theorem execVbatLow_keptO (s : State) : KeptO s (execVbatLow s) := by
  unfold execVbatLow; simp

@[simp] theorem execIslandIdle_keptO (isl : Fin 27) (s : State) : KeptO s (execIslandIdle isl s) := by
  unfold execIslandIdle; (repeat' split) <;> simp

@[simp] theorem islandSleep_rest (i : Nat) (s : State) : (islandSleep i s).rest = s.rest := by
  unfold islandSleep; simp

@[simp] theorem execIslandSleep_keptO (isl : Fin 27) (s : State) : KeptO s (execIslandSleep isl s) := by
  unfold execIslandSleep; simp

@[simp] theorem execIslandWake_keptO (isl : Fin 27) (s : State) : KeptO s (execIslandWake isl s) := by
  unfold execIslandWake; simp

@[simp] theorem nosleepWrite_rest (v : Word) (s : State) : (nosleepWrite v s).rest = s.rest := by
  unfold nosleepWrite; simp

@[simp] theorem execNosleepWrite_keptO (ini : Initiator) (v : Word) (s : State) : KeptO s (execNosleepWrite ini v s) := by
  unfold execNosleepWrite; simp

@[simp] theorem thermalReset_rest (b : Bool) (s : State) : (thermalReset b s).rest = s.rest := by
  unfold thermalReset
  lift_lets
  repeat (intro x1; first | ((have hx1 : State.rest (x1) = State.rest s := (by ((simp (zetaDelta := true) [x1, *]; done)))); clear_value x1) | skip)
  simp (zetaDelta := true) [*]; done

@[simp] theorem dieTemperature_rest (a b : BitVec 12) (s : State) : (dieTemperature a b s).rest = s.rest := by
  unfold dieTemperature
  lift_lets
  repeat (intro x1; first | ((have hx1 : State.rest (x1) = State.rest s := (by ((simp (zetaDelta := true) [x1, *]; done)))); clear_value x1) | skip)
  simp (zetaDelta := true) [*]; done

@[simp] theorem execDieTemperatureSample_keptO (a b : BitVec 12) (s : State) : KeptO s (execDieTemperatureSample a b s) := by
  unfold execDieTemperatureSample; simp

@[simp] theorem thermalRelease_rest (b : Bool) (s : State) : (thermalRelease b s).rest = s.rest := by
  unfold thermalRelease; simp

@[simp] theorem execThermalRelease_keptO (dieB : Bool) (s : State) : KeptO s (execThermalRelease dieB s) := by
  unfold execThermalRelease; simp

@[simp] theorem execExternalReset_keptO (s : State) : KeptO s (execExternalReset s) := by
  unfold execExternalReset; simp

@[simp] theorem swrstWrite_rest (v : Word) (s : State) : (swrstWrite v s).rest = s.rest := by
  unfold swrstWrite; simp

@[simp] theorem execSoftwareReset_keptO (ini : Initiator) (v : Word) (s : State) : KeptO s (execSoftwareReset ini v s) := by
  unfold execSoftwareReset; simp

@[simp] theorem debugReset_rest (s : State) : (debugReset s).rest = s.rest := by
  unfold debugReset; simp

@[simp] theorem execDebugReset_keptO (s : State) : KeptO s (execDebugReset s) := by
  unfold execDebugReset; simp

@[simp] theorem goWrite_rest (rom : Bool) (s : State) : (goWrite rom s).rest = s.rest := by
  unfold goWrite; simp

@[simp] theorem recoverWrite_rest (rom : Bool) (s : State) : (recoverWrite rom s).rest = s.rest := by
  unfold recoverWrite
  split
  · extract_lets a b
    have ha : a.rest = s.rest := by simp [a]
    have hb : b.rest = s.rest := by simp only [b]; split <;> simp [ha]
    clear_value b
    split <;> simp [hb]
  · rfl

@[simp] theorem startctlWrite_rest (rom : Bool) (v : Word) (s : State) : (startctlWrite rom v s).rest = s.rest := by
  unfold startctlWrite; simp

@[simp] theorem execGo_keptO (ini : Initiator) (fromRom : Bool) (s : State) : KeptO s (execGo ini fromRom s) := by
  unfold execGo; simp

@[simp] theorem execRecover_keptO (ini : Initiator) (fromRom : Bool) (s : State) : KeptO s (execRecover ini fromRom s) := by
  unfold execRecover; simp

theorem rest_sys (S : State) (x : SysSt) (h : x.variantM = S.sys.variantM) : ({ S with sys := x } : State).rest = S.rest := by
  show ({ S.life with cmd := none }, S.pending, x.variantM) = S.rest
  rw [h]; rfl
@[simp] theorem wdctlWrite_rest (v : Word) (s : State) : (wdctlWrite v s).rest = s.rest := by
  unfold wdctlWrite
  split
  · rfl
  · extract_lets was s1
    have h1 : s1.rest = s.rest := by simp only [s1, fset_rest]
    generalize hc : (!was && wget v 31 31 == 1) = c
    cases c
    · exact h1
    · exact (rest_sys _ _ rfl).trans h1

@[simp] theorem execWatchdogConfigWrite_keptO (ini : Initiator) (v : Word) (s : State) : KeptO s (execWatchdogConfigWrite ini v s) := by
  unfold execWatchdogConfigWrite; simp

@[simp] theorem wdkickWrite_rest (v : Word) (s : State) : (wdkickWrite v s).rest = s.rest := by
  unfold wdkickWrite; simp

@[simp] theorem execWatchdogKick_keptO (ini : Initiator) (v : Word) (s : State) : KeptO s (execWatchdogKick ini v s) := by
  unfold execWatchdogKick; simp

@[simp] theorem execWatchdogWarning_keptO (s : State) : KeptO s (execWatchdogWarning s) := by
  unfold execWatchdogWarning; (repeat' split) <;> simp

@[simp] theorem execWatchdogReset_keptO (s : State) : KeptO s (execWatchdogReset s) := by
  unfold execWatchdogReset; (repeat' split) <;> simp

@[simp] theorem wdTick_rest (s : State) : (wdTick s).rest = s.rest := by
  unfold wdTick; simp

end Sys2Proof.Machine
end

