-- ==== Sys2Proof/Laws/FrameIo.lean ====
section
/-! SUPPORT. What the operations and commands leave alone, one lemma each: the loom, the digital channels, the displays, PERF, SELVEDGE, REEVE and what the engines share. -/

set_option maxRecDepth 20000
set_option linter.all false

namespace Sys2Proof.Machine

/-! ### Loom -/

@[simp] theorem publishBegin_rest (k cfg : Word) (s : State) : (publishBegin k cfg s).rest = s.rest := by
  unfold publishBegin; simp

@[simp] theorem publish_rest (k : Word) (s : State) : (publish k s).rest = s.rest := by
  unfold publish; (repeat' split) <;> simp

@[simp] theorem publishEntry_rest (work dst cur i : Nat) (s : State) : (publishEntry work dst cur i s).rest = s.rest := by
  unfold publishEntry
  extract_lets copy
  have hc : ∀ s, (copy s).rest = s.rest := by
    intro s
    simp only [copy]
    split <;> simp
  clear_value copy
  split
  · rfl
  · exact warpCheck_rest _ _ _ _ (fun s => warpCheck_rest _ _ _ _ hc)

theorem rest_loom (S : State) (x : LoomSt) : ({ S with loom := x } : State).rest = S.rest := by simp
theorem rest_loom_of (S : State) (x : LoomSt) (t : State) (h : t = { S with loom := x }) : t.rest = S.rest := by subst h; exact rest_loom _ _
@[simp] theorem publicationDone_rest (s : State) : (publicationDone s).rest = s.rest := by
  unfold publicationDone
  split
  · rfl
  · extract_lets banks s1 base cur s2 s3 s4 s5 next src s6
    have h1 : s1.rest = s.rest := by simp only [s1]; exact forN_rest _ _ _ (fun _ _ => bankDone_rest _ _ _)
    have h2 : s2.rest = s.rest := (forN_rest _ _ _ (fun _ _ => publishEntry_rest _ _ _ _ _)).trans h1
    have h3 : s3.rest = s2.rest := by simp only [s3, fset_rest]
    have h4 : s4.rest = s3.rest := by simp only [s4, wr_rest]
    have h5 : s5.rest = s4.rest := by simp only [s5, fset_rest, clrF_rest]
    have h6 : s6.rest = s5.rest := rest_loom_of s5 _ s6 rfl
    have h7 := h6.trans (h5.trans (h4.trans (h3.trans h2)))
    clear_value s6 next
    clear_value src s5 s4 s3 s2 cur base s1
    split
    · rfl
    · split
      · exact h2
      · cases next with
        | none => exact h7
        | some p => simp only [publishBegin_rest]; exact h7

@[simp] theorem completePick_rest (k : Word) (s : State) : (completePick k s).rest = s.rest := by
  unfold completePick
  lift_lets
  repeat (intro x1; first | ((have hx1 : State.rest (x1) = State.rest s := (by (simp [x1, *]; done))); clear_value x1) | clear_value x1)
  simp [*]

@[simp] theorem completeSeq_rest : ∀ x0 x1 x2 s, (completeSeq x0 x1 x2 s).1.rest = s.rest := by
  intro x0
  induction x0 with
  | zero =>
    intros; unfold completeSeq
    simp
  | succ n ih =>
    intros; unfold completeSeq
    simp [ih]

@[simp] theorem completePicks_rest (s : State) : (completePicks s).rest = s.rest := by
  unfold completePicks
  lift_lets
  repeat (intro x1; first | ((have hx1 : State.rest (x1) = State.rest s := (by ((simp only [x1]; (repeat' split) <;> (simp [*]; done))))); clear_value x1) | ((have hx1 : State.rest (x1.1) = State.rest s := (by (simp [x1, *]; done))); clear_value x1) | clear_value x1)
  simp [*]

@[simp] theorem placeHeld_rest (n : Nat) (w0 w1 : BitVec 64) (age : Nat) (s : State) : (placeHeld n w0 w1 age s).rest = s.rest := by
  unfold placeHeld; simp

@[simp] theorem placeRecord_rest (w0 w1 : BitVec 64) (n : Nat) (s : State) : (placeRecord w0 w1 n s).rest = s.rest := by
  unfold placeRecord
  split
  · extract_lets s1
    have h1 : s1.rest = s.rest := by simp [s1]
    exact (rest_loom _ _).trans h1
  · simp

@[simp] theorem acceptRecord_rest (w0 w1 : BitVec 64) (s : State) : (acceptRecord w0 w1 s).rest = s.rest := by
  unfold acceptRecord
  lift_lets
  repeat (intro x1; skip)
  (repeat' split) <;> simp [*]

@[simp] theorem queueRecord_rest (q len : Nat) (s : State) : (queueRecord q len s).rest = s.rest := by
  unfold queueRecord; simp

@[simp] theorem packetVisible_rest (q : Nat) (s : State) : (packetVisible q s).rest = s.rest := by
  unfold packetVisible; simp <;> intros <;> (repeat' split) <;> simp

@[simp] theorem loomCtlWrite_rest (v : Word) (s : State) : (loomCtlWrite v s).rest = s.rest := by
  unfold loomCtlWrite
  lift_lets
  repeat (intro x1; first | ((have hx1 : State.rest (x1) = State.rest s := (by (simp [x1, *]; done))); clear_value x1) | clear_value x1)
  simp [*]

@[simp] theorem pickCfgWrite_rest (v : Word) (s : State) : (pickCfgWrite v s).rest = s.rest := by
  unfold pickCfgWrite; simp

@[simp] theorem pickTick_rest (s : State) : (pickTick s).rest = s.rest := by
  unfold pickTick; simp

@[simp] theorem upsetWarp_rest (s : State) : (upsetWarp s).rest = s.rest := by
  unfold upsetWarp; simp

@[simp] theorem upsetQuadrant_rest (i : Nat) (s : State) : (upsetQuadrant i s).rest = s.rest := by
  unfold upsetQuadrant; simp

@[simp] theorem placePick_rest (p : Word) (w1 : BitVec 64) (late : Bool) (n : Nat) (s : State) : (placePick p w1 late n s).rest = s.rest := by
  unfold placePick
  lift_lets
  repeat (intro x1; first | ((have hx1 : State.rest (x1) = State.rest s := (by (simp [x1, *]; done))); clear_value x1) | clear_value x1)
  simp [*]

@[simp] theorem hangCheck_rest (p : Word) (n : Nat) (s : State) : (hangCheck p n s).rest = s.rest := by
  unfold hangCheck; (repeat' split) <;> simp

@[simp] theorem openPick_rest (s : State) : (openPick s).rest = s.rest := by
  unfold openPick
  lift_lets
  repeat (intro x1; first | ((have hx1 : State.rest (x1) = State.rest s := (by (simp [x1, *]; done))); clear_value x1) | clear_value x1)
  simp [*]

@[simp] theorem pickBoundary_rest (s : State) : (pickBoundary s).rest = s.rest := by
  unfold pickBoundary; simp

@[simp] theorem pickReport_rest (n : Nat) (s : State) : (pickReport n s).rest = s.rest := by
  unfold pickReport; simp

@[simp] theorem shuttleStart_rest (n : Nat) (s : State) : (shuttleStart n s).rest = s.rest := by
  unfold shuttleStart
  lift_lets
  repeat (intro x1; first | ((have hx1 : State.rest (x1) = State.rest s := (by (simp [x1, *]; done))); clear_value x1) | clear_value x1)
  simp [*]

@[simp] theorem shCmdWrite_rest (n : Nat) (v : Word) (s : State) : (shCmdWrite n v s).rest = s.rest := by
  unfold shCmdWrite
  lift_lets
  repeat (intro x1; first | ((have hx1 : State.rest (x1) = State.rest s := (by (simp [x1, *]; done))); clear_value x1) | clear_value x1)
  (repeat' split) <;> simp [*]

@[simp] theorem loadlibDone_rest (n : Nat) (s : State) : (loadlibDone n s).rest = s.rest := by
  unfold loadlibDone
  lift_lets
  repeat (intro x1; clear_value x1)
  simp [*]

@[simp] theorem shMend_rest (n : Nat) (p : ShPlace) (s : State) : (shMend n p s).rest = s.rest := by
  unfold shMend; (repeat' split) <;> simp

@[simp] theorem shCorrected_rest (n : Nat) (p : ShPlace) (s : State) : (shCorrected n p s).rest = s.rest := by
  unfold shCorrected; simp

@[simp] theorem windowRead_rest (off : Nat) (s : State) : (windowRead off s).2.rest = s.rest := by
  unfold windowRead
  lift_lets
  repeat (intro x1; first | ((have hx1 : State.rest (x1) = State.rest s := (by (simp [x1, *]; done))); clear_value x1) | clear_value x1)
  (repeat' split) <;> simp [*]

@[simp] theorem windowWrite_rest (off : Nat) (v : Word) (s : State) : (windowWrite off v s).rest = s.rest := by
  unfold windowWrite
  lift_lets
  repeat (intro x1; first | ((have hx1 : State.rest (x1) = State.rest s := (by (simp [x1, *]; done))); clear_value x1) | clear_value x1)
  simp [*]

@[simp] theorem bankWait_rest (i : Initiator) (a : Nat) (s : State) : (bankWait i a s).rest = s.rest := by
  unfold bankWait; simp

@[simp] theorem warpPut_rest (i : Initiator) (a : Nat) (size : Size) (v : Word) (s : State) : (warpPut i a size v s).rest = s.rest := by
  unfold warpPut; simp

@[simp] theorem warpCleared_rest (s : State) : (warpCleared s).rest = s.rest := by
  unfold warpCleared
  split
  · extract_lets l a
    have ha : a.rest = s.rest := by simp [a]
    clear_value a
    split <;> simp [ha]
  · rfl

@[simp] theorem inWarp_keptO (f : State → State) (s : State) (hf : ∀ s, (f s).rest = s.rest) : KeptO s (inWarp f s) := by
  unfold inWarp; simp [hf]

@[simp] theorem execGateQueueIssue_keptO (n : Fin 16) (s : State) : KeptO s (execGateQueueIssue n s) := by
  unfold execGateQueueIssue; simp

@[simp] theorem execStart_keptO (i : Initiator) (n : Fin 16) (s : State) : KeptO s (execStart i n s) := by
  unfold execStart; simp

@[simp] theorem execStop_keptO (i : Initiator) (n : Fin 16) (s : State) : KeptO s (execStop i n s) := by
  unfold execStop; simp

@[simp] theorem execLoadlib_keptO (i : Initiator) (n : Fin 16) (s : State) : KeptO s (execLoadlib i n s) := by
  unfold execLoadlib; simp

@[simp] theorem execLoadlibComplete_keptO (n : Fin 16) (s : State) : KeptO s (execLoadlibComplete n s) := by
  unfold execLoadlibComplete; simp

@[simp] theorem execShuttleWindowAccess_keptO (i : Initiator) (off : Fin 24576) (v : Option Word) (s : State) : KeptO s (execShuttleWindowAccess i off v s) := by
  unfold execShuttleWindowAccess; (repeat' split) <;> simp

@[simp] theorem execPickEnable_keptO (i : Initiator) (s : State) : KeptO s (execPickEnable i s) := by
  unfold execPickEnable; simp

@[simp] theorem execPickDisable_keptO (i : Initiator) (s : State) : KeptO s (execPickDisable i s) := by
  unfold execPickDisable; simp

@[simp] theorem execPickConfigWrite_keptO (i : Initiator) (v : Word) (s : State) : KeptO s (execPickConfigWrite i v s) := by
  unfold execPickConfigWrite; simp

@[simp] theorem execPickBoundary_keptO (s : State) : KeptO s (execPickBoundary s) := by
  unfold execPickBoundary; simp

@[simp] theorem execWarpTickLoss_keptO (s : State) : KeptO s (execWarpTickLoss s) := by
  unfold execWarpTickLoss; simp

@[simp] theorem execPickReport_keptO (n : Fin 16) (s : State) : KeptO s (execPickReport n s) := by
  unfold execPickReport; simp

@[simp] theorem execPublicationComplete_keptO (s : State) : KeptO s (execPublicationComplete s) := by
  unfold execPublicationComplete; simp

@[simp] theorem execWarpStoreApply_keptO (n : Fin 16) (s : State) : KeptO s (execWarpStoreApply n s) := by
  unfold execWarpStoreApply; simp

@[simp] theorem execWarpHostWrite_keptO (i : Initiator) (off : BitVec 21) (size : Size) (v : Word) (s : State) : KeptO s (execWarpHostWrite i off size v s) := by
  unfold execWarpHostWrite; simp

@[simp] theorem execWarpClearComplete_keptO (s : State) : KeptO s (execWarpClearComplete s) := by
  unfold execWarpClearComplete; simp

@[simp] theorem execClearanceRecord_keptO (s : State) : KeptO s (execClearanceRecord s) := by
  unfold execClearanceRecord; (try with_reducible refine (keptO_next _ _).2 ?_) <;> (apply inWarp_keptO) <;> intros <;> (try simp only []) <;> (repeat' split) <;> simp

@[simp] theorem execReplacementRecord_keptO (s : State) : KeptO s (execReplacementRecord s) := by
  unfold execReplacementRecord; (try with_reducible refine (keptO_next _ _).2 ?_) <;> (apply inWarp_keptO) <;> intros <;> (try simp only []) <;> (repeat' split) <;> simp

@[simp] theorem execDupAgreement_keptO (s : State) : KeptO s (execDupAgreement s) := by
  unfold execDupAgreement; (try with_reducible refine (keptO_next _ _).2 ?_) <;> (apply inWarp_keptO) <;> intros <;> (try simp only []) <;> (repeat' split) <;> simp

@[simp] theorem execClearNotice_keptO (n : Fin 16) (s : State) : KeptO s (execClearNotice n s) := by
  unfold execClearNotice; (repeat' split) <;> simp

@[simp] theorem execSquashNotice_keptO (n : Fin 16) (s : State) : KeptO s (execSquashNotice n s) := by
  unfold execSquashNotice; (repeat' split) <;> simp

@[simp] theorem execDeadlineResolution_keptO (n : Fin 16) (s : State) : KeptO s (execDeadlineResolution n s) := by
  unfold execDeadlineResolution; simp

/-! ### Dio -/

@[simp] theorem outCommand_rest (m : Nat) (on : Bool) (s : State) : (outCommand m on s).rest = s.rest := by
  unfold outCommand; simp

@[simp] theorem ocmdWrite_rest (v : Word) (s : State) : (ocmdWrite v s).rest = s.rest := by
  unfold ocmdWrite; simp

@[simp] theorem bankRestore_rest (b : Nat) (s : State) : (bankRestore b s).rest = s.rest := by
  unfold bankRestore; simp

@[simp] theorem outUnlatch_rest (m : Nat) (s : State) : (outUnlatch m s).rest = s.rest := by
  unfold outUnlatch; simp

@[simp] theorem oxcmdWrite_rest (b : Nat) (v : Word) (s : State) : (oxcmdWrite b v s).rest = s.rest := by
  unfold oxcmdWrite; simp

@[simp] theorem obankWrite_rest (b : Nat) (v : Word) (s : State) : (obankWrite b v s).rest = s.rest := by
  unfold obankWrite; simp

@[simp] theorem outcfgWrite_rest (m : Nat) (v : Word) (s : State) : (outcfgWrite m v s).rest = s.rest := by
  unfold outcfgWrite; simp

@[simp] theorem rvmapWrite_rest (k : Nat) (v : Word) (s : State) : (rvmapWrite k v s).rest = s.rest := by
  unfold rvmapWrite; simp

@[simp] theorem sendInput_rest (n kind qual : Nat) (v : Word) (stamp : BitVec 64) (s : State) : (sendInput n kind qual v stamp s).rest = s.rest := by
  unfold sendInput; simp

@[simp] theorem tellReeve_rest (d : Nat) (s : State) : (tellReeve d s).rest = s.rest := by
  unfold tellReeve; (repeat' split) <;> simp

@[simp] theorem tellInput_rest (n : Nat) (s : State) : (tellInput n s).rest = s.rest := by
  unfold tellInput; simp

@[simp] theorem stateRecord_rest (n : Nat) (stamp : BitVec 64) (s : State) : (stateRecord n stamp s).rest = s.rest := by
  unfold stateRecord; simp

@[simp] theorem countEdge_rest (n : Nat) (s : State) : (countEdge n s).rest = s.rest := by
  unfold countEdge
  lift_lets
  repeat (intro x1; clear_value x1)
  simp [*]

@[simp] theorem inputChange_rest (n : Nat) (stamp : BitVec 64) (s : State) : (inputChange n stamp s).rest = s.rest := by
  unfold inputChange; simp

@[simp] theorem wireBreak_rest (n : Nat) (wb : Bool) (stamp : BitVec 64) (s : State) : (wireBreak n wb stamp s).rest = s.rest := by
  unfold wireBreak
  lift_lets
  repeat (intro x1; first | ((have hx1 : State.rest (x1) = State.rest s := (by (simp [x1, *]; done))); clear_value x1) | clear_value x1)
  simp [*]

@[simp] theorem inputFollows_rest (n : Nat) (was st freq : Bool) (stamp : BitVec 64) (s : State) : (inputFollows n was st freq stamp s).rest = s.rest := by
  unfold inputFollows; simp

@[simp] theorem refield_rest (l : List Nat) (stamp : BitVec 64) (f : State → State) (s : State) (hf : ∀ s, (f s).rest = s.rest) : (refield l stamp f s).rest = s.rest := by
  unfold refield; simp [hf]

@[simp] theorem inputProfile_rest (n : Nat) (s : State) : (inputProfile n s).rest = s.rest := by
  unfold inputProfile; simp

@[simp] theorem outputProfile_rest (m : Nat) (s : State) : (outputProfile m s).rest = s.rest := by
  unfold outputProfile; simp

@[simp] theorem stateEdge_rest (n : Nat) (edge : BitVec 64) (s : State) : (stateEdge n edge s).rest = s.rest := by
  unfold stateEdge; simp

@[simp] theorem countTick_rest (n : Nat) (edge : BitVec 64) (s : State) : (countTick n edge s).rest = s.rest := by
  unfold countTick; simp

@[simp] theorem inputEdge_rest (n : Nat) (s : State) : (inputEdge n s).rest = s.rest := by
  unfold inputEdge
  lift_lets
  repeat (intro x1; first | ((have hx1 : State.rest (x1) = State.rest s := (by (simp [x1, *]; done))); clear_value x1) | clear_value x1)
  simp [*]

@[simp] theorem bankTick_rest (k : Nat) (s : State) : (bankTick k s).rest = s.rest := by
  unfold bankTick; simp

theorem rest_dio (S : State) (x : DioSt) : ({ S with dio := x } : State).rest = S.rest := by simp
@[simp] theorem dioTick_rest (s : State) : (dioTick s).rest = s.rest := by
  unfold dioTick
  extract_lets prof src s1
  have h1 : s1.rest = s.rest := rest_dio _ _
  clear_value s1
  split
  · exact (forN_rest _ _ _ (fun _ _ => tellReeve_rest _ _)).trans h1
  · exact h1

@[simp] theorem sendCount_rest (n : Nat) (s : State) : (sendCount n s).rest = s.rest := by
  unfold sendCount; (repeat' split) <;> simp

@[simp] theorem gateEnd_rest (n cnt iv cyc ticks : Nat) (sub : BitVec 16) (s : State) : (gateEnd n cnt iv cyc ticks sub s).rest = s.rest := by
  unfold gateEnd
  lift_lets
  repeat (intro x1; first | ((have hx1 : State.rest (x1) = State.rest s := (by (simp [x1, *]; done))); clear_value x1) | clear_value x1)
  simp [*]

@[simp] theorem clrCount_rest (n : Nat) (s : State) : (clrCount n s).rest = s.rest := by
  unfold clrCount; simp

@[simp] theorem incfgWrite_rest (n : Nat) (v : Word) (s : State) : (incfgWrite n v s).rest = s.rest := by
  unfold incfgWrite; simp

@[simp] theorem ibankWrite_rest (k : Nat) (v : Word) (s : State) : (ibankWrite k v s).rest = s.rest := by
  unfold ibankWrite; simp

@[simp] theorem bankReading_rest (k v : Nat) (s : State) : (bankReading k v s).rest = s.rest := by
  unfold bankReading
  lift_lets
  repeat (intro x1; clear_value x1)
  simp [*]

@[simp] theorem outStatus_rest (m : Nat) (s : State) : (outStatus m s).rest = s.rest := by
  unfold outStatus
  lift_lets
  repeat (intro x1; first | ((have hx1 : State.rest (x1) = State.rest s := (by (simp [x1, *]; done))); clear_value x1) | clear_value x1)
  simp [*]

@[simp] theorem inStatus_rest (n : Nat) (s : State) : (inStatus n s).rest = s.rest := by
  unfold inStatus; simp

@[simp] theorem bankStatus_rest (k : Nat) (s : State) : (bankStatus k s).rest = s.rest := by
  unfold bankStatus
  lift_lets
  repeat (intro x1; first | ((have hx1 : State.rest (x1) = State.rest s := (by (simp [x1, *]; done))); clear_value x1) | clear_value x1)
  simp [*]

@[simp] theorem bankComesUp_rest (k : Nat) (s : State) : (bankComesUp k s).rest = s.rest := by
  unfold bankComesUp
  lift_lets
  repeat (intro x1; first | ((have hx1 : State.rest (x1) = State.rest s := (by (simp [x1, *]; done))); clear_value x1) | clear_value x1)
  simp [*]

@[simp] theorem statusWord_rest (k v : Nat) (s : State) : (statusWord k v s).rest = s.rest := by
  unfold statusWord
  lift_lets
  repeat (intro x1; first | ((have hx1 : State.rest (x1) = State.rest s := (by (simp [x1, *]; done))); clear_value x1) | clear_value x1)
  simp [*]

@[simp] theorem invalidRecord_rest (n : Nat) (s : State) : (invalidRecord n s).rest = s.rest := by
  unfold invalidRecord; simp

@[simp] theorem markDown_rest (k : Nat) (s : State) : (markDown k s).rest = s.rest := by
  unfold markDown
  lift_lets
  repeat (intro x1; ((have hx1 : State.rest (x1) = State.rest s := (by (simp [x1, *]))); clear_value x1))
  simp [*]

@[simp] theorem bankFresh_rest (on : Bool) (k : Nat) (s : State) : (bankFresh on k s).rest = s.rest := by
  unfold bankFresh; simp

@[simp] theorem inDiol_keptO (f : State → State) (s : State) (hf : ∀ s, (f s).rest = s.rest) : KeptO s (inDiol f s) := by
  unfold inDiol; simp [hf]

@[simp] theorem execBankStatusWord_keptO (k : Fin 9) (v : BitVec 16) (s : State) : KeptO s (execBankStatusWord k v s) := by
  unfold execBankStatusWord; simp

@[simp] theorem execBankDown_keptO (k : Fin 9) (s : State) : KeptO s (execBankDown k s) := by
  unfold execBankDown; simp

@[simp] theorem execLogicSideLoss_keptO (b : Fin 3) (s : State) : KeptO s (execLogicSideLoss b s) := by
  unfold execLogicSideLoss; simp

@[simp] theorem execHoldExpiry_keptO (b : Fin 3) (s : State) : KeptO s (execHoldExpiry b s) := by
  unfold execHoldExpiry; simp

@[simp] theorem execFieldSupplyRelease_keptO (v : Fin 4) (s : State) : KeptO s (execFieldSupplyRelease v s) := by
  unfold execFieldSupplyRelease; simp

@[simp] theorem execFieldSupplyLoss_keptO (v : Fin 4) (s : State) : KeptO s (execFieldSupplyLoss v s) := by
  unfold execFieldSupplyLoss; simp

@[simp] theorem execInputChange_keptO (n : Fin 48) (back sub : BitVec 16) (s : State) : KeptO s (execInputChange n back sub s) := by
  unfold execInputChange; simp

@[simp] theorem execWireBreak_keptO (n : Fin 48) (sub : BitVec 16) (s : State) : KeptO s (execWireBreak n sub s) := by
  unfold execWireBreak; simp

@[simp] theorem execWireBreakEnd_keptO (n : Fin 48) (sub : BitVec 16) (s : State) : KeptO s (execWireBreakEnd n sub s) := by
  unfold execWireBreakEnd; simp

@[simp] theorem execInputSupplyLow_keptO (k : Fin 6) (v : BitVec 16) (s : State) : KeptO s (execInputSupplyLow k v s) := by
  unfold execInputSupplyLow; simp

@[simp] theorem execWireBreakSuppressionEnd_keptO (k : Fin 6) (v : BitVec 16) (s : State) : KeptO s (execWireBreakSuppressionEnd k v s) := by
  unfold execWireBreakSuppressionEnd; simp

@[simp] theorem execCountRecord_keptO (n : Fin 48) (s : State) : KeptO s (execCountRecord n s) := by
  unfold execCountRecord; simp

@[simp] theorem execFrequencyGateEnd_keptO (n : Fin 48) (cnt iv cyc : BitVec 32) (ticks sub : BitVec 16) (s : State) : KeptO s (execFrequencyGateEnd n cnt iv cyc ticks sub s) := by
  unfold execFrequencyGateEnd; simp

@[simp] theorem execClrcnt_keptO (i : Initiator) (n : Fin 48) (s : State) : KeptO s (execClrcnt i n s) := by
  unfold execClrcnt; simp

theorem fromPath3_keptO (f : EgItem → Option (State → State)) (s : State) (hf : ∀ x g, f x = some g → ∀ t, (g t).rest = t.rest) : KeptO s (fromPath3 f s) := by
  unfold fromPath3
  apply inDiol_keptO
  intro t
  have h := egTake_rest 3 t
  split
  · rename_i e; rw [e] at h
    split
    · rename_i hg; exact (hf _ _ hg _).trans h
    · rfl
  · rfl

@[simp] theorem execOutputCommand_keptO (s : State) : KeptO s (execOutputCommand s) := by
  unfold execOutputCommand
  apply fromPath3_keptO
  intro x g h
  split at h
  · cases h; intro t; simp
  · cases h

@[simp] theorem execHostOutputCommand_keptO (i : Initiator) (v : Word) (s : State) : KeptO s (execHostOutputCommand i v s) := by
  unfold execHostOutputCommand; simp

@[simp] theorem execOutputSupplyWarning_keptO (b : Fin 3) (v : BitVec 16) (s : State) : KeptO s (execOutputSupplyWarning b v s) := by
  unfold execOutputSupplyWarning; simp

@[simp] theorem execOutputUndervoltage_keptO (b : Fin 3) (v : BitVec 16) (s : State) : KeptO s (execOutputUndervoltage b v s) := by
  unfold execOutputUndervoltage; simp

@[simp] theorem execOutputAutoRestore_keptO (b : Fin 3) (s : State) : KeptO s (execOutputAutoRestore b s) := by
  unfold execOutputAutoRestore; simp

@[simp] theorem execRestore_keptO (i : Initiator) (b : Fin 3) (s : State) : KeptO s (execRestore i b s) := by
  unfold execRestore; simp

@[simp] theorem execClrlatch_keptO (i : Initiator) (b : Fin 3) (s : State) : KeptO s (execClrlatch i b s) := by
  unfold execClrlatch; simp

@[simp] theorem execOutputCurrentLimit_keptO (m : Fin 24) (s : State) : KeptO s (execOutputCurrentLimit m s) := by
  unfold execOutputCurrentLimit; simp

@[simp] theorem execOutputThermalShutdown_keptO (m : Fin 24) (hot : Bool) (s : State) : KeptO s (execOutputThermalShutdown m hot s) := by
  unfold execOutputThermalShutdown; simp

@[simp] theorem execOutputRetry_keptO (m : Fin 24) (s : State) : KeptO s (execOutputRetry m s) := by
  unfold execOutputRetry; simp only []; (repeat' split) <;> simp

@[simp] theorem execRetryCountReset_keptO (m : Fin 24) (s : State) : KeptO s (execRetryCountReset m s) := by
  unfold execRetryCountReset; simp

@[simp] theorem execForeignDrive_keptO (m : Fin 24) (s : State) : KeptO s (execForeignDrive m s) := by
  unfold execForeignDrive; simp

@[simp] theorem execForeignDriveEnd_keptO (m : Fin 24) (s : State) : KeptO s (execForeignDriveEnd m s) := by
  unfold execForeignDriveEnd; simp

@[simp] theorem setRelease_rest (rel : Bool) (s : State) : (setRelease rel s).rest = s.rest := by
  unfold setRelease; simp

@[simp] theorem execReleaseOrder_keptO (s : State) : KeptO s (execReleaseOrder s) := by
  unfold execReleaseOrder
  refine fromPath3_keptO _ _ ?_
  intro x g h t
  cases x <;> simp only [Option.some.injEq, reduceCtorEq] at h
  rw [← h]
  exact setRelease_rest _ _

@[simp] theorem execAssumeOrder_keptO (s : State) : KeptO s (execAssumeOrder s) := by
  unfold execAssumeOrder
  refine fromPath3_keptO _ _ ?_
  intro x g h t
  cases x <;> simp only [Option.some.injEq, reduceCtorEq] at h
  rw [← h]
  exact setRelease_rest _ _

@[simp] theorem firstPick_rest (s : State) : (firstPick s).rest = s.rest := by
  unfold firstPick
  lift_lets
  repeat (intro x1; first | ((have hx1 : State.rest (x1) = State.rest s := (by (first | (simp (zetaDelta := true) [x1, *]; done) | (simp only [x1]; (refine (onlyIf_rest _ _ _ ?_).trans ?_) <;> intros <;> (repeat' split) <;> ((simp (zetaDelta := true) [*]; done)))))); clear_value x1) | skip)
  simp (zetaDelta := true) [*]; done

@[simp] theorem execFirstPickMarker_keptO (s : State) : KeptO s (execFirstPickMarker s) := by
  unfold execFirstPickMarker
  apply fromPath3_keptO
  intro x g h
  split at h
  · cases h; intro t; simp
  · cases h

@[simp] theorem execRecordAccept_keptO (src : RecSrc) (s : State) : KeptO s (execRecordAccept src s) := by
  unfold execRecordAccept; (try with_reducible refine (keptO_next _ _).2 ?_) <;> (apply inWarp_keptO) <;> intros <;> (try simp only []) <;> (repeat' split) <;> simp

/-! ### Disp -/

@[simp] theorem setDisp_rest (x : DispSt) (s : State) : (setDisp x s).rest = s.rest := by
  unfold setDisp; simp

@[simp] theorem ladderShow_rest (s : State) : (ladderShow s).rest = s.rest := by
  unfold ladderShow; simp

@[simp] theorem evenFrame_rest (s : State) : (evenFrame s).rest = s.rest := by
  unfold evenFrame
  extract_lets d a b
  have ha : a.rest = s.rest := by simp [a]
  have hb : b.rest = s.rest := by simp [b, ha]
  clear_value b
  split <;> simp [hb]

@[simp] theorem dispCtlWrite_rest (v : Word) (s : State) : (dispCtlWrite v s).rest = s.rest := by
  unfold dispCtlWrite; simp

@[simp] theorem pumpReady_rest (v : Nat) (s : State) : (pumpReady v s).rest = s.rest := by
  unfold pumpReady; simp

@[simp] theorem frameEnd_rest (v : Nat) (s : State) : (frameEnd v s).rest = s.rest := by
  unfold frameEnd
  lift_lets
  repeat (intro x1; first | ((have hx1 : State.rest (x1) = State.rest s := (by (simp [x1, *]; done))); clear_value x1) | clear_value x1)
  simp [*]

@[simp] theorem lcdcfgWrite_rest (v : Word) (s : State) : (lcdcfgWrite v s).rest = s.rest := by
  unfold lcdcfgWrite; simp

@[simp] theorem dispTemp_rest (t : BitVec 12) (s : State) : (dispTemp t s).rest = s.rest := by
  unfold dispTemp; simp

@[simp] theorem setEngine_rest (reeve : Bool) (e : DispEngine) (s : State) : (setEngine reeve e s).rest = s.rest := by
  unfold setEngine; simp

@[simp] theorem engineStart_rest (reeve : Bool) (s : State) : (engineStart reeve s).rest = s.rest := by
  unfold engineStart
  lift_lets
  repeat (intro x1; first | ((have hx1 : State.rest (x1) = State.rest s := (by (simp [x1, *]; done))); clear_value x1) | clear_value x1)
  simp [*]

@[simp] theorem reeveStart_rest (s : State) : (reeveStart s).rest = s.rest := by
  unfold reeveStart; simp

@[simp] theorem dirtySet_rest (j : Nat) (s : State) : (dirtySet j s).rest = s.rest := by
  unfold dirtySet; simp

@[simp] theorem setTarget_rest (j p : Nat) (s : State) : (setTarget j p s).rest = s.rest := by
  unfold setTarget; simp

@[simp] theorem antgtWrite_rest (k : Nat) (v : Word) (s : State) : (antgtWrite k v s).rest = s.rest := by
  unfold antgtWrite; simp

@[simp] theorem clearStart_rest (s : State) : (clearStart s).rest = s.rest := by
  unfold clearStart; simp

@[simp] theorem clearAsk_rest (s : State) : (clearAsk s).rest = s.rest := by
  unfold clearAsk; simp

@[simp] theorem dispCmdWrite_rest (v : Word) (s : State) : (dispCmdWrite v s).rest = s.rest := by
  unfold dispCmdWrite; simp

@[simp] theorem markerClear_rest (s : State) : (markerClear s).rest = s.rest := by
  unfold markerClear; simp

@[simp] theorem markerAck_rest (s : State) : (markerAck s).rest = s.rest := by
  unfold markerAck
  lift_lets
  repeat (intro x1; clear_value x1)
  simp [*]

@[simp] theorem engineEnd_rest (reeve : Bool) (s : State) : (engineEnd reeve s).rest = s.rest := by
  unfold engineEnd
  lift_lets
  repeat (intro x1; first | ((have hx1 : State.rest (x1) = State.rest s := (by (simp [x1, *]; done))); clear_value x1) | clear_value x1)
  simp [*]

@[simp] theorem clearEnd_rest (s : State) : (clearEnd s).rest = s.rest := by
  unfold clearEnd
  lift_lets
  repeat (intro x1; first | ((have hx1 : State.rest (x1) = State.rest s := (by (simp [x1, *]; done))); clear_value x1) | clear_value x1)
  simp [*]

@[simp] theorem glyphBad_rest (s : State) : (glyphBad s).rest = s.rest := by
  unfold glyphBad; simp

@[simp] theorem glyphApply_rest (g st : Nat) (s : State) : (glyphApply g st s).rest = s.rest := by
  unfold glyphApply
  lift_lets
  repeat (intro x1; first | ((have hx1 : State.rest (x1) = State.rest s := (by (simp [x1, *]; done))); clear_value x1) | clear_value x1)
  simp [*]

@[simp] theorem floodApply_rest (s : State) : (floodApply s).rest = s.rest := by
  unfold floodApply; simp

@[simp] theorem segmentWord_rest (w : Nat) (s : State) : (segmentWord w s).rest = s.rest := by
  unfold segmentWord; simp

@[simp] theorem inDisp_keptO (f : State → State) (s : State) (hf : ∀ s, (f s).rest = s.rest) : KeptO s (inDisp f s) := by
  unfold inDisp; simp [hf]

@[simp] theorem execLcdEnable_keptO (i : Initiator) (s : State) : KeptO s (execLcdEnable i s) := by
  unfold execLcdEnable; simp

@[simp] theorem execLcdPumpReady_keptO (v : BitVec 8) (s : State) : KeptO s (execLcdPumpReady v s) := by
  unfold execLcdPumpReady; simp

@[simp] theorem execLcdDisable_keptO (i : Initiator) (s : State) : KeptO s (execLcdDisable i s) := by
  unfold execLcdDisable; simp

@[simp] theorem execLcdFrameEnd_keptO (v : BitVec 8) (s : State) : KeptO s (execLcdFrameEnd v s) := by
  unfold execLcdFrameEnd; simp

@[simp] theorem execPumpretry_keptO (i : Initiator) (s : State) : KeptO s (execPumpretry i s) := by
  unfold execPumpretry; simp

@[simp] theorem execDieTemperatureWord_keptO (t : BitVec 12) (s : State) : KeptO s (execDieTemperatureWord t s) := by
  unfold execDieTemperatureWord; simp

@[simp] theorem execAnnunciatorTargetWrite_keptO (i : Initiator) (hi : Bool) (v : Word) (s : State) : KeptO s (execAnnunciatorTargetWrite i hi v s) := by
  unfold execAnnunciatorTargetWrite; simp

@[simp] theorem execMainUpdateStart_keptO (s : State) : KeptO s (execMainUpdateStart s) := by
  unfold execMainUpdateStart; simp

@[simp] theorem execUpdate_keptO (i : Initiator) (s : State) : KeptO s (execUpdate i s) := by
  unfold execUpdate; simp

@[simp] theorem execMarkerAcknowledged_keptO (s : State) : KeptO s (execMarkerAcknowledged s) := by
  unfold execMarkerAcknowledged; simp

@[simp] theorem execUpdateEnd_keptO (reeve : Bool) (s : State) : KeptO s (execUpdateEnd reeve s) := by
  unfold execUpdateEnd; simp

@[simp] theorem execClear_keptO (i : Initiator) (s : State) : KeptO s (execClear i s) := by
  unfold execClear; simp

@[simp] theorem execClearingRefreshEnd_keptO (s : State) : KeptO s (execClearingRefreshEnd s) := by
  unfold execClearingRefreshEnd; simp

theorem fromPath2_keptO (f : EgItem → Option (State → State)) (s : State) (hf : ∀ x g, f x = some g → ∀ t, (g t).rest = t.rest) : KeptO s (fromPath2 f s) := by
  unfold fromPath2
  refine (keptO_next _ _).2 ?_
  have h := egTake_rest 2 s
  split
  · split
    · rename_i e; rw [e] at h
      split
      · rename_i hg; exact (hf _ _ hg _).trans ((rouse_rest _ _).trans h)
      · rfl
    · rfl
  · rfl

@[simp] theorem execGlyphItem_keptO (s : State) : KeptO s (execGlyphItem s) := by
  unfold execGlyphItem
  apply fromPath2_keptO
  intro x g h
  split at h
  · cases h; intro t; simp
  · cases h

@[simp] theorem execDispFloodItem_keptO (s : State) : KeptO s (execDispFloodItem s) := by
  unfold execDispFloodItem
  apply fromPath2_keptO
  intro x g h
  split at h
  · cases h; intro t; simp
  · cases h

@[simp] theorem execFloodHoldExpiry_keptO (s : State) : KeptO s (execFloodHoldExpiry s) := by
  unfold execFloodHoldExpiry; (try with_reducible refine (keptO_next _ _).2 ?_) <;> (apply inDisp_keptO) <;> intros <;> (try simp only []) <;> (repeat' split) <;> simp

@[simp] theorem execReeveSegmentWord_keptO (s : State) : KeptO s (execReeveSegmentWord s) := by
  unfold execReeveSegmentWord; (repeat' split) <;> simp

/-! ### Perf -/

@[simp] theorem setPerf_rest (x : PerfSt) (s : State) : (setPerf x s).rest = s.rest := by
  unfold setPerf; simp

@[simp] theorem perfRebase_rest (k : Nat) (s : State) : (perfRebase k s).rest = s.rest := by
  unfold perfRebase; simp

@[simp] theorem perfSelWrite_rest (k : Nat) (v : Word) (s : State) : (perfSelWrite k v s).rest = s.rest := by
  unfold perfSelWrite; simp

@[simp] theorem execPerfCounterSelect_keptO (ini : Initiator) (k : Fin 64) (v : Word) (s : State) : KeptO s (execPerfCounterSelect ini k v s) := by
  unfold execPerfCounterSelect; simp

@[simp] theorem setUnit_rest (k : Nat) (v : Word) (s : State) : (setUnit k v s).rest = s.rest := by
  unfold setUnit; simp

@[simp] theorem takeSample_rest (k : Nat) (pc : Word) (s : State) : (takeSample k pc s).rest = s.rest := by
  unfold takeSample
  lift_lets
  repeat (intro x1; clear_value x1)
  (repeat' split) <;> simp [*]

@[simp] theorem perfWrap_rest : ∀ x0 x1 x2 s, (perfWrap x0 x1 x2 s).rest = s.rest := by
  intro x0
  induction x0 with
  | zero =>
    intros; unfold perfWrap
    simp
  | succ n ih =>
    intros; unfold perfWrap
    simp [ih]

@[simp] theorem unitCount_rest (k d : Nat) (s : State) : (unitCount k d s).rest = s.rest := by
  unfold unitCount; simp

@[simp] theorem execPerfCounterWrap_keptO (k : Fin 64) (pc : Word) (s : State) : KeptO s (execPerfCounterWrap k pc s) := by
  unfold execPerfCounterWrap; (repeat' split) <;> simp

@[simp] theorem perfCmd_rest (c : PerfCmd) (s : State) : (perfCmd c s).rest = s.rest := by
  unfold perfCmd; simp

@[simp] theorem perfCmdWrite_rest (v : Word) (s : State) : (perfCmdWrite v s).rest = s.rest := by
  unfold perfCmdWrite; simp

@[simp] theorem execFreeze_keptO (ini : Initiator) (s : State) : KeptO s (execFreeze ini s) := by
  unfold execFreeze; simp

@[simp] theorem execSnap_keptO (ini : Initiator) (s : State) : KeptO s (execSnap ini s) := by
  unfold execSnap; simp

@[simp] theorem execUnfreeze_keptO (ini : Initiator) (s : State) : KeptO s (execUnfreeze ini s) := by
  unfold execUnfreeze; simp

@[simp] theorem perfEdge_rest (s : State) : (perfEdge s).rest = s.rest := by
  unfold perfEdge; (repeat' split) <;> simp

@[simp] theorem unitsCount_rest (counts : List Word) (s : State) : (unitsCount counts s).rest = s.rest := by
  unfold unitsCount; simp

@[simp] theorem unitsCapture_rest (s : State) : (unitsCapture s).rest = s.rest := by
  unfold unitsCapture; simp

@[simp] theorem execPerfCommonEdge_keptO (counts : List Word) (s : State) : KeptO s (execPerfCommonEdge counts s) := by
  unfold execPerfCommonEdge; (repeat' split) <;> simp

@[simp] theorem execPerfGatherComplete_keptO (s : State) : KeptO s (execPerfGatherComplete s) := by
  unfold execPerfGatherComplete; (repeat' split) <;> simp

@[simp] theorem perfValWrite_rest (k : Nat) (v : Word) (s : State) : (perfValWrite k v s).rest = s.rest := by
  unfold perfValWrite; simp

@[simp] theorem execPerfValueWrite_keptO (ini : Initiator) (k : Fin 64) (v : Word) (s : State) : KeptO s (execPerfValueWrite ini k v s) := by
  unfold execPerfValueWrite; simp

@[simp] theorem smppcRead_rest (s : State) : (smppcRead s).rest = s.rest := by
  unfold smppcRead; simp

@[simp] theorem execBandwidthWindowEnd_keptO (words stalls : List Word) (s : State) : KeptO s (execBandwidthWindowEnd words stalls s) := by
  unfold execBandwidthWindowEnd; simp only []; (repeat' split) <;> simp

/-! ### Selv -/

@[simp] theorem selvEnable_rest (s : State) : (selvEnable s).rest = s.rest := by
  unfold selvEnable; simp

@[simp] theorem selvDisable_rest (s : State) : (selvDisable s).rest = s.rest := by
  unfold selvDisable; simp

@[simp] theorem selvCtlWrite_rest (v : Word) (s : State) : (selvCtlWrite v s).rest = s.rest := by
  unfold selvCtlWrite
  lift_lets
  repeat (intro x1; first | ((have hx1 : State.rest (x1) = State.rest s := (by (simp [x1, *]; done))); clear_value x1) | clear_value x1)
  simp [*]

@[simp] theorem selvCfgWrite_rest (v : Word) (s : State) : (selvCfgWrite v s).rest = s.rest := by
  unfold selvCfgWrite; simp

@[simp] theorem cpcfgWrite_rest (v : Word) (s : State) : (cpcfgWrite v s).rest = s.rest := by
  unfold cpcfgWrite; simp

@[simp] theorem rxcfgWrite_rest (v : Word) (s : State) : (rxcfgWrite v s).rest = s.rest := by
  unfold rxcfgWrite; simp

@[simp] theorem sendBeat_rest (p : Word) (handover : Bool) (s : State) : (sendBeat p handover s).rest = s.rest := by
  unfold sendBeat; simp

@[simp] theorem takeover_rest (s : State) : (takeover s).rest = s.rest := by
  unfold takeover; simp

@[simp] theorem standbyBoundary_rest (s : State) : (standbyBoundary s).rest = s.rest := by
  unfold standbyBoundary; simp

@[simp] theorem boundaryAt_rest (p : Word) (s : State) : (boundaryAt p s).rest = s.rest := by
  unfold boundaryAt; (repeat' split) <;> simp

@[simp] theorem noBeat_rest (s : State) : (noBeat s).rest = s.rest := by
  unfold noBeat; simp

@[simp] theorem takeoverDone_rest (s : State) : (takeoverDone s).rest = s.rest := by
  unfold takeoverDone
  lift_lets
  repeat (intro x1; first | ((have hx1 : State.rest (x1) = State.rest s := (by (first | (simp [x1, *]; done) | (simp only [x1]; (repeat' split) <;> (simp [*]; done))))); clear_value x1) | clear_value x1)
  simp [*]

@[simp] theorem peerReport_rest (r : Role) (e : BitVec 16) (s : State) : (peerReport r e s).rest = s.rest := by
  unfold peerReport; simp

@[simp] theorem keepaliveIn_rest (k : Keepalive) (s : State) : (keepaliveIn k s).rest = s.rest := by
  unfold keepaliveIn; simp

@[simp] theorem heartbeatIn_rest (h : Heartbeat) (s : State) : (heartbeatIn h s).rest = s.rest := by
  unfold heartbeatIn
  lift_lets
  repeat (intro x1; first | ((have hx1 : State.rest (x1) = State.rest s := (by (simp [x1, *]; done))); clear_value x1) | clear_value x1)
  (repeat' split) <;> simp [*]

@[simp] theorem copyStart_rest (k : Word) (outsh : Nat) (s : State) : (copyStart k outsh s).rest = s.rest := by
  unfold copyStart
  lift_lets
  repeat (intro x1; first | ((have hx1 : State.rest (x1) = State.rest s := (by (simp [x1, *]; done))); clear_value x1) | clear_value x1)
  simp [*]

@[simp] theorem copyRequest_rest (k : Word) (outsh : Nat) (s : State) : (copyRequest k outsh s).rest = s.rest := by
  unfold copyRequest; simp

@[simp] theorem copySent_rest (s : State) : (copySent s).rest = s.rest := by
  unfold copySent
  lift_lets
  repeat (intro x1; clear_value x1)
  (repeat' split) <;> simp [*]

@[simp] theorem copyReceived_rest (h : CopyHdr) (data : List Byte) (good : Bool) (s : State) : (copyReceived h data good s).rest = s.rest := by
  unfold copyReceived
  lift_lets
  repeat (intro x1; first | ((have hx1 : State.rest (x1) = State.rest s := (by (simp [x1, *]; done))); clear_value x1) | clear_value x1)
  simp [*]

@[simp] theorem partnerVote_rest (v : Vote) (s : State) : (partnerVote v s).rest = s.rest := by
  unfold partnerVote
  lift_lets
  repeat (intro x1; first | ((have hx1 : State.rest (x1) = State.rest s := (by (simp [x1, *]; done))); clear_value x1) | clear_value x1)
  simp [*]

@[simp] theorem voteExpiry_rest (s : State) : (voteExpiry s).rest = s.rest := by
  unfold voteExpiry; (repeat' split) <;> simp

@[simp] theorem inSelv_keptO (f : State → State) (s : State) (hf : ∀ s, (f s).rest = s.rest) : KeptO s (inSelv f s) := by
  unfold inSelv; simp [hf]

@[simp] theorem execSelvLaneUp_keptO (lane : Fin 2) (s : State) : KeptO s (execSelvLaneUp lane s) := by
  unfold execSelvLaneUp; simp

@[simp] theorem execSelvLaneDown_keptO (lane : Fin 2) (s : State) : KeptO s (execSelvLaneDown lane s) := by
  unfold execSelvLaneDown; simp

@[simp] theorem execSelvEnable_keptO (i : Initiator) (s : State) : KeptO s (execSelvEnable i s) := by
  unfold execSelvEnable; simp

@[simp] theorem execSelvDisable_keptO (i : Initiator) (s : State) : KeptO s (execSelvDisable i s) := by
  unfold execSelvDisable; simp

@[simp] theorem execSelvKeepaliveSend_keptO (s : State) : KeptO s (execSelvKeepaliveSend s) := by
  unfold execSelvKeepaliveSend; simp

@[simp] theorem execSelvKeepaliveReceived_keptO (k : Keepalive) (s : State) : KeptO s (execSelvKeepaliveReceived k s) := by
  unfold execSelvKeepaliveReceived; simp

@[simp] theorem execSelvPairTimeout_keptO (s : State) : KeptO s (execSelvPairTimeout s) := by
  unfold execSelvPairTimeout; (try with_reducible refine (keptO_next _ _).2 ?_) <;> (apply inSelv_keptO) <;> intros <;> (try simp only []) <;> (repeat' split) <;> simp

@[simp] theorem execSelvLoneStart_keptO (rolei : Bool) (s : State) : KeptO s (execSelvLoneStart rolei s) := by
  unfold execSelvLoneStart; simp

@[simp] theorem execSelvHeartbeatSend_keptO (rolei : Bool) (s : State) : KeptO s (execSelvHeartbeatSend rolei s) := by
  unfold execSelvHeartbeatSend; (try with_reducible refine (keptO_next _ _).2 ?_) <;> (apply inSelv_keptO) <;> intros <;> (try simp only []) <;> (repeat' split) <;> simp

@[simp] theorem execTakeoverCopyComplete_keptO (s : State) : KeptO s (execTakeoverCopyComplete s) := by
  unfold execTakeoverCopyComplete; simp

@[simp] theorem execSelvHeartbeatReceived_keptO (h : Heartbeat) (s : State) : KeptO s (execSelvHeartbeatReceived h s) := by
  unfold execSelvHeartbeatReceived; simp

@[simp] theorem execStateCopyRequest_keptO (s : State) : KeptO s (execStateCopyRequest s) := by
  unfold execStateCopyRequest; (try with_reducible refine (keptO_next _ _).2 ?_) <;> (apply inSelv_keptO) <;> intros <;> (try simp only []) <;> (repeat' split) <;> simp

@[simp] theorem execStateCopySent_keptO (s : State) : KeptO s (execStateCopySent s) := by
  unfold execStateCopySent; simp

@[simp] theorem execStateCopyReceived_keptO (hdr : CopyHdr) (data : List Byte) (good : Bool) (s : State) : KeptO s (execStateCopyReceived hdr data good s) := by
  unfold execStateCopyReceived; simp

@[simp] theorem execSwitch_keptO (i : Initiator) (s : State) : KeptO s (execSwitch i s) := by
  unfold execSwitch; simp

@[simp] theorem execPartnerVoteReceived_keptO (v : Vote) (s : State) : KeptO s (execPartnerVoteReceived v s) := by
  unfold execPartnerVoteReceived; simp

@[simp] theorem execVoteExpiry_keptO (s : State) : KeptO s (execVoteExpiry s) := by
  unfold execVoteExpiry; simp

@[simp] theorem execCdupWrite_keptO (i : Initiator) (on : Bool) (s : State) : KeptO s (execCdupWrite i on s) := by
  unfold execCdupWrite; simp

/-! ### Reeve -/

@[simp] theorem setRv_rest (x : RvSt) (s : State) : (setRv x s).rest = s.rest := by
  unfold setRv; simp

@[simp] theorem setRvSrc_rest (n : Nat) (x : RvSrc) (s : State) : (setRvSrc n x s).rest = s.rest := by
  unfold setRvSrc; simp

@[simp] theorem rvShow_rest (s : State) : (rvShow s).rest = s.rest := by
  unfold rvShow; simp

@[simp] theorem rvHorn_rest (n : Nat) (s : State) : (rvHorn n s).rest = s.rest := by
  unfold rvHorn; simp

@[simp] theorem rvAlarmOn_rest (n : Nat) (s : State) : (rvAlarmOn n s).rest = s.rest := by
  unfold rvAlarmOn; simp

@[simp] theorem rvAlarmOff_rest (n : Nat) (s : State) : (rvAlarmOff n s).rest = s.rest := by
  unfold rvAlarmOff; simp

@[simp] theorem rvFaultOn_rest (n : Nat) (s : State) : (rvFaultOn n s).rest = s.rest := by
  unfold rvFaultOn
  lift_lets
  repeat (intro x1; first | ((have hx1 : State.rest (x1) = State.rest s := (by (simp [x1, *]; done))); clear_value x1) | clear_value x1)
  simp [*]

@[simp] theorem rvFaultOff_rest (n : Nat) (s : State) : (rvFaultOff n s).rest = s.rest := by
  unfold rvFaultOff; simp

@[simp] theorem rvDiscard_rest (s : State) : (rvDiscard s).rest = s.rest := by
  unfold rvDiscard; simp

@[simp] theorem rvCauseSet_rest (b : Nat) (s : State) : (rvCauseSet b s).rest = s.rest := by
  unfold rvCauseSet; simp

@[simp] theorem rvEngage_rest (s : State) : (rvEngage s).rest = s.rest := by
  unfold rvEngage; simp

@[simp] theorem lockReset_rest (s : State) : (lockReset s).rest = s.rest := by
  unfold lockReset; simp

@[simp] theorem rvTrigger_rest (c : RvCause) (s : State) : (rvTrigger c s).rest = s.rest := by
  unfold rvTrigger; simp <;> intros <;> (repeat' split) <;> simp

@[simp] theorem rvNormal_rest (s : State) : (rvNormal s).rest = s.rest := by
  unfold rvNormal; simp

@[simp] theorem rvApply_rest (s : State) : (rvApply s).rest = s.rest := by
  unfold rvApply
  lift_lets
  repeat (intro x1; first | ((have hx1 : State.rest (x1) = State.rest s := (by (simp [x1, *]; done))); clear_value x1) | clear_value x1)
  simp [*]

@[simp] theorem rvRefuse_rest (s : State) : (rvRefuse s).rest = s.rest := by
  unfold rvRefuse; simp

@[simp] theorem rvAckh_rest (s : State) : (rvAckh s).rest = s.rest := by
  unfold rvAckh; simp

@[simp] theorem rvCommand_rest (op : Nat) (s : State) : (rvCommand op s).rest = s.rest := by
  unfold rvCommand; (repeat' split) <;> simp

@[simp] theorem rvCmdWrite_rest (v : Word) (s : State) : (rvCmdWrite v s).rest = s.rest := by
  unfold rvCmdWrite; simp

@[simp] theorem rvCauseWrite_rest (v : Word) (s : State) : (rvCauseWrite v s).rest = s.rest := by
  unfold rvCauseWrite; simp

@[simp] theorem rvConfigWrite_rest (a : Nat) (v : Word) (s : State) : (rvConfigWrite a v s).rest = s.rest := by
  unfold rvConfigWrite; (repeat' split) <;> simp

@[simp] theorem rvCompare_rest (n : Nat) (code : Int) (s : State) : (rvCompare n code s).rest = s.rest := by
  unfold rvCompare
  lift_lets
  repeat (intro x1; first | ((have hx1 : State.rest (x1) = State.rest s := (by (simp [x1, *]; done))); clear_value x1) | clear_value x1)
  simp [*]

@[simp] theorem rvCode_rest (n : Nat) (code : Int) (range : Nat) (s : State) : (rvCode n code range s).rest = s.rest := by
  unfold rvCode; simp

@[simp] theorem rvInput_rest (w : RvInput) (s : State) : (rvInput w s).rest = s.rest := by
  unfold rvInput
  lift_lets
  repeat (intro x1; clear_value x1)
  simp [*]

@[simp] theorem rvInputDelay_rest (m : Nat) (s : State) : (rvInputDelay m s).rest = s.rest := by
  unfold rvInputDelay
  lift_lets
  repeat (intro x1; clear_value x1)
  (repeat' split) <;> simp [*]

@[simp] theorem rvStale_rest (n : Nat) (s : State) : (rvStale n s).rest = s.rest := by
  unfold rvStale; simp

@[simp] theorem rvInputStale_rest (m : Nat) (s : State) : (rvInputStale m s).rest = s.rest := by
  unfold rvInputStale; simp

@[simp] theorem rvGive_rest (k : Nat) (v : Word) (s : State) : (rvGive k v s).rest = s.rest := by
  unfold rvGive; simp

@[simp] theorem reevePowerUp_rest (s : State) : (reevePowerUp s).rest = s.rest := by
  unfold reevePowerUp; simp

@[simp] theorem lockstepMismatch_rest (s : State) : (lockstepMismatch s).rest = s.rest := by
  unfold lockstepMismatch
  lift_lets
  repeat (intro x1; first | ((have hx1 : State.rest (x1) = State.rest s := (by (first | (simp (zetaDelta := true) [x1, *]; done) | (simp only [x1]; (apply onlyIf_rest) <;> intros <;> (repeat' split) <;> ((simp (zetaDelta := true) [*]; done)))))); clear_value x1) | skip)
  simp (zetaDelta := true) [*]; done

@[simp] theorem inReeve_keptO (f : State → State) (s : State) (hf : ∀ s, (f s).rest = s.rest) : KeptO s (inReeve f s) := by
  unfold inReeve; simp [hf]

@[simp] theorem execReevePowerUp_keptO (s : State) : KeptO s (execReevePowerUp s) := by
  unfold execReevePowerUp; simp

@[simp] theorem execReeveSupplyLoss_keptO (s : State) : KeptO s (execReeveSupplyLoss s) := by
  unfold execReeveSupplyLoss; simp

@[simp] theorem execReeveTrigger_keptO (s : State) : KeptO s (execReeveTrigger s) := by
  unfold execReeveTrigger; (repeat' split) <;> simp

@[simp] theorem rvCmdRow_keptO (i : Initiator) (op : Nat) (s : State) : KeptO s (rvCmdRow i op s) := by
  unfold rvCmdRow; simp

@[simp] theorem execArm_keptO (i : Initiator) (s : State) : KeptO s (execArm i s) := by
  unfold execArm; simp

@[simp] theorem execDisarm_keptO (i : Initiator) (s : State) : KeptO s (execDisarm i s) := by
  unfold execDisarm; simp

@[simp] theorem execEngage_keptO (i : Initiator) (s : State) : KeptO s (execEngage i s) := by
  unfold execEngage; simp

@[simp] theorem execResume_keptO (i : Initiator) (s : State) : KeptO s (execResume i s) := by
  unfold execResume; simp

@[simp] theorem execAckh_keptO (i : Initiator) (s : State) : KeptO s (execAckh i s) := by
  unfold execAckh; simp

@[simp] theorem execApply_keptO (i : Initiator) (s : State) : KeptO s (execApply i s) := by
  unfold execApply; simp

@[simp] theorem execReeveConfigWrite_keptO (i : Initiator) (reg : RvReg) (v : Word) (s : State) : KeptO s (execReeveConfigWrite i reg v s) := by
  unfold execReeveConfigWrite; simp

@[simp] theorem execReeveChannelCode_keptO (s : State) : KeptO s (execReeveChannelCode s) := by
  unfold execReeveChannelCode; (try with_reducible refine (keptO_next _ _).2 ?_) <;> (apply inReeve_keptO) <;> intros <;> (try simp only []) <;> (repeat' split) <;> simp

@[simp] theorem execReeveInputWord_keptO (s : State) : KeptO s (execReeveInputWord s) := by
  unfold execReeveInputWord; (try with_reducible refine (keptO_next _ _).2 ?_) <;> (apply inReeve_keptO) <;> intros <;> (try simp only []) <;> (repeat' split) <;> simp

@[simp] theorem execReeveInputDelayExpiry_keptO (m : Fin 8) (s : State) : KeptO s (execReeveInputDelayExpiry m s) := by
  unfold execReeveInputDelayExpiry; simp

@[simp] theorem execReeveSourceStale_keptO (n : Fin 16) (s : State) : KeptO s (execReeveSourceStale n s) := by
  unfold execReeveSourceStale; simp

@[simp] theorem execReeveInputStale_keptO (m : Fin 8) (s : State) : KeptO s (execReeveInputStale m s) := by
  unfold execReeveInputStale; simp

@[simp] theorem execReeveMarker_keptO (s : State) : KeptO s (execReeveMarker s) := by
  unfold execReeveMarker; simp

@[simp] theorem execLockstepMismatch_keptO (s : State) : KeptO s (execLockstepMismatch s) := by
  unfold execLockstepMismatch; simp

/-! ### Engine -/

@[simp] theorem setCore_rest (e : Engine) (c : Core) (s : State) : (setCore e c s).rest = s.rest := by
  unfold setCore; (repeat' split) <;> simp

@[simp] theorem hostCount_rest (evt : Nat) (s : State) : (hostCount evt s).rest = s.rest := by
  unfold hostCount; simp

@[simp] theorem countIssue_rest (e : Engine) (s : State) : (countIssue e s).rest = s.rest := by
  unfold countIssue; (repeat' split) <;> simp

@[simp] theorem jump_rest (e : Engine) (a : Word) (s : State) : (jump e a s).rest = s.rest := by
  unfold jump; simp

@[simp] theorem advance_rest (e : Engine) (s : State) : (advance e s).rest = s.rest := by
  unfold advance; simp

@[simp] theorem setReg_rest (e : Engine) (n : Fin 32) (v : Word) (s : State) : (setReg e n v s).rest = s.rest := by
  unfold setReg; (repeat' split) <;> simp

@[simp] theorem addFlags_rest (e : Engine) (fl : Nat) (s : State) : (addFlags e fl s).rest = s.rest := by
  unfold addFlags; simp

@[simp] theorem cwPut_rest (n : Nat) (v : Word) (s : State) : (cwPut n v s).rest = s.rest := by
  unfold cwPut; simp

@[simp] theorem hostEnter_rest (epc cause tval : Word) (s : State) : (hostEnter epc cause tval s).rest = s.rest := by
  unfold hostEnter
  lift_lets
  repeat (intro x1; first | ((have hx1 : State.rest (x1) = State.rest s := (by (simp [x1, *]; done))); clear_value x1) | clear_value x1)
  simp [*]

@[simp] theorem hostReturn_rest (s : State) : (hostReturn s).rest = s.rest := by
  unfold hostReturn; simp

@[simp] theorem hostRaise_rest (code : Nat) (tval : Word) (s : State) : (hostRaise code tval s).rest = s.rest := by
  unfold hostRaise; simp

@[simp] theorem useStep_rest (e : Engine) (s : State) : (useStep e s).rest = s.rest := by
  unfold useStep; simp

@[simp] theorem shFault_rest (n cause : Nat) (s : State) : (shFault n cause s).rest = s.rest := by
  unfold shFault; simp

@[simp] theorem engineFault_rest (e : Engine) (code : Nat) (tval : Word) (cause seqCause : Nat) (s : State) : (engineFault e code tval cause seqCause s).rest = s.rest := by
  unfold engineFault; (repeat' split) <;> simp

@[simp] theorem fetchMend_rest (e : Engine) (s : State) : (fetchMend e s).rest = s.rest := by
  unfold fetchMend; (repeat' split) <;> simp

@[simp] theorem runOn_rest (e : Engine) (av : Avail) (w : Word) (f : State → State) (s : State) (hf : ∀ s, (f s).rest = s.rest) : (runOn e av w f s).rest = s.rest := by
  unfold runOn; simp [hf] <;> intros <;> (repeat' split) <;> simp [hf]

end Sys2Proof.Machine
end

