-- ==== Sys2Proof/Laws/FrameLinks.lean ====
section
/-! SUPPORT. What the operations and commands leave alone, one lemma each: CAN, the serial links, the recorder, POLDER, the sluices and the queue commands. -/

set_option maxRecDepth 20000
set_option linter.all false

namespace Sys2Proof.Machine

/-! ### Can -/

@[simp] theorem setCan_rest (k : Nat) (x : CanSt) (s : State) : (setCan k x s).rest = s.rest := by
  unfold setCan; simp

@[simp] theorem canSync_rest (k : Nat) (s : State) : (canSync k s).rest = s.rest := by
  unfold canSync
  lift_lets
  repeat (intro x1; first | ((have hx1 : State.rest (x1) = State.rest s := (by (simp [x1, *]; done))); clear_value x1) | clear_value x1)
  simp [*]

@[simp] theorem setCanState_rest (k st : Nat) (s : State) : (setCanState k st s).rest = s.rest := by
  unfold setCanState; simp

@[simp] theorem canClose_rest (k : Nat) (s : State) : (canClose k s).rest = s.rest := by
  unfold canClose
  lift_lets
  repeat (intro x1; clear_value x1)
  simp [*]

@[simp] theorem canCtlWrite_rest (k : Nat) (v : Word) (s : State) : (canCtlWrite k v s).rest = s.rest := by
  unfold canCtlWrite
  lift_lets
  repeat (intro x1; first | ((have hx1 : State.rest (x1) = State.rest s := (by (simp [x1, *]; done))); clear_value x1) | clear_value x1)
  simp [*]

@[simp] theorem canConfine_rest (k : Nat) (s : State) : (canConfine k s).rest = s.rest := by
  unfold canConfine
  lift_lets
  repeat (intro x1; first | ((have hx1 : State.rest (x1) = State.rest s := (by (simp [x1, *]; done))); clear_value x1) | clear_value x1)
  simp [*]

@[simp] theorem canCount_rest (k tec rec : Nat) (s : State) : (canCount k tec rec s).rest = s.rest := by
  unfold canCount; simp

@[simp] theorem canIdle_rest (k : Nat) (s : State) : (canIdle k s).rest = s.rest := by
  unfold canIdle; simp

@[simp] theorem setMbByte_rest (k j i : Nat) (b : Byte) (s : State) : (setMbByte k j i b s).rest = s.rest := by
  unfold setMbByte; simp

@[simp] theorem canSelect_rest (k : Nat) (sof : Bool) (s : State) : (canSelect k sof s).rest = s.rest := by
  unfold canSelect; simp <;> intros <;> (repeat' split) <;> simp

@[simp] theorem canAborted_rest (k j : Nat) (s : State) : (canAborted k j s).rest = s.rest := by
  unfold canAborted; simp

@[simp] theorem canDrop_rest (k : Nat) (t : CanTx) (s : State) : (canDrop k t s).rest = s.rest := by
  unfold canDrop
  lift_lets
  repeat (intro x1; clear_value x1)
  (repeat' split) <;> simp [*]

@[simp] theorem canFailed_rest (k : Nat) (s : State) : (canFailed k s).rest = s.rest := by
  unfold canFailed; (repeat' split) <;> simp

@[simp] theorem canYield_rest (k : Nat) (s : State) : (canYield k s).rest = s.rest := by
  unfold canYield; (repeat' split) <;> simp

@[simp] theorem canAccept_rest (k : Nat) (f : CanFrame) (s : State) : (canAccept k f s).rest = s.rest := by
  unfold canAccept
  lift_lets
  repeat (intro x1; first | ((have hx1 : State.rest (x1) = State.rest s := (by (simp [x1, *]; done))); clear_value x1) | clear_value x1)
  (repeat' split) <;> simp [*]

@[simp] theorem canError_rest (k code : Nat) (data : Bool) (s : State) : (canError k code data s).rest = s.rest := by
  unfold canError; simp

@[simp] theorem canReceive_rest (k : Nat) (f : CanFrame) (s : State) : (canReceive k f s).rest = s.rest := by
  unfold canReceive; simp

@[simp] theorem canMeasure_rest (k : Nat) (f : CanFrame) (delay : Nat) (s : State) : (canMeasure k f delay s).rest = s.rest := by
  unfold canMeasure; simp

@[simp] theorem canSent_rest (k delay : Nat) (s : State) : (canSent k delay s).rest = s.rest := by
  unfold canSent
  split
  · rfl
  · rename_i t _
    extract_lets s1 x s2 s3
    have h1 : s1.rest = s.rest := by simp [s1]
    clear_value s1 x
    have h2 : s2.rest = s.rest := by
      simp only [s2]
      (repeat' split) <;> simp [h1]
    clear_value s2
    have h3 : s3.rest = s.rest := by
      simp only [s3]
      split <;> simp [h2]
    clear_value s3
    simp [h3]

@[simp] theorem canItem_rest (k id mbox : Nat) (st : Word) (first last : BitVec 64) (rep seq : Nat) (s : State) : (canItem k id mbox st first last rep seq s).rest = s.rest := by
  unfold canItem
  split
  · simp
  · simp only [canSync_rest]
    split <;> simp

@[simp] theorem canFlood_rest (f : Flood) (k : Nat) (s : State) : (canFlood f k s).rest = s.rest := by
  unfold canFlood; simp

@[simp] theorem canAlmWrite_rest (k : Nat) (v : Word) (s : State) : (canAlmWrite k v s).rest = s.rest := by
  unfold canAlmWrite
  lift_lets
  repeat (intro x1; first | ((have hx1 : State.rest (x1) = State.rest s := (by (simp [x1, *]; done))); clear_value x1) | clear_value x1)
  simp [*]

@[simp] theorem mbcfgWrite_rest (k j : Nat) (v : Word) (s : State) : (mbcfgWrite k j v s).rest = s.rest := by
  unfold mbcfgWrite; simp

@[simp] theorem mbidWrite_rest (k j : Nat) (v : Word) (s : State) : (mbidWrite k j v s).rest = s.rest := by
  unfold mbidWrite; simp

@[simp] theorem mbdataWrite_rest (k j i : Nat) (v : Word) (s : State) : (mbdataWrite k j i v s).rest = s.rest := by
  unfold mbdataWrite; simp

@[simp] theorem canTimeWrite_rest (k a : Nat) (v : Word) (s : State) : (canTimeWrite k a v s).rest = s.rest := by
  unfold canTimeWrite; simp

@[simp] theorem mbstatWrite_rest (k j : Nat) (v : Word) (s : State) : (mbstatWrite k j v s).rest = s.rest := by
  unfold mbstatWrite; simp

@[simp] theorem inComms_keptO (f : State → State) (s : State) (hf : ∀ s, (f s).rest = s.rest) : KeptO s (inComms f s) := by
  unfold inComms; simp [hf]

@[simp] theorem execCanEnable_keptO (i : Initiator) (k : Fin 3) (s : State) : KeptO s (execCanEnable i k s) := by
  unfold execCanEnable; simp

@[simp] theorem execCanDisable_keptO (i : Initiator) (k : Fin 3) (s : State) : KeptO s (execCanDisable i k s) := by
  unfold execCanDisable; simp

@[simp] theorem execCanIntegrationComplete_keptO (k : Fin 3) (s : State) : KeptO s (execCanIntegrationComplete k s) := by
  unfold execCanIntegrationComplete; simp

@[simp] theorem execCanRecover_keptO (i : Initiator) (k : Fin 3) (s : State) : KeptO s (execCanRecover i k s) := by
  unfold execCanRecover; simp

@[simp] theorem execCanRecoveryComplete_keptO (k : Fin 3) (s : State) : KeptO s (execCanRecoveryComplete k s) := by
  unfold execCanRecoveryComplete; simp

@[simp] theorem execCanFrameReceived_keptO (k : Fin 3) (id : BitVec 29) (ide rtr fdf brs esi : Bool) (dlc : BitVec 4) (data : BitVec 512) (s : State) : KeptO s (execCanFrameReceived k id ide rtr fdf brs esi dlc data s) := by
  unfold execCanFrameReceived; simp

@[simp] theorem execCanRxPacketSend_keptO (k : Fin 3) (s : State) : KeptO s (execCanRxPacketSend k s) := by
  unfold execCanRxPacketSend; simp

@[simp] theorem execCanFrameSelection_keptO (c : CanStart) (s : State) : KeptO s (execCanFrameSelection c s) := by
  unfold execCanFrameSelection; simp

@[simp] theorem execCanFrameTransmitted_keptO (c : CanDone) (s : State) : KeptO s (execCanFrameTransmitted c s) := by
  unfold execCanFrameTransmitted; simp

@[simp] theorem execCanArbitrationLost_keptO (k : Fin 3) (s : State) : KeptO s (execCanArbitrationLost k s) := by
  unfold execCanArbitrationLost; simp

@[simp] theorem execCanBusError_keptO (k : Fin 3) (code : Fin 7) (data exc : Bool) (s : State) : KeptO s (execCanBusError k code data exc s) := by
  unfold execCanBusError; simp

@[simp] theorem execCanTxRequest_keptO (i : Initiator) (k : Fin 3) (j : Fin 64) (s : State) : KeptO s (execCanTxRequest i k j s) := by
  unfold execCanTxRequest; simp

@[simp] theorem execCanTxAbort_keptO (i : Initiator) (k : Fin 3) (j : Fin 64) (s : State) : KeptO s (execCanTxAbort i k j s) := by
  unfold execCanTxAbort; simp

theorem fromPath1_keptO (f : EgEnt → Option (State → State)) (s : State) (hf : ∀ x g, f x = some g → ∀ t, (g t).rest = t.rest) : KeptO s (fromPath1 f s) := by
  unfold fromPath1
  apply inComms_keptO
  intro t
  have h := egTake_rest 1 t
  split
  · rename_i e; rw [e] at h
    split
    · rename_i hg; exact (hf _ _ hg _).trans h
    · rfl
  · rfl

@[simp] theorem execCanAlarmItem_keptO (s : State) : KeptO s (execCanAlarmItem s) := by
  unfold execCanAlarmItem
  apply fromPath1_keptO
  intro x g h
  split at h
  · cases h; intro t; simp
  · cases h

@[simp] theorem execCanFloodItem_keptO (s : State) : KeptO s (execCanFloodItem s) := by
  unfold execCanFloodItem
  apply fromPath1_keptO
  intro x g h
  split at h
  · cases h; intro t; simp
  · cases h

@[simp] theorem execCanAlarmFlush_keptO (i : Initiator) (k : Fin 3) (s : State) : KeptO s (execCanAlarmFlush i k s) := by
  unfold execCanAlarmFlush; simp

/-! ### Links -/

@[simp] theorem setLinkMem_rest (m : Tab Byte) (s : State) : (setLinkMem m s).rest = s.rest := by
  unfold setLinkMem; simp

@[simp] theorem setPort_rest (p : Nat) (x : EthPort) (s : State) : (setPort p x s).rest = s.rest := by
  unfold setPort; simp

@[simp] theorem ptpCapture_rest (p : Nat) (f : List Byte) (t : Stamp) (s : State) : (ptpCapture p f t s).1.rest = s.rest := by
  unfold ptpCapture; (repeat' split) <;> simp

@[simp] theorem ethStore_rest (p : Nat) (w : Nat) (f : List Byte) (s : State) : (ethStore p w f s).rest = s.rest := by
  unfold ethStore
  lift_lets
  repeat (intro x1; clear_value x1)
  simp [*]

@[simp] theorem ethReceive_rest (p : Nat) (f : List Byte) (bad : Bool) (back : Nat) (t : Stamp) (s : State) : (ethReceive p f bad back t s).rest = s.rest := by
  unfold ethReceive
  lift_lets
  repeat (intro x1; first | ((have hx1 : State.rest (x1) = State.rest s := (by (simp [x1, *]; done))); clear_value x1) | ((have hx1 : State.rest (x1.1) = State.rest s := (by (simp [x1, *]; done))); clear_value x1) | clear_value x1)
  simp [*]

@[simp] theorem rxtailWrite_rest (p : Nat) (v : Word) (s : State) : (rxtailWrite p v s).rest = s.rest := by
  unfold rxtailWrite; simp

@[simp] theorem ptpRead_rest (p : Nat) (s : State) : (ptpRead p s).2.rest = s.rest := by
  unfold ptpRead
  lift_lets
  repeat (intro x1; clear_value x1)
  simp [*] <;> intros <;> (repeat' split) <;> simp [*]

@[simp] theorem txcmdWrite_rest (p : Nat) (v : Word) (s : State) : (txcmdWrite p v s).rest = s.rest := by
  unfold txcmdWrite
  lift_lets
  repeat (intro x1; clear_value x1)
  simp [*]

@[simp] theorem ethSent_rest (p : Nat) (ok : Bool) (s : State) : (ethSent p ok s).rest = s.rest := by
  unfold ethSent
  lift_lets
  repeat (intro x1; clear_value x1)
  simp [*] <;> intros <;> (repeat' split) <;> simp [*]

@[simp] theorem ethLinkDown_rest (p : Nat) (s : State) : (ethLinkDown p s).rest = s.rest := by
  unfold ethLinkDown; simp

@[simp] theorem ethLinkUp_rest (p : Nat) (fdx : Bool) (s : State) : (ethLinkUp p fdx s).rest = s.rest := by
  unfold ethLinkUp; simp

@[simp] theorem ethCtlWrite_rest (p : Nat) (v : Word) (s : State) : (ethCtlWrite p v s).rest = s.rest := by
  unfold ethCtlWrite
  lift_lets
  repeat (intro x1; first | ((have hx1 : State.rest (x1) = State.rest s := (by (simp [x1, *]; done))); clear_value x1) | clear_value x1)
  simp [*]

@[simp] theorem spiError_rest (s : State) : (spiError s).rest = s.rest := by
  unfold spiError; simp

@[simp] theorem setMiso_rest (l : List Byte) (s : State) : (setMiso l s).rest = s.rest := by
  unfold setMiso; simp

@[simp] theorem spiZeros_rest (n : Nat) (s : State) : (spiZeros n s).rest = s.rest := by
  unfold spiZeros; simp

@[simp] theorem spiRun_rest (k : SpiKind) (a n : Nat) (f : State → State) (s : State) (hf : ∀ s, (f s).rest = s.rest) : (spiRun k a n f s).rest = s.rest := by
  unfold spiRun; simp [hf]

@[simp] theorem spiShift_rest (s : State) : (spiShift s).2.rest = s.rest := by
  unfold spiShift; simp

@[simp] theorem spiShifts_rest : ∀ x0 s, (spiShifts x0 s).2.rest = s.rest := by
  intro x0
  induction x0 with
  | zero =>
    intros; unfold spiShifts
    simp
  | succ n ih =>
    intros; unfold spiShifts
    simp [ih]

@[simp] theorem spiPut_rest (l : List Byte) : ∀ (s : State), (spiPut l s).rest = s.rest := by
  induction l with
  | nil => intros; rfl
  | cons b l ih =>
    intro s
    unfold spiPut
    simp only
    rw [ih]
    split <;> simp

@[simp] theorem spiEnd_rest (s : State) : (spiEnd s).rest = s.rest := by
  unfold spiEnd; (repeat' split) <;> simp

@[simp] theorem uartSend_rest (v : Word) (s : State) : (uartSend v s).rest = s.rest := by
  unfold uartSend; simp

@[simp] theorem uartTake_rest (s : State) : (uartTake s).2.rest = s.rest := by
  unfold uartTake; (repeat' split) <;> simp

@[simp] theorem uartByte_rest (b : Byte) (fe : Bool) (s : State) : (uartByte b fe s).rest = s.rest := by
  unfold uartByte; simp

@[simp] theorem uartBaudWrite_rest (v : Word) (s : State) : (uartBaudWrite v s).rest = s.rest := by
  unfold uartBaudWrite; simp

@[simp] theorem uartDrain_rest (s : State) : (uartDrain s).rest = s.rest := by
  unfold uartDrain; (repeat' split) <;> simp

@[simp] theorem commsTick_rest (s : State) : (commsTick s).rest = s.rest := by
  unfold commsTick; simp

@[simp] theorem execEthFrameReceived_keptO (p : Fin 2) (frame : List Byte) (bad : Bool) (back : BitVec 8) (sub : BitVec 16) (s : State) : KeptO s (execEthFrameReceived p frame bad back sub s) := by
  unfold execEthFrameReceived; simp

@[simp] theorem execEthRxRelease_keptO (i : Initiator) (p : Fin 2) (v : Word) (s : State) : KeptO s (execEthRxRelease i p v s) := by
  unfold execEthRxRelease; simp

@[simp] theorem execEthTxCommand_keptO (i : Initiator) (p : Fin 2) (v : Word) (s : State) : KeptO s (execEthTxCommand i p v s) := by
  unfold execEthTxCommand; simp

@[simp] theorem execEthFrameTransmitted_keptO (p : Fin 2) (ok : Bool) (s : State) : KeptO s (execEthFrameTransmitted p ok s) := by
  unfold execEthFrameTransmitted; simp

@[simp] theorem execPtpCaptureRead_keptO (i : Initiator) (p : Fin 2) (s : State) : KeptO s (execPtpCaptureRead i p s) := by
  unfold execPtpCaptureRead; simp

@[simp] theorem execEthPortEnable_keptO (i : Initiator) (p : Fin 2) (s : State) : KeptO s (execEthPortEnable i p s) := by
  unfold execEthPortEnable; simp

@[simp] theorem execEthPortDisable_keptO (i : Initiator) (p : Fin 2) (s : State) : KeptO s (execEthPortDisable i p s) := by
  unfold execEthPortDisable; simp

@[simp] theorem execEthLinkUp_keptO (p : Fin 2) (fdx : Bool) (s : State) : KeptO s (execEthLinkUp p fdx s) := by
  unfold execEthLinkUp; simp

@[simp] theorem execEthLinkDown_keptO (p : Fin 2) (s : State) : KeptO s (execEthLinkDown p s) := by
  unfold execEthLinkDown; simp

@[simp] theorem execSpiStatus_keptO (p : SpiPoll) (s : State) : KeptO s (execSpiStatus p s) := by
  unfold execSpiStatus; simp

@[simp] theorem execSpiRead_keptO (a : BitVec 16) (n : BitVec 13) (s : State) : KeptO s (execSpiRead a n s) := by
  unfold execSpiRead; simp

@[simp] theorem execSpiWrite_keptO (a : BitVec 16) (data : List Byte) (s : State) : KeptO s (execSpiWrite a data s) := by
  unfold execSpiWrite; simp

@[simp] theorem execSpiTransactionError_keptO (op : Byte) (a : BitVec 16) (s : State) : KeptO s (execSpiTransactionError op a s) := by
  unfold execSpiTransactionError; simp

@[simp] theorem execSpiCsRise_keptO (s : State) : KeptO s (execSpiCsRise s) := by
  unfold execSpiCsRise; simp

@[simp] theorem execUartSend_keptO (i : Initiator) (v : Word) (s : State) : KeptO s (execUartSend i v s) := by
  unfold execUartSend; simp

@[simp] theorem execUartTake_keptO (i : Initiator) (s : State) : KeptO s (execUartTake i s) := by
  unfold execUartTake; simp

@[simp] theorem execUartByteReceived_keptO (b : Byte) (ferr : Bool) (s : State) : KeptO s (execUartByteReceived b ferr s) := by
  unfold execUartByteReceived; simp

/-! ### Recorder -/

@[simp] theorem storeFlags_rest (s : State) : (storeFlags s).rest = s.rest := by
  unfold storeFlags; simp

@[simp] theorem completePage_rest (s : State) : (completePage s).rest = s.rest := by
  unfold completePage; (repeat' split) <;> simp

@[simp] theorem makeRoom_rest (size : Nat) (s : State) : (makeRoom size s).rest = s.rest := by
  unfold makeRoom; (repeat' split) <;> simp

@[simp] theorem recPut_rest (ty : Nat) (body : List Byte) (s : State) : (recPut ty body s).rest = s.rest := by
  unfold recPut
  lift_lets
  repeat (intro x1; first | ((have hx1 : State.rest (x1) = State.rest s := (by (simp [x1, *]; done))); clear_value x1) | clear_value x1)
  simp [*]

@[simp] theorem recAppend_rest (ty : Nat) (body : List Byte) (s : State) : (recAppend ty body s).1.rest = s.rest := by
  unfold recAppend; simp

@[simp] theorem payMarks_rest : ∀ x0 s, (payMarks x0 s).rest = s.rest := by
  intro x0
  induction x0 with
  | zero =>
    intros; unfold payMarks
    simp
  | succ n ih =>
    intros; unfold payMarks
    (repeat' split) <;> simp [ih]

@[simp] theorem owe_rest (kind : Nat) (s : State) : (owe kind s).rest = s.rest := by
  unfold owe; simp

@[simp] theorem setHist_rest (k : Nat) (h : LiveHist) (s : State) : (setHist k h s).rest = s.rest := by
  unfold setHist; simp

@[simp] theorem setExtr_rest (k : Nat) (x : LiveExtr) (s : State) : (setExtr k x s).rest = s.rest := by
  unfold setExtr; simp

@[simp] theorem recHist_rest (k b : Nat) (s : State) : (recHist k b s).rest = s.rest := by
  unfold recHist; simp

@[simp] theorem recExtr_rest (k : Nat) (v : Word) (stamp : BitVec 64) (s : State) : (recExtr k v stamp s).rest = s.rest := by
  unfold recExtr
  lift_lets
  repeat (intro x1; clear_value x1)
  simp [*]

@[simp] theorem recState_rest (id rep : Nat) (st : Word) (first last : BitVec 64) (s : State) : (recState id rep st first last s).1.rest = s.rest := by
  unfold recState; (repeat' split) <;> simp

@[simp] theorem recItem_rest (x : EgItem) (s : State) : (recItem x s).1.rest = s.rest := by
  unfold recItem; (repeat' split) <;> simp

@[simp] theorem recorderTake_rest (want : EgItem → Bool) (s : State) : (recorderTake want s).rest = s.rest := by
  unfold recorderTake; (repeat' split) <;> simp

@[simp] theorem openHist_rest (k period flags : Nat) (s : State) : (openHist k period flags s).rest = s.rest := by
  unfold openHist; simp

@[simp] theorem openExtr_rest (k period flags : Nat) (s : State) : (openExtr k period flags s).rest = s.rest := by
  unfold openExtr; simp

@[simp] theorem setCloseJob_rest (n : Nat) (j : CloseJob) (s : State) : (setCloseJob n j s).rest = s.rest := by
  unfold setCloseJob; simp

@[simp] theorem dropFromClose_rest (x : Bool) (k n : Nat) (s : State) : (dropFromClose x k n s).rest = s.rest := by
  unfold dropFromClose; simp

@[simp] theorem descWrite_rest (x : Bool) (k : Nat) (v : Word) (s : State) : (descWrite x k v s).rest = s.rest := by
  unfold descWrite
  lift_lets
  repeat (intro x1; first | ((have hx1 : State.rest (x1) = State.rest s := (by (simp [x1, *]; done))); clear_value x1) | clear_value x1)
  simp [*]

@[simp] theorem closeClock_rest (n : Nat) (skip : Bool) (s : State) : (closeClock n skip s).rest = s.rest := by
  unfold closeClock; simp

@[simp] theorem closeNow_rest (n : Nat) (s : State) : (closeNow n s).rest = s.rest := by
  unfold closeNow; simp

@[simp] theorem copySeries_rest (n : Nat) (x : Bool) (k : Nat) (skip : Bool) (s : State) : (copySeries n x k skip s).1.rest = s.rest := by
  unfold copySeries
  lift_lets
  repeat (intro x1; first | ((have hx1 : State.rest (x1.1) = State.rest s := (by (simp [x1, *]; done))); clear_value x1) | clear_value x1)
  simp [*]

@[simp] theorem seriesCopy_rest (n : Nat) (s : State) : (seriesCopy n s).rest = s.rest := by
  unfold seriesCopy; simp <;> intros <;> (repeat' split) <;> simp

@[simp] theorem calLoad_rest (s : State) : (calLoad s).rest = s.rest := by
  unfold calLoad
  lift_lets
  repeat (intro x1; first | ((have hx1 : State.rest (x1) = State.rest s := (by (simp [x1, *]; done))); clear_value x1) | clear_value x1)
  simp [*]

@[simp] theorem startLoad_rest (s : State) : (startLoad s).rest = s.rest := by
  unfold startLoad; simp

@[simp] theorem curidxWrite_rest (v : Word) (s : State) : (curidxWrite v s).rest = s.rest := by
  unfold curidxWrite; simp

@[simp] theorem cursorNext_rest (s : State) : (cursorNext s).rest = s.rest := by
  unfold cursorNext; simp

@[simp] theorem loadComplete_rest (s : State) : (loadComplete s).rest = s.rest := by
  unfold loadComplete
  lift_lets
  repeat (intro x1; skip)
  (repeat' split) <;> simp [*]

@[simp] theorem winRead_rest (i : Initiator) (k : Nat) (s : State) : (winRead i k s).rest = s.rest := by
  unfold winRead; (repeat' split) <;> simp

@[simp] theorem recCmdWrite_rest (v : Word) (s : State) : (recCmdWrite v s).rest = s.rest := by
  unfold recCmdWrite
  lift_lets
  repeat (intro x1; ((have hx1 : State.rest (x1) = State.rest s := (by (simp [x1, *]))); clear_value x1))
  simp [*]

@[simp] theorem nandEnd_rest (code : Nat) (s : State) : (nandEnd code s).rest = s.rest := by
  unfold nandEnd; simp

@[simp] theorem nandCommand_rest (op part : Nat) (s : State) : (nandCommand op part s).rest = s.rest := by
  unfold nandCommand
  lift_lets
  repeat (intro x1; clear_value x1)
  simp [*] <;> intros <;> (repeat' split) <;> simp [*]

@[simp] theorem ncmdWrite_rest (v : Word) (s : State) : (ncmdWrite v s).rest = s.rest := by
  unfold ncmdWrite; simp

@[simp] theorem passTail_rest (b : Nat) (s : State) : (passTail b s).rest = s.rest := by
  unfold passTail; simp

@[simp] theorem nandGrant_rest (s : State) : (nandGrant s).rest = s.rest := by
  unfold nandGrant; simp <;> intros <;> (repeat' split) <;> simp

@[simp] theorem eccCount_rest (e : EccBits) (s : State) : (eccCount e s).rest = s.rest := by
  unfold eccCount; simp

@[simp] theorem putBuf_rest (p : NandPage) (s : State) : (putBuf p s).rest = s.rest := by
  unfold putBuf; simp

@[simp] theorem hostReadEnd_rest (page : Nat) (e : EccBits) (s : State) : (hostReadEnd page e s).rest = s.rest := by
  unfold hostReadEnd
  lift_lets
  repeat (intro x1; first | ((have hx1 : State.rest (x1) = State.rest s := (by (simp [x1, *]; done))); clear_value x1) | clear_value x1)
  (repeat' split) <;> simp [*]

@[simp] theorem recordEnd_rest (page : Nat) (fail : Bool) (s : State) : (recordEnd page fail s).rest = s.rest := by
  unfold recordEnd
  lift_lets
  repeat (intro x1; first | ((have hx1 : State.rest (x1) = State.rest s := (by (simp [x1, *]; done))); clear_value x1) | clear_value x1)
  (repeat' split) <;> simp [*]

@[simp] theorem nandComplete_rest (fail : Bool) (e : EccBits) (s : State) : (nandComplete fail e s).rest = s.rest := by
  unfold nandComplete
  lift_lets
  repeat (intro x1; first | ((have hx1 : State.rest (x1) = State.rest s := (by (simp [x1, *]; done))); clear_value x1) | clear_value x1)
  (repeat' split) <;> simp [*]

@[simp] theorem nandSuspend_rest (t : BitVec 12) (s : State) : (nandSuspend t s).rest = s.rest := by
  unfold nandSuspend; simp <;> intros <;> (repeat' split) <;> simp

@[simp] theorem nandResume_rest (t : BitVec 12) (s : State) : (nandResume t s).rest = s.rest := by
  unfold nandResume; simp

@[simp] theorem logLocated_rest (s : State) : (logLocated s).rest = s.rest := by
  unfold logLocated; (repeat' split) <;> simp

@[simp] theorem recorderFreeze_rest (s : State) : (recorderFreeze s).rest = s.rest := by
  unfold recorderFreeze; simp

@[simp] theorem inStore_keptO (f : State → State) (s : State) (hf : ∀ s, (f s).rest = s.rest) : KeptO s (inStore f s) := by
  unfold inStore; simp [hf]

@[simp] theorem execRecorderStateChange_keptO (s : State) : KeptO s (execRecorderStateChange s) := by
  unfold execRecorderStateChange; simp

@[simp] theorem execRecorderHistIncrement_keptO (s : State) : KeptO s (execRecorderHistIncrement s) := by
  unfold execRecorderHistIncrement; simp

@[simp] theorem execRecorderExtremeOffer_keptO (s : State) : KeptO s (execRecorderExtremeOffer s) := by
  unfold execRecorderExtremeOffer; simp

@[simp] theorem execRecorderFlood_keptO (s : State) : KeptO s (execRecorderFlood s) := by
  unfold execRecorderFlood; simp

@[simp] theorem execSeriesEnable_keptO (i : Initiator) (x : Bool) (k : Fin 4096) (v : Word) (s : State) : KeptO s (execSeriesEnable i x k v s) := by
  unfold execSeriesEnable; simp

@[simp] theorem execSeriesDisable_keptO (i : Initiator) (x : Bool) (k : Fin 4096) (v : Word) (s : State) : KeptO s (execSeriesDisable i x k v s) := by
  unfold execSeriesDisable; simp

@[simp] theorem execPeriodClose_keptO (n : Fin 2) (s : State) : KeptO s (execPeriodClose n s) := by
  unfold execPeriodClose; simp

@[simp] theorem execRecClose_keptO (i : Initiator) (n : Fin 2) (s : State) : KeptO s (execRecClose i n s) := by
  unfold execRecClose; simp

@[simp] theorem execSeriesCopy_keptO (n : Fin 2) (s : State) : KeptO s (execSeriesCopy n s) := by
  unfold execSeriesCopy; simp

@[simp] theorem execCalload_keptO (i : Initiator) (s : State) : KeptO s (execCalload i s) := by
  unfold execCalload; simp

@[simp] theorem execCursorLoad_keptO (i : Initiator) (v : Word) (s : State) : KeptO s (execCursorLoad i v s) := by
  unfold execCursorLoad; simp

@[simp] theorem execRecNext_keptO (i : Initiator) (s : State) : KeptO s (execRecNext i s) := by
  unfold execRecNext; simp

@[simp] theorem execCursorLoadComplete_keptO (s : State) : KeptO s (execCursorLoadComplete s) := by
  unfold execCursorLoadComplete; simp

@[simp] theorem execRecWindowRead_keptO (i : Initiator) (k : Fin 64) (s : State) : KeptO s (execRecWindowRead i k s) := by
  unfold execRecWindowRead; simp

@[simp] theorem execRecFlush_keptO (i : Initiator) (s : State) : KeptO s (execRecFlush i s) := by
  unfold execRecFlush; simp

@[simp] theorem execFlushTimeout_keptO (s : State) : KeptO s (execFlushTimeout s) := by
  unfold execFlushTimeout; (try with_reducible refine (keptO_next _ _).2 ?_) <;> (apply inStore_keptO) <;> intros <;> (try simp only []) <;> (repeat' split) <;> simp

@[simp] theorem execNandOperationGrant_keptO (s : State) : KeptO s (execNandOperationGrant s) := by
  unfold execNandOperationGrant; simp

@[simp] theorem execNandOperationComplete_keptO (fail : Bool) (ecc : EccBits) (s : State) : KeptO s (execNandOperationComplete fail ecc s) := by
  unfold execNandOperationComplete; simp

@[simp] theorem ncmdRow_keptO (i : Initiator) (part op : Nat) (s : State) : KeptO s (ncmdRow i part op s) := by
  unfold ncmdRow; simp

@[simp] theorem execNandRead_keptO (i : Initiator) (part : Fin 4) (s : State) : KeptO s (execNandRead i part s) := by
  unfold execNandRead; simp

@[simp] theorem execNandProgram_keptO (i : Initiator) (part : Fin 4) (s : State) : KeptO s (execNandProgram i part s) := by
  unfold execNandProgram; simp

@[simp] theorem execNandErase_keptO (i : Initiator) (part : Fin 4) (s : State) : KeptO s (execNandErase i part s) := by
  unfold execNandErase; simp

@[simp] theorem execStoreLogLocated_keptO (s : State) : KeptO s (execStoreLogLocated s) := by
  unfold execStoreLogLocated; simp

@[simp] theorem execNandProgramSuspend_keptO (t : BitVec 12) (s : State) : KeptO s (execNandProgramSuspend t s) := by
  unfold execNandProgramSuspend; simp

@[simp] theorem execNandProgramResume_keptO (t : BitVec 12) (s : State) : KeptO s (execNandProgramResume t s) := by
  unfold execNandProgramResume; simp

/-! ### PolderBase -/

@[simp] theorem setPol_rest (x : PolSt) (s : State) : (setPol x s).rest = s.rest := by
  unfold setPol; simp

@[simp] theorem setNor_rest (x : PolNor) (s : State) : (setNor x s).rest = s.rest := by
  unfold setNor; simp

@[simp] theorem polFlagEvt_rest (bit : Nat) (s : State) : (polFlagEvt bit s).rest = s.rest := by
  unfold polFlagEvt; simp

@[simp] theorem polWarn_rest (s : State) : (polWarn s).rest = s.rest := by
  unfold polWarn; simp

@[simp] theorem polEvent_rest (k : PolKind) (count : Tick) (ops : List Word) (s : State) : (polEvent k count ops s).rest = s.rest := by
  unfold polEvent; simp

@[simp] theorem setTot_rest (m : Nat) (t : PolTot) (s : State) : (setTot m t s).rest = s.rest := by
  unfold setTot; simp

@[simp] theorem setMeter_rest (m : Nat) (x : PolMeter) (s : State) : (setMeter m x s).rest = s.rest := by
  unfold setMeter; simp

@[simp] theorem setTx_rest (m : Nat) (x : Option PolTx) (s : State) : (setTx m x s).rest = s.rest := by
  unfold setTx; simp

@[simp] theorem polAppend_rest (r : List Byte) (s : State) : (polAppend r s).rest = s.rest := by
  unfold polAppend; simp

@[simp] theorem txClose_rest (m : Nat) (x : PolTx) (stop : Tick) (extra : Nat) (s : State) : (txClose m x stop extra s).rest = s.rest := by
  unfold txClose; simp

@[simp] theorem polSave_rest (count : Tick) (s : State) : (polSave count s).rest = s.rest := by
  unfold polSave; simp

@[simp] theorem pulseFault_rest (m : Nat) (bad : Bool) (count : Tick) (s : State) : (pulseFault m bad count s).rest = s.rest := by
  unfold pulseFault; simp

@[simp] theorem polPulse_rest (inp : Nat) (rev : Bool) (cyc : Nat) (s : State) : (polPulse inp rev cyc s).rest = s.rest := by
  unfold polPulse; simp

@[simp] theorem polInputFault_rest (inp : Nat) (t : Tick) (s : State) : (polInputFault inp t s).rest = s.rest := by
  unfold polInputFault; simp

@[simp] theorem polInputOk_rest (inp : Nat) (s : State) : (polInputOk inp s).rest = s.rest := by
  unfold polInputOk; simp

@[simp] theorem analogIn_rest (inp na : Nat) (count : Tick) (s : State) : (analogIn inp na count s).2.rest = s.rest := by
  unfold analogIn; simp

@[simp] theorem meterCycle_rest (m iT iD : Nat) (count : Tick) (s : State) : (meterCycle m iT iD count s).rest = s.rest := by
  unfold meterCycle
  lift_lets
  repeat (intro x1; first | ((have hx1 : State.rest (x1) = State.rest s := (by (simp [x1, *]; done))); clear_value x1) | ((have hx1 : State.rest (x1.2) = State.rest s := (by (simp [x1, *]; done))); clear_value x1) | clear_value x1)
  simp [*] <;> intros <;> (repeat' split) <;> simp [*]

@[simp] theorem txBoundary_rest (m : Nat) (count : Tick) (s : State) : (txBoundary m count s).rest = s.rest := by
  unfold txBoundary; (repeat' split) <;> simp

@[simp] theorem polCross_rest (a b : Tick) (s : State) : (polCross a b s).rest = s.rest := by
  unfold polCross; simp

@[simp] theorem polPublish_rest (s : State) : (polPublish s).rest = s.rest := by
  unfold polPublish; simp

@[simp] theorem polCycle_rest (c : PolCur) (s : State) : (polCycle c s).rest = s.rest := by
  unfold polCycle
  lift_lets
  repeat (intro x1; first | ((have hx1 : State.rest (x1) = State.rest s := (by (simp [x1, *]; done))); clear_value x1) | clear_value x1)
  simp [*]

/-! ### Polder -/

@[simp] theorem txInterrupted_rest (m : Nat) (s : State) : (txInterrupted m s).rest = s.rest := by
  unfold txInterrupted; (repeat' split) <;> simp

@[simp] theorem polRelease_rest (s : State) : (polRelease s).rest = s.rest := by
  unfold polRelease
  split
  · rfl
  · split
    · simp
    · simp only
      rw [polWarn_rest, polEvent_rest]
      split <;> simp

@[simp] theorem polPowerFail_rest (cyc : Nat) (s : State) : (polPowerFail cyc s).rest = s.rest := by
  unfold polPowerFail; simp

@[simp] theorem sealChange_rest (unsealed : Bool) (cyc : Nat) (s : State) : (sealChange unsealed cyc s).rest = s.rest := by
  unfold sealChange
  lift_lets
  repeat (intro x1; first | ((have hx1 : State.rest (x1) = State.rest s := (by (simp [x1, *]; done))); clear_value x1) | clear_value x1)
  simp [*]

@[simp] theorem txStart_rest (m : Nat) (s : State) : (txStart m s).2.2.rest = s.rest := by
  unfold txStart; (repeat' split) <;> simp

@[simp] theorem txStop_rest (m : Nat) (s : State) : (txStop m s).2.2.rest = s.rest := by
  unfold txStop; (repeat' split) <;> simp

@[simp] theorem logRead_rest (kind idx : Nat) (s : State) : (logRead kind idx s).2.2.rest = s.rest := by
  unfold logRead; (repeat' split) <;> simp

@[simp] theorem parWrite_rest (i : Nat) (v : Word) (s : State) : (parWrite i v s).2.2.rest = s.rest := by
  unfold parWrite; (repeat' split) <;> simp

@[simp] theorem parCommit_rest (cyc : Nat) (s : State) : (parCommit cyc s).2.2.rest = s.rest := by
  unfold parCommit
  lift_lets
  repeat (intro x1; first | ((have hx1 : State.rest (x1) = State.rest s := (by (simp [x1, *]; done))); clear_value x1) | clear_value x1)
  (repeat' split) <;> simp [*]

@[simp] theorem polRequest_rest (op arg8 idx : Nat) (arg : Word) (s : State) : (polRequest op arg8 idx arg s).2.2.rest = s.rest := by
  unfold polRequest; (repeat' split) <;> simp

@[simp] theorem polClockAsked_rest (s : State) : (polClockAsked s).rest = s.rest := by
  unfold polClockAsked; simp

@[simp] theorem polReqWrite_rest (lost : Bool) (v : Word) (s : State) : (polReqWrite lost v s).rest = s.rest := by
  unfold polReqWrite
  lift_lets
  repeat (intro x1; first | ((have hx1 : State.rest (x1) = State.rest s := (by (simp [x1, *]; done))); clear_value x1) | ((have hx1 : State.rest (x1.2.2) = State.rest s := (by (simp [x1, *]; done))); clear_value x1) | clear_value x1)
  simp [*]

@[simp] theorem polEnd_rest (status : Nat) (words : List Word) (s : State) : (polEnd status words s).rest = s.rest := by
  unfold polEnd
  lift_lets
  repeat (intro x1; ((have hx1 : State.rest (x1) = State.rest s := (by (simp [x1, *]))); clear_value x1))
  simp [*]

@[simp] theorem polClockHeard_rest (s : State) : (polClockHeard s).rest = s.rest := by
  unfold polClockHeard; simp

@[simp] theorem linkHeard_rest (s : State) : (linkHeard s).rest = s.rest := by
  unfold linkHeard; simp

@[simp] theorem protErr_rest (s : State) : (protErr s).rest = s.rest := by
  unfold protErr; simp

@[simp] theorem polTake_rest (f : PolMsg → Bool) (s : State) : (polTake f s).2.rest = s.rest := by
  unfold polTake; (repeat' split) <;> simp

@[simp] theorem polResponse_rest (bad : Bool) (s : State) : (polResponse bad s).rest = s.rest := by
  have h := polTake_rest isResponse s
  unfold polResponse
  split
  · rename_i e; rw [e] at h
    simp only at h ⊢
    (repeat' split) <;> simp [h]
  · rfl

@[simp] theorem polResult_rest (bad : Bool) (s : State) : (polResult bad s).rest = s.rest := by
  have h := polTake_rest (fun m => !isResponse m) s
  unfold polResult
  split
  · rename_i e; rw [e] at h
    simp only at h ⊢
    split
    · simp [h]
    · rw [setF_rest, forN_rest _ _ _ (fun _ _ => wr_rest _ _ _)]; simp [h]
  · rfl

@[simp] theorem polLink_rest (bad : Bool) (s : State) : (polLink bad s).rest = s.rest := by
  unfold polLink
  lift_lets
  repeat (intro x1; first | ((have hx1 : State.rest (x1) = State.rest s := (by (simp [x1, *]; done))); clear_value x1) | clear_value x1)
  simp [*]

@[simp] theorem polAdjust_rest (d : Int) (now : Tick) (s : State) : (polAdjust d now s).rest = s.rest := by
  unfold polAdjust
  lift_lets
  repeat (intro x1; first | ((have hx1 : State.rest (x1) = State.rest s := (by (simp [x1, *]; done))); clear_value x1) | clear_value x1)
  simp [*]

@[simp] theorem polTime_rest (main : Tick) (osf : Bool) (cyc : Nat) (s : State) : (polTime main osf cyc s).rest = s.rest := by
  unfold polTime
  lift_lets
  repeat (intro x1; first | ((have hx1 : State.rest (x1) = State.rest s := (by (simp [x1, *]; done))); clear_value x1) | clear_value x1)
  simp [*]

@[simp] theorem inPolder_keptO (f : State → State) (s : State) (hf : ∀ s, (f s).rest = s.rest) : KeptO s (inPolder f s) := by
  unfold inPolder; simp [hf]

@[simp] theorem execPolderRelease_keptO (s : State) : KeptO s (execPolderRelease s) := by
  unfold execPolderRelease; simp

@[simp] theorem execPolderPowerFailWarning_keptO (cyc : Fin 1200000) (s : State) : KeptO s (execPolderPowerFailWarning cyc s) := by
  unfold execPolderPowerFailWarning; simp

@[simp] theorem execPolderReset_keptO (s : State) : KeptO s (execPolderReset s) := by
  unfold execPolderReset; simp

@[simp] theorem execPolderPulse_keptO (inp : Fin 4) (rev : Bool) (cyc : Fin 1200000) (s : State) : KeptO s (execPolderPulse inp rev cyc s) := by
  unfold execPolderPulse; simp

@[simp] theorem execPolderCycle_keptO (cur : PolCur) (s : State) : KeptO s (execPolderCycle cur s) := by
  unfold execPolderCycle; simp

@[simp] theorem execPolderDailyRecord_keptO (s : State) : KeptO s (execPolderDailyRecord s) := by
  unfold execPolderDailyRecord; (try with_reducible refine (keptO_next _ _).2 ?_) <;> (apply inPolder_keptO) <;> intros <;> (try simp only []) <;> (repeat' split) <;> simp

@[simp] theorem execPolderInputFault_keptO (inp : Fin 4) (cyc : Fin 1200000) (s : State) : KeptO s (execPolderInputFault inp cyc s) := by
  unfold execPolderInputFault; simp

@[simp] theorem execPolderInputFaultEnd_keptO (inp : Fin 4) (s : State) : KeptO s (execPolderInputFaultEnd inp s) := by
  unfold execPolderInputFaultEnd; simp

@[simp] theorem execSealChange_keptO (unsealed : Bool) (cyc : Fin 1200000) (s : State) : KeptO s (execSealChange unsealed cyc s) := by
  unfold execSealChange; simp

@[simp] theorem polRow_keptO (i : Initiator) (op arg8 idx : Nat) (lost : Bool) (s : State) : KeptO s (polRow i op arg8 idx lost s) := by
  unfold polRow; simp

@[simp] theorem execIdent_keptO (i : Initiator) (lost : Bool) (s : State) : KeptO s (execIdent i lost s) := by
  unfold execIdent; simp

@[simp] theorem execPubkey_keptO (i : Initiator) (lost : Bool) (s : State) : KeptO s (execPubkey i lost s) := by
  unfold execPubkey; simp

@[simp] theorem execTxstart_keptO (i : Initiator) (arg : BitVec 8) (lost : Bool) (s : State) : KeptO s (execTxstart i arg lost s) := by
  unfold execTxstart; simp

@[simp] theorem execTxstop_keptO (i : Initiator) (arg : BitVec 8) (lost : Bool) (s : State) : KeptO s (execTxstop i arg lost s) := by
  unfold execTxstop; simp

@[simp] theorem execLogread_keptO (i : Initiator) (arg : BitVec 8) (lost : Bool) (s : State) : KeptO s (execLogread i arg lost s) := by
  unfold execLogread; simp

@[simp] theorem execParread_keptO (i : Initiator) (idx : BitVec 16) (lost : Bool) (s : State) : KeptO s (execParread i idx lost s) := by
  unfold execParread; simp

@[simp] theorem execParwrite_keptO (i : Initiator) (idx : BitVec 16) (lost : Bool) (s : State) : KeptO s (execParwrite i idx lost s) := by
  unfold execParwrite; simp

@[simp] theorem execParcommit_keptO (i : Initiator) (lost : Bool) (s : State) : KeptO s (execParcommit i lost s) := by
  unfold execParcommit; simp

@[simp] theorem execPardiscard_keptO (i : Initiator) (lost : Bool) (s : State) : KeptO s (execPardiscard i lost s) := by
  unfold execPardiscard; simp

@[simp] theorem inSys_keptO (f : State → State) (s : State) (hf : ∀ s, (f s).rest = s.rest) : KeptO s (inSys f s) := by
  unfold inSys; simp [hf]

@[simp] theorem execPolderResponse_keptO (bad : Bool) (s : State) : KeptO s (execPolderResponse bad s) := by
  unfold execPolderResponse; simp

@[simp] theorem execPolderNoresp_keptO (s : State) : KeptO s (execPolderNoresp s) := by
  unfold execPolderNoresp; simp

@[simp] theorem polAsk_rest (bad : Bool) (s : State) : (polAsk bad s).rest = s.rest := by
  unfold polAsk; simp

@[simp] theorem execPolderTimeRequest_keptO (bad : Bool) (s : State) : KeptO s (execPolderTimeRequest bad s) := by
  unfold execPolderTimeRequest; simp

@[simp] theorem execPolderTimeResponse_keptO (bad : Bool) (cyc : Fin 1200000) (s : State) : KeptO s (execPolderTimeResponse bad cyc s) := by
  unfold execPolderTimeResponse; simp

@[simp] theorem execPolderLinkWord_keptO (bad : Bool) (s : State) : KeptO s (execPolderLinkWord bad s) := by
  unfold execPolderLinkWord; simp

@[simp] theorem execPolderLinkDown_keptO (s : State) : KeptO s (execPolderLinkDown s) := by
  unfold execPolderLinkDown; simp

@[simp] theorem execPolderSnapshotRequest_keptO (bad : Bool) (s : State) : KeptO s (execPolderSnapshotRequest bad s) := by
  unfold execPolderSnapshotRequest; (try with_reducible refine (keptO_next _ _).2 ?_) <;> (apply inSys_keptO) <;> intros <;> (try simp only []) <;> (repeat' split) <;> simp

@[simp] theorem execPolderResultRecord_keptO (bad : Bool) (s : State) : KeptO s (execPolderResultRecord bad s) := by
  unfold execPolderResultRecord; simp

@[simp] theorem execLogwarn_keptO (bad : Bool) (s : State) : KeptO s (execLogwarn bad s) := by
  unfold execLogwarn; simp

/-! ### Slu -/

@[simp] theorem setSluice_rest (src dst : Nat) (x : Sluice) (s : State) : (setSluice src dst x s).rest = s.rest := by
  unfold setSluice; simp

@[simp] theorem provLeak_rest (src dst : Nat) (s : State) : (provLeak src dst s).rest = s.rest := by
  unfold provLeak; simp

@[simp] theorem raiseReq_rest (src dst : Nat) (w : SluiceWord) (s : State) : (raiseReq src dst w s).rest = s.rest := by
  unfold raiseReq; simp

@[simp] theorem sluiceRequest_rest (src dst : Nat) (w : SluiceWord) (s : State) : (sluiceRequest src dst w s).rest = s.rest := by
  unfold sluiceRequest; (repeat' split) <;> simp

@[simp] theorem execSluiceRequest_keptO (src dst : Fin 27) (w : SluiceWord) (s : State) : KeptO s (execSluiceRequest src dst w s) := by
  unfold execSluiceRequest; simp

@[simp] theorem answered_rest (src dst : Nat) (s : State) : (answered src dst s).rest = s.rest := by
  unfold answered; simp <;> intros <;> (repeat' split) <;> simp

@[simp] theorem openRead_rest (src dst : Nat) (w : SluiceWord) (s : State) : (openRead src dst w s).rest = s.rest := by
  unfold openRead; (repeat' split) <;> simp

@[simp] theorem sluiceLatch_rest (src dst taken : Nat) (s : State) : (sluiceLatch src dst taken s).rest = s.rest := by
  unfold sluiceLatch
  lift_lets
  repeat (intro x1; first | ((have hx1 : State.rest (x1) = State.rest s := (by (simp [x1, *]; done))); clear_value x1) | clear_value x1)
  (repeat' split) <;> simp [*]

@[simp] theorem execSluiceLatch_keptO (src dst : Fin 27) (taken : Fin 3) (s : State) : KeptO s (execSluiceLatch src dst taken s) := by
  unfold execSluiceLatch; simp

@[simp] theorem execSluiceAckSeen_keptO (src dst : Fin 27) (s : State) : KeptO s (execSluiceAckSeen src dst s) := by
  unfold execSluiceAckSeen; simp only []; (repeat' split) <;> simp

@[simp] theorem execSluiceAckLow_keptO (src dst : Fin 27) (s : State) : KeptO s (execSluiceAckLow src dst s) := by
  unfold execSluiceAckLow; simp only []; (repeat' split) <;> simp

@[simp] theorem handshakeTimeout_rest (src dst : Nat) (s : State) : (handshakeTimeout src dst s).rest = s.rest := by
  unfold handshakeTimeout; simp <;> intros <;> (repeat' split) <;> simp

@[simp] theorem execHandshakeTimeout_keptO (src dst : Fin 27) (s : State) : KeptO s (execHandshakeTimeout src dst s) := by
  unfold execHandshakeTimeout; simp

@[simp] theorem agePromotion_rest (who : Requester) (age : Nat) (s : State) : (agePromotion who age s).rest = s.rest := by
  unfold agePromotion; (repeat' split) <;> simp

@[simp] theorem execAgePromotion_keptO (who : Requester) (age : BitVec 16) (s : State) : KeptO s (execAgePromotion who age s) := by
  unfold execAgePromotion; simp

@[simp] theorem arbCfgWrite_rest (v : Word) (s : State) : (arbCfgWrite v s).rest = s.rest := by
  unfold arbCfgWrite; simp

/-! ### QueueCmd -/

@[simp] theorem frontWrite_rest (src : Nat) (l : List FrontPacket) (s : State) : (frontWrite src l s).2.rest = s.rest := by
  unfold frontWrite; (repeat' split) <;> simp

@[simp] theorem execQueueConfigWrite_keptO (i : Initiator) (q : Fin 32) (v : Word) (s : State) : KeptO s (execQueueConfigWrite i q v s) := by
  unfold execQueueConfigWrite; simp

@[simp] theorem execQueueWr_keptO (i : Initiator) (q : Fin 32) (v : Word) (s : State) : KeptO s (execQueueWr i q v s) := by
  unfold execQueueWr; simp

@[simp] theorem execQueueCommit_keptO (i : Initiator) (q : Fin 32) (s : State) : KeptO s (execQueueCommit i q s) := by
  unfold execQueueCommit; simp

@[simp] theorem execQueueAbort_keptO (i : Initiator) (q : Fin 32) (s : State) : KeptO s (execQueueAbort i q s) := by
  unfold execQueueAbort; simp

@[simp] theorem execQueueFrontendWrite_keptO (src : FrontSrc) (s : State) : KeptO s (execQueueFrontendWrite src s) := by
  unfold execQueueFrontendWrite; (try with_reducible refine (keptO_next _ _).2 ?_) <;> (apply inWarp_keptO) <;> intros <;> (try simp only []) <;> (repeat' split) <;> simp

@[simp] theorem execPacketVisible_keptO (p : QueueAt) (s : State) : KeptO s (execPacketVisible p s) := by
  unfold execPacketVisible; simp

@[simp] theorem execQueueHostTake_keptO (q : Fin 32) (s : State) : KeptO s (execQueueHostTake q s) := by
  unfold execQueueHostTake; simp

@[simp] theorem execQueueFlush_keptO (i : Initiator) (q : Fin 32) (s : State) : KeptO s (execQueueFlush i q s) := by
  unfold execQueueFlush; simp

@[simp] theorem execQueueDisable_keptO (i : Initiator) (q : Fin 32) (s : State) : KeptO s (execQueueDisable i q s) := by
  unfold execQueueDisable; simp

end Sys2Proof.Machine
end

