-- ==== Sys2Proof/Laws/FrameBus.lean ====
section
/-! SUPPORT. What the operations and commands leave alone, one lemma each: the lifecycle block, the fabric and the ticks of the islands. -/

set_option maxRecDepth 20000
set_option linter.all false

namespace Sys2Proof.Machine

/-! ### Life -/

theorem rest_life (S : State) (x : LifeSt) (h : ({ x with cmd := none } : LifeSt) = { S.life with cmd := none }) : ({ S with life := x } : State).rest = S.rest := by
  show (({ x with cmd := none } : LifeSt), S.pending, S.sys.variantM) = S.rest
  rw [h]; rfl
theorem setLife_cmd_rest (c : Option LifeCmd) (s : State) : (setLife { s.life with cmd := c } s).rest = s.rest := by exact rest_life _ _ rfl

@[simp] theorem lifeCommand_rest (op arg : Nat) (s : State) : (lifeCommand op arg s).rest = s.rest := by
  unfold lifeCommand
  split
  · split
    · refine (onlyIf_rest _ _ _ ?_).trans (setLife_cmd_rest _ _)
      intro t; simp
    · exact setLife_cmd_rest _ _
  · simp

@[simp] theorem lifeCmdWrite_rest (i : Initiator) (v : Word) (s : State) : (lifeCmdWrite i v s).rest = s.rest := by
  unfold lifeCmdWrite; simp

theorem rest_split (s t : State) : t.rest = s.rest ↔ ({ t.life with cmd := none } : LifeSt) = { s.life with cmd := none } ∧ t.pending = s.pending ∧ t.sys.variantM = s.sys.variantM := by
  show ((({ t.life with cmd := none } : LifeSt), t.pending, t.sys.variantM) = (({ s.life with cmd := none } : LifeSt), s.pending, s.sys.variantM)) ↔ _
  rw [Prod.ext_iff, Prod.ext_iff]
theorem fuses_of_life (f a b : LifeSt) (h : ({ b with cmd := none } : LifeSt) = { a with cmd := none }) (hf : FusesKept f a) : FusesKept f b := by
  cases a; cases b; cases h; exact hf
/-- A state follows another: the queue and the variant are the same, and no fuse is undone. -/
def Moved (s t : State) : Prop := t.pending = s.pending ∧ t.sys.variantM = s.sys.variantM ∧ ∀ f, FusesKept f s.life → FusesKept f t.life
theorem moved_of {s t : State} (h : t.rest = s.rest) : Moved s t := by
  obtain ⟨h1, h2, h3⟩ := (rest_split s t).1 h
  exact ⟨h2, h3, fun f hf => fuses_of_life _ _ _ h1 hf⟩
theorem Moved.trans {s t u : State} (h : Moved s t) (g : Moved t u) : Moved s u := by
  exact ⟨g.1.trans h.1, g.2.1.trans h.2.1, fun f hf => g.2.2 f (h.2.2 f hf)⟩
theorem lifeEffect_kept (c : LifeCmd) (f x : LifeSt) (h : FusesKept f x) : FusesKept f (lifeEffect c x) := by
  obtain ⟨h1, h2, h3, h4, h5, h6, h7⟩ := h
  cases c with
  | keyprog n k =>
    simp only [lifeEffect]
    split
    · exact ⟨h1, h2, h3, h4, h5, h6, h7⟩
    · rename_i hn
      refine ⟨h1, h2, h3, fun m hm => ?_, h5, h6, h7⟩
      have := h4 m hm
      have hne : m ≠ n := by rintro rfl; exact hn this.1
      exact ⟨by rw [tabGet_set_ne _ _ _ _ _ hne]; exact this.1, by rw [tabGet_set_ne _ _ _ _ _ hne]; exact this.2⟩
  | keyrevoke n =>
    refine ⟨h1, h2, fun m hk hm => ?_, h4, h5, h6, h7⟩
    simp only [lifeEffect]; rw [tabGet_set]; split
    · rfl
    · exact h3 m hk hm
  | advance =>
    refine ⟨?_, h2, h3, h4, h5, h6, h7⟩
    simp only [lifeEffect]
    refine le_trans h1 ?_
    cases x.state <;> decide
  | minver v => exact ⟨h1, le_trans h2 (le_max_left _ _), h3, h4, h5, h6, h7⟩
  | ksprog k w =>
    refine ⟨h1, h2, h3, h4, h5, fun m hm => ?_, h7⟩
    simp only [lifeEffect]; rw [tabGet_set]; split
    · rfl
    · exact h6 m hm
  | custody z =>
    have hr : ∀ y : Lifecycle, y.rank ≤ 3 := by intro y; cases y <;> decide
    simp only [lifeEffect]
    split
    · refine ⟨hr _, h2, fun m hk _ => ?_, h4, h5, h6, h7⟩
      have : m = 0 ∨ m = 1 ∨ m = 2 ∨ m = 3 := by omega
      rcases this with rfl | rfl | rfl | rfl <;> rfl
    · exact ⟨hr _, h2, h3, h4, h5, h6, h7⟩
theorem lifeFailed_kept (c : LifeCmd) (f x : LifeSt) (h : FusesKept f x) : FusesKept f (lifeFailed c x) := by
  obtain ⟨h1, h2, h3, h4, h5, h6, h7⟩ := h
  cases c with
  | keyprog n k =>
    refine ⟨h1, h2, h3, h4, fun m hm => ?_, h6, h7⟩
    simp only [lifeFailed]; rw [tabGet_set]; split
    · rfl
    · exact h5 m hm
  | keyrevoke n =>
    refine ⟨h1, h2, h3, h4, fun m hm => ?_, h6, h7⟩
    simp only [lifeFailed]; rw [tabGet_set]; split
    · rfl
    · exact h5 m hm
  | ksprog k w =>
    refine ⟨h1, h2, h3, h4, h5, h6, fun m hm => ?_⟩
    simp only [lifeFailed]; rw [tabGet_set]; split
    · rfl
    · exact h7 m hm
  | advance => exact ⟨h1, h2, h3, h4, h5, h6, h7⟩
  | minver v => exact ⟨h1, h2, h3, h4, h5, h6, h7⟩
  | custody z => exact ⟨h1, h2, h3, h4, h5, h6, h7⟩
theorem lifeComplete_moved (ok : Bool) (s : State) : Moved s (lifeComplete ok s) := by
  have end_ : ∀ (c : LifeCmd) (t : State), t.rest = s.rest → Moved s (if ok then setF (setLife (lifeEffect c { t.life with cmd := none }) t) LIFE_EVT_DONE
      else setF (setLife (lifeFailed c { t.life with cmd := none }) t) LIFE_EVT_FAIL) := by
    intro c t h
    obtain ⟨h1, h2, h3⟩ := moved_of h
    cases ok
    · exact ⟨h1, h2, fun f hf => lifeFailed_kept c f { t.life with cmd := none } (h3 f hf)⟩
    · exact ⟨h1, h2, fun f hf => lifeEffect_kept c f { t.life with cmd := none } (h3 f hf)⟩
  unfold lifeComplete
  cases hc : s.life.cmd with
  | none => exact moved_of rfl
  | some c =>
    cases c with
    | custody z =>
      simp only
      split
      · exact end_ _ _ (by simp)
      · exact moved_of rfl
    | keyprog n k => exact end_ (.keyprog n k) s rfl
    | keyrevoke n => exact end_ (.keyrevoke n) s rfl
    | advance => exact end_ .advance s rfl
    | minver v => exact end_ (.minver v) s rfl
    | ksprog k w => exact end_ (.ksprog k w) s rfl

@[simp] theorem lifeRow_keptO (i : Initiator) (op : Nat) (arg : BitVec 8) (s : State) : KeptO s (lifeRow i op arg s) := by
  unfold lifeRow; simp

@[simp] theorem execKeyprog_keptO (i : Initiator) (arg : BitVec 8) (s : State) : KeptO s (execKeyprog i arg s) := by
  unfold execKeyprog; simp

@[simp] theorem execKeyrevoke_keptO (i : Initiator) (arg : BitVec 8) (s : State) : KeptO s (execKeyrevoke i arg s) := by
  unfold execKeyrevoke; simp

@[simp] theorem execAdvance_keptO (i : Initiator) (s : State) : KeptO s (execAdvance i s) := by
  unfold execAdvance; simp

@[simp] theorem execMinver_keptO (i : Initiator) (arg : BitVec 8) (s : State) : KeptO s (execMinver i arg s) := by
  unfold execMinver; simp

@[simp] theorem execKsprog_keptO (i : Initiator) (arg : BitVec 8) (s : State) : KeptO s (execKsprog i arg s) := by
  unfold execKsprog; simp

@[simp] theorem execCustody_keptO (i : Initiator) (arg : BitVec 8) (s : State) : KeptO s (execCustody i arg s) := by
  unfold execCustody; simp

/-- An outcome follows a state: the next state, if that is what it is, does. -/
def MovedO (s : State) (o : Host.Outcome State Fault Refusal) : Prop := ∀ t, o = .next t → Moved s t
theorem movedO_of {s : State} {o : Host.Outcome State Fault Refusal} (h : KeptO s o) : MovedO s o := by
  exact fun t ht => moved_of (h t ht)
theorem movedO_next {s t : State} (h : Moved s t) : MovedO s (.next t) := by
  intro u hu; cases hu; exact h
theorem execLifeCommandComplete_movedO (ok : Bool) (s : State) : MovedO s (execLifeCommandComplete ok s) := by
  exact movedO_next (lifeComplete_moved ok s)

@[simp] theorem execCustomerKeyRead_keptO (i : Initiator) (k : Fin 16) (s : State) : KeptO s (execCustomerKeyRead i k s) := by
  unfold execCustomerKeyRead; (repeat' split) <;> simp

@[simp] theorem useScratch_rest (s : State) : (useScratch s).rest = s.rest := by
  unfold useScratch; simp

@[simp] theorem bootImage_rest (c : Nat) (s : State) : (bootImage c s).rest = s.rest := by
  unfold bootImage
  lift_lets
  repeat (intro x1; first | ((have hx1 : State.rest (x1) = State.rest s := (by (simp [x1, *]; done))); clear_value x1) | clear_value x1)
  simp [*]

@[simp] theorem bootReads_rest (c : Nat) (bad : Bool) (s : State) : (bootReads c bad s).rest = s.rest := by
  unfold bootReads; simp

@[simp] theorem execBootImageVerify_keptO (bad0 bad1 : Bool) (s : State) : KeptO s (execBootImageVerify bad0 bad1 s) := by
  unfold execBootImageVerify; simp only []; (repeat' split) <;> simp

@[simp] theorem boxPut_rest (o : Nat) (l : List Byte) (s : State) : (boxPut o l s).rest = s.rest := by
  unfold boxPut; simp

@[simp] theorem recAnswer_rest (seq status : Nat) (data : List Byte) (s : State) : (recAnswer seq status data s).rest = s.rest := by
  unfold recAnswer; simp

@[simp] theorem recTake_keptO (op : Nat) (ok : Lifecycle → Bool) (f : State → Nat × List Byte × State) (s : State) (hf : ∀ s, (f s).2.2.rest = s.rest) : KeptO s (recTake op ok f s) := by
  unfold recTake; simp only []; (repeat' split) <;> simp [hf]

theorem recLife_fuses (op arg : Nat) (ok : Bool) (s : State) : Moved s (recLife op arg ok s).2.2 := by
  unfold recLife
  split
  · exact (moved_of (lifeCommand_rest _ _ _)).trans (lifeComplete_moved _ _)
  · exact moved_of (lifeCommand_rest _ _ _)

@[simp] theorem execRecoveryStatus_keptO (s : State) : KeptO s (execRecoveryStatus s) := by
  unfold execRecoveryStatus; simp

theorem recTake_movedO (op : Nat) (ok : Lifecycle → Bool) (f : State → Nat × List Byte × State) (s : State) (hf : ∀ t, Moved t (f t).2.2) : MovedO s (recTake op ok f s) := by
  unfold recTake
  extract_lets w seq src t r
  split
  · have ht : t.rest = s.rest := by simp [t, src]
    clear_value t
    split
    · refine movedO_next ((moved_of ht).trans ?_)
      refine Moved.trans (moved_of (rouse_rest 11 t)) ((hf (rouse 11 t)).trans (moved_of ?_))
      simp [r]
    · exact movedO_next ((moved_of ht).trans (moved_of (by simp)))
  · exact movedO_next (moved_of rfl)
theorem execRecoveryKeyprog_movedO (ok : Bool) (s : State) : MovedO s (execRecoveryKeyprog ok s) := by
  unfold execRecoveryKeyprog
  refine recTake_movedO _ _ _ _ ?_
  intro t
  simp only
  split
  · exact moved_of rfl
  · refine Moved.trans (moved_of ?_) (recLife_fuses _ _ _ _)
    simp

theorem execRecoveryAdvance_movedO (ok : Bool) (s : State) : MovedO s (execRecoveryAdvance ok s) := by
  exact recTake_movedO _ _ _ _ (fun t => recLife_fuses _ _ _ t)

@[simp] theorem eraseBlocks_rest (l : List Nat) (fail : Option Nat) (s : State) : (eraseBlocks l fail s).2.2.rest = s.rest := by
  unfold eraseBlocks; (repeat' split) <;> simp

@[simp] theorem execErasecopy_keptO (fail : Option (Fin 62)) (s : State) : KeptO s (execErasecopy fail s) := by
  unfold execErasecopy; (try with_reducible refine (keptO_next _ _).2 ?_) <;> (apply recTake_keptO) <;> intros <;> (try simp only []) <;> (repeat' split) <;> simp

@[simp] theorem writeSector_rest (page off : Nat) (d : List Byte) (s : State) : (writeSector page off d s).rest = s.rest := by
  unfold writeSector; (repeat' split) <;> simp

@[simp] theorem execRecoveryWrite_keptO (fail : Bool) (s : State) : KeptO s (execRecoveryWrite fail s) := by
  unfold execRecoveryWrite; (try with_reducible refine (keptO_next _ _).2 ?_) <;> (apply recTake_keptO) <;> intros <;> (try simp only []) <;> (repeat' split) <;> simp

@[simp] theorem execRecoveryRead_keptO (ecc : EccBits) (s : State) : KeptO s (execRecoveryRead ecc s) := by
  unfold execRecoveryRead; (try with_reducible refine (keptO_next _ _).2 ?_) <;> (apply recTake_keptO) <;> intros <;> (try simp only []) <;> (repeat' split) <;> simp

@[simp] theorem execRecoveryPolder_keptO (lost : Bool) (s : State) : KeptO s (execRecoveryPolder lost s) := by
  unfold execRecoveryPolder
  refine recTake_keptO _ _ _ _ ?_
  intro t
  simp only
  split
  · rfl
  · split
    · rfl
    · split
      · rfl
      · split
        · rename_i e
          have h := congrArg (fun p : Option PolMsg × State => p.2.rest) e
          simp only [polTake_rest, polReqWrite_rest, wr_rest] at h
          simp [← h]
        · simp

@[simp] theorem execRecoveryReset_keptO (s : State) : KeptO s (execRecoveryReset s) := by
  unfold execRecoveryReset; simp only []; (repeat' split) <;> simp

/-! ### BusWrite -/

def RoutesKeep (l : List WriteRoute) : Prop := ∀ r ∈ l, ∀ k v s, (r.act k v s).rest = s.rest
theorem routeWrite_rest (l : List WriteRoute) (a : Nat) (v : Word) (s : State) (h : RoutesKeep l) : (routeWrite l a v s).rest = s.rest := by
  unfold routeWrite
  split
  · rename_i r hr; exact h r (List.mem_of_find?_eq_some hr) _ _ _
  · simp

theorem sysWrites_keeps (i : Initiator) : RoutesKeep (sysWrites i) := by
  simp [RoutesKeep, sysWrites, WriteRoute.one]

@[simp] theorem errstatWrite_rest (v : Word) (s : State) : (errstatWrite v s).rest = s.rest := by
  unfold errstatWrite; simp

theorem sluWrites_keeps : RoutesKeep (sluWrites ) := by
  simp [RoutesKeep, sluWrites, WriteRoute.one]

@[simp] theorem deadlineWrite_rest (v : Word) (s : State) : (deadlineWrite v s).rest = s.rest := by
  unfold deadlineWrite; simp

@[simp] theorem atcfgWrite_rest (v : Word) (s : State) : (atcfgWrite v s).rest = s.rest := by
  unfold atcfgWrite; simp

theorem loomWrites_keeps : RoutesKeep (loomWrites ) := by
  simp [RoutesKeep, loomWrites, WriteRoute.one]

@[simp] theorem seqStoreWrite_rest (k a : Nat) (v : Word) (s : State) : (seqStoreWrite k a v s).rest = s.rest := by
  unfold seqStoreWrite; simp

@[simp] theorem shadowWrite_rest (n o : Nat) (v : Word) (s : State) : (shadowWrite n o v s).rest = s.rest := by
  unfold shadowWrite; simp

theorem afeWrites_keeps : RoutesKeep (afeWrites ) := by
  simp [RoutesKeep, afeWrites, WriteRoute.one]

theorem vibWrites_keeps : RoutesKeep (vibWrites ) := by
  simp [RoutesKeep, vibWrites, WriteRoute.one]

theorem dioWrites_keeps : RoutesKeep (dioWrites ) := by
  simp [RoutesKeep, dioWrites, WriteRoute.one]

@[simp] theorem mailboxWrite_rest (k j w : Nat) (v : Word) (s : State) : (mailboxWrite k j w v s).rest = s.rest := by
  unfold mailboxWrite; (repeat' split) <;> simp

theorem canWrites_keeps : RoutesKeep (canWrites ) := by
  simp [RoutesKeep, canWrites, WriteRoute.one]

@[simp] theorem linkMemWrite_rest (o : Nat) (v : Word) (s : State) : (linkMemWrite o v s).rest = s.rest := by
  unfold linkMemWrite; simp

theorem ethWrites_keeps : RoutesKeep (ethWrites ) := by
  simp [RoutesKeep, ethWrites, WriteRoute.one]

theorem storeWrites_keeps : RoutesKeep (storeWrites ) := by
  simp [RoutesKeep, storeWrites, WriteRoute.one]

theorem tickWrites_keeps (i : Initiator) : RoutesKeep (tickWrites i) := by
  simp [RoutesKeep, tickWrites, WriteRoute.one]

theorem dispWrites_keeps : RoutesKeep (dispWrites ) := by
  simp [RoutesKeep, dispWrites, WriteRoute.one]

theorem perfWrites_keeps : RoutesKeep (perfWrites ) := by
  simp [RoutesKeep, perfWrites, WriteRoute.one]

theorem selvWrites_keeps : RoutesKeep (selvWrites ) := by
  simp [RoutesKeep, selvWrites, WriteRoute.one]

theorem reeveWrites_keeps : RoutesKeep (reeveWrites ) := by
  simp [RoutesKeep, reeveWrites, WriteRoute.one]

theorem queueWrites_keeps : RoutesKeep (queueWrites ) := by
  simp [RoutesKeep, queueWrites, WriteRoute.one]

theorem blockWrites_keeps (i : Initiator) (b : Nat) : RoutesKeep (blockWrites i b) := by
  unfold blockWrites
  split
  · exact sysWrites_keeps i
  · exact sluWrites_keeps
  · exact loomWrites_keeps
  · exact afeWrites_keeps
  · exact vibWrites_keeps
  · exact dioWrites_keeps
  · exact canWrites_keeps
  · exact ethWrites_keeps
  · exact storeWrites_keeps
  · exact tickWrites_keeps i
  · exact dispWrites_keeps
  · exact perfWrites_keeps
  · exact selvWrites_keeps
  · exact reeveWrites_keeps
  · simp [RoutesKeep, WriteRoute.one]
  · exact queueWrites_keeps
  · simp [RoutesKeep, WriteRoute.one]
  · simp [RoutesKeep]

@[simp] theorem sramWrite_rest (a : Nat) (size : Size) (v : Word) (s : State) : (sramWrite a size v s).rest = s.rest := by
  unfold sramWrite; simp

@[simp] theorem placeWrite_rest (i : Initiator) (size : Size) (a : Nat) (v : Word) (s : State) : (placeWrite i size a v s).rest = s.rest := by
  unfold placeWrite
  split
  · simp
  · simp
  · exact routeWrite_rest _ _ _ _ (blockWrites_keeps i _)
  · rfl

@[simp] theorem busWrite_rest (i : Initiator) (size : Size) (a : Nat) (v : Word) (s : State) : (busWrite i size a v s).rest = s.rest := by
  unfold busWrite; simp

/-! ### BusRead -/

@[simp] theorem codeRead_rest (a : Nat) (s : State) : (codeRead a s).2.rest = s.rest := by
  unfold codeRead; simp

def ReadsKeep (l : List ReadRoute) : Prop := ∀ r ∈ l, ∀ k s, (r.act k s).2.rest = s.rest
theorem routeRead_rest (l : List ReadRoute) (a : Nat) (s : State) (h : ReadsKeep l) : (routeRead l a s).2.rest = s.rest := by
  unfold routeRead
  split
  · rename_i r hr; exact h r (List.mem_of_find?_eq_some hr) _ _
  · simp

theorem loomReads_keeps : ReadsKeep (loomReads ) := by
  simp [ReadsKeep, loomReads, ReadRoute.pure]

@[simp] theorem calstatRead_rest (n : Nat) (s : State) : (calstatRead n s).2.rest = s.rest := by
  unfold calstatRead; simp

theorem afeReads_keeps : ReadsKeep (afeReads ) := by
  simp [ReadsKeep, afeReads, ReadRoute.pure]

theorem ethReads_keeps : ReadsKeep (ethReads ) := by
  simp [ReadsKeep, ethReads, ReadRoute.pure]

theorem storeReads_keeps : ReadsKeep (storeReads ) := by
  simp [ReadsKeep, storeReads, ReadRoute.pure]

theorem queueReads_keeps (i : Initiator) : ReadsKeep (queueReads i) := by
  simp [ReadsKeep, queueReads, ReadRoute.pure]

theorem lifeReads_keeps (i : Initiator) : ReadsKeep (lifeReads i) := by
  simp [ReadsKeep, lifeReads, ReadRoute.pure]

theorem blockReads_keeps (i : Initiator) (b : Nat) : ReadsKeep (blockReads i b) := by
  unfold blockReads
  split
  · simp [ReadsKeep, ReadRoute.pure]
  · simp [ReadsKeep, ReadRoute.pure]
  · exact loomReads_keeps
  · exact afeReads_keeps
  · exact ethReads_keeps
  · exact storeReads_keeps
  · simp [ReadsKeep, ReadRoute.pure]
  · simp [ReadsKeep, ReadRoute.pure]
  · simp [ReadsKeep, ReadRoute.pure]
  · exact queueReads_keeps i
  · exact lifeReads_keeps i
  · simp [ReadsKeep, ReadRoute.pure]

@[simp] theorem warpRead_rest (i : Initiator) (o : Nat) (size : Size) (s : State) : (warpRead i o size s).2.rest = s.rest := by
  unfold warpRead; simp <;> intros <;> (repeat' split) <;> simp

@[simp] theorem placeRead_rest (i : Initiator) (size : Size) (a : Nat) (s : State) : (placeRead i size a s).2.rest = s.rest := by
  unfold placeRead
  split
  · rfl
  · rfl
  · exact warpRead_rest _ _ _ _
  · exact routeRead_rest _ _ _ (blockReads_keeps i _)
  · rfl

@[simp] theorem tickRead_rest (i : Initiator) (a : Nat) (s : State) : (tickRead i a s).rest = s.rest := by
  unfold tickRead; (repeat' split) <;> simp

@[simp] theorem busRead_rest (i : Initiator) (size : Size) (a : Nat) (s : State) : (busRead i size a s).rest = s.rest := by
  unfold busRead; simp

/-! ### Bus -/

@[simp] theorem execRegisterWrite_keptO (ini : Initiator) (addr v : Word) (size : Size) (s : State) : KeptO s (execRegisterWrite ini addr v size s) := by
  unfold execRegisterWrite; simp

@[simp] theorem execRcRead_keptO (ini : Initiator) (addr : Word) (s : State) : KeptO s (execRcRead ini addr s) := by
  unfold execRcRead; simp

@[simp] theorem execLockSet_keptO (ini : Initiator) (blk : Fin 17) (v : Word) (s : State) : KeptO s (execLockSet ini blk v s) := by
  unfold execLockSet; (repeat' split) <;> simp

/-! ### TickIsland -/

@[simp] theorem edgeWork_rest (i : Nat) (load : Bool) (a b : Tick) (s : State) : (edgeWork i load a b s).rest = s.rest := by
  unfold edgeWork; (repeat' split) <;> simp

@[simp] theorem recogniseEdge_rest (i : Nat) (s : State) : (recogniseEdge i s).rest = s.rest := by
  unfold recogniseEdge
  lift_lets
  repeat (intro x1; clear_value x1)
  (repeat' split) <;> simp [*]

@[simp] theorem execIslandTickRecognised_keptO (isl : Fin 27) (s : State) : KeptO s (execIslandTickRecognised isl s) := by
  unfold execIslandTickRecognised; simp

end Sys2Proof.Machine
end

