-- ==== Sys2Proof/Laws/FrameEngine.lean ====
section
/-! SUPPORT. What the operations and commands leave alone, one lemma each: the Frambeth instructions, the debug port and the function library. -/

set_option maxRecDepth 20000
set_option linter.all false

namespace Sys2Proof.Machine

/-! ### Frambeth -/

@[simp] theorem aluR_rest (e : Engine) (av : Avail) (fn : Nat) (f : Word → Word → Word) (d a b : Fin 32) (s : State) : (aluR e av fn f d a b s).rest = s.rest := by
  unfold aluR; simp

@[simp] theorem aluI_rest (e : Engine) (op : Nat) (f : Word → BitVec 16 → Word) (d a : Fin 32) (imm : BitVec 16) (s : State) : (aluI e op f d a imm s).rest = s.rest := by
  unfold aluI; simp

@[simp] theorem aluShift_rest (e : Engine) (k : Nat) (f : Word → Nat → Word) (d a : Fin 32) (n : BitVec 5) (s : State) : (aluShift e k f d a n s).rest = s.rest := by
  unfold aluShift; simp

@[simp] theorem branch_rest (e : Engine) (op : Nat) (c : Word → Word → Bool) (a b : Fin 32) (imm : BitVec 16) (s : State) : (branch e op c a b imm s).rest = s.rest := by
  unfold branch; simp

@[simp] theorem fpu2_rest (e : Engine) (fn : Nat) (f : Nat → Nat → Nat × Nat) (d a b : Fin 32) (s : State) : (fpu2 e fn f d a b s).rest = s.rest := by
  unfold fpu2; simp

@[simp] theorem fpu1_rest (e : Engine) (fn : Nat) (f : Nat → Nat × Nat) (d a : Fin 32) (s : State) : (fpu1 e fn f d a s).rest = s.rest := by
  unfold fpu1; simp

theorem cwRead_rest (e : Engine) (n : Nat) (s : State) : ∀ t, cwRead e n s = some t → t.2.rest = s.rest := by
  intro t h
  unfold cwRead at h
  simp only at h
  (repeat' split at h) <;> (first | (cases h; simp; done) | (simp only [Option.map_eq_some_iff] at h; obtain ⟨a, _, rfl⟩ := h; rfl) | (cases h; done))

@[simp] theorem cwWrite_rest (e : Engine) (n : Nat) (v : Word) (s : State) : (cwWrite e n v s).rest = s.rest := by
  unfold cwWrite; simp

@[simp] theorem cwInstr_rest (e : Engine) (w : Word) (av : Avail) (d : Fin 32) (num : BitVec 16) (op : Option (Fin 32 × (Word → Word → Word))) (s : State) : (cwInstr e w av d num op s).rest = s.rest := by
  unfold cwInstr
  refine runOn_rest _ _ _ _ _ ?_
  intro t
  simp only
  cases hc : cwRead e num.toNat t with
  | none => simp
  | some p =>
    have hp := cwRead_rest _ _ _ _ hc
    rcases op with _ | ⟨a, f⟩
    · simp only; split <;> simp [hp]
    · simp only
      cases hm : cwMask e num.toNat with
      | none => simp
      | some m => simp only; split <;> simp [hp]

@[simp] theorem execAdd_keptO (e : Engine) (d a b : Fin 32) (s : State) : KeptO s (execAdd e d a b s) := by
  unfold execAdd; simp

@[simp] theorem execSub_keptO (e : Engine) (d a b : Fin 32) (s : State) : KeptO s (execSub e d a b s) := by
  unfold execSub; simp

@[simp] theorem execAnd_keptO (e : Engine) (d a b : Fin 32) (s : State) : KeptO s (execAnd e d a b s) := by
  unfold execAnd; simp

@[simp] theorem execOr_keptO (e : Engine) (d a b : Fin 32) (s : State) : KeptO s (execOr e d a b s) := by
  unfold execOr; simp

@[simp] theorem execXor_keptO (e : Engine) (d a b : Fin 32) (s : State) : KeptO s (execXor e d a b s) := by
  unfold execXor; simp

@[simp] theorem execNor_keptO (e : Engine) (d a b : Fin 32) (s : State) : KeptO s (execNor e d a b s) := by
  unfold execNor; simp

@[simp] theorem execSll_keptO (e : Engine) (d a b : Fin 32) (s : State) : KeptO s (execSll e d a b s) := by
  unfold execSll; simp

@[simp] theorem execSrl_keptO (e : Engine) (d a b : Fin 32) (s : State) : KeptO s (execSrl e d a b s) := by
  unfold execSrl; simp

@[simp] theorem execSra_keptO (e : Engine) (d a b : Fin 32) (s : State) : KeptO s (execSra e d a b s) := by
  unfold execSra; simp

@[simp] theorem execSlt_keptO (e : Engine) (d a b : Fin 32) (s : State) : KeptO s (execSlt e d a b s) := by
  unfold execSlt; simp

@[simp] theorem execSltu_keptO (e : Engine) (d a b : Fin 32) (s : State) : KeptO s (execSltu e d a b s) := by
  unfold execSltu; simp

@[simp] theorem execMin_keptO (e : Engine) (d a b : Fin 32) (s : State) : KeptO s (execMin e d a b s) := by
  unfold execMin; simp

@[simp] theorem execMax_keptO (e : Engine) (d a b : Fin 32) (s : State) : KeptO s (execMax e d a b s) := by
  unfold execMax; simp

@[simp] theorem execMul_keptO (e : Engine) (d a b : Fin 32) (s : State) : KeptO s (execMul e d a b s) := by
  unfold execMul; simp

@[simp] theorem execMulh_keptO (e : Engine) (d a b : Fin 32) (s : State) : KeptO s (execMulh e d a b s) := by
  unfold execMulh; simp

@[simp] theorem execMulhu_keptO (e : Engine) (d a b : Fin 32) (s : State) : KeptO s (execMulhu e d a b s) := by
  unfold execMulhu; simp

@[simp] theorem execDiv_keptO (e : Engine) (d a b : Fin 32) (s : State) : KeptO s (execDiv e d a b s) := by
  unfold execDiv; simp

@[simp] theorem execDivu_keptO (e : Engine) (d a b : Fin 32) (s : State) : KeptO s (execDivu e d a b s) := by
  unfold execDivu; simp

@[simp] theorem execRem_keptO (e : Engine) (d a b : Fin 32) (s : State) : KeptO s (execRem e d a b s) := by
  unfold execRem; simp

@[simp] theorem execRemu_keptO (e : Engine) (d a b : Fin 32) (s : State) : KeptO s (execRemu e d a b s) := by
  unfold execRemu; simp

@[simp] theorem execAddi_keptO (e : Engine) (d a : Fin 32) (imm : BitVec 16) (s : State) : KeptO s (execAddi e d a imm s) := by
  unfold execAddi; simp

@[simp] theorem execAndi_keptO (e : Engine) (d a : Fin 32) (imm : BitVec 16) (s : State) : KeptO s (execAndi e d a imm s) := by
  unfold execAndi; simp

@[simp] theorem execOri_keptO (e : Engine) (d a : Fin 32) (imm : BitVec 16) (s : State) : KeptO s (execOri e d a imm s) := by
  unfold execOri; simp

@[simp] theorem execXori_keptO (e : Engine) (d a : Fin 32) (imm : BitVec 16) (s : State) : KeptO s (execXori e d a imm s) := by
  unfold execXori; simp

@[simp] theorem execSlti_keptO (e : Engine) (d a : Fin 32) (imm : BitVec 16) (s : State) : KeptO s (execSlti e d a imm s) := by
  unfold execSlti; simp

@[simp] theorem execSltiu_keptO (e : Engine) (d a : Fin 32) (imm : BitVec 16) (s : State) : KeptO s (execSltiu e d a imm s) := by
  unfold execSltiu; simp

@[simp] theorem execSlli_keptO (e : Engine) (d a : Fin 32) (n : BitVec 5) (s : State) : KeptO s (execSlli e d a n s) := by
  unfold execSlli; simp

@[simp] theorem execSrli_keptO (e : Engine) (d a : Fin 32) (n : BitVec 5) (s : State) : KeptO s (execSrli e d a n s) := by
  unfold execSrli; simp

@[simp] theorem execSrai_keptO (e : Engine) (d a : Fin 32) (n : BitVec 5) (s : State) : KeptO s (execSrai e d a n s) := by
  unfold execSrai; simp

@[simp] theorem execLui_keptO (e : Engine) (d : Fin 32) (imm : BitVec 16) (s : State) : KeptO s (execLui e d imm s) := by
  unfold execLui; simp

@[simp] theorem execBeq_keptO (e : Engine) (a b : Fin 32) (imm : BitVec 16) (s : State) : KeptO s (execBeq e a b imm s) := by
  unfold execBeq; simp

@[simp] theorem execBne_keptO (e : Engine) (a b : Fin 32) (imm : BitVec 16) (s : State) : KeptO s (execBne e a b imm s) := by
  unfold execBne; simp

@[simp] theorem execBlt_keptO (e : Engine) (a b : Fin 32) (imm : BitVec 16) (s : State) : KeptO s (execBlt e a b imm s) := by
  unfold execBlt; simp

@[simp] theorem execBge_keptO (e : Engine) (a b : Fin 32) (imm : BitVec 16) (s : State) : KeptO s (execBge e a b imm s) := by
  unfold execBge; simp

@[simp] theorem execBltu_keptO (e : Engine) (a b : Fin 32) (imm : BitVec 16) (s : State) : KeptO s (execBltu e a b imm s) := by
  unfold execBltu; simp

@[simp] theorem execBgeu_keptO (e : Engine) (a b : Fin 32) (imm : BitVec 16) (s : State) : KeptO s (execBgeu e a b imm s) := by
  unfold execBgeu; simp

@[simp] theorem execJal_keptO (e : Engine) (imm : BitVec 26) (s : State) : KeptO s (execJal e imm s) := by
  unfold execJal; simp

@[simp] theorem execJalr_keptO (e : Engine) (d a : Fin 32) (imm : BitVec 16) (s : State) : KeptO s (execJalr e d a imm s) := by
  unfold execJalr; simp

@[simp] theorem execCwr_keptO (e : Engine) (d : Fin 32) (num : BitVec 16) (s : State) : KeptO s (execCwr e d num s) := by
  unfold execCwr; simp

@[simp] theorem execCww_keptO (e : Engine) (d a : Fin 32) (num : BitVec 16) (s : State) : KeptO s (execCww e d a num s) := by
  unfold execCww; simp

@[simp] theorem execCws_keptO (e : Engine) (d a : Fin 32) (num : BitVec 16) (s : State) : KeptO s (execCws e d a num s) := by
  unfold execCws; simp

@[simp] theorem execCwc_keptO (e : Engine) (d a : Fin 32) (num : BitVec 16) (s : State) : KeptO s (execCwc e d a num s) := by
  unfold execCwc; simp

@[simp] theorem execEcall_keptO (e : Engine) (s : State) : KeptO s (execEcall e s) := by
  unfold execEcall; simp

@[simp] theorem execEbreak_keptO (e : Engine) (s : State) : KeptO s (execEbreak e s) := by
  unfold execEbreak; (repeat' split) <;> simp

@[simp] theorem execEret_keptO (e : Engine) (s : State) : KeptO s (execEret e s) := by
  unfold execEret; simp

@[simp] theorem wfiAgain_rest (s : State) : (wfiAgain s).rest = s.rest := by
  unfold wfiAgain; simp

@[simp] theorem execWfi_keptO (e : Engine) (s : State) : KeptO s (execWfi e s) := by
  unfold execWfi; simp

@[simp] theorem execFadd_keptO (e : Engine) (d a b : Fin 32) (s : State) : KeptO s (execFadd e d a b s) := by
  unfold execFadd; simp

@[simp] theorem execFsub_keptO (e : Engine) (d a b : Fin 32) (s : State) : KeptO s (execFsub e d a b s) := by
  unfold execFsub; simp

@[simp] theorem execFmul_keptO (e : Engine) (d a b : Fin 32) (s : State) : KeptO s (execFmul e d a b s) := by
  unfold execFmul; simp

@[simp] theorem execFdiv_keptO (e : Engine) (d a b : Fin 32) (s : State) : KeptO s (execFdiv e d a b s) := by
  unfold execFdiv; simp

@[simp] theorem execFmin_keptO (e : Engine) (d a b : Fin 32) (s : State) : KeptO s (execFmin e d a b s) := by
  unfold execFmin; simp

@[simp] theorem execFmax_keptO (e : Engine) (d a b : Fin 32) (s : State) : KeptO s (execFmax e d a b s) := by
  unfold execFmax; simp

@[simp] theorem execFeq_keptO (e : Engine) (d a b : Fin 32) (s : State) : KeptO s (execFeq e d a b s) := by
  unfold execFeq; simp

@[simp] theorem execFlt_keptO (e : Engine) (d a b : Fin 32) (s : State) : KeptO s (execFlt e d a b s) := by
  unfold execFlt; simp

@[simp] theorem execFle_keptO (e : Engine) (d a b : Fin 32) (s : State) : KeptO s (execFle e d a b s) := by
  unfold execFle; simp

@[simp] theorem execFsqrt_keptO (e : Engine) (d a : Fin 32) (s : State) : KeptO s (execFsqrt e d a s) := by
  unfold execFsqrt; simp

@[simp] theorem execFabs_keptO (e : Engine) (d a : Fin 32) (s : State) : KeptO s (execFabs e d a s) := by
  unfold execFabs; simp

@[simp] theorem execFneg_keptO (e : Engine) (d a : Fin 32) (s : State) : KeptO s (execFneg e d a s) := by
  unfold execFneg; simp

@[simp] theorem execFcls_keptO (e : Engine) (d a : Fin 32) (s : State) : KeptO s (execFcls e d a s) := by
  unfold execFcls; simp

@[simp] theorem execFcvtsw_keptO (e : Engine) (d a : Fin 32) (s : State) : KeptO s (execFcvtsw e d a s) := by
  unfold execFcvtsw; simp

@[simp] theorem execFcvtsu_keptO (e : Engine) (d a : Fin 32) (s : State) : KeptO s (execFcvtsu e d a s) := by
  unfold execFcvtsu; simp

@[simp] theorem execFcvtws_keptO (e : Engine) (d a : Fin 32) (s : State) : KeptO s (execFcvtws e d a s) := by
  unfold execFcvtws; simp

@[simp] theorem execFcvtwu_keptO (e : Engine) (d a : Fin 32) (s : State) : KeptO s (execFcvtwu e d a s) := by
  unfold execFcvtwu; simp

@[simp] theorem shuttleOp_rest (e : Engine) (fn : Nat) (d a b : Fin 32) (f : Nat → State → State) (s : State) (hf : ∀ y0 s, (f y0 s).rest = s.rest) : (shuttleOp e fn d a b f s).rest = s.rest := by
  unfold shuttleOp; (repeat' split) <;> simp [hf]

@[simp] theorem gatedOp_rest (e : Engine) (n : Nat) (op : GateOp) (s : State) : (gatedOp e n op s).rest = s.rest := by
  unfold gatedOp
  split
  · rename_i t h; rw [advance_rest]; exact gated_rest _ _ _ _ h
  · rfl

@[simp] theorem endEvaluation_rest (n : Nat) (s : State) : (endEvaluation n s).rest = s.rest := by
  unfold endEvaluation; simp <;> intros <;> (repeat' split) <;> simp

@[simp] theorem takeRecord_rest (e : Engine) (n : Nat) (d : Nat) (h : Held) (slot : Option Nat) (s : State) : (takeRecord e n d h slot s).rest = s.rest := by
  unfold takeRecord
  lift_lets
  repeat (intro x1; clear_value x1)
  simp [*]

@[simp] theorem skipDrops_rest (n : Nat) (s : State) : (skipDrops n s).rest = s.rest := by
  unfold skipDrops; simp <;> intros <;> (repeat' split) <;> simp

@[simp] theorem sget_rest (e : Engine) (n : Nat) (d : Nat) (s : State) : (sget e n d s).rest = s.rest := by
  unfold sget; simp <;> intros <;> (repeat' split) <;> simp

@[simp] theorem execSget_keptO (e : Engine) (d : Fin 32) (s : State) : KeptO s (execSget e d s) := by
  unfold execSget; simp

@[simp] theorem execSpwait_keptO (e : Engine) (a : Fin 32) (s : State) : KeptO s (execSpwait e a s) := by
  unfold execSpwait; simp

@[simp] theorem execPtag_keptO (e : Engine) (d a : Fin 32) (s : State) : KeptO s (execPtag e d a s) := by
  unfold execPtag; simp

@[simp] theorem qrd_rest (e : Engine) (n d q : Nat) (s : State) : (qrd e n d q s).rest = s.rest := by
  unfold qrd
  lift_lets
  repeat (intro x1; first | ((have hx1 : State.rest (x1) = State.rest s := (by (simp [x1, *]; done))); clear_value x1) | ((have hx1 : State.rest (x1.1) = State.rest s := (by (simp [x1, *]; done))); clear_value x1) | clear_value x1)
  simp [*]

@[simp] theorem execQrd_keptO (e : Engine) (d a : Fin 32) (s : State) : KeptO s (execQrd e d a s) := by
  unfold execQrd; simp

@[simp] theorem queueOp_rest (e : Engine) (n q : Nat) (op : GateOp) (s : State) : (queueOp e n q op s).rest = s.rest := by
  unfold queueOp; simp

@[simp] theorem execQwr_keptO (e : Engine) (a b : Fin 32) (s : State) : KeptO s (execQwr e a b s) := by
  unfold execQwr; simp

@[simp] theorem execQcmt_keptO (e : Engine) (a : Fin 32) (s : State) : KeptO s (execQcmt e a s) := by
  unfold execQcmt; simp

@[simp] theorem execQabt_keptO (e : Engine) (a : Fin 32) (s : State) : KeptO s (execQabt e a s) := by
  unfold execQabt; simp

@[simp] theorem execDout_keptO (e : Engine) (a b : Fin 32) (s : State) : KeptO s (execDout e a b s) := by
  unfold execDout; simp

@[simp] theorem execHirq_keptO (e : Engine) (a : Fin 32) (s : State) : KeptO s (execHirq e a s) := by
  unfold execHirq; simp

@[simp] theorem execHinc_keptO (e : Engine) (a b : Fin 32) (s : State) : KeptO s (execHinc e a b s) := by
  unfold execHinc; simp

@[simp] theorem execXupd_keptO (e : Engine) (a b : Fin 32) (s : State) : KeptO s (execXupd e a b s) := by
  unfold execXupd; simp

@[simp] theorem execSrec_keptO (e : Engine) (a b : Fin 32) (s : State) : KeptO s (execSrec e a b s) := by
  unfold execSrec; simp

@[simp] theorem execHbin_keptO (e : Engine) (d a b : Fin 32) (s : State) : KeptO s (execHbin e d a b s) := by
  unfold execHbin; simp

@[simp] theorem scanOp_rest (e : Engine) (fn : Nat) (a b : Fin 32) (f : Nat → State → State) (s : State) (hf : ∀ y0 s, (f y0 s).rest = s.rest) : (scanOp e fn a b f s).rest = s.rest := by
  unfold scanOp; (repeat' split) <;> simp [hf]

@[simp] theorem execScan_keptO (e : Engine) (a b : Fin 32) (s : State) : KeptO s (execScan e a b s) := by
  unfold execScan; simp

@[simp] theorem execScanw_keptO (e : Engine) (a b : Fin 32) (s : State) : KeptO s (execScanw e a b s) := by
  unfold execScanw; simp

@[simp] theorem execSblank_keptO (e : Engine) (a b : Fin 32) (s : State) : KeptO s (execSblank e a b s) := by
  unfold execSblank; simp

@[simp] theorem execTickw_keptO (e : Engine) (a : Fin 32) (s : State) : KeptO s (execTickw e a s) := by
  unfold execTickw; simp

@[simp] theorem execHostInterrupt_keptO (s : State) : KeptO s (execHostInterrupt s) := by
  unfold execHostInterrupt; (repeat' split) <;> simp

@[simp] theorem execPostedStoreBusError_keptO (s : State) : KeptO s (execPostedStoreBusError s) := by
  unfold execPostedStoreBusError; (repeat' split) <;> simp

/-! ### FrambethMem -/

@[simp] theorem hostEcc_rest (ecc : Ecc) (a : Nat) (s : State) : (hostEcc ecc a s).2.rest = s.rest := by
  unfold hostEcc; (repeat' split) <;> simp

@[simp] theorem hostTickLoad_rest (ext : Word → Word) (d : Fin 32) (a : Nat) (s : State) : (hostTickLoad ext d a s).rest = s.rest := by
  unfold hostTickLoad; simp

@[simp] theorem hostLoad_rest (size : Size) (ext : Word → Word) (ecc : Ecc) (d : Fin 32) (a : Nat) (s : State) : (hostLoad size ext ecc d a s).rest = s.rest := by
  unfold hostLoad
  lift_lets
  repeat (intro x1; first | ((have hx1 : State.rest (x1) = State.rest s := (by (simp [x1, *]; done))); clear_value x1) | ((have hx1 : State.rest (x1.2) = State.rest s := (by (simp [x1, *]; done))); clear_value x1) | clear_value x1)
  simp [*]

@[simp] theorem warpLoad_rest (n o : Nat) (ecc : Ecc) (done : State → State) (s : State) (hdone : ∀ s, (done s).rest = s.rest) : (warpLoad n o ecc done s).rest = s.rest := by
  unfold warpLoad; simp [hdone]

@[simp] theorem shuttleLoad_rest (n : Fin 16) (size : Size) (ext : Word → Word) (ecc : Ecc) (d : Fin 32) (a : Nat) (s : State) : (shuttleLoad n size ext ecc d a s).rest = s.rest := by
  unfold shuttleLoad; simp <;> intros <;> (repeat' split) <;> simp

@[simp] theorem seqLoad_rest (k : Fin 4) (d : Fin 32) (a : Nat) (s : State) : (seqLoad k d a s).rest = s.rest := by
  unfold seqLoad; (repeat' split) <;> simp

@[simp] theorem load_rest (e : Engine) (av : Avail) (op : Nat) (size : Size) (ext : Word → Word) (ecc : Ecc) (d a : Fin 32) (imm : BitVec 16)
    (s : State) : (load e av op size ext ecc d a imm s).rest = s.rest := by
  unfold load; (repeat' split) <;> simp

@[simp] theorem hostStore_rest (size : Size) (a : Nat) (v : Word) (s : State) : (hostStore size a v s).rest = s.rest := by
  unfold hostStore; simp

@[simp] theorem shuttleStore_rest (n : Fin 16) (size : Size) (a : Nat) (v : Word) (s : State) : (shuttleStore n size a v s).rest = s.rest := by
  unfold shuttleStore
  extract_lets p denied
  clear_value denied p
  split
  · simp
  · split
    · simp
    · split
      · rfl
      · split
        · rename_i t h; rw [advance_rest]; exact shStore_rest _ _ _ _ _ _ h
        · rfl

@[simp] theorem seqStore_rest (k : Fin 4) (a : Nat) (v : Word) (s : State) : (seqStore k a v s).rest = s.rest := by
  unfold seqStore; (repeat' split) <;> simp

@[simp] theorem store_rest (e : Engine) (av : Avail) (op : Nat) (size : Size) (a b : Fin 32) (imm : BitVec 16) (s : State) : (store e av op size a b imm s).rest = s.rest := by
  unfold store; (repeat' split) <;> simp

@[simp] theorem execLb_keptO (e : Engine) (d a : Fin 32) (imm : BitVec 16) (ecc : Ecc) (s : State) : KeptO s (execLb e d a imm ecc s) := by
  unfold execLb; simp

@[simp] theorem execLbu_keptO (e : Engine) (d a : Fin 32) (imm : BitVec 16) (ecc : Ecc) (s : State) : KeptO s (execLbu e d a imm ecc s) := by
  unfold execLbu; simp

@[simp] theorem execLh_keptO (e : Engine) (d a : Fin 32) (imm : BitVec 16) (ecc : Ecc) (s : State) : KeptO s (execLh e d a imm ecc s) := by
  unfold execLh; simp

@[simp] theorem execLhu_keptO (e : Engine) (d a : Fin 32) (imm : BitVec 16) (ecc : Ecc) (s : State) : KeptO s (execLhu e d a imm ecc s) := by
  unfold execLhu; simp

@[simp] theorem execLw_keptO (e : Engine) (d a : Fin 32) (imm : BitVec 16) (ecc : Ecc) (s : State) : KeptO s (execLw e d a imm ecc s) := by
  unfold execLw; simp

@[simp] theorem execSb_keptO (e : Engine) (a b : Fin 32) (imm : BitVec 16) (s : State) : KeptO s (execSb e a b imm s) := by
  unfold execSb; simp

@[simp] theorem execSh_keptO (e : Engine) (a b : Fin 32) (imm : BitVec 16) (s : State) : KeptO s (execSh e a b imm s) := by
  unfold execSh; simp

@[simp] theorem execSw_keptO (e : Engine) (a b : Fin 32) (imm : BitVec 16) (s : State) : KeptO s (execSw e a b imm s) := by
  unfold execSw; simp

/-! ### Jtag -/

@[simp] theorem setDbg_rest (x : DbgSt) (s : State) : (setDbg x s).rest = s.rest := by
  unfold setDbg; simp

@[simp] theorem jtagSelect_rest (k : JtagIr) (s : State) : (jtagSelect k s).rest = s.rest := by
  unfold jtagSelect; simp

@[simp] theorem jtagLoad_rest (code : Byte) (s : State) : (jtagLoad code s).rest = s.rest := by
  unfold jtagLoad; simp

@[simp] theorem jtagBasic_rest (code : Byte) (f : State → State) (s : State) (hf : ∀ s, (f s).rest = s.rest) : (jtagBasic code f s).rest = s.rest := by
  unfold jtagBasic; simp [hf]

@[simp] theorem execBypass_keptO (s : State) : KeptO s (execBypass s) := by
  unfold execBypass; simp

@[simp] theorem execIdcode_keptO (s : State) : KeptO s (execIdcode s) := by
  unfold execIdcode; simp

@[simp] theorem execSamplePreload_keptO (lands preload : List Bool) (s : State) : KeptO s (execSamplePreload lands preload s) := by
  unfold execSamplePreload; simp

@[simp] theorem execExtest_keptO (lands cells : List Bool) (s : State) : KeptO s (execExtest lands cells s) := by
  unfold execExtest; simp

@[simp] theorem execDbgstat_keptO (s : State) : KeptO s (execDbgstat s) := by
  unfold execDbgstat; simp

@[simp] theorem dbgWrite_rest (n : Nat) (item : DbgItem) (v : Word) (s : State) : (dbgWrite n item v s).rest = s.rest := by
  unfold dbgWrite; (repeat' split) <;> simp

@[simp] theorem dbgShuttle_rest (n : Nat) (item : DbgItem) (v : Option Word) (s : State) : (dbgShuttle n item v s).rest = s.rest := by
  unfold dbgShuttle; (repeat' split) <;> simp

@[simp] theorem execDbgacc_keptO (op : DbgOp) (s : State) : KeptO s (execDbgacc op s) := by
  unfold execDbgacc; (repeat' split) <;> simp

@[simp] theorem dbgControl_rest (e : Option (Fin 16)) (f : Core → Core) (s : State) : (dbgControl e f s).rest = s.rest := by
  unfold dbgControl; simp

@[simp] theorem execDebugHalt_keptO (e : Option (Fin 16)) (s : State) : KeptO s (execDebugHalt e s) := by
  unfold execDebugHalt; simp

@[simp] theorem execDebugStep_keptO (e : Option (Fin 16)) (s : State) : KeptO s (execDebugStep e s) := by
  unfold execDebugStep; simp

@[simp] theorem execDebugResume_keptO (e : Option (Fin 16)) (s : State) : KeptO s (execDebugResume e s) := by
  unfold execDebugResume; simp

@[simp] theorem execDebugArm_keptO (e : Option (Fin 16)) (s : State) : KeptO s (execDebugArm e s) := by
  unfold execDebugArm; simp

@[simp] theorem execDebugExpertRequest_keptO (s : State) : KeptO s (execDebugExpertRequest s) := by
  unfold execDebugExpertRequest; simp

/-! ### Library -/

@[simp] theorem setLib_rest (n : Nat) (l : LibSt) (s : State) : (setLib n l s).rest = s.rest := by
  unfold setLib; simp

@[simp] theorem libFlag_rest (n f : Nat) (s : State) : (libFlag n f s).rest = s.rest := by
  unfold libFlag; simp

def Kept (s : State) (o : Option State) : Prop := ∀ t, o = some t → t.rest = s.rest
def KeptP {α : Type} (s : State) (o : Option (State × α)) : Prop := ∀ t, o = some t → t.1.rest = s.rest
@[simp] theorem kept_some (s t : State) (h : t.rest = s.rest) : Kept s (some t) := by intro u hu; cases hu; exact h
@[simp] theorem kept_none (s : State) : Kept s none := by intro u hu; cases hu
@[simp] theorem keptP_some {α : Type} (s t : State) (x : α) (h : t.rest = s.rest) : KeptP s (some (t, x)) := by intro u hu; cases hu; exact h
@[simp] theorem kept_bind (s : State) (o : Option State) (f : State → Option State) (h : Kept s o) (hf : ∀ t, t.rest = s.rest → Kept s (f t)) : Kept s (o.bind f) := by
  cases o with
  | none => exact kept_none s
  | some t => exact hf t (h t rfl)
@[simp] theorem keptP_bind {α : Type} (s : State) (o : Option (State × α)) (f : State × α → Option State) (h : KeptP s o) (hf : ∀ t, t.1.rest = s.rest → Kept s (f t)) : Kept s (o.bind f) := by
  cases o with
  | none => exact kept_none s
  | some t => exact hf t (h t rfl)
@[simp] theorem keptP_map {α : Type} (s : State) (o : Option State) (f : State → State × α) (h : Kept s o) (hf : ∀ t, t.rest = s.rest → (f t).1.rest = s.rest) : KeptP s (o.map f) := by
  cases o with
  | none => intro u hu; cases hu
  | some t => intro u hu; cases hu; exact hf t (h t rfl)
@[simp] theorem kept_then (s0 s : State) (f g : LibStep) (hf : Kept s0 (f s)) (hg : ∀ t, t.rest = s0.rest → Kept s0 (g t)) : Kept s0 (LibStep.then_ f g s) := kept_bind _ _ _ hf hg
@[simp] theorem kept_when (s0 s : State) (c : Bool) (f : LibStep) (h : s.rest = s0.rest) (hf : Kept s0 (f s)) : Kept s0 (LibStep.when c f s) := by
  unfold LibStep.when; split
  · exact hf
  · exact kept_some _ _ h
@[simp] theorem kept_all {α : Type} (s0 : State) (l : List α) (f : α → LibStep) (hf : ∀ x t, t.rest = s0.rest → Kept s0 (f x t)) (s : State) (h : s.rest = s0.rest) : Kept s0 (LibStep.all l f s) := by
  have key : ∀ (l : List α) (o : Option State), Kept s0 o → Kept s0 (l.foldl (fun o x => o.bind (f x)) o) := by
    intro l
    induction l with
    | nil => intro o ho; exact ho
    | cons x l ih => intro o ho; exact ih _ (kept_bind _ _ _ ho (hf x))
  exact key l _ (kept_some _ _ h)
@[simp] theorem libStore_kept (n o : Nat) (v : Word) (s0 s : State) (h : s.rest = s0.rest) : Kept s0 (libStore n o v s) :=
  fun t ht => (shStore_rest _ _ _ _ _ t ht).trans h

@[simp] theorem libGate_kept (n : Nat) (op : GateOp) (s0 s : State) (h : s.rest = s0.rest) : Kept s0 (libGate n op s) :=
  fun t ht => (gated_rest _ _ _ t ht).trans ((forN_rest _ _ _ (fun _ _ => gateIssue_rest _ _)).trans h)

@[simp] theorem setBlk_rest (n d : Nat) (b : LibDesc) (s : State) : (setBlk n d b s).rest = s.rest := by
  unfold setBlk; simp

@[simp] theorem countEntry_rest (n st : Nat) (call horn : Bool) (s : State) : (countEntry n st call horn s).rest = s.rest := by
  unfold countEntry; simp

@[simp] theorem storeEntry_kept (n id prio st : Nat) (v : Word) (r : LibRec) (s0 s : State) (h : s.rest = s0.rest) : Kept s0 (storeEntry n id prio st v r s) := by
  unfold storeEntry; (try simp only []); (repeat' (first | with_reducible refine kept_then _ _ _ _ ?_ (fun _ _ => ?_) | split)) <;> (try simp only []) <;> (repeat' split) <;> (simp [*]; done)

@[simp] theorem setAlarm_kept (n d : Nat) (dw : List Word) (r : LibRec) (st : Nat) (s0 s : State) (h : s.rest = s0.rest) : Kept s0 (setAlarm n d dw r st s) := by
  unfold setAlarm; (try simp only []); (repeat' (first | with_reducible refine kept_then _ _ _ _ ?_ (fun _ _ => ?_) | with_reducible refine kept_when _ _ _ _ ?_ ?_ | split)) <;> (try simp only []) <;> (repeat' split) <;> (simp [*]; done)

@[simp] theorem libNext_kept (n d : Nat) (dw : List Word) (r : LibRec) (s0 s : State) (h : s.rest = s0.rest) : Kept s0 (libNext n d dw r s) := by
  unfold libNext; simp (contextual := true) [h]; done

@[simp] theorem ackAlarm_kept (n d : Nat) (dw : List Word) (r : LibRec) (s0 s : State) (h : s.rest = s0.rest) : Kept s0 (ackAlarm n d dw r s) := by
  unfold ackAlarm; (try simp only []); (repeat' split) <;> ((simp (contextual := true) [h]; done))

@[simp] theorem setDuty_rest (n : Nat) (x : LibDuty) (s : State) : (setDuty n x s).rest = s.rest := by
  unfold setDuty; simp

@[simp] theorem dutyDrive_kept (n k : Nat) (on : Bool) (s0 s : State) (h : s.rest = s0.rest) : Kept s0 (dutyDrive n k on s) := by
  unfold dutyDrive; (try simp only []); (repeat' split) <;> ((simp (contextual := true) [h]; done))

@[simp] theorem setCall_kept (n stage : Nat) (acc : Bool) (pick : Word) (s0 s : State) (h : s.rest = s0.rest) : Kept s0 (setCall n stage acc pick s) := by
  unfold setCall; (try simp only []); (repeat' (first | with_reducible refine kept_then _ _ _ _ ?_ (fun _ _ => ?_) | with_reducible refine kept_when _ _ _ _ ?_ ?_ | with_reducible refine kept_all _ _ _ (fun _ _ _ => ?_) _ ?_)) <;> (try simp only []) <;> (repeat' split) <;> (simp [*]; done)

@[simp] theorem dutyAccept_kept (n : Nat) (s0 s : State) (h : s.rest = s0.rest) : Kept s0 (dutyAccept n s) := by
  unfold dutyAccept; (try simp only []); (repeat' split) <;> ((simp (contextual := true) [h]; done))

@[simp] theorem setDead_kept (n : Nat) (isPre : Bool) (st : Nat) (r : LibRec) (s0 s : State) (h : s.rest = s0.rest) : Kept s0 (setDead n isPre st r s) := by
  unfold setDead; (try simp only []); (repeat' split) <;> ((simp (contextual := true) [h]; done))

@[simp] theorem deadClear_kept (n : Nat) (r : LibRec) (s0 s : State) (h : s.rest = s0.rest) : Kept s0 (deadClear n r s) := by
  unfold deadClear; (try simp only []); (repeat' (first | with_reducible refine kept_then _ _ _ _ ?_ (fun _ _ => ?_) | split)) <;> (try simp only []) <;> (repeat' split) <;> (simp [*]; done)

@[simp] theorem deadReset_kept (n : Nat) (pick : Word) (r : LibRec) (s0 s : State) (h : s.rest = s0.rest) : Kept s0 (deadReset n pick r s) := by
  unfold deadReset; (try simp only []); (repeat' split) <;> ((simp (contextual := true) [h]; done))

@[simp] theorem deadArm_kept (n : Nat) (on : Bool) (pick : Word) (r : LibRec) (s0 s : State) (h : s.rest = s0.rest) : Kept s0 (deadArm n on pick r s) := by
  unfold deadArm; (try simp only []); (repeat' split) <;> ((simp (contextual := true) [h]; done))

@[simp] theorem dutySilence_rest (n : Nat) (s : State) : (dutySilence n s).rest = s.rest := by
  unfold dutySilence; simp

@[simp] theorem ackMany_kept (n : Nat) (g : Option Nat) (r : LibRec) (s0 s : State) (h : s.rest = s0.rest) : Kept s0 (ackMany n g r s) := by
  unfold ackMany
  have hd : ∀ (isPre : Bool) (t : State), t.rest = s0.rest → Kept s0 (match (if isPre then (duty t n).dp else (duty t n).dm) with
      | 1 => setDead n isPre 2 r t
      | 3 => setDead n isPre 0 r t
      | _ => some t) := by
    intro isPre t ht; split <;> simp [ht]
  refine kept_then _ _ _ _ (kept_all _ _ _ ?_ _ h) ?_
  · intro d t ht; simp only; split <;> simp [ht]
  · intro t ht
    refine kept_when _ _ _ _ ht (kept_then _ _ _ _ (hd _ _ ht) (fun u hu => hd _ _ hu))

@[simp] theorem evalRate_rest (n d : Nat) (dw : List Word) (v : Word) (r : LibRec) (s : State) : (evalRate n d dw v r s).1.rest = s.rest := by
  unfold evalRate
  lift_lets
  repeat (intro x1; clear_value x1)
  (repeat' split) <;> simp [*]

@[simp] theorem evalDev_kept (n d : Nat) (dw : List Word) (v : Word) (r : LibRec)  (s0 s : State) (h : s.rest = s0.rest) : KeptP s0 (evalDev n d dw v r s) := by
  unfold evalDev; (try simp only []); (repeat' (first | with_reducible refine kept_then _ _ _ _ ?_ (fun _ _ => ?_) | with_reducible refine kept_when _ _ _ _ ?_ ?_ | with_reducible refine keptP_map _ _ _ ?_ (fun _ _ => ?_) | split)) <;> (try simp only []) <;> (repeat' split) <;> (simp [*]; done)

@[simp] theorem evalAction_kept (n d : Nat) (dw : List Word) (at_ : Bool) (r : LibRec) (s0 s : State) (h : s.rest = s0.rest) : Kept s0 (evalAction n d dw at_ r s) := by
  unfold evalAction; (try simp only []); (repeat' split) <;> ((simp (contextual := true) [h]; done))

@[simp] theorem libCond_kept (n d : Nat) (dw : List Word) (r : LibRec) (s0 s : State) (h : s.rest = s0.rest) : KeptP s0 (libCond n d dw r s) := by
  unfold libCond
  simp only
  split
  · simp [h]
  split
  · simp [h]
  split
  · simp [h]
  split
  · simp [h]
  split
  · exact keptP_map _ _ _ (evalAction_kept _ _ _ _ _ _ _ h) (fun t ht => ht)
  split
  · simp [h]
  · exact keptP_some _ _ _ ((evalRate_rest _ _ _ _ _ _).trans h)
  · simp [h]
  · simp [h]

@[simp] theorem applyRes_kept (n d : Nat) (dw : List Word) (r : LibRec) (x : LibRes) (s0 s : State) (h : s.rest = s0.rest) : Kept s0 (applyRes n d dw r x s) := by
  unfold applyRes; (try simp only []); (repeat' split) <;> ((simp (contextual := true) [h]; done))

@[simp] theorem takeBlk_kept (n d : Nat)  (s0 s : State) (h : s.rest = s0.rest) : Kept s0 (takeBlk n d s) := by
  unfold takeBlk; (try simp only []); (repeat' split) <;> ((simp (contextual := true) [h]; done))

theorem kept_match (s s' : State) (o : Option State) (f : State → State) (hf : ∀ t, (f t).rest = t.rest) (h : s'.rest = s.rest) (ho : Kept s o) : (match o with | some t => f t | none => s').rest = s.rest := by
  cases o with
  | none => exact h
  | some t => exact (hf t).trans (ho t rfl)
@[simp] theorem supOn_kept (n d : Nat) (dw : List Word) (r : LibRec) (s0 s : State) (h : s.rest = s0.rest) : Kept s0 (supOn n d dw r s) := by
  unfold supOn
  split
  · have hk : Kept s0 (takeBlk n d s) := takeBlk_kept _ _ _ _ h
    cases hc : takeBlk n d s with
    | none => simp [h]
    | some t =>
      have ht := hk t hc
      simp only
      split <;> simp [ht]
  · simp [h]

@[simp] theorem supOff_kept (n d : Nat) (dw : List Word) (r : LibRec) (s0 s : State) (h : s.rest = s0.rest) : Kept s0 (supOff n d dw r s) := by
  unfold supOff; (try simp only []); (repeat' split) <;> ((simp (contextual := true) [h]; done))

@[simp] theorem unshelve_kept (n d : Nat) (dw : List Word) (r : LibRec) (s0 s : State) (h : s.rest = s0.rest) : Kept s0 (unshelve n d dw r s) := by
  unfold unshelve; (try simp only []); (repeat' split) <;> ((simp (contextual := true) [h]; done))

@[simp] theorem delayEnd_kept (n d : Nat) (dw : List Word) (r : LibRec) (up : Option Bool) (s0 s : State) (h : s.rest = s0.rest) : Kept s0 (delayEnd n d dw r up s) := by
  unfold delayEnd; (try simp only []); (repeat' split) <;> ((simp (contextual := true) [h]; done))

@[simp] theorem shelfEnd_kept (n d : Nat) (dw : List Word) (r : LibRec) (s0 s : State) (h : s.rest = s0.rest) : Kept s0 (shelfEnd n d dw r s) := by
  unfold shelfEnd; (try simp only []); (repeat' split) <;> ((simp (contextual := true) [h]; done))

@[simp] theorem callHook_rest (n d : Nat) (left : Option Nat) (dw : List Word) (s : State) : (callHook n d left dw s).rest = s.rest := by
  unfold callHook
  lift_lets
  repeat (intro x1; clear_value x1)
  simp [*]

@[simp] theorem supOn'_kept (n d : Nat) (dw : List Word) (r : LibRec) (s0 s : State) (h : s.rest = s0.rest) : Kept s0 (evalDesc.supOn' n d dw r s) := by
  unfold evalDesc.supOn'
  simp only
  split <;> simp [h]
@[simp] theorem evalDesc_kept (n d : Nat) (left : Option Nat) (dw : List Word) (r : LibRec) (s0 s : State) (h : s.rest = s0.rest) : Kept s0 (evalDesc n d left dw r s) := by
  unfold evalDesc
  split
  · simp [h]
  · split
    · simp [h]
    · have hk : Kept s0 (takeBlk n d s) := takeBlk_kept _ _ _ _ h
      cases hc : takeBlk n d s with
      | none => simp [h]
      | some t =>
        have ht := hk t hc
        refine kept_bind _ _ _ (by simp [ht]) ?_
        intro u hu
        split
        · simp [hu]
        · refine keptP_bind _ _ _ (libCond_kept _ _ _ _ _ _ hu) ?_
          intro p hp
          refine kept_bind _ _ _ (by simp [hp]) ?_
          intro v hv; simp [hv]

@[simp] theorem libChain_kept (n : Nat) (r : LibRec) : ∀ (k d : Nat) (s0 s : State), s.rest = s0.rest → Kept s0 (libChain n r k d s) := by
  intro k
  induction k with
  | zero => intro d s0 s h; unfold libChain; split <;> simp [h]
  | succ k ih =>
    intro d s0 s h
    unfold libChain
    split
    · simp [h]
    · split
      · simp [h]
      · refine kept_bind _ _ _ ?_ ?_
        · split <;> simp [h]
        · intro t ht
          split
          · simp [ht]
          · exact ih _ _ _ ht

@[simp] theorem runChain_kept (n src : Nat) (r : LibRec) (s0 s : State) (h : s.rest = s0.rest) : Kept s0 (runChain n src r s) := by
  unfold runChain
  split
  · simp [h]
  · refine kept_bind _ _ _ ?_ ?_
    · simp [h]
    · intro t ht
      refine kept_bind _ _ _ ?_ ?_
      · simp [ht]
      · intro u hu
        split <;> simp [hu]

@[simp] theorem takePacket_rest (n q : Nat) : ∀ x0 x1 s, (takePacket n q x0 x1 s).1.rest = s.rest := by
  intro k
  induction k with
  | zero => intros; rfl
  | succ k ih =>
    intro l s
    have h := queueTake_rest q ((shuttle s n).curEval.map (fun v => (n, v.entry))) s
    unfold takePacket
    split
    · rename_i t w e; rw [e] at h
      split
      · exact h
      · exact (ih _ _).trans h
    · rename_i t e; rw [e] at h; exact h

@[simp] theorem libReturn_rest (n : Nat) (dest : Word) (s : State) : (libReturn n dest s).rest = s.rest := by
  unfold libReturn
  lift_lets
  repeat (intro x1; clear_value x1)
  simp [*]

@[simp] theorem libWorked_rest (n : Nat) (s : State) : (libWorked n s).rest = s.rest := by
  unfold libWorked; simp <;> intros <;> (repeat' split) <;> simp

@[simp] theorem evalRecord_rest (n : Nat) (r : LibRec) (s : State) : (evalRecord n r s).rest = s.rest := by
  unfold evalRecord
  split
  · simp
  · extract_lets q t src p done
    have hp : p.1.rest = s.rest := by
      simp only [p]
      (repeat' split) <;> simp [t]
    clear_value p
    refine kept_match _ _ _ _ (fun t => libWorked_rest _ _) rfl ?_
    simp only [done]
    (repeat' split) <;> simp [hp]

@[simp] theorem shelveAlarm_kept (n d secs : Nat) (dw : List Word) (r : LibRec) (s0 s : State) (h : s.rest = s0.rest) : Kept s0 (shelveAlarm n d secs dw r s) := by
  unfold shelveAlarm
  simp only
  split
  · simp [h]
  · have hk : Kept s0 (takeBlk n d s) := takeBlk_kept _ _ _ _ h
    cases hc : takeBlk n d s with
    | none => simp [h]
    | some t => have ht := hk t hc; simp [ht]

@[simp] theorem alarmCommand_kept (n op id : Nat) (arg : Word) (r : LibRec) (s0 s : State) (h : s.rest = s0.rest) : Kept s0 (alarmCommand n op id arg r s) := by
  unfold alarmCommand; (try simp only []); (repeat' split) <;> ((simp (contextual := true) [h]; done))

@[simp] theorem applyCommand_kept (n : Nat) (e arg : Word) (r : LibRec) (s0 s : State) (h : s.rest = s0.rest) : Kept s0 (applyCommand n e arg r s) := by
  unfold applyCommand; (try simp only []); (repeat' split) <;> ((simp (contextual := true) [h]; done))

@[simp] theorem libCommand_kept (n : Nat) (op : Option Nat) (r : LibRec) (s0 s : State) (h : s.rest = s0.rest) : Kept s0 (libCommand n op r s) := by
  unfold libCommand; (try simp only []); (repeat' split) <;> ((simp (contextual := true) [h]; done))

@[simp] theorem selectBank_rest (n : Nat) (s : State) : (selectBank n s).rest = s.rest := by
  unfold selectBank
  lift_lets
  repeat (intro x1; clear_value x1)
  simp [*]

@[simp] theorem libBegin_rest (n : Nat) (s : State) : (libBegin n s).rest = s.rest := by
  unfold libBegin
  lift_lets
  repeat (intro x1; first | ((have hx1 : State.rest (x1) = State.rest s := (by (simp [x1, *]; done))); clear_value x1) | clear_value x1)
  simp [*]

@[simp] theorem pickBlk_kept (n : Nat) (r : LibRec) (d : Nat) (s0 s : State) (h : s.rest = s0.rest) : Kept s0 (pickBlk n r d s) := by
  unfold pickBlk; (try simp only []); (repeat' (first | with_reducible refine kept_then _ _ _ _ ?_ (fun _ _ => ?_) | split)) <;> (try simp only []) <;> (repeat' split) <;> (simp [*]; done)

@[simp] theorem dutyCall_kept (n : Nat) (s0 s : State) (h : s.rest = s0.rest) : Kept s0 (dutyCall n s) := by
  unfold dutyCall; (try simp only []); (repeat' split) <;> ((simp (contextual := true) [h]; done))

@[simp] theorem deadPre_kept (n : Nat) (r : LibRec) (s0 s : State) (h : s.rest = s0.rest) : Kept s0 (deadPre n r s) := by
  unfold deadPre; (try simp only []); (repeat' split) <;> ((simp (contextual := true) [h]; done))

@[simp] theorem deadAlarm_kept (n : Nat) (r : LibRec) (s0 s : State) (h : s.rest = s0.rest) : Kept s0 (deadAlarm n r s) := by
  unfold deadAlarm; (try simp only []); (repeat' split) <;> ((simp (contextual := true) [h]; done))

@[simp] theorem hornWork_kept (n : Nat) (s0 s : State) (h : s.rest = s0.rest) : Kept s0 (hornWork n s) := by
  unfold hornWork; simp (contextual := true) [h]; done

@[simp] theorem dutyBytes_rest (n : Nat) (s : State) : (dutyBytes n s).rest = s.rest := by
  unfold dutyBytes; simp

@[simp] theorem dutyWork_kept (n : Nat) (r : LibRec) (s0 s : State) (h : s.rest = s0.rest) : Kept s0 (dutyWork n r s) := by
  unfold dutyWork; (try simp only []); (repeat' (first | with_reducible refine kept_then _ _ _ _ ?_ (fun _ _ => ?_) | with_reducible refine kept_when _ _ _ _ ?_ ?_)) <;> (try simp only []) <;> (repeat' split) <;> (simp [*]; done)

@[simp] theorem statusWork_kept (n : Nat) (s0 s : State) (h : s.rest = s0.rest) : Kept s0 (statusWork n s) := by
  unfold statusWork; (try simp only []); (repeat' (first | with_reducible refine kept_then _ _ _ _ ?_ (fun _ _ => ?_) | with_reducible refine kept_when _ _ _ _ ?_ ?_ | split)) <;> (try simp only []) <;> (repeat' split) <;> (simp [*]; done)

@[simp] theorem dutyEnter_kept (n : Nat) (r : LibRec) (s0 s : State) (h : s.rest = s0.rest) : Kept s0 (dutyEnter n r s) := by
  unfold dutyEnter; (try simp only []); (repeat' split) <;> ((simp (contextual := true) [h]; done))

@[simp] theorem pickFirst_kept (n : Nat) (r : LibRec) (s0 s : State) (h : s.rest = s0.rest) : Kept s0 (pickFirst n r s) := by
  unfold pickFirst; (try simp only []); (repeat' (first | with_reducible refine kept_then _ _ _ _ ?_ (fun _ _ => ?_) | with_reducible refine kept_all _ _ _ (fun _ _ _ => ?_) _ ?_)) <;> (try simp only []) <;> (repeat' split) <;> (simp [*]; done)

@[simp] theorem pickWork_rest (n : Nat) (r : LibRec) (s : State) : (pickWork n r s).rest = s.rest := by
  unfold pickWork
  simp only
  refine kept_match _ _ _ _ (fun t => libWorked_rest _ _) rfl ?_
  refine kept_bind _ _ _ ?_ ?_
  · split
    · simp
    · exact kept_bind _ _ _ (by simp) (by simp (contextual := true))
  · intro t ht; split <;> simp (contextual := true) [ht]

@[simp] theorem groupMean_rest (n tick : Nat) (s : State) : (groupMean n tick s).rest = s.rest := by
  unfold groupMean
  lift_lets
  repeat (intro x1; first | ((have hx1 : State.rest (x1) = State.rest s := (by (simp [x1, *]; done))); clear_value x1) | clear_value x1)
  simp [*]

@[simp] theorem libEnter_rest (n : Nat) (s : State) : (libEnter n s).rest = s.rest := by
  unfold libEnter; simp

@[simp] theorem libCall_rest (n k : Nat) (s : State) : (libCall n k s).rest = s.rest := by
  unfold libCall
  extract_lets r t g d after
  have ht : t.rest = s.rest := by simp [t]
  have ha : ∀ o, Kept s o → (after o).rest = s.rest := by
    intro o ho
    exact kept_match _ _ o _ (fun t => libWorked_rest _ _) rfl ho
  clear_value after t d
  split
  · simp [ht]
  · exact ha _ (by simp [ht])
  · split <;> simp [ht]
  · exact ha _ (by simp [ht])
  · exact ha _ (by simp [ht])
  · simp [ht]
  · rfl

@[simp] theorem libStep_rest (n : Nat) (ks : List Nat) (pick : Bool) (f : LibRec → State → State) (s : State) (hf : ∀ y0 s, (f y0 s).rest = s.rest) : (libStep n ks pick f s).rest = s.rest := by
  unfold libStep; (repeat' split) <;> simp [hf]

@[simp] theorem libEvaluate_rest (n : Nat) (s : State) : (libEvaluate n s).rest = s.rest := by
  unfold libEvaluate; simp

@[simp] theorem libPick_rest (n : Nat) (s : State) : (libPick n s).rest = s.rest := by
  unfold libPick; simp

@[simp] theorem libPart_rest (n : Nat) (f : LibRec → LibStep) (s : State) (hf : ∀ r t, t.rest = s.rest → Kept s (f r t)) : (libPart n f s).rest = s.rest := by
  unfold libPart
  extract_lets r
  split
  · have h := hf r (libBegin n s) (libBegin_rest _ _)
    cases hc : f r (libBegin n s) with
    | none => rfl
    | some t => exact h t hc
  · rfl

@[simp] theorem execLibraryEvaluateRecord_keptO (n : Fin 16) (s : State) : KeptO s (execLibraryEvaluateRecord n s) := by
  unfold execLibraryEvaluateRecord; simp

@[simp] theorem execLibraryPickWork_keptO (n : Fin 16) (s : State) : KeptO s (execLibraryPickWork n s) := by
  unfold execLibraryPickWork; simp

@[simp] theorem blkPart_rest (n d : Nat) (f : List Word → LibRec → LibStep) (s : State) (hf : ∀ dw r t, t.rest = s.rest → Kept s (f dw r t)) : (blkPart n d f s).rest = s.rest := by
  unfold blkPart
  refine libPart_rest _ _ _ ?_
  intro r t ht; simp [ht, hf]

@[simp] theorem execOnDelayExpiry_keptO (n : Fin 16) (d : BitVec 12) (s : State) : KeptO s (execOnDelayExpiry n d s) := by
  unfold execOnDelayExpiry; (repeat' split) <;> simp_all

@[simp] theorem execOffDelayExpiry_keptO (n : Fin 16) (d : BitVec 12) (s : State) : KeptO s (execOffDelayExpiry n d s) := by
  unfold execOffDelayExpiry; (repeat' split) <;> simp_all

@[simp] theorem execSuppressionHoldExpiry_keptO (n : Fin 16) (d : BitVec 12) (s : State) : KeptO s (execSuppressionHoldExpiry n d s) := by
  unfold execSuppressionHoldExpiry; (repeat' split) <;> simp_all

@[simp] theorem execShelvingExpiry_keptO (n : Fin 16) (d : BitVec 12) (s : State) : KeptO s (execShelvingExpiry n d s) := by
  unfold execShelvingExpiry; (repeat' split) <;> simp_all

@[simp] theorem execAck_keptO (n : Fin 16) (s : State) : KeptO s (execAck n s) := by
  unfold execAck; (repeat' split) <;> simp_all

@[simp] theorem execAckgrp_keptO (n : Fin 16) (s : State) : KeptO s (execAckgrp n s) := by
  unfold execAckgrp; (repeat' split) <;> simp_all

@[simp] theorem execAckall_keptO (n : Fin 16) (s : State) : KeptO s (execAckall n s) := by
  unfold execAckall; (repeat' split) <;> simp_all

@[simp] theorem execSilence_keptO (n : Fin 16) (s : State) : KeptO s (execSilence n s) := by
  unfold execSilence; (repeat' split) <;> simp_all

@[simp] theorem execShelve_keptO (n : Fin 16) (s : State) : KeptO s (execShelve n s) := by
  unfold execShelve; (repeat' split) <;> simp_all

@[simp] theorem execUnshelve_keptO (n : Fin 16) (s : State) : KeptO s (execUnshelve n s) := by
  unfold execUnshelve; (repeat' split) <;> simp_all

@[simp] theorem execDutyaccept_keptO (n : Fin 16) (s : State) : KeptO s (execDutyaccept n s) := by
  unfold execDutyaccept; (repeat' split) <;> simp_all

@[simp] theorem execDmreset_keptO (n : Fin 16) (s : State) : KeptO s (execDmreset n s) := by
  unfold execDmreset; (repeat' split) <;> simp_all

@[simp] theorem execDmarm_keptO (n : Fin 16) (s : State) : KeptO s (execDmarm n s) := by
  unfold execDmarm; (repeat' split) <;> simp_all

@[simp] theorem execDutyCallEscalation_keptO (n : Fin 16) (s : State) : KeptO s (execDutyCallEscalation n s) := by
  unfold execDutyCallEscalation
  refine (keptO_next _ _).2 (libPart_rest _ _ _ ?_)
  intro r t ht
  exact kept_when _ _ _ _ ht (by simp [ht])

@[simp] theorem execDeadmanPrewarning_keptO (n : Fin 16) (s : State) : KeptO s (execDeadmanPrewarning n s) := by
  unfold execDeadmanPrewarning
  refine (keptO_next _ _).2 (libPart_rest _ _ _ ?_)
  intro r t ht
  exact kept_when _ _ _ _ ht (by simp [ht])

@[simp] theorem execDeadmanAlarm_keptO (n : Fin 16) (s : State) : KeptO s (execDeadmanAlarm n s) := by
  unfold execDeadmanAlarm
  refine (keptO_next _ _).2 (libPart_rest _ _ _ ?_)
  intro r t ht
  exact kept_when _ _ _ _ ht (by simp [ht])

end Sys2Proof.Machine
end

