-- ==== Sys2Proof/Laws/PerInstr.lean ====
section
/-! SUPPORT. One lemma per command: a command is ill formed only where the spec bounds an operand more than its type does. -/

namespace Sys2Proof.Laws

/-- Does the spec bound an operand of the command more than the operand's type does? -/
def Wf.bounded (i : Instr) : Bool :=
  match i with
  | .bandwidthWindowEnd _ _ => true
  | .extest _ _ => true
  | .nandOperationComplete _ _ => true
  | .partnerVoteReceived _ => true
  | .perfCommonEdge _ => true
  | .recoveryRead _ => true
  | .samplePreload _ _ => true
  | .selvKeepaliveReceived _ => true
  | .stateCopyReceived _ _ _ => true
  | _ => false

/-- A command that is not well formed has such an operand. -/
def Wf.Statement (i : Instr) : Prop := i.wf = false → Wf.bounded i = true

theorem Wf.registerWrite : ∀ ini addr v size, Wf.Statement (.registerWrite ini addr v size) := fun _ _ _ _ h => nomatch h
theorem Wf.rcRead : ∀ ini addr, Wf.Statement (.rcRead ini addr) := fun _ _ h => nomatch h
theorem Wf.lockSet : ∀ ini blk v, Wf.Statement (.lockSet ini blk v) := fun _ _ _ h => nomatch h
theorem Wf.sluiceRequest : ∀ src dst w, Wf.Statement (.sluiceRequest src dst w) := fun _ _ _ h => nomatch h
theorem Wf.sluiceLatch : ∀ src dst taken, Wf.Statement (.sluiceLatch src dst taken) := fun _ _ _ h => nomatch h
theorem Wf.sluiceAckSeen : ∀ src dst, Wf.Statement (.sluiceAckSeen src dst) := fun _ _ h => nomatch h
theorem Wf.sluiceAckLow : ∀ src dst, Wf.Statement (.sluiceAckLow src dst) := fun _ _ h => nomatch h
theorem Wf.agePromotion : ∀ who age, Wf.Statement (.agePromotion who age) := fun _ _ h => nomatch h
theorem Wf.handshakeTimeout : ∀ src dst, Wf.Statement (.handshakeTimeout src dst) := fun _ _ h => nomatch h
theorem Wf.islandTickRecognised : ∀ isl, Wf.Statement (.islandTickRecognised isl) := fun _ h => nomatch h
theorem Wf.hostInterrupt : Wf.Statement .hostInterrupt := fun h => nomatch h
theorem Wf.supplyGood : ∀ sup, Wf.Statement (.supplyGood sup) := fun _ h => nomatch h
theorem Wf.supplyFail : ∀ sup deep, Wf.Statement (.supplyFail sup deep) := fun _ _ h => nomatch h
theorem Wf.supplyWarning : ∀ w on, Wf.Statement (.supplyWarning w on) := fun _ _ h => nomatch h
theorem Wf.vbatLow : Wf.Statement .vbatLow := fun h => nomatch h
theorem Wf.tickSupplyChangeover : ∀ toBat, Wf.Statement (.tickSupplyChangeover toBat) := fun _ h => nomatch h
theorem Wf.tickOscillatorStop : Wf.Statement .tickOscillatorStop := fun h => nomatch h
theorem Wf.islandIdle : ∀ isl, Wf.Statement (.islandIdle isl) := fun _ h => nomatch h
theorem Wf.islandSleep : ∀ isl, Wf.Statement (.islandSleep isl) := fun _ h => nomatch h
theorem Wf.islandWake : ∀ isl, Wf.Statement (.islandWake isl) := fun _ h => nomatch h
theorem Wf.nosleepWrite : ∀ ini v, Wf.Statement (.nosleepWrite ini v) := fun _ _ h => nomatch h
theorem Wf.dieTemperatureSample : ∀ a b, Wf.Statement (.dieTemperatureSample a b) := fun _ _ h => nomatch h
theorem Wf.thermalRelease : ∀ dieB, Wf.Statement (.thermalRelease dieB) := fun _ h => nomatch h
theorem Wf.nandProgramSuspend : ∀ t, Wf.Statement (.nandProgramSuspend t) := fun _ h => nomatch h
theorem Wf.nandProgramResume : ∀ t, Wf.Statement (.nandProgramResume t) := fun _ h => nomatch h
theorem Wf.externalReset : Wf.Statement .externalReset := fun h => nomatch h
theorem Wf.softwareReset : ∀ ini v, Wf.Statement (.softwareReset ini v) := fun _ _ h => nomatch h
theorem Wf.debugReset : Wf.Statement .debugReset := fun h => nomatch h
theorem Wf.releaseStep : ∀ step, Wf.Statement (.releaseStep step) := fun _ h => nomatch h
theorem Wf.go : ∀ ini fromRom, Wf.Statement (.go ini fromRom) := fun _ _ h => nomatch h
theorem Wf.recover : ∀ ini fromRom, Wf.Statement (.recover ini fromRom) := fun _ _ h => nomatch h
theorem Wf.bootImageVerify : ∀ bad0 bad1, Wf.Statement (.bootImageVerify bad0 bad1) := fun _ _ h => nomatch h
theorem Wf.watchdogConfigWrite : ∀ ini v, Wf.Statement (.watchdogConfigWrite ini v) := fun _ _ h => nomatch h
theorem Wf.watchdogKick : ∀ ini v, Wf.Statement (.watchdogKick ini v) := fun _ _ h => nomatch h
theorem Wf.watchdogWarning : Wf.Statement .watchdogWarning := fun h => nomatch h
theorem Wf.watchdogReset : Wf.Statement .watchdogReset := fun h => nomatch h
theorem Wf.sequencerEnable : ∀ ini k expert, Wf.Statement (.sequencerEnable ini k expert) := fun _ _ _ h => nomatch h
theorem Wf.sequencerDisable : ∀ ini k expert, Wf.Statement (.sequencerDisable ini k expert) := fun _ _ _ h => nomatch h
theorem Wf.stockRound : ∀ g, Wf.Statement (.stockRound g) := fun _ h => nomatch h
theorem Wf.visitStart : ∀ g sub, Wf.Statement (.visitStart g sub) := fun _ _ h => nomatch h
theorem Wf.conversionEnd : ∀ g sub code op lim, Wf.Statement (.conversionEnd g sub code op lim) := fun _ _ _ _ _ h => nomatch h
theorem Wf.staleRecord : ∀ n sub, Wf.Statement (.staleRecord n sub) := fun _ _ h => nomatch h
theorem Wf.blankAssert : ∀ pin sub, Wf.Statement (.blankAssert pin sub) := fun _ _ h => nomatch h
theorem Wf.blankRelease : ∀ pin sub, Wf.Statement (.blankRelease pin sub) := fun _ _ h => nomatch h
theorem Wf.blankHoldExpiry : ∀ src sub, Wf.Statement (.blankHoldExpiry src sub) := fun _ _ h => nomatch h
theorem Wf.blankConfigWrite : ∀ ini r src v sub, Wf.Statement (.blankConfigWrite ini r src v sub) := fun _ _ _ _ _ h => nomatch h
theorem Wf.blankWindowWrite : ∀ ini v, Wf.Statement (.blankWindowWrite ini v) := fun _ _ h => nomatch h
theorem Wf.channelConfigWrite : ∀ ini n rng v, Wf.Statement (.channelConfigWrite ini n rng v) := fun _ _ _ _ h => nomatch h
theorem Wf.groupOdrWrite : ∀ ini g v, Wf.Statement (.groupOdrWrite ini g v) := fun _ _ _ h => nomatch h
theorem Wf.modulatorFault : ∀ g, Wf.Statement (.modulatorFault g) := fun _ h => nomatch h
theorem Wf.referenceFault : Wf.Statement .referenceFault := fun h => nomatch h
theorem Wf.loopOverload : ∀ mA limit, Wf.Statement (.loopOverload mA limit) := fun _ _ h => nomatch h
theorem Wf.calibrationVisitEnd : ∀ g sub, Wf.Statement (.calibrationVisitEnd g sub) := fun _ _ h => nomatch h
theorem Wf.calibrationRequest : ∀ n, Wf.Statement (.calibrationRequest n) := fun _ h => nomatch h
theorem Wf.rotaAgePromotion : ∀ who, Wf.Statement (.rotaAgePromotion who) := fun _ h => nomatch h
theorem Wf.caldue : ∀ n, Wf.Statement (.caldue n) := fun _ h => nomatch h
theorem Wf.stage : ∀ ini chan sub, Wf.Statement (.stage ini chan sub) := fun _ _ _ h => nomatch h
theorem Wf.stageEffect : ∀ n sub, Wf.Statement (.stageEffect n sub) := fun _ _ h => nomatch h
theorem Wf.commit : ∀ ini chan sub, Wf.Statement (.commit ini chan sub) := fun _ _ _ h => nomatch h
theorem Wf.abort : ∀ ini chan sub, Wf.Statement (.abort ini chan sub) := fun _ _ _ h => nomatch h
theorem Wf.stageTimeout : ∀ n sub, Wf.Statement (.stageTimeout n sub) := fun _ _ h => nomatch h
theorem Wf.calnow : ∀ ini chan sub, Wf.Statement (.calnow ini chan sub) := fun _ _ _ h => nomatch h
theorem Wf.impnow : ∀ ini chan sub, Wf.Statement (.impnow ini chan sub) := fun _ _ _ h => nomatch h
theorem Wf.impedanceCheckEnd : ∀ g sub ri x, Wf.Statement (.impedanceCheckEnd g sub ri x) := fun _ _ _ _ h => nomatch h
theorem Wf.impWindowClose : ∀ n sub, Wf.Statement (.impWindowClose n sub) := fun _ _ h => nomatch h
theorem Wf.vibChannelEnable : ∀ ini n v, Wf.Statement (.vibChannelEnable ini n v) := fun _ _ _ h => nomatch h
theorem Wf.vibChannelDisable : ∀ ini n v, Wf.Statement (.vibChannelDisable ini n v) := fun _ _ _ h => nomatch h
theorem Wf.vibConfigWrite : ∀ ini n bias v, Wf.Statement (.vibConfigWrite ini n bias v) := fun _ _ _ _ h => nomatch h
theorem Wf.vibSamplePeriod : ∀ n sub sample mv, Wf.Statement (.vibSamplePeriod n sub sample mv) := fun _ _ _ _ h => nomatch h
theorem Wf.vibSettleComplete : ∀ n, Wf.Statement (.vibSettleComplete n) := fun _ h => nomatch h
theorem Wf.vibFaultEntry : ∀ n, Wf.Statement (.vibFaultEntry n) := fun _ h => nomatch h
theorem Wf.vibFaultExit : ∀ n, Wf.Statement (.vibFaultExit n) := fun _ h => nomatch h
theorem Wf.segmentEnd : ∀ n, Wf.Statement (.segmentEnd n) := fun _ h => nomatch h
theorem Wf.vibPacketSend : ∀ n, Wf.Statement (.vibPacketSend n) := fun _ h => nomatch h
theorem Wf.vibStageFault : ∀ n on, Wf.Statement (.vibStageFault n on) := fun _ _ h => nomatch h
theorem Wf.vibBlankAssert : ∀ p, Wf.Statement (.vibBlankAssert p) := fun _ h => nomatch h
theorem Wf.vibBlankEnd : ∀ pin, Wf.Statement (.vibBlankEnd pin) := fun _ h => nomatch h
theorem Wf.add : ∀ e d a b, Wf.Statement (.add e d a b) := fun _ _ _ _ h => nomatch h
theorem Wf.sub : ∀ e d a b, Wf.Statement (.sub e d a b) := fun _ _ _ _ h => nomatch h
theorem Wf.and : ∀ e d a b, Wf.Statement (.and e d a b) := fun _ _ _ _ h => nomatch h
theorem Wf.or : ∀ e d a b, Wf.Statement (.or e d a b) := fun _ _ _ _ h => nomatch h
theorem Wf.xor : ∀ e d a b, Wf.Statement (.xor e d a b) := fun _ _ _ _ h => nomatch h
theorem Wf.nor : ∀ e d a b, Wf.Statement (.nor e d a b) := fun _ _ _ _ h => nomatch h
theorem Wf.sll : ∀ e d a b, Wf.Statement (.sll e d a b) := fun _ _ _ _ h => nomatch h
theorem Wf.srl : ∀ e d a b, Wf.Statement (.srl e d a b) := fun _ _ _ _ h => nomatch h
theorem Wf.sra : ∀ e d a b, Wf.Statement (.sra e d a b) := fun _ _ _ _ h => nomatch h
theorem Wf.slt : ∀ e d a b, Wf.Statement (.slt e d a b) := fun _ _ _ _ h => nomatch h
theorem Wf.sltu : ∀ e d a b, Wf.Statement (.sltu e d a b) := fun _ _ _ _ h => nomatch h
theorem Wf.min : ∀ e d a b, Wf.Statement (.min e d a b) := fun _ _ _ _ h => nomatch h
theorem Wf.max : ∀ e d a b, Wf.Statement (.max e d a b) := fun _ _ _ _ h => nomatch h
theorem Wf.mul : ∀ e d a b, Wf.Statement (.mul e d a b) := fun _ _ _ _ h => nomatch h
theorem Wf.mulh : ∀ e d a b, Wf.Statement (.mulh e d a b) := fun _ _ _ _ h => nomatch h
theorem Wf.mulhu : ∀ e d a b, Wf.Statement (.mulhu e d a b) := fun _ _ _ _ h => nomatch h
theorem Wf.div : ∀ e d a b, Wf.Statement (.div e d a b) := fun _ _ _ _ h => nomatch h
theorem Wf.divu : ∀ e d a b, Wf.Statement (.divu e d a b) := fun _ _ _ _ h => nomatch h
theorem Wf.rem : ∀ e d a b, Wf.Statement (.rem e d a b) := fun _ _ _ _ h => nomatch h
theorem Wf.remu : ∀ e d a b, Wf.Statement (.remu e d a b) := fun _ _ _ _ h => nomatch h
theorem Wf.addi : ∀ e d a imm, Wf.Statement (.addi e d a imm) := fun _ _ _ _ h => nomatch h
theorem Wf.andi : ∀ e d a imm, Wf.Statement (.andi e d a imm) := fun _ _ _ _ h => nomatch h
theorem Wf.ori : ∀ e d a imm, Wf.Statement (.ori e d a imm) := fun _ _ _ _ h => nomatch h
theorem Wf.xori : ∀ e d a imm, Wf.Statement (.xori e d a imm) := fun _ _ _ _ h => nomatch h
theorem Wf.slti : ∀ e d a imm, Wf.Statement (.slti e d a imm) := fun _ _ _ _ h => nomatch h
theorem Wf.sltiu : ∀ e d a imm, Wf.Statement (.sltiu e d a imm) := fun _ _ _ _ h => nomatch h
theorem Wf.slli : ∀ e d a n, Wf.Statement (.slli e d a n) := fun _ _ _ _ h => nomatch h
theorem Wf.srli : ∀ e d a n, Wf.Statement (.srli e d a n) := fun _ _ _ _ h => nomatch h
theorem Wf.srai : ∀ e d a n, Wf.Statement (.srai e d a n) := fun _ _ _ _ h => nomatch h
theorem Wf.lui : ∀ e d imm, Wf.Statement (.lui e d imm) := fun _ _ _ h => nomatch h
theorem Wf.lb : ∀ e d a imm ecc, Wf.Statement (.lb e d a imm ecc) := fun _ _ _ _ _ h => nomatch h
theorem Wf.lbu : ∀ e d a imm ecc, Wf.Statement (.lbu e d a imm ecc) := fun _ _ _ _ _ h => nomatch h
theorem Wf.lh : ∀ e d a imm ecc, Wf.Statement (.lh e d a imm ecc) := fun _ _ _ _ _ h => nomatch h
theorem Wf.lhu : ∀ e d a imm ecc, Wf.Statement (.lhu e d a imm ecc) := fun _ _ _ _ _ h => nomatch h
theorem Wf.lw : ∀ e d a imm ecc, Wf.Statement (.lw e d a imm ecc) := fun _ _ _ _ _ h => nomatch h
theorem Wf.sb : ∀ e a b imm, Wf.Statement (.sb e a b imm) := fun _ _ _ _ h => nomatch h
theorem Wf.sh : ∀ e a b imm, Wf.Statement (.sh e a b imm) := fun _ _ _ _ h => nomatch h
theorem Wf.sw : ∀ e a b imm, Wf.Statement (.sw e a b imm) := fun _ _ _ _ h => nomatch h
theorem Wf.beq : ∀ e a b imm, Wf.Statement (.beq e a b imm) := fun _ _ _ _ h => nomatch h
theorem Wf.bne : ∀ e a b imm, Wf.Statement (.bne e a b imm) := fun _ _ _ _ h => nomatch h
theorem Wf.blt : ∀ e a b imm, Wf.Statement (.blt e a b imm) := fun _ _ _ _ h => nomatch h
theorem Wf.bge : ∀ e a b imm, Wf.Statement (.bge e a b imm) := fun _ _ _ _ h => nomatch h
theorem Wf.bltu : ∀ e a b imm, Wf.Statement (.bltu e a b imm) := fun _ _ _ _ h => nomatch h
theorem Wf.bgeu : ∀ e a b imm, Wf.Statement (.bgeu e a b imm) := fun _ _ _ _ h => nomatch h
theorem Wf.jal : ∀ e imm, Wf.Statement (.jal e imm) := fun _ _ h => nomatch h
theorem Wf.jalr : ∀ e d a imm, Wf.Statement (.jalr e d a imm) := fun _ _ _ _ h => nomatch h
theorem Wf.cwr : ∀ e d num, Wf.Statement (.cwr e d num) := fun _ _ _ h => nomatch h
theorem Wf.cww : ∀ e d a num, Wf.Statement (.cww e d a num) := fun _ _ _ _ h => nomatch h
theorem Wf.cws : ∀ e d a num, Wf.Statement (.cws e d a num) := fun _ _ _ _ h => nomatch h
theorem Wf.cwc : ∀ e d a num, Wf.Statement (.cwc e d a num) := fun _ _ _ _ h => nomatch h
theorem Wf.ecall : ∀ e, Wf.Statement (.ecall e) := fun _ h => nomatch h
theorem Wf.ebreak : ∀ e, Wf.Statement (.ebreak e) := fun _ h => nomatch h
theorem Wf.eret : ∀ e, Wf.Statement (.eret e) := fun _ h => nomatch h
theorem Wf.wfi : ∀ e, Wf.Statement (.wfi e) := fun _ h => nomatch h
theorem Wf.fadd : ∀ e d a b, Wf.Statement (.fadd e d a b) := fun _ _ _ _ h => nomatch h
theorem Wf.fsub : ∀ e d a b, Wf.Statement (.fsub e d a b) := fun _ _ _ _ h => nomatch h
theorem Wf.fmul : ∀ e d a b, Wf.Statement (.fmul e d a b) := fun _ _ _ _ h => nomatch h
theorem Wf.fdiv : ∀ e d a b, Wf.Statement (.fdiv e d a b) := fun _ _ _ _ h => nomatch h
theorem Wf.fsqrt : ∀ e d a, Wf.Statement (.fsqrt e d a) := fun _ _ _ h => nomatch h
theorem Wf.fmin : ∀ e d a b, Wf.Statement (.fmin e d a b) := fun _ _ _ _ h => nomatch h
theorem Wf.fmax : ∀ e d a b, Wf.Statement (.fmax e d a b) := fun _ _ _ _ h => nomatch h
theorem Wf.fabs : ∀ e d a, Wf.Statement (.fabs e d a) := fun _ _ _ h => nomatch h
theorem Wf.fneg : ∀ e d a, Wf.Statement (.fneg e d a) := fun _ _ _ h => nomatch h
theorem Wf.feq : ∀ e d a b, Wf.Statement (.feq e d a b) := fun _ _ _ _ h => nomatch h
theorem Wf.flt : ∀ e d a b, Wf.Statement (.flt e d a b) := fun _ _ _ _ h => nomatch h
theorem Wf.fle : ∀ e d a b, Wf.Statement (.fle e d a b) := fun _ _ _ _ h => nomatch h
theorem Wf.fcls : ∀ e d a, Wf.Statement (.fcls e d a) := fun _ _ _ h => nomatch h
theorem Wf.fcvtsw : ∀ e d a, Wf.Statement (.fcvtsw e d a) := fun _ _ _ h => nomatch h
theorem Wf.fcvtsu : ∀ e d a, Wf.Statement (.fcvtsu e d a) := fun _ _ _ h => nomatch h
theorem Wf.fcvtws : ∀ e d a, Wf.Statement (.fcvtws e d a) := fun _ _ _ h => nomatch h
theorem Wf.fcvtwu : ∀ e d a, Wf.Statement (.fcvtwu e d a) := fun _ _ _ h => nomatch h
theorem Wf.sget : ∀ e d, Wf.Statement (.sget e d) := fun _ _ h => nomatch h
theorem Wf.spwait : ∀ e a, Wf.Statement (.spwait e a) := fun _ _ h => nomatch h
theorem Wf.ptag : ∀ e d a, Wf.Statement (.ptag e d a) := fun _ _ _ h => nomatch h
theorem Wf.qrd : ∀ e d a, Wf.Statement (.qrd e d a) := fun _ _ _ h => nomatch h
theorem Wf.qwr : ∀ e a b, Wf.Statement (.qwr e a b) := fun _ _ _ h => nomatch h
theorem Wf.qcmt : ∀ e a, Wf.Statement (.qcmt e a) := fun _ _ h => nomatch h
theorem Wf.qabt : ∀ e a, Wf.Statement (.qabt e a) := fun _ _ h => nomatch h
theorem Wf.dout : ∀ e a b, Wf.Statement (.dout e a b) := fun _ _ _ h => nomatch h
theorem Wf.hirq : ∀ e a, Wf.Statement (.hirq e a) := fun _ _ h => nomatch h
theorem Wf.hinc : ∀ e a b, Wf.Statement (.hinc e a b) := fun _ _ _ h => nomatch h
theorem Wf.xupd : ∀ e a b, Wf.Statement (.xupd e a b) := fun _ _ _ h => nomatch h
theorem Wf.srec : ∀ e a b, Wf.Statement (.srec e a b) := fun _ _ _ h => nomatch h
theorem Wf.hbin : ∀ e d a b, Wf.Statement (.hbin e d a b) := fun _ _ _ _ h => nomatch h
theorem Wf.scan : ∀ e a b, Wf.Statement (.scan e a b) := fun _ _ _ h => nomatch h
theorem Wf.scanw : ∀ e a b, Wf.Statement (.scanw e a b) := fun _ _ _ h => nomatch h
theorem Wf.sblank : ∀ e a b, Wf.Statement (.sblank e a b) := fun _ _ _ h => nomatch h
theorem Wf.tickw : ∀ e a, Wf.Statement (.tickw e a) := fun _ _ h => nomatch h
theorem Wf.postedStoreBusError : Wf.Statement .postedStoreBusError := fun h => nomatch h
theorem Wf.lockstepMismatch : Wf.Statement .lockstepMismatch := fun h => nomatch h
theorem Wf.gateQueueIssue : ∀ n, Wf.Statement (.gateQueueIssue n) := fun _ h => nomatch h
theorem Wf.start : ∀ ini n, Wf.Statement (.start ini n) := fun _ _ h => nomatch h
theorem Wf.stop : ∀ ini n, Wf.Statement (.stop ini n) := fun _ _ h => nomatch h
theorem Wf.loadlib : ∀ ini n, Wf.Statement (.loadlib ini n) := fun _ _ h => nomatch h
theorem Wf.loadlibComplete : ∀ n, Wf.Statement (.loadlibComplete n) := fun _ h => nomatch h
theorem Wf.shuttleWindowAccess : ∀ ini off v, Wf.Statement (.shuttleWindowAccess ini off v) := fun _ _ _ h => nomatch h
theorem Wf.pickEnable : ∀ ini, Wf.Statement (.pickEnable ini) := fun _ h => nomatch h
theorem Wf.pickDisable : ∀ ini, Wf.Statement (.pickDisable ini) := fun _ h => nomatch h
theorem Wf.pickConfigWrite : ∀ ini v, Wf.Statement (.pickConfigWrite ini v) := fun _ _ h => nomatch h
theorem Wf.pickBoundary : Wf.Statement .pickBoundary := fun h => nomatch h
theorem Wf.warpTickLoss : Wf.Statement .warpTickLoss := fun h => nomatch h
theorem Wf.recordAccept : ∀ src, Wf.Statement (.recordAccept src) := fun _ h => nomatch h
theorem Wf.pickReport : ∀ n, Wf.Statement (.pickReport n) := fun _ h => nomatch h
theorem Wf.publicationComplete : Wf.Statement .publicationComplete := fun h => nomatch h
theorem Wf.warpStoreApply : ∀ n, Wf.Statement (.warpStoreApply n) := fun _ h => nomatch h
theorem Wf.warpHostWrite : ∀ ini off size v, Wf.Statement (.warpHostWrite ini off size v) := fun _ _ _ _ h => nomatch h
theorem Wf.warpClearComplete : Wf.Statement .warpClearComplete := fun h => nomatch h
theorem Wf.clearanceRecord : Wf.Statement .clearanceRecord := fun h => nomatch h
theorem Wf.replacementRecord : Wf.Statement .replacementRecord := fun h => nomatch h
theorem Wf.dupAgreement : Wf.Statement .dupAgreement := fun h => nomatch h
theorem Wf.clearNotice : ∀ n, Wf.Statement (.clearNotice n) := fun _ h => nomatch h
theorem Wf.squashNotice : ∀ n, Wf.Statement (.squashNotice n) := fun _ h => nomatch h
theorem Wf.deadlineResolution : ∀ n, Wf.Statement (.deadlineResolution n) := fun _ h => nomatch h
theorem Wf.libraryEvaluateRecord : ∀ n, Wf.Statement (.libraryEvaluateRecord n) := fun _ h => nomatch h
theorem Wf.libraryPickWork : ∀ n, Wf.Statement (.libraryPickWork n) := fun _ h => nomatch h
theorem Wf.onDelayExpiry : ∀ n d, Wf.Statement (.onDelayExpiry n d) := fun _ _ h => nomatch h
theorem Wf.offDelayExpiry : ∀ n d, Wf.Statement (.offDelayExpiry n d) := fun _ _ h => nomatch h
theorem Wf.suppressionHoldExpiry : ∀ n d, Wf.Statement (.suppressionHoldExpiry n d) := fun _ _ h => nomatch h
theorem Wf.shelvingExpiry : ∀ n d, Wf.Statement (.shelvingExpiry n d) := fun _ _ h => nomatch h
theorem Wf.ack : ∀ n, Wf.Statement (.ack n) := fun _ h => nomatch h
theorem Wf.ackgrp : ∀ n, Wf.Statement (.ackgrp n) := fun _ h => nomatch h
theorem Wf.ackall : ∀ n, Wf.Statement (.ackall n) := fun _ h => nomatch h
theorem Wf.silence : ∀ n, Wf.Statement (.silence n) := fun _ h => nomatch h
theorem Wf.shelve : ∀ n, Wf.Statement (.shelve n) := fun _ h => nomatch h
theorem Wf.unshelve : ∀ n, Wf.Statement (.unshelve n) := fun _ h => nomatch h
theorem Wf.dutyaccept : ∀ n, Wf.Statement (.dutyaccept n) := fun _ h => nomatch h
theorem Wf.dmreset : ∀ n, Wf.Statement (.dmreset n) := fun _ h => nomatch h
theorem Wf.dmarm : ∀ n, Wf.Statement (.dmarm n) := fun _ h => nomatch h
theorem Wf.dutyCallEscalation : ∀ n, Wf.Statement (.dutyCallEscalation n) := fun _ h => nomatch h
theorem Wf.deadmanPrewarning : ∀ n, Wf.Statement (.deadmanPrewarning n) := fun _ h => nomatch h
theorem Wf.deadmanAlarm : ∀ n, Wf.Statement (.deadmanAlarm n) := fun _ h => nomatch h
theorem Wf.egressAccept : ∀ a, Wf.Statement (.egressAccept a) := fun _ h => nomatch h
theorem Wf.egressSend : ∀ p, Wf.Statement (.egressSend p) := fun _ h => nomatch h
theorem Wf.queueConfigWrite : ∀ ini q v, Wf.Statement (.queueConfigWrite ini q v) := fun _ _ _ h => nomatch h
theorem Wf.queueWr : ∀ ini q v, Wf.Statement (.queueWr ini q v) := fun _ _ _ h => nomatch h
theorem Wf.queueCommit : ∀ ini q, Wf.Statement (.queueCommit ini q) := fun _ _ h => nomatch h
theorem Wf.queueAbort : ∀ ini q, Wf.Statement (.queueAbort ini q) := fun _ _ h => nomatch h
theorem Wf.queueFrontendWrite : ∀ src, Wf.Statement (.queueFrontendWrite src) := fun _ h => nomatch h
theorem Wf.packetVisible : ∀ p, Wf.Statement (.packetVisible p) := fun _ h => nomatch h
theorem Wf.queueHostTake : ∀ q, Wf.Statement (.queueHostTake q) := fun _ h => nomatch h
theorem Wf.queueFlush : ∀ ini q, Wf.Statement (.queueFlush ini q) := fun _ _ h => nomatch h
theorem Wf.queueDisable : ∀ ini q, Wf.Statement (.queueDisable ini q) := fun _ _ h => nomatch h
theorem Wf.bankStatusWord : ∀ k v, Wf.Statement (.bankStatusWord k v) := fun _ _ h => nomatch h
theorem Wf.bankDown : ∀ k, Wf.Statement (.bankDown k) := fun _ h => nomatch h
theorem Wf.logicSideLoss : ∀ b, Wf.Statement (.logicSideLoss b) := fun _ h => nomatch h
theorem Wf.holdExpiry : ∀ b, Wf.Statement (.holdExpiry b) := fun _ h => nomatch h
theorem Wf.fieldSupplyRelease : ∀ v, Wf.Statement (.fieldSupplyRelease v) := fun _ h => nomatch h
theorem Wf.fieldSupplyLoss : ∀ v, Wf.Statement (.fieldSupplyLoss v) := fun _ h => nomatch h
theorem Wf.inputChange : ∀ n back sub, Wf.Statement (.inputChange n back sub) := fun _ _ _ h => nomatch h
theorem Wf.wireBreak : ∀ n sub, Wf.Statement (.wireBreak n sub) := fun _ _ h => nomatch h
theorem Wf.wireBreakEnd : ∀ n sub, Wf.Statement (.wireBreakEnd n sub) := fun _ _ h => nomatch h
theorem Wf.inputSupplyLow : ∀ k v, Wf.Statement (.inputSupplyLow k v) := fun _ _ h => nomatch h
theorem Wf.countRecord : ∀ n, Wf.Statement (.countRecord n) := fun _ h => nomatch h
theorem Wf.frequencyGateEnd : ∀ n cnt iv cyc ticks sub, Wf.Statement (.frequencyGateEnd n cnt iv cyc ticks sub) := fun _ _ _ _ _ _ h => nomatch h
theorem Wf.clrcnt : ∀ ini n, Wf.Statement (.clrcnt ini n) := fun _ _ h => nomatch h
theorem Wf.outputCommand : Wf.Statement .outputCommand := fun h => nomatch h
theorem Wf.hostOutputCommand : ∀ ini v, Wf.Statement (.hostOutputCommand ini v) := fun _ _ h => nomatch h
theorem Wf.outputSupplyWarning : ∀ b v, Wf.Statement (.outputSupplyWarning b v) := fun _ _ h => nomatch h
theorem Wf.outputUndervoltage : ∀ b v, Wf.Statement (.outputUndervoltage b v) := fun _ _ h => nomatch h
theorem Wf.outputAutoRestore : ∀ b, Wf.Statement (.outputAutoRestore b) := fun _ h => nomatch h
theorem Wf.restore : ∀ ini b, Wf.Statement (.restore ini b) := fun _ _ h => nomatch h
theorem Wf.clrlatch : ∀ ini b, Wf.Statement (.clrlatch ini b) := fun _ _ h => nomatch h
theorem Wf.outputCurrentLimit : ∀ m, Wf.Statement (.outputCurrentLimit m) := fun _ h => nomatch h
theorem Wf.outputThermalShutdown : ∀ m hot, Wf.Statement (.outputThermalShutdown m hot) := fun _ _ h => nomatch h
theorem Wf.outputRetry : ∀ m, Wf.Statement (.outputRetry m) := fun _ h => nomatch h
theorem Wf.retryCountReset : ∀ m, Wf.Statement (.retryCountReset m) := fun _ h => nomatch h
theorem Wf.foreignDrive : ∀ m, Wf.Statement (.foreignDrive m) := fun _ h => nomatch h
theorem Wf.foreignDriveEnd : ∀ m, Wf.Statement (.foreignDriveEnd m) := fun _ h => nomatch h
theorem Wf.releaseOrder : Wf.Statement .releaseOrder := fun h => nomatch h
theorem Wf.assumeOrder : Wf.Statement .assumeOrder := fun h => nomatch h
theorem Wf.firstPickMarker : Wf.Statement .firstPickMarker := fun h => nomatch h
theorem Wf.canEnable : ∀ ini k, Wf.Statement (.canEnable ini k) := fun _ _ h => nomatch h
theorem Wf.canDisable : ∀ ini k, Wf.Statement (.canDisable ini k) := fun _ _ h => nomatch h
theorem Wf.canIntegrationComplete : ∀ k, Wf.Statement (.canIntegrationComplete k) := fun _ h => nomatch h
theorem Wf.canRecover : ∀ ini k, Wf.Statement (.canRecover ini k) := fun _ _ h => nomatch h
theorem Wf.canRecoveryComplete : ∀ k, Wf.Statement (.canRecoveryComplete k) := fun _ h => nomatch h
theorem Wf.canFrameReceived : ∀ k id ide rtr fdf brs esi dlc data, Wf.Statement (.canFrameReceived k id ide rtr fdf brs esi dlc data) := fun _ _ _ _ _ _ _ _ _ h => nomatch h
theorem Wf.canRxPacketSend : ∀ k, Wf.Statement (.canRxPacketSend k) := fun _ h => nomatch h
theorem Wf.canFrameSelection : ∀ c, Wf.Statement (.canFrameSelection c) := fun _ h => nomatch h
theorem Wf.canFrameTransmitted : ∀ c, Wf.Statement (.canFrameTransmitted c) := fun _ h => nomatch h
theorem Wf.canArbitrationLost : ∀ k, Wf.Statement (.canArbitrationLost k) := fun _ h => nomatch h
theorem Wf.canBusError : ∀ k code data exc, Wf.Statement (.canBusError k code data exc) := fun _ _ _ _ h => nomatch h
theorem Wf.canTxRequest : ∀ ini k j, Wf.Statement (.canTxRequest ini k j) := fun _ _ _ h => nomatch h
theorem Wf.canTxAbort : ∀ ini k j, Wf.Statement (.canTxAbort ini k j) := fun _ _ _ h => nomatch h
theorem Wf.canAlarmItem : Wf.Statement .canAlarmItem := fun h => nomatch h
theorem Wf.canFloodItem : Wf.Statement .canFloodItem := fun h => nomatch h
theorem Wf.canAlarmFlush : ∀ ini k, Wf.Statement (.canAlarmFlush ini k) := fun _ _ h => nomatch h
theorem Wf.ethFrameReceived : ∀ p frame bad back sub, Wf.Statement (.ethFrameReceived p frame bad back sub) := fun _ _ _ _ _ h => nomatch h
theorem Wf.ethRxRelease : ∀ ini p v, Wf.Statement (.ethRxRelease ini p v) := fun _ _ _ h => nomatch h
theorem Wf.ethTxCommand : ∀ ini p v, Wf.Statement (.ethTxCommand ini p v) := fun _ _ _ h => nomatch h
theorem Wf.ethFrameTransmitted : ∀ p ok, Wf.Statement (.ethFrameTransmitted p ok) := fun _ _ h => nomatch h
theorem Wf.ptpCaptureRead : ∀ ini p, Wf.Statement (.ptpCaptureRead ini p) := fun _ _ h => nomatch h
theorem Wf.ethPortEnable : ∀ ini p, Wf.Statement (.ethPortEnable ini p) := fun _ _ h => nomatch h
theorem Wf.ethLinkUp : ∀ p fdx, Wf.Statement (.ethLinkUp p fdx) := fun _ _ h => nomatch h
theorem Wf.ethLinkDown : ∀ p, Wf.Statement (.ethLinkDown p) := fun _ h => nomatch h
theorem Wf.spiStatus : ∀ p, Wf.Statement (.spiStatus p) := fun _ h => nomatch h
theorem Wf.spiRead : ∀ a n, Wf.Statement (.spiRead a n) := fun _ _ h => nomatch h
theorem Wf.spiWrite : ∀ a data, Wf.Statement (.spiWrite a data) := fun _ _ h => nomatch h
theorem Wf.spiCsRise : Wf.Statement .spiCsRise := fun h => nomatch h
theorem Wf.uartSend : ∀ ini v, Wf.Statement (.uartSend ini v) := fun _ _ h => nomatch h
theorem Wf.uartTake : ∀ ini, Wf.Statement (.uartTake ini) := fun _ h => nomatch h
theorem Wf.uartByteReceived : ∀ b ferr, Wf.Statement (.uartByteReceived b ferr) := fun _ _ h => nomatch h
theorem Wf.bypass : Wf.Statement .bypass := fun h => nomatch h
theorem Wf.idcode : Wf.Statement .idcode := fun h => nomatch h
theorem Wf.samplePreload : ∀ lands preload, Wf.Statement (.samplePreload lands preload) := fun _ _ _ => rfl
theorem Wf.extest : ∀ lands cells, Wf.Statement (.extest lands cells) := fun _ _ _ => rfl
theorem Wf.dbgstat : Wf.Statement .dbgstat := fun h => nomatch h
theorem Wf.dbgacc : ∀ op, Wf.Statement (.dbgacc op) := fun _ h => nomatch h
theorem Wf.debugHalt : ∀ e, Wf.Statement (.debugHalt e) := fun _ h => nomatch h
theorem Wf.debugStep : ∀ e, Wf.Statement (.debugStep e) := fun _ h => nomatch h
theorem Wf.debugResume : ∀ e, Wf.Statement (.debugResume e) := fun _ h => nomatch h
theorem Wf.debugArm : ∀ e, Wf.Statement (.debugArm e) := fun _ h => nomatch h
theorem Wf.debugExpertRequest : Wf.Statement .debugExpertRequest := fun h => nomatch h
theorem Wf.tickEdge : Wf.Statement .tickEdge := fun h => nomatch h
theorem Wf.loadcnt : ∀ ini, Wf.Statement (.loadcnt ini) := fun _ h => nomatch h
theorem Wf.loadcal : ∀ ini, Wf.Statement (.loadcal ini) := fun _ h => nomatch h
theorem Wf.cap0 : ∀ ini, Wf.Statement (.cap0 ini) := fun _ h => nomatch h
theorem Wf.haltSet : ∀ ini, Wf.Statement (.haltSet ini) := fun _ h => nomatch h
theorem Wf.haltClear : ∀ ini, Wf.Statement (.haltClear ini) := fun _ h => nomatch h
theorem Wf.trimWrite : ∀ ini v, Wf.Statement (.trimWrite ini v) := fun _ _ h => nomatch h
theorem Wf.tickAlarmArm : ∀ ini n v, Wf.Statement (.tickAlarmArm ini n v) := fun _ _ _ h => nomatch h
theorem Wf.tickAlarmFire : ∀ n, Wf.Statement (.tickAlarmFire n) := fun _ h => nomatch h
theorem Wf.mainsrefEdge : Wf.Statement .mainsrefEdge := fun h => nomatch h
theorem Wf.mainsrefLoss : Wf.Statement .mainsrefLoss := fun h => nomatch h
theorem Wf.oscDetectorTimeout : Wf.Statement .oscDetectorTimeout := fun h => nomatch h
theorem Wf.sysTickLoss : Wf.Statement .sysTickLoss := fun h => nomatch h
theorem Wf.osfClear : ∀ ini, Wf.Statement (.osfClear ini) := fun _ h => nomatch h
theorem Wf.recorderStateChange : Wf.Statement .recorderStateChange := fun h => nomatch h
theorem Wf.recorderHistIncrement : Wf.Statement .recorderHistIncrement := fun h => nomatch h
theorem Wf.recorderExtremeOffer : Wf.Statement .recorderExtremeOffer := fun h => nomatch h
theorem Wf.recorderFlood : Wf.Statement .recorderFlood := fun h => nomatch h
theorem Wf.seriesEnable : ∀ ini extreme k v, Wf.Statement (.seriesEnable ini extreme k v) := fun _ _ _ _ h => nomatch h
theorem Wf.seriesDisable : ∀ ini extreme k v, Wf.Statement (.seriesDisable ini extreme k v) := fun _ _ _ _ h => nomatch h
theorem Wf.periodClose : ∀ n, Wf.Statement (.periodClose n) := fun _ h => nomatch h
theorem Wf.recClose : ∀ ini n, Wf.Statement (.recClose ini n) := fun _ _ h => nomatch h
theorem Wf.seriesCopy : ∀ n, Wf.Statement (.seriesCopy n) := fun _ h => nomatch h
theorem Wf.calload : ∀ ini, Wf.Statement (.calload ini) := fun _ h => nomatch h
theorem Wf.cursorLoad : ∀ ini v, Wf.Statement (.cursorLoad ini v) := fun _ _ h => nomatch h
theorem Wf.recNext : ∀ ini, Wf.Statement (.recNext ini) := fun _ h => nomatch h
theorem Wf.cursorLoadComplete : Wf.Statement .cursorLoadComplete := fun h => nomatch h
theorem Wf.recWindowRead : ∀ ini k, Wf.Statement (.recWindowRead ini k) := fun _ _ h => nomatch h
theorem Wf.recFlush : ∀ ini, Wf.Statement (.recFlush ini) := fun _ h => nomatch h
theorem Wf.flushTimeout : Wf.Statement .flushTimeout := fun h => nomatch h
theorem Wf.nandOperationGrant : Wf.Statement .nandOperationGrant := fun h => nomatch h
theorem Wf.nandOperationComplete : ∀ fail ecc, Wf.Statement (.nandOperationComplete fail ecc) := fun _ _ _ => rfl
theorem Wf.nandRead : ∀ ini part, Wf.Statement (.nandRead ini part) := fun _ _ h => nomatch h
theorem Wf.nandProgram : ∀ ini part, Wf.Statement (.nandProgram ini part) := fun _ _ h => nomatch h
theorem Wf.nandErase : ∀ ini part, Wf.Statement (.nandErase ini part) := fun _ _ h => nomatch h
theorem Wf.storeLogLocated : Wf.Statement .storeLogLocated := fun h => nomatch h
theorem Wf.lcdEnable : ∀ ini, Wf.Statement (.lcdEnable ini) := fun _ h => nomatch h
theorem Wf.lcdPumpReady : ∀ v, Wf.Statement (.lcdPumpReady v) := fun _ h => nomatch h
theorem Wf.lcdDisable : ∀ ini, Wf.Statement (.lcdDisable ini) := fun _ h => nomatch h
theorem Wf.lcdFrameEnd : ∀ v, Wf.Statement (.lcdFrameEnd v) := fun _ h => nomatch h
theorem Wf.pumpretry : ∀ ini, Wf.Statement (.pumpretry ini) := fun _ h => nomatch h
theorem Wf.dieTemperatureWord : ∀ t, Wf.Statement (.dieTemperatureWord t) := fun _ h => nomatch h
theorem Wf.annunciatorTargetWrite : ∀ ini hi v, Wf.Statement (.annunciatorTargetWrite ini hi v) := fun _ _ _ h => nomatch h
theorem Wf.mainUpdateStart : Wf.Statement .mainUpdateStart := fun h => nomatch h
theorem Wf.update : ∀ ini, Wf.Statement (.update ini) := fun _ h => nomatch h
theorem Wf.markerAcknowledged : Wf.Statement .markerAcknowledged := fun h => nomatch h
theorem Wf.updateEnd : ∀ reeve, Wf.Statement (.updateEnd reeve) := fun _ h => nomatch h
theorem Wf.clear : ∀ ini, Wf.Statement (.clear ini) := fun _ h => nomatch h
theorem Wf.clearingRefreshEnd : Wf.Statement .clearingRefreshEnd := fun h => nomatch h
theorem Wf.glyphItem : Wf.Statement .glyphItem := fun h => nomatch h
theorem Wf.dispFloodItem : Wf.Statement .dispFloodItem := fun h => nomatch h
theorem Wf.floodHoldExpiry : Wf.Statement .floodHoldExpiry := fun h => nomatch h
theorem Wf.reeveSegmentWord : Wf.Statement .reeveSegmentWord := fun h => nomatch h
theorem Wf.polderRelease : Wf.Statement .polderRelease := fun h => nomatch h
theorem Wf.polderPowerFailWarning : ∀ cyc, Wf.Statement (.polderPowerFailWarning cyc) := fun _ h => nomatch h
theorem Wf.polderReset : Wf.Statement .polderReset := fun h => nomatch h
theorem Wf.polderPulse : ∀ inp rev cyc, Wf.Statement (.polderPulse inp rev cyc) := fun _ _ _ h => nomatch h
theorem Wf.polderCycle : ∀ cur, Wf.Statement (.polderCycle cur) := fun _ h => nomatch h
theorem Wf.polderDailyRecord : Wf.Statement .polderDailyRecord := fun h => nomatch h
theorem Wf.polderInputFault : ∀ inp cyc, Wf.Statement (.polderInputFault inp cyc) := fun _ _ h => nomatch h
theorem Wf.sealChange : ∀ unsealed cyc, Wf.Statement (.sealChange unsealed cyc) := fun _ _ h => nomatch h
theorem Wf.ident : ∀ ini lost, Wf.Statement (.ident ini lost) := fun _ _ h => nomatch h
theorem Wf.pubkey : ∀ ini lost, Wf.Statement (.pubkey ini lost) := fun _ _ h => nomatch h
theorem Wf.txstart : ∀ ini arg lost, Wf.Statement (.txstart ini arg lost) := fun _ _ _ h => nomatch h
theorem Wf.txstop : ∀ ini arg lost, Wf.Statement (.txstop ini arg lost) := fun _ _ _ h => nomatch h
theorem Wf.logread : ∀ ini arg lost, Wf.Statement (.logread ini arg lost) := fun _ _ _ h => nomatch h
theorem Wf.parread : ∀ ini idx lost, Wf.Statement (.parread ini idx lost) := fun _ _ _ h => nomatch h
theorem Wf.parwrite : ∀ ini idx lost, Wf.Statement (.parwrite ini idx lost) := fun _ _ _ h => nomatch h
theorem Wf.parcommit : ∀ ini lost, Wf.Statement (.parcommit ini lost) := fun _ _ h => nomatch h
theorem Wf.pardiscard : ∀ ini lost, Wf.Statement (.pardiscard ini lost) := fun _ _ h => nomatch h
theorem Wf.polderResponse : ∀ bad, Wf.Statement (.polderResponse bad) := fun _ h => nomatch h
theorem Wf.polderNoresp : Wf.Statement .polderNoresp := fun h => nomatch h
theorem Wf.polderTimeRequest : ∀ bad, Wf.Statement (.polderTimeRequest bad) := fun _ h => nomatch h
theorem Wf.polderTimeResponse : ∀ bad cyc, Wf.Statement (.polderTimeResponse bad cyc) := fun _ _ h => nomatch h
theorem Wf.polderLinkWord : ∀ bad, Wf.Statement (.polderLinkWord bad) := fun _ h => nomatch h
theorem Wf.polderLinkDown : Wf.Statement .polderLinkDown := fun h => nomatch h
theorem Wf.polderSnapshotRequest : ∀ bad, Wf.Statement (.polderSnapshotRequest bad) := fun _ h => nomatch h
theorem Wf.polderResultRecord : ∀ bad, Wf.Statement (.polderResultRecord bad) := fun _ h => nomatch h
theorem Wf.selvLaneUp : ∀ lane, Wf.Statement (.selvLaneUp lane) := fun _ h => nomatch h
theorem Wf.selvLaneDown : ∀ lane, Wf.Statement (.selvLaneDown lane) := fun _ h => nomatch h
theorem Wf.selvEnable : ∀ ini, Wf.Statement (.selvEnable ini) := fun _ h => nomatch h
theorem Wf.selvDisable : ∀ ini, Wf.Statement (.selvDisable ini) := fun _ h => nomatch h
theorem Wf.selvKeepaliveSend : Wf.Statement .selvKeepaliveSend := fun h => nomatch h
theorem Wf.selvKeepaliveReceived : ∀ k, Wf.Statement (.selvKeepaliveReceived k) := fun _ _ => rfl
theorem Wf.selvPairTimeout : Wf.Statement .selvPairTimeout := fun h => nomatch h
theorem Wf.selvLoneStart : ∀ rolei, Wf.Statement (.selvLoneStart rolei) := fun _ h => nomatch h
theorem Wf.selvHeartbeatSend : ∀ rolei, Wf.Statement (.selvHeartbeatSend rolei) := fun _ h => nomatch h
theorem Wf.takeoverCopyComplete : Wf.Statement .takeoverCopyComplete := fun h => nomatch h
theorem Wf.selvHeartbeatReceived : ∀ h, Wf.Statement (.selvHeartbeatReceived h) := fun _ h => nomatch h
theorem Wf.stateCopyRequest : Wf.Statement .stateCopyRequest := fun h => nomatch h
theorem Wf.stateCopySent : Wf.Statement .stateCopySent := fun h => nomatch h
theorem Wf.stateCopyReceived : ∀ hdr data good, Wf.Statement (.stateCopyReceived hdr data good) := fun _ _ _ _ => rfl
theorem Wf.switch : ∀ ini, Wf.Statement (.switch ini) := fun _ h => nomatch h
theorem Wf.partnerVoteReceived : ∀ v, Wf.Statement (.partnerVoteReceived v) := fun _ _ => rfl
theorem Wf.voteExpiry : Wf.Statement .voteExpiry := fun h => nomatch h
theorem Wf.reevePowerUp : Wf.Statement .reevePowerUp := fun h => nomatch h
theorem Wf.reeveSupplyLoss : Wf.Statement .reeveSupplyLoss := fun h => nomatch h
theorem Wf.reeveTrigger : Wf.Statement .reeveTrigger := fun h => nomatch h
theorem Wf.arm : ∀ ini, Wf.Statement (.arm ini) := fun _ h => nomatch h
theorem Wf.disarm : ∀ ini, Wf.Statement (.disarm ini) := fun _ h => nomatch h
theorem Wf.engage : ∀ ini, Wf.Statement (.engage ini) := fun _ h => nomatch h
theorem Wf.resume : ∀ ini, Wf.Statement (.resume ini) := fun _ h => nomatch h
theorem Wf.ackh : ∀ ini, Wf.Statement (.ackh ini) := fun _ h => nomatch h
theorem Wf.apply : ∀ ini, Wf.Statement (.apply ini) := fun _ h => nomatch h
theorem Wf.reeveConfigWrite : ∀ ini reg v, Wf.Statement (.reeveConfigWrite ini reg v) := fun _ _ _ h => nomatch h
theorem Wf.reeveChannelCode : Wf.Statement .reeveChannelCode := fun h => nomatch h
theorem Wf.reeveInputWord : Wf.Statement .reeveInputWord := fun h => nomatch h
theorem Wf.reeveInputDelayExpiry : ∀ m, Wf.Statement (.reeveInputDelayExpiry m) := fun _ h => nomatch h
theorem Wf.reeveSourceStale : ∀ n, Wf.Statement (.reeveSourceStale n) := fun _ h => nomatch h
theorem Wf.reeveInputStale : ∀ m, Wf.Statement (.reeveInputStale m) := fun _ h => nomatch h
theorem Wf.reeveMarker : Wf.Statement .reeveMarker := fun h => nomatch h
theorem Wf.perfCounterSelect : ∀ ini k v, Wf.Statement (.perfCounterSelect ini k v) := fun _ _ _ h => nomatch h
theorem Wf.perfCounterWrap : ∀ k pc, Wf.Statement (.perfCounterWrap k pc) := fun _ _ h => nomatch h
theorem Wf.freeze : ∀ ini, Wf.Statement (.freeze ini) := fun _ h => nomatch h
theorem Wf.snap : ∀ ini, Wf.Statement (.snap ini) := fun _ h => nomatch h
theorem Wf.unfreeze : ∀ ini, Wf.Statement (.unfreeze ini) := fun _ h => nomatch h
theorem Wf.perfCommonEdge : ∀ counts, Wf.Statement (.perfCommonEdge counts) := fun _ _ => rfl
theorem Wf.perfGatherComplete : Wf.Statement .perfGatherComplete := fun h => nomatch h
theorem Wf.perfValueWrite : ∀ ini k v, Wf.Statement (.perfValueWrite ini k v) := fun _ _ _ h => nomatch h
theorem Wf.bandwidthWindowEnd : ∀ words stalls, Wf.Statement (.bandwidthWindowEnd words stalls) := fun _ _ _ => rfl
theorem Wf.keyprog : ∀ ini arg, Wf.Statement (.keyprog ini arg) := fun _ _ h => nomatch h
theorem Wf.keyrevoke : ∀ ini arg, Wf.Statement (.keyrevoke ini arg) := fun _ _ h => nomatch h
theorem Wf.advance : ∀ ini, Wf.Statement (.advance ini) := fun _ h => nomatch h
theorem Wf.minver : ∀ ini arg, Wf.Statement (.minver ini arg) := fun _ _ h => nomatch h
theorem Wf.ksprog : ∀ ini arg, Wf.Statement (.ksprog ini arg) := fun _ _ h => nomatch h
theorem Wf.custody : ∀ ini arg, Wf.Statement (.custody ini arg) := fun _ _ h => nomatch h
theorem Wf.lifeCommandComplete : ∀ fuseOk, Wf.Statement (.lifeCommandComplete fuseOk) := fun _ h => nomatch h
theorem Wf.customerKeyRead : ∀ ini k, Wf.Statement (.customerKeyRead ini k) := fun _ _ h => nomatch h
theorem Wf.recoveryStatus : Wf.Statement .recoveryStatus := fun h => nomatch h
theorem Wf.recoveryKeyprog : ∀ fuseOk, Wf.Statement (.recoveryKeyprog fuseOk) := fun _ h => nomatch h
theorem Wf.recoveryAdvance : ∀ fuseOk, Wf.Statement (.recoveryAdvance fuseOk) := fun _ h => nomatch h
theorem Wf.erasecopy : ∀ fail, Wf.Statement (.erasecopy fail) := fun _ h => nomatch h
theorem Wf.recoveryWrite : ∀ fail, Wf.Statement (.recoveryWrite fail) := fun _ h => nomatch h
theorem Wf.recoveryRead : ∀ ecc, Wf.Statement (.recoveryRead ecc) := fun _ _ => rfl
theorem Wf.recoveryPolder : ∀ lost, Wf.Statement (.recoveryPolder lost) := fun _ h => nomatch h
theorem Wf.recoveryReset : Wf.Statement .recoveryReset := fun h => nomatch h
theorem Wf.ethPortDisable : ∀ ini p, Wf.Statement (.ethPortDisable ini p) := fun _ _ h => nomatch h
theorem Wf.spiTransactionError : ∀ op a, Wf.Statement (.spiTransactionError op a) := fun _ _ h => nomatch h
theorem Wf.modulatorFaultEnd : ∀ g, Wf.Statement (.modulatorFaultEnd g) := fun _ h => nomatch h
theorem Wf.referenceFaultEnd : Wf.Statement .referenceFaultEnd := fun h => nomatch h
theorem Wf.wireBreakSuppressionEnd : ∀ k v, Wf.Statement (.wireBreakSuppressionEnd k v) := fun _ _ h => nomatch h
theorem Wf.polderInputFaultEnd : ∀ inp, Wf.Statement (.polderInputFaultEnd inp) := fun _ h => nomatch h
theorem Wf.logwarn : ∀ bad, Wf.Statement (.logwarn bad) := fun _ h => nomatch h
theorem Wf.cdupWrite : ∀ ini on, Wf.Statement (.cdupWrite ini on) := fun _ _ h => nomatch h

end Sys2Proof.Laws
end

