-- ==== Sys2Proof/Tests/Slice0.lean ====
section
/-! SUPPORT. Small tests of the model against the manual's own tables and worked examples, and witnesses: for each statement with
hypotheses, states and operands that meet them together. -/

set_option maxRecDepth 20000

namespace Sys2Proof.Machine

/-- Every island runs, with the main supplies good. -/
def upSt : State :=
  { regs := [(SYS_SUPSTAT, 5)], sys := { power := (List.range 27).map (fun i => (i, .run)) } }

/-- Shuttle 3 runs. -/
def upSh : State := fset upSt (LOOM_SHSTAT_STATE 3) 1

/-- Sequencer 1 runs in the expert mode. -/
def upSeq : State := setF (setF upSt (AFE_SCANCTL_EN 1)) (AFE_SCANCTL_MODE 1)

end Sys2Proof.Machine

open Sys2Proof Sys2Proof.Machine

/-! ### Ill-formed operands are refused, one for each check -/

theorem test_wf_sector0 : Instr.wf (.nandOperationComplete true ⟨8705, 0, 0, 0⟩) = false := by decide
theorem test_wf_sector1 : Instr.wf (.nandOperationComplete true ⟨0, 8705, 0, 0⟩) = false := by decide
theorem test_wf_sector2 : Instr.wf (.recoveryRead ⟨0, 0, 8705, 0⟩) = false := by decide
theorem test_wf_sector3 : Instr.wf (.recoveryRead ⟨0, 0, 0, 8705⟩) = false := by decide
theorem test_wf_sector_top : Instr.wf (.recoveryRead ⟨8704, 8704, 8704, 8704⟩) = true := by decide
theorem test_wf_keepalive_unit : Instr.wf (.selvKeepaliveReceived ⟨2, .active, 0, 1000, false, false⟩) = false := by decide
theorem test_wf_keepalive_low : Instr.wf (.selvKeepaliveReceived ⟨1, .active, 0, 249, false, false⟩) = false := by decide
theorem test_wf_keepalive_high : Instr.wf (.selvKeepaliveReceived ⟨1, .active, 0, 10001, false, false⟩) = false := by decide
theorem test_wf_keepalive_ok : Instr.wf (.selvKeepaliveReceived ⟨1, .active, 0, 250, false, false⟩) = true := by decide
theorem test_wf_copy_len : Instr.wf (.stateCopyReceived ⟨0, 0, 0, 1, 0⟩ [0] true) = false := by decide
theorem test_wf_copy_long (data : List Byte) : CopyHdr.wf ⟨0, 0, 0, 257, 0⟩ data = false := by simp [CopyHdr.wf]
theorem test_wf_copy_outputs : Instr.wf (.stateCopyReceived ⟨0, 0, 0, 0, 16777216⟩ [] true) = false := by decide
theorem test_wf_vote_src : Instr.wf (.partnerVoteReceived ⟨112, 0, 0, 0, 0, 0⟩) = false := by decide
theorem test_wf_vote_qual : Instr.wf (.partnerVoteReceived ⟨0, 0, 16, 0, 0, 0⟩) = false := by decide
theorem test_wf_vote_kind : Instr.wf (.partnerVoteReceived ⟨0, 0, 0, 4, 0, 0⟩) = false := by decide
theorem test_wf_perf : Instr.wf (.perfCommonEdge [1]) = false := by decide
theorem test_wf_band : Instr.wf (.bandwidthWindowEnd (List.replicate 8 1) []) = false := by decide
theorem test_wf_band_words : Instr.wf (.bandwidthWindowEnd [] (List.replicate 8 1)) = false := by decide
theorem test_wf_preload : Instr.wf (.samplePreload [] [true]) = false := by decide
theorem test_wf_extest : Instr.wf (.extest [true] []) = false := by decide

/-! ### Worked values of the manual -/

/-- The words of the shuttle loop on MV Sandberm (Frambeth instruction set): lw, flt, beq, dout, srec, jal. -/
theorem test_loop_words :
    encI 0x14 10 20 16 = 0x0010A294#32 ∧ encR 0x38 0x011 9 10 4 = 0x02245278#32 ∧ encS 0x20 9 0 3 = 0x000048E0#32 ∧
      encJ 0x28 0x3FFFFFA = 0xFFFFFEA8#32 := by decide

/-- The same words read as the manual's instructions in a shuttle, and the word of a sequencer's instruction reads as none there. -/
theorem test_loop_reads :
    decodeFrambeth (.shuttle 0) 0x0010A294 = some (.lw (.shuttle 0) 10 20 16 .clean) ∧
      decodeFrambeth (.shuttle 0) 0x02245278 = some (.flt (.shuttle 0) 9 10 4) ∧
      decodeFrambeth (.shuttle 0) 0x000048E0 = some (.beq (.shuttle 0) 9 0 3) ∧
      decodeFrambeth (.shuttle 0) 0xFFFFFEA8 = some (.jal (.shuttle 0) 0x3FFFFFA) ∧ decodeFrambeth (.shuttle 0) 0x0000003E = none := by decide

/-- The current-loop signal of A16's first sample, 2.601 mV/V in range 7, is 2.600952 bar (Live calibration, worked example). -/
theorem test_a16_value :
    let S : List Word := (List.range 64).map (fun i => if i = 0 then wOfRat 5 2 else if i = 3 then wOfRat 5 2 else if i = 6 then wOfRat 1 80
      else if i = 1 then wOfRat 1 250 else if i = 4 then wOfRat (-3) 500 else if i = 15 then wOfRat 5 2 else if i = 16 then wOfRat 5 2
      else if i = 17 then wOfRat 40 1 else if i = 18 then wOfRat 60 1 else if i = 46 then wOfRat 412 1000000
      else if i = 47 then wOfRat 1000012 1000000 else 0)
    let y := fpRat f32 (linearise S 6 0 7 5585604 (wOfRat 45 1) 0 0).toNat
    decide ((y.1 * 1000000 - 2600952 * y.2).natAbs ≤ y.2) = true := by decide

/-- The two leap-year rules of R386 that the centuries in the calendar's range bring, and the roll of the year at 2271 (R385). -/
theorem test_calendar :
    daysIn 2 0 = 29 ∧ daysIn 2 100 = 28 ∧ daysIn 2 4 = 29 ∧
      nextSecond ⟨59, 59, 23, 31, 12, 271, 7⟩ = (⟨0, 0, 0, 1, 1, 0, 1⟩, true) := by decide

/-- The effective level of R33: one better at the limit, zero at twice the limit, zero at once with a limit of zero. -/
theorem test_levels : effLevel 2 256 255 = 2 ∧ effLevel 2 256 256 = 1 ∧ effLevel 2 256 512 = 0 ∧ effLevel 3 0 0 = 0 := by decide

/-- A full handshake on the sluice from AFE to WARP carries one word (R16, R553). -/
theorem test_handshake :
    let s := sluiceRequest 8 3 { bits := 7 } (clrF upSt LOOM_STAT_CLR)
    let t := sluiceLatch 8 3 0 s
    (sluiceOf s 8 3).req = true ∧ (sluiceOf s 8 3).rx = [] ∧ (sluiceOf t 8 3).ack = true ∧ (sluiceOf t 8 3).rx = [{ bits := 7 }] := by decide

/-- A division by zero gives zero, and the quotient's sign is that of the operands (R174). -/
theorem test_div_zero :
    (match exec (.div .host 3 4 0) (setReg .host 4 7 upSt) with | .next t => regOf t .host 3 | _ => 1) = 0 := by decide

theorem test_rem_sign :
    (match exec (.rem .host 3 4 5) (setReg .host 5 2 (setReg .host 4 (BitVec.ofInt 32 (-7)) upSt)) with | .next t => regOf t .host 3 | _ => 0)
      = BitVec.ofInt 32 (-1) := by decide

/-! ### Witnesses of the statements -/

theorem witness_StepRunsFrontCommand_1 :
    ({ upSt with pending := [.vbatLow] } : State).pending = .vbatLow :: [] := by decide

theorem witness_StepRunsFrontCommand_2 :
    upSt.pending = [] := by decide

theorem witness_RegisterReadAfterWrite_1 :
    (1 : Nat) ≠ 0 := by decide

theorem witness_RegisterReadAfterWrite_2 :
    SYS_STARTSTAT_STEP.lo ≤ SYS_STARTSTAT_STEP.hi ∧ SYS_STARTSTAT_STEP.hi < 32 ∧ SYS_STARTSTAT_RECMODE.hi < 32 ∧
    (SYS_STARTSTAT_RECMODE.addr ≠ SYS_STARTSTAT_STEP.addr ∨ SYS_STARTSTAT_RECMODE.hi < SYS_STARTSTAT_STEP.lo ∨
      SYS_STARTSTAT_STEP.hi < SYS_STARTSTAT_RECMODE.lo) := by decide

theorem witness_SupplyEventsTakeEffect_1 :
    (Supply.vaux ≠ .vmain ∨ flag upSt SYS_SUPSTAT_VMAINOV = false) ∧ upSt.sys.porPending = false ∧ islUp upSt 0 = true ∧
    islUp (setPower upSt 0 .off) 0 = false ∧ (setPower upSt 0 .off).sys.porPending = false := by decide

theorem witness_SupplyEventsTakeEffect_2 :
    flag (setF upSt SYS_SUPSTAT_VMAINOV) SYS_SUPSTAT_VMAINOV = true := by decide

theorem witness_SupplyEventsTakeEffect_3 :
    (Supply.vaux ≠ .vmain ∨ flag upSt SYS_SUPSTAT_VMAINOV = false) ∧ ({ upSt with sys := { upSt.sys with porPending := true } } : State).sys.porPending = true ∧
    flag (setF ({ upSt with sys := { upSt.sys with porPending := true } }) (supOk .vaux)) SYS_SUPSTAT_VMAINOK = true ∧
    flag (setF ({ upSt with sys := { upSt.sys with porPending := true } }) (supOk .vaux)) SYS_SUPSTAT_VAUXOK = true := by decide

theorem witness_SupplyEventsTakeEffect_7 :
    TICK_EVT / 0x100000 = 0x209 ∧ TICK_EVT ≠ TICK_IEN ∧ TICK_EVT ≠ TICK_CTL ∧ TICK_EVT ≠ TICK_STAT ∧ SYS_EVT / 0x100000 ≠ 0x209 := by decide

theorem witness_ResetCommandsReset_2 :
    Arrives .host SYS_SWRST upSt (arrived .host SYS_SWRST upSt) ∧ (5 : Word) ≠ 0xA5C3 := by decide

theorem witness_ResetCommandsReset_3 :
    dbgLevel upSt ≥ 1 := by decide

theorem witness_ResetCommandsReset_4 :
    (false = false ∨ Supply.vaux = .vmain) ∧ (true = false ∨ Supply.vmain = .vmain) := by decide

theorem witness_ResetCommandsReset_6 :
    flag (wr { upSt with sys := { upSt.sys with wdCount := 1 } } SYS_WDCTL 0x80000001) SYS_WDCTL_EN = true ∧
    (wr { upSt with sys := { upSt.sys with wdCount := 1 } } SYS_WDCTL 0x80000001).sys.wdCount ≥
      max 1 (fget (wr { upSt with sys := { upSt.sys with wdCount := 1 } } SYS_WDCTL 0x80000001) SYS_WDCTL_TIMEOUT) := by decide

theorem witness_ResetCommandsReset_7 :
    islUp upSt 0 = true ∧ (700 : BitVec 12).toInt ≥ 640 ∧ upSt.sys.holdA = false ∧ (100 : BitVec 12).toInt < 640 ∧
    (100 : BitVec 12).toInt < (BitVec.ofNat 12 (fget upSt SYS_THCFG_WARN)).toInt := by decide

theorem witness_SysCommandsComplete_1 :
    islUp upSt 0 = true ∧ (560 : Int) = (BitVec.ofNat 12 (fget upSt SYS_THCFG_WARN)).toInt ∧ (560 : Int) ≤ 640 ∧ (100 : BitVec 12).toInt < 480 := by decide

theorem witness_SysCommandsComplete_2 :
    (BitVec.ofNat 12 (fget upSt SYS_TEMPA_TEMP)).toInt < 580 ∧ (BitVec.ofNat 12 (fget upSt SYS_TEMPB_TEMP)).toInt < 580 := by decide

theorem witness_SysCommandsComplete_3 :
    power upSt (5 : Fin 27).val = .run := by decide

def wSysCommandsComplete4s : State := { upSt with loom := { quiet := [(0, 16)] } }

theorem witness_SysCommandsComplete_4 :
    (power wSysCommandsComplete4s (4 : Fin 27).val = .run ∨ power wSysCommandsComplete4s (4 : Fin 27).val = .idle) ∧ sleepOk wSysCommandsComplete4s (4 : Fin 27).val = true ∧
    getBit wSysCommandsComplete4s SYS_NOSLEEP_ISL (4 : Fin 27).val = false ∧ (inbox wSysCommandsComplete4s (4 : Fin 27).val).any TickMsg.isLoad = false ∧
    (inbox (setInbox wSysCommandsComplete4s 4 [.load 5]) (4 : Fin 27).val).any TickMsg.isLoad = true := by decide

theorem witness_SysCommandsComplete_5 :
    power (setPower upSt 4 .sleep) (4 : Fin 27).val = .sleep ∧ (4 : Fin 27).val ≠ 12 := by decide

theorem witness_SysCommandsComplete_6 :
    power (setPower upSt 12 .sleep) 12 = .sleep := by decide

theorem witness_SysCommandsComplete_7 :
    Arrives .host SYS_NOSLEEP upSt (arrived .host SYS_NOSLEEP upSt) ∧ flag (arrived .host SYS_NOSLEEP upSt) SYS_CTL_LOCK = false ∧
    (∀ n, n < 16 → power (arrived .host SYS_NOSLEEP upSt) n ≠ .sleep) := by decide

theorem witness_SysCommandsComplete_8 :
    2 ≤ (2 : Fin 7).val ∧ fget State.reset SYS_STARTSTAT_STEP = (2 : Fin 7).val - 1 ∧ State.reset.sys.relBusy = false ∧
    flag State.reset SYS_SUPSTAT_VMAINOK = true ∧ flag State.reset SYS_SUPSTAT_VAUXOK = true ∧
    ((2 : Fin 7).val = 4 → flag State.reset SYS_STARTCTL_GO = true) ∧ stepHeld State.reset (2 : Fin 7).val = false ∧ (2 : Fin 7).val ≠ 4 ∧
    flag (fset (setF State.reset SYS_STARTCTL_GO) SYS_STARTSTAT_STEP 3) SYS_STARTCTL_GO = true ∧
    fget (fset (setF State.reset SYS_STARTCTL_GO) SYS_STARTSTAT_STEP 3) SYS_STARTSTAT_STEP = 3 ∧
    islUp (fset (setF State.reset SYS_STARTCTL_GO) SYS_STARTSTAT_STEP 3) 3 = false ∧
    stepHeld (fset (setF State.reset SYS_STARTCTL_GO) SYS_STARTSTAT_STEP 3) 4 = false := by decide

theorem witness_SysCommandsComplete_9 :
    Arrives .host SYS_STARTCTL upSt (arrived .host SYS_STARTCTL upSt) := by decide

theorem witness_SysCommandsComplete_10 :
    Arrives .host SYS_STARTCTL upSt (arrived .host SYS_STARTCTL upSt) ∧ (arrived .host SYS_STARTCTL upSt).sys.holdA = false ∧
    islUp (arrived .host SYS_STARTCTL upSt) 11 = true ∧
    flag (setF (setF (setF (arrived .host SYS_STARTCTL upSt) SYS_STARTCTL_RECOVER) SYS_EVT_RECOVDONE) SPI_CTL_EN) SYS_STARTCTL_GO = false := by decide

theorem witness_SysCommandsComplete_11 :
    power upSt 2 = .run ∧ power upSt 12 = .run ∧ (pcOf upSt .host).toNat < 0x10000 ∧ flag upSt SYS_STARTCTL_GO = false ∧
    flag upSt SYS_STARTCTL_RECOVER = false ∧ upSt.life.state = .blank ∧
    ({ upSt with life := { state := .develop } } : State).life.state ≠ .blank ∧ power { upSt with life := { state := .develop } } 2 = .run ∧
    power { upSt with life := { state := .develop } } 12 = .run ∧ (pcOf { upSt with life := { state := .develop } } .host).toNat < 0x10000 ∧
    flag { upSt with life := { state := .develop } } SYS_STARTCTL_GO = false ∧ flag { upSt with life := { state := .develop } } SYS_STARTCTL_RECOVER = false := by decide

theorem witness_SysCommandsComplete_12 :
    Arrives .host SYS_WDCTL upSt (arrived .host SYS_WDCTL upSt) ∧ flag (arrived .host SYS_WDCTL upSt) SYS_CTL_LOCK = false ∧
    Arrives .host SYS_WDCTL (setF upSt SYS_CTL_LOCK) (arrived .host SYS_WDCTL (setF upSt SYS_CTL_LOCK)) ∧
    flag (arrived .host SYS_WDCTL (setF upSt SYS_CTL_LOCK)) SYS_CTL_LOCK = true := by decide

theorem witness_SysCommandsComplete_13 :
    Arrives .host SYS_WDKICK (setF upSt SYS_WDCTL_EN) (arrived .host SYS_WDKICK (setF upSt SYS_WDCTL_EN)) ∧
    flag (arrived .host SYS_WDKICK (setF upSt SYS_WDCTL_EN)) SYS_WDCTL_EN = true := by decide

theorem witness_SysCommandsComplete_14 :
    flag (wr { upSt with sys := { upSt.sys with wdCount := 1 } } SYS_WDCTL 0x80000002) SYS_WDCTL_EN = true ∧
    (wr { upSt with sys := { upSt.sys with wdCount := 1 } } SYS_WDCTL 0x80000002).sys.wdCount =
      max 1 ((fget (wr { upSt with sys := { upSt.sys with wdCount := 1 } } SYS_WDCTL 0x80000002) SYS_WDCTL_TIMEOUT + 1) / 2) := by decide

def wSequencersVisitsAndConversionsProceed1s : State := upSt

def wSequencersVisitsAndConversionsProceed1t : State := setF upSt (AFE_SCANCTL_EN 2)

theorem witness_SequencersVisitsAndConversionsProceed_1 :
    Arrives .host (AFE_SCANCTL (2 : Fin 4).val) wSequencersVisitsAndConversionsProceed1s (arrived .host (AFE_SCANCTL (2 : Fin 4).val) wSequencersVisitsAndConversionsProceed1s) ∧ flag (arrived .host (AFE_SCANCTL (2 : Fin 4).val) wSequencersVisitsAndConversionsProceed1s) (AFE_SCANCTL_EN (2 : Fin 4).val) = false ∧
    Arrives .host (AFE_SCANCTL (2 : Fin 4).val) wSequencersVisitsAndConversionsProceed1t (arrived .host (AFE_SCANCTL (2 : Fin 4).val) wSequencersVisitsAndConversionsProceed1t) ∧ flag (arrived .host (AFE_SCANCTL (2 : Fin 4).val) wSequencersVisitsAndConversionsProceed1t) (AFE_SCANCTL_EN (2 : Fin 4).val) = true := by decide

def wSequencersVisitsAndConversionsProceed2s : State := setAfeGrp 5 { on := true } (setF upSt (AFE_SCANCTL_EN 1))

def wSequencersVisitsAndConversionsProceed2su : State := stir 8 wSequencersVisitsAndConversionsProceed2s

theorem witness_SequencersVisitsAndConversionsProceed_2 :
    afeUp wSequencersVisitsAndConversionsProceed2s = true ∧ flag wSequencersVisitsAndConversionsProceed2su (AFE_SCANCTL_EN ((5 : Fin 16).val / 4)) = true ∧ flag wSequencersVisitsAndConversionsProceed2su (AFE_SCANCTL_MODE ((5 : Fin 16).val / 4)) = false ∧
    (afeGrp wSequencersVisitsAndConversionsProceed2su (5 : Fin 16).val).on = true ∧ (afeGrp wSequencersVisitsAndConversionsProceed2su (5 : Fin 16).val).queue = [] ∧ (afeGrp wSequencersVisitsAndConversionsProceed2su (5 : Fin 16).val).resume = none ∧
    ∀ j, j < 4 → flag wSequencersVisitsAndConversionsProceed2su (AFE_CHSCAN_PIN (4 * (5 : Fin 16).val + j)) = false := by decide

def wSequencersVisitsAndConversionsProceed3s : State := setAfeGrp 5 { on := true, granted := some .cj } upSt

def wSequencersVisitsAndConversionsProceed3su : State := atSub 8 7 (stir 8 wSequencersVisitsAndConversionsProceed3s)

theorem witness_SequencersVisitsAndConversionsProceed_3 :
    afeUp wSequencersVisitsAndConversionsProceed3s = true ∧ (afeGrp wSequencersVisitsAndConversionsProceed3su (5 : Fin 16).val).on = true ∧ (afeGrp wSequencersVisitsAndConversionsProceed3su (5 : Fin 16).val).stop = false ∧
    (afeGrp wSequencersVisitsAndConversionsProceed3su (5 : Fin 16).val).visit = none ∧ (afeGrp wSequencersVisitsAndConversionsProceed3su (5 : Fin 16).val).granted = some .cj := by decide

def wSequencersVisitsAndConversionsProceed4s : State := setAfeGrp 5 { on := true, visit := some {} } upSt

def wSequencersVisitsAndConversionsProceed4t : State := setAfeGrp 5 { on := true, visit := some { kind := .cj, need := 2 } } upSt

def wSequencersVisitsAndConversionsProceed4su : State := atSub 8 7 (stir 8 wSequencersVisitsAndConversionsProceed4s)

def wSequencersVisitsAndConversionsProceed4tu : State := atSub 8 7 (stir 8 wSequencersVisitsAndConversionsProceed4t)

theorem witness_SequencersVisitsAndConversionsProceed_4 :
    afeUp wSequencersVisitsAndConversionsProceed4s = true ∧ (afeGrp wSequencersVisitsAndConversionsProceed4su (5 : Fin 16).val).visit = some {} ∧ ({} : AfeVisit).kind = .live ∧
    afeUp wSequencersVisitsAndConversionsProceed4t = true ∧ (afeGrp wSequencersVisitsAndConversionsProceed4tu (5 : Fin 16).val).visit = some { kind := .cj, need := 2 } := by decide

def wSequencersVisitsAndConversionsProceed5e : State := setAfeGrp 5 { on := true, stop := true, visit := some { kind := .zero } } upSt

def wSequencersVisitsAndConversionsProceed5a : State := setAfeGrp 5 { on := true, visit := some { kind := .zero } } upSt

def wSequencersVisitsAndConversionsProceed5b : State := setAfeGrp 5 { on := true, visit := some { kind := .gain } } upSt

def wSequencersVisitsAndConversionsProceed5c : State := setAfeGrp 5 { on := true, visit := some { kind := .cj } } upSt

def wSequencersVisitsAndConversionsProceed5d : State := setAfeGrp 5 { on := true, visit := some { kind := .ref } } upSt

def wSequencersVisitsAndConversionsProceed5au : State := atSub 8 7 (stir 8 wSequencersVisitsAndConversionsProceed5a)

def wSequencersVisitsAndConversionsProceed5bu : State := atSub 8 7 (stir 8 wSequencersVisitsAndConversionsProceed5b)

def wSequencersVisitsAndConversionsProceed5cu : State := atSub 8 7 (stir 8 wSequencersVisitsAndConversionsProceed5c)

def wSequencersVisitsAndConversionsProceed5du : State := atSub 8 7 (stir 8 wSequencersVisitsAndConversionsProceed5d)

def wSequencersVisitsAndConversionsProceed5eu : State := atSub 8 7 (stir 8 wSequencersVisitsAndConversionsProceed5e)

theorem witness_SequencersVisitsAndConversionsProceed_5 :
    afeUp wSequencersVisitsAndConversionsProceed5e = true ∧ (afeGrp wSequencersVisitsAndConversionsProceed5eu (5 : Fin 16).val).visit = some { kind := .zero } ∧ (afeGrp wSequencersVisitsAndConversionsProceed5eu (5 : Fin 16).val).stop = true ∧
    (afeGrp wSequencersVisitsAndConversionsProceed5au (5 : Fin 16).val).stop = false ∧ (afeGrp wSequencersVisitsAndConversionsProceed5bu (5 : Fin 16).val).stop = false ∧ afeUp wSequencersVisitsAndConversionsProceed5a = true ∧ (afeGrp wSequencersVisitsAndConversionsProceed5au (5 : Fin 16).val).visit = some { kind := .zero } ∧ measDone { kind := .zero } = true ∧
    afeUp wSequencersVisitsAndConversionsProceed5b = true ∧ (afeGrp wSequencersVisitsAndConversionsProceed5bu (5 : Fin 16).val).visit = some { kind := .gain } ∧ measDone { kind := .gain } = true ∧
    afeUp wSequencersVisitsAndConversionsProceed5c = true ∧ (afeGrp wSequencersVisitsAndConversionsProceed5cu (5 : Fin 16).val).visit = some { kind := .cj } ∧ measDone { kind := .cj } = true ∧
    afeUp wSequencersVisitsAndConversionsProceed5d = true ∧ (afeGrp wSequencersVisitsAndConversionsProceed5du (5 : Fin 16).val).visit = some { kind := .ref } ∧ measDone { kind := .ref } = true := by decide

def wSequencersVisitsAndConversionsProceed6a : State := setAfeGrp 5 { on := true, visit := some { kind := .imp } } upSt

def wSequencersVisitsAndConversionsProceed6b : State := setAfeGrp 5 { on := true, visit := some { kind := .impSelf } } upSt

def wSequencersVisitsAndConversionsProceed6au : State := atSub 8 7 (stir 8 wSequencersVisitsAndConversionsProceed6a)

def wSequencersVisitsAndConversionsProceed6bu : State := atSub 8 7 (stir 8 wSequencersVisitsAndConversionsProceed6b)

theorem witness_SequencersVisitsAndConversionsProceed_6 :
    afeUp wSequencersVisitsAndConversionsProceed6a = true ∧ (afeGrp wSequencersVisitsAndConversionsProceed6au (5 : Fin 16).val).visit = some { kind := .imp } ∧ measDone { kind := .imp } = true ∧
    afeUp wSequencersVisitsAndConversionsProceed6b = true ∧ (afeGrp wSequencersVisitsAndConversionsProceed6bu (5 : Fin 16).val).visit = some { kind := .impSelf } ∧ measDone { kind := .impSelf } = true := by decide

def wSequencersVisitsAndConversionsProceed7s : State := setEdges (setF (setF upSt (AFE_CHSCAN_STALEEN 9)) (AFE_SCANCTL_EN 0)) 8 100

def wSequencersVisitsAndConversionsProceed7su : State := atSub 8 7 (stir 8 wSequencersVisitsAndConversionsProceed7s)

theorem witness_SequencersVisitsAndConversionsProceed_7 :
    afeUp wSequencersVisitsAndConversionsProceed7s = true ∧ flag wSequencersVisitsAndConversionsProceed7su (AFE_CHSCAN_STALEEN (9 : Fin 64).val) = true ∧ flag wSequencersVisitsAndConversionsProceed7su (AFE_SCANCTL_EN ((9 : Fin 64).val / 16)) = true ∧
    chBlanked wSequencersVisitsAndConversionsProceed7su (9 : Fin 64).val = false ∧ (afeCh wSequencersVisitsAndConversionsProceed7su (9 : Fin 64).val).stale + max 1 (32 * fget wSequencersVisitsAndConversionsProceed7su (AFE_CHSCAN_STALE (9 : Fin 64).val)) ≤ edges wSequencersVisitsAndConversionsProceed7su 8 := by decide

def wBlankingAndSettingsTakeEffect1s : State := { upSt with afe := { pins := 4 } }

def wBlankingAndSettingsTakeEffect1su : State := atSub 8 7 (rouse 8 wBlankingAndSettingsTakeEffect1s)

theorem witness_BlankingAndSettingsTakeEffect_1 :
    islUp wBlankingAndSettingsTakeEffect1s 8 = true ∧ wBlankingAndSettingsTakeEffect1su.afe.pins.testBit (1 : Fin 4).val = false ∧ wBlankingAndSettingsTakeEffect1su.afe.pins.testBit (2 : Fin 4).val = true := by decide

def wBlankingAndSettingsTakeEffect2s : State := fset (setBit (setF upSt (AFE_BLKCFG_EN 3)) AFE_BLKSTAT_ACT 3) (AFE_BLKCFG_HOLD 3) 2

theorem witness_BlankingAndSettingsTakeEffect_2 :
    flag wBlankingAndSettingsTakeEffect2s (AFE_BLKCFG_EN 3) = true ∧ getBit wBlankingAndSettingsTakeEffect2s AFE_BLKSTAT_ACT 3 = true ∧ fget wBlankingAndSettingsTakeEffect2s (AFE_BLKCFG_HOLD 3) ≠ 0 ∧
    flag upSt (AFE_BLKCFG_EN 3) = false ∧ getBit (setBit upSt AFE_BLKSTAT_ACT 2) AFE_BLKSTAT_ACT 2 = true ∧ fget (setBit upSt AFE_BLKSTAT_ACT 2) (AFE_BLKCFG_HOLD 2) = 0 ∧
    getBit upSt AFE_BLKSTAT_ACT 3 = false := by decide

def wBlankingAndSettingsTakeEffect3s : State := setHold 3 2 (fset (setEdges upSt 8 9) (AFE_BLKCFG_HOLD 3) 4)

def wBlankingAndSettingsTakeEffect3su : State := atSub 8 7 (stir 8 wBlankingAndSettingsTakeEffect3s)

theorem witness_BlankingAndSettingsTakeEffect_3 :
    afeUp wBlankingAndSettingsTakeEffect3s = true ∧ tabGet (fun _ => 0) wBlankingAndSettingsTakeEffect3su.afe.hold (3 : Fin 8).val ≠ 0 ∧ fget wBlankingAndSettingsTakeEffect3su (AFE_BLKCFG_HOLD (3 : Fin 8).val) ≤ edges wBlankingAndSettingsTakeEffect3su 8 + 1 - tabGet (fun _ => 0) wBlankingAndSettingsTakeEffect3su.afe.hold (3 : Fin 8).val := by decide

theorem witness_BlankingAndSettingsTakeEffect_4 :
    Arrives .host (AFE_BLKCFG (3 : Fin 8).val) upSt (arrived .host (AFE_BLKCFG (3 : Fin 8).val) upSt) ∧ Arrives .host AFE_BLKSW upSt (arrived .host AFE_BLKSW upSt) ∧
    Arrives .host (AFE_BLKMAPLO (3 : Fin 8).val) upSt (arrived .host (AFE_BLKMAPLO (3 : Fin 8).val) upSt) ∧
    flag (arrived .host (AFE_BLKMAPLO (3 : Fin 8).val) upSt) AFE_CTL_LOCK = false ∧
    Arrives .host (AFE_BLKMAPHI (3 : Fin 8).val) upSt (arrived .host (AFE_BLKMAPHI (3 : Fin 8).val) upSt) ∧ Arrives .host AFE_BLKWIN upSt (arrived .host AFE_BLKWIN upSt) := by decide

theorem witness_BlankingAndSettingsTakeEffect_5 :
    Arrives .host (AFE_CHCFG (9 : Fin 64).val) upSt (arrived .host (AFE_CHCFG (9 : Fin 64).val) upSt) ∧ wget (8 : Word) 3 0 ≤ 8 ∧ 8 < wget (9 : Word) 3 0 ∧
    Arrives .host (AFE_CHRNG (9 : Fin 64).val) upSt (arrived .host (AFE_CHRNG (9 : Fin 64).val) upSt) ∧
    Arrives .host (AFE_GCFG (9 : Fin 16).val) upSt (arrived .host (AFE_GCFG (9 : Fin 16).val) upSt) ∧ wget (4 : Word) 2 0 ≤ 4 ∧ 4 < wget (5 : Word) 2 0 := by decide

theorem witness_BlankingAndSettingsTakeEffect_6 :
    afeUp upSt = true := by decide

theorem witness_BlankingAndSettingsTakeEffect_7 :
    flag upSt AFE_STAT_REFOK = true ∧ islUp upSt 8 = true := by decide

theorem witness_BlankingAndSettingsTakeEffect_8 :
    afeUp upSt = true ∧ flag upSt AFE_STAT_LOOPOL = false := by decide

def wCalibrationCommandsTakeEffect1s : State := fset (fset (fset upSt (AFE_CALSTAT_STATE 9) 1) AFE_IMPCFG_CYC 3) (AFE_GCFG_ODR 2) 1

def wCalibrationCommandsTakeEffect1t : State := fset (fset upSt (AFE_CALSTAT_STATE 9) 2) AFE_IMPCFG_CYC 0

theorem witness_CalibrationCommandsTakeEffect_1 :
    Arrives .host AFE_CALCMD wCalibrationCommandsTakeEffect1s (arrived .host AFE_CALCMD wCalibrationCommandsTakeEffect1s) ∧ flag (arrived .host AFE_CALCMD wCalibrationCommandsTakeEffect1s) AFE_CALCMD_BUSY = false ∧
    (afeCh (arrived .host AFE_CALCMD wCalibrationCommandsTakeEffect1s) (9 : Fin 64).val).rota = none ∧ fget (arrived .host AFE_CALCMD wCalibrationCommandsTakeEffect1s) (AFE_CALSTAT_STATE (9 : Fin 64).val) = 1 ∧
    impPossible (arrived .host AFE_CALCMD wCalibrationCommandsTakeEffect1s) ((9 : Fin 64).val / 4) = true ∧
    Arrives .host AFE_CALCMD wCalibrationCommandsTakeEffect1t (arrived .host AFE_CALCMD wCalibrationCommandsTakeEffect1t) ∧ impPossible (arrived .host AFE_CALCMD wCalibrationCommandsTakeEffect1t) ((9 : Fin 64).val / 4) = false := by decide

def wCalibrationCommandsTakeEffect2s : State := fset { upSt with afe := { staged := [9] } } (AFE_CALSTAT_STATE 9) 1

def wCalibrationCommandsTakeEffect2su : State := atSub 8 7 (stir 8 wCalibrationCommandsTakeEffect2s)

theorem witness_CalibrationCommandsTakeEffect_2 :
    afeUp wCalibrationCommandsTakeEffect2s = true ∧ wCalibrationCommandsTakeEffect2su.afe.staged.contains (9 : Fin 64).val = true ∧ fget wCalibrationCommandsTakeEffect2su (AFE_CALSTAT_STATE (9 : Fin 64).val) = 1 := by decide

def wCalibrationCommandsTakeEffect3s : State := setAfeCh 9 { stage := some 3 } (setEdges upSt 8 200000)

def wCalibrationCommandsTakeEffect3su : State := atSub 8 7 (stir 8 wCalibrationCommandsTakeEffect3s)

theorem witness_CalibrationCommandsTakeEffect_3 :
    afeUp wCalibrationCommandsTakeEffect3s = true ∧ (afeCh wCalibrationCommandsTakeEffect3su (9 : Fin 64).val).stage = some 3 ∧ max 1 (fget wCalibrationCommandsTakeEffect3su AFE_CALCTL_STGMAX) ≤ edges wCalibrationCommandsTakeEffect3su 8 - 3 := by decide

def wCalibrationCommandsTakeEffect4s : State := setAfeCh 9 { impOff := some 3 } (setEdges upSt 8 300)

def wCalibrationCommandsTakeEffect4su : State := atSub 8 7 (stir 8 wCalibrationCommandsTakeEffect4s)

theorem witness_CalibrationCommandsTakeEffect_4 :
    afeUp wCalibrationCommandsTakeEffect4s = true ∧ (afeCh wCalibrationCommandsTakeEffect4su (9 : Fin 64).val).impOff = some 3 ∧ fget wCalibrationCommandsTakeEffect4su AFE_IMPCFG_TAIL ≤ edges wCalibrationCommandsTakeEffect4su 8 - 3 := by decide

def wCalibrationCommandsTakeEffect5s : State := fset (setF (setBit (fset (setAfeCh 9 { ageBase := 4 } upSt) (AFE_CHCFG_TYPE 9) 1) (AFE_CALCTL_ROTA) 0) (AFE_CHCAL_CALEN 9)) (AFE_CALSTAT_STATE 9) 1

def wCalibrationCommandsTakeEffect5t : State := fset wCalibrationCommandsTakeEffect5s AFE_CALLIM_MINAGE 2

theorem witness_CalibrationCommandsTakeEffect_5 :
    afeUp wCalibrationCommandsTakeEffect5t = true ∧ inRota wCalibrationCommandsTakeEffect5t (9 : Fin 64).val = true ∧ (afeCh wCalibrationCommandsTakeEffect5t (9 : Fin 64).val).req = none ∧ fget wCalibrationCommandsTakeEffect5t AFE_CALLIM_MINAGE ≤ calAge wCalibrationCommandsTakeEffect5t (9 : Fin 64).val := by decide

def wCalibrationCommandsTakeEffect6s : State := setAfeCh 9 { req := some ⟨2, 3, 100⟩ } upSt

theorem witness_CalibrationCommandsTakeEffect_6 :
    afeUp wCalibrationCommandsTakeEffect6s = true ∧ (afeCh wCalibrationCommandsTakeEffect6s (9 : Fin 64).val).req = some ⟨2, 3, 100⟩ := by decide

def wCalibrationCommandsTakeEffect7s : State := fset (fset (setAfeCh 9 { ageBase := 400 } upSt) AFE_CALLIM_LIMIT 100) AFE_CALCTL_ROTA 0

theorem witness_CalibrationCommandsTakeEffect_7 :
    afeUp wCalibrationCommandsTakeEffect7s = true ∧ getBit wCalibrationCommandsTakeEffect7s AFE_CALCTL_ROTA ((9 : Fin 64).val / 16) = false ∧ 2 * fget wCalibrationCommandsTakeEffect7s AFE_CALLIM_LIMIT ≤ calAge wCalibrationCommandsTakeEffect7s (9 : Fin 64).val := by decide

theorem witness_RecordWordsHoldTheirFields_1 :
    ∃ r : SampleRec, r.range < 8 ∧ r.gen < 256 ∧ r.pend < 32 ∧ r.qual < 16 ∧ r.chan < 64 := by
  exact ⟨{ chan := 63, stamp := ⟨0, 0⟩, value := 0, range := 7, gen := 255, pend := 31, qual := 15 }, by decide⟩

theorem witness_RecordWordsHoldTheirFields_2 :
    (2 : Nat) < 4 ∧ (7 : Nat) < 8 ∧ (127 : Nat) < 128 := by decide

theorem witness_RegisterCommandsComplete_1 :
    Arrives .host (BitVec.ofNat 32 SYS_NOSLEEP).toNat upSt (arrived .host SYS_NOSLEEP upSt) ∧ shapeError true .word (BitVec.ofNat 32 SYS_NOSLEEP).toNat = false := by decide

theorem witness_RegisterCommandsComplete_2 :
    Arrives .host (BitVec.ofNat 32 SYS_EVT).toNat upSt (arrived .host SYS_EVT upSt) ∧ shapeError true .word (BitVec.ofNat 32 SYS_EVT).toNat = false ∧
    region (BitVec.ofNat 32 SYS_EVT).toNat = .block 0 ∧
    (blockWrites .host 0).all (fun r => !inRun r.base r.step r.cnt (BitVec.ofNat 32 SYS_EVT).toNat) = true := by decide

theorem witness_RegisterCommandsComplete_3 :
    Arrives .host (0x04000004 : Word).toNat upSt (arrived .host 0x04000004 upSt) ∧ (0x04000004 : Word).toNat % Size.word.bytes = 0 ∧
    region (0x04000004 : Word).toNat = .sram := by decide

theorem witness_RegisterCommandsComplete_4 :
    Fetches .host (BitVec.ofNat 32 SLU_TMOCNT).toNat upSt (rouse (addrIsland SLU_TMOCNT) upSt) ∧
    shapeError false .word (BitVec.ofNat 32 SLU_TMOCNT).toNat = false ∧ region (BitVec.ofNat 32 SLU_TMOCNT).toNat = .block 1 ∧
    (blockReads .host 1).all (fun r => !inRun r.base r.step r.cnt (BitVec.ofNat 32 SLU_TMOCNT).toNat) = true ∧
    inRecWin (BitVec.ofNat 32 SLU_TMOCNT).toNat = false ∧ 1 ≠ 9 ∧
    Fetches .host (BitVec.ofNat 32 TICK_STAT).toNat upSt (rouse (addrIsland TICK_STAT) upSt) ∧
    shapeError false .word (BitVec.ofNat 32 TICK_STAT).toNat = false ∧ region (BitVec.ofNat 32 TICK_STAT).toNat = .block 9 ∧
    (blockReads .host 9).all (fun r => !inRun r.base r.step r.cnt (BitVec.ofNat 32 TICK_STAT).toNat) = true ∧
    inRecWin (BitVec.ofNat 32 TICK_STAT).toNat = false := by decide

theorem witness_RegisterCommandsComplete_5 :
    lockReg (2 : Fin 17).val = some LOOM_CTL ∧ Arrives .host LOOM_CTL upSt (arrived .host LOOM_CTL upSt) := by decide

theorem witness_AccessCodesApply_2 :
    (regRow SLU_TMOCNT).isSome = true := by decide

theorem witness_LockBitsFreezeFields_1 :
    flag upSt SLU_CTL_LOCK = false ∧ flag upSt STORE_CTL_LOCK = false ∧ flag upSt POLD_CTL_LOCK = false ∧
    flag (setF upSt SLU_CTL_LOCK) SLU_CTL_LOCK = true ∧ flag (setF upSt STORE_CTL_LOCK) STORE_CTL_LOCK = true ∧
    flag (setF upSt POLD_CTL_LOCK) POLD_CTL_LOCK = true ∧ flag (setF upSt LIFE_CTL_LOCK) LIFE_CTL_LOCK = true := by decide

theorem witness_LockBitsFreezeFields_2 :
    lockReg 1 = some SLU_CTL ∧ (rd (setF upSt SLU_CTL_LOCK) SLU_CTL).toNat.testBit 31 = true := by decide

theorem witness_FabricErrorsAnswerAccesses_1 :
    region 0x30000000 = .hole ∧ region SYS_CTL = .block 0 ∧ region VIB_CTL = .block 4 ∧ islUp State.reset (blockIsland 4) = false ∧
    region 0x10000000 = .warp ∧ islUp State.reset 3 = false ∧ accError State.reset 0x30000000 = some .unmapped := by decide

theorem witness_FabricErrorsAnswerAccesses_2 :
    mayWrite .host State.reset = true ∧ busFault .host true State.reset 0x30000000 = some .unmapped ∧ State.reset.cpu.posted = none := by decide

theorem witness_FabricErrorsAnswerAccesses_3 :
    flag State.reset SLU_ERRINFO_VALID = false ∧ flag (setF State.reset SLU_ERRINFO_VALID) SLU_ERRINFO_VALID = true := by decide

theorem witness_AgingPromotesRequesters :
    (3 : Nat) < 4 ∧ (4 : Nat) ≤ 5 ∧ (5 : Nat) < 2 * 4 ∧ (2 * 4 : Nat) ≤ 8 := by decide

theorem witness_SluicePhasesComplete_1 :
    (sluiceLevel upSt.sys.variantM (2 : Fin 27).val (8 : Fin 27).val).isSome = true ∧ running upSt (2 : Fin 27).val = true ∧
    (sluiceOf upSt (2 : Fin 27).val (8 : Fin 27).val).req = false ∧ (sluiceOf upSt (2 : Fin 27).val (8 : Fin 27).val).ack = false ∧
    (isQuadrant (2 : Fin 27).val && (8 : Fin 27).val == 0) = false ∧ ({} : SluiceWord).tag = false ∧ ({} : SluiceWord).acc = none := by decide

theorem witness_SluicePhasesComplete_2 :
    (sluiceLevel upSt.sys.variantM (4 : Fin 27).val (3 : Fin 27).val).isSome = true ∧ running upSt (4 : Fin 27).val = true ∧
    (sluiceOf upSt (4 : Fin 27).val (3 : Fin 27).val).req = false ∧ (sluiceOf upSt (4 : Fin 27).val (3 : Fin 27).val).ack = false ∧
    (isQuadrant (4 : Fin 27).val && (3 : Fin 27).val == 0) = false ∧ ({ tag := true } : SluiceWord).tag = true ∧ refusesTag (4 : Fin 27).val (3 : Fin 27).val = true := by decide

def wSluicePhasesComplete3s : State := { slu := { sluices := [(32 * 2 + 8, { req := true, word := some {} })] }, sys := upSt.sys }

def wSluicePhasesComplete3d : State := { slu := { sluices := [(32 * 2 + 8, { req := true, word := some {}, dead := true })] }, sys := upSt.sys }

theorem witness_SluicePhasesComplete_3 :
    sluiceOf wSluicePhasesComplete3s (2 : Fin 27).val (8 : Fin 27).val = { req := true, word := some {} } ∧ accepts wSluicePhasesComplete3s (8 : Fin 27).val = true ∧
    granted (setSluice 2 8 { req := true, word := some {} } wSluicePhasesComplete3s) (2 : Fin 27).val (8 : Fin 27).val = true ∧
    sluiceOf wSluicePhasesComplete3d (2 : Fin 27).val (8 : Fin 27).val = { req := true, word := some {}, dead := true } ∧ accepts wSluicePhasesComplete3d (8 : Fin 27).val = true ∧
    granted (setSluice 2 8 { req := true, word := some {}, dead := true } wSluicePhasesComplete3d) (2 : Fin 27).val (8 : Fin 27).val = true := by decide

theorem witness_SluicePhasesComplete_4 :
    ({ req := true, ack := true, word := some {} } : Sluice) =
      sluiceOf { slu := { sluices := [(32 * 2 + 8, { req := true, ack := true, word := some {} })] }, sys := upSt.sys } (2 : Fin 27).val (8 : Fin 27).val ∧
    running { slu := { sluices := [(32 * 2 + 8, { req := true, ack := true, word := some {} })] }, sys := upSt.sys } (2 : Fin 27).val = true := by decide

theorem witness_SluicePhasesComplete_5 :
    ({ ack := true } : Sluice) = sluiceOf { slu := { sluices := [(32 * 2 + 8, { ack := true })] }, sys := upSt.sys } (2 : Fin 27).val (8 : Fin 27).val ∧
    running { slu := { sluices := [(32 * 2 + 8, { ack := true })] }, sys := upSt.sys } (8 : Fin 27).val = true := by decide

theorem witness_SluicePhasesComplete_6 :
    sluiceOf { slu := { sluices := [(32 * 2 + 8, { req := true, word := some {} })] }, sys := { upSt.sys with edges := [(2, 9)] } } (2 : Fin 27).val (8 : Fin 27).val = { req := true, word := some {} } ∧
    accepts { slu := { sluices := [(32 * 2 + 8, { req := true, word := some {} })] }, sys := { upSt.sys with edges := [(2, 9)] } } (8 : Fin 27).val = true ∧
    waitEdges { slu := { sluices := [(32 * 2 + 8, { req := true, word := some {} })] }, sys := { upSt.sys with edges := [(2, 9)] } } (2 : Fin 27).val ≥
      0 + fget { slu := { sluices := [(32 * 2 + 8, { req := true, word := some {} })] }, sys := { upSt.sys with edges := [(2, 9)] } } SLU_CTL_TMO + 1 := by decide

def wSluicePhasesComplete7a : State := { slu := { sluices := [(32 * 2 + 8, { req := true, word := some {} })] } }

def wSluicePhasesComplete7b : State := setBankReq 0 4 ⟨true, 3, 1, 16⟩ upSt

def wSluicePhasesComplete7e : State := { upSt with loom := { wstores := [{ sh := 4, addr := 0, size := 4, data := 0 }, { sh := 5, addr := 0, size := 4, data := 0 }] } }

def wSluicePhasesComplete7c : State := { upSt with store := { hostReq := some (.hostRead 0) } }

theorem witness_SluicePhasesComplete_7 :
    (sluiceOf wSluicePhasesComplete7a (2 : Fin 27).val (8 : Fin 27).val).waits = true ∧ (bankReq wSluicePhasesComplete7b (0 : Fin 8).val (4 : Fin 8).val).on = true ∧
    hasWords wSluicePhasesComplete7e (5 : Fin 16).val = true ∧ quadTurn wSluicePhasesComplete7e ((5 : Fin 16).val / 4) ≠ some (5 : Fin 16).val ∧
    (nandWaiting wSluicePhasesComplete7c (1 : Fin 4).val).isSome = true := by decide

theorem witness_SluicePhasesComplete_8 :
    inbox (setInbox upSt 8 [.inc 1]) (8 : Fin 27).val = .inc 1 :: [] ∧ running (setInbox upSt 8 [.inc 1]) (8 : Fin 27).val = true ∧
    hasShadow (8 : Fin 27).val = true ∧ hasShadow (20 : Fin 27).val = false ∧ inbox (setInbox upSt 20 [.inc 1]) (20 : Fin 27).val = .inc 1 :: [] := by decide

def wVibrationChannelsProceed1s : State := setF upSt (VIB_CHCFG_EN 3)

def wVibrationChannelsProceed1t : State := setF upSt VIB_CTL_LOCK

theorem witness_VibrationChannelsProceed_1 :
    Arrives .host (VIB_CHCFG (3 : Fin 8).val) upSt (arrived .host (VIB_CHCFG (3 : Fin 8).val) upSt) ∧ wget (rd (arrived .host (VIB_CHCFG (3 : Fin 8).val) upSt) (VIB_CHCFG (3 : Fin 8).val)) 0 0 = 0 ∧
    Arrives .host (VIB_CHCFG (3 : Fin 8).val) wVibrationChannelsProceed1s (arrived .host (VIB_CHCFG (3 : Fin 8).val) wVibrationChannelsProceed1s) ∧ wget (rd (arrived .host (VIB_CHCFG (3 : Fin 8).val) wVibrationChannelsProceed1s) (VIB_CHCFG (3 : Fin 8).val)) 0 0 = 1 ∧
    Arrives .host (VIB_CHBIAS (3 : Fin 8).val) upSt (arrived .host (VIB_CHBIAS (3 : Fin 8).val) upSt) ∧ flag (arrived .host (VIB_CHBIAS (3 : Fin 8).val) upSt) VIB_CTL_LOCK = false ∧
    Arrives .host (VIB_CHBIAS (3 : Fin 8).val) wVibrationChannelsProceed1t (arrived .host (VIB_CHBIAS (3 : Fin 8).val) wVibrationChannelsProceed1t) ∧ flag (arrived .host (VIB_CHBIAS (3 : Fin 8).val) wVibrationChannelsProceed1t) VIB_CTL_LOCK = true := by decide

def wVibrationChannelsProceed3s : State := fset upSt (VIB_CHSTAT_STATE 3) 2

def wVibrationChannelsProceed3su : State := atSub 9 7 (stir 9 wVibrationChannelsProceed3s)

theorem witness_VibrationChannelsProceed_3 :
    vibUp wVibrationChannelsProceed3s = true ∧ fget wVibrationChannelsProceed3su (VIB_CHSTAT_STATE (3 : Fin 8).val) ≠ 0 ∧ (vibCh wVibrationChannelsProceed3su (3 : Fin 8).val).samples.length < vibSegLen (vibCh wVibrationChannelsProceed3su (3 : Fin 8).val).seg := by decide

def wVibrationChannelsProceed4a : State := setVibCh 3 { inRun := 1 } (fset upSt (VIB_CHSTAT_STATE 3) 1)

def wVibrationChannelsProceed4b : State := setVibCh 3 { outRun := 52 } (fset upSt (VIB_CHSTAT_STATE 3) 2)

def wVibrationChannelsProceed4c : State := setVibCh 3 { inRun := 52 } (fset upSt (VIB_CHSTAT_STATE 3) 3)

theorem witness_VibrationChannelsProceed_4 :
    fget wVibrationChannelsProceed4a (VIB_CHSTAT_STATE (3 : Fin 8).val) = 1 ∧ (vibCh wVibrationChannelsProceed4a (3 : Fin 8).val).inRun ≥ (if wget (vibCh wVibrationChannelsProceed4a (3 : Fin 8).val).sig 1 1 = 1 then max 1 (1600 * fget wVibrationChannelsProceed4a (VIB_CHCFG_SETTLE (3 : Fin 8).val)) else 1) ∧
    (vibCh wVibrationChannelsProceed4a (3 : Fin 8).val).back = false ∧ fget wVibrationChannelsProceed4b (VIB_CHSTAT_STATE (3 : Fin 8).val) = 2 ∧ (vibCh wVibrationChannelsProceed4b (3 : Fin 8).val).outRun ≥ vibMs ∧
    fget wVibrationChannelsProceed4c (VIB_CHSTAT_STATE (3 : Fin 8).val) = 3 ∧ (vibCh wVibrationChannelsProceed4c (3 : Fin 8).val).inRun ≥ vibMs := by decide

def wVibrationChannelsProceed5s : State := setVibCh 3 { samples := List.replicate 16 5 } (fset upSt (VIB_CHSTAT_STATE 3) 2)

theorem witness_VibrationChannelsProceed_5 :
    fget wVibrationChannelsProceed5s (VIB_CHSTAT_STATE (3 : Fin 8).val) ≠ 0 ∧ vibSegLen (vibCh wVibrationChannelsProceed5s (3 : Fin 8).val).seg ≤ (vibCh wVibrationChannelsProceed5s (3 : Fin 8).val).samples.length := by decide

def wVibrationChannelsProceed6s : State := setVibCh 3 { buf := [⟨1, [2], 0⟩] } upSt

def wVibrationChannelsProceed6su : State := stir 9 wVibrationChannelsProceed6s

theorem witness_VibrationChannelsProceed_6 :
    vibUp wVibrationChannelsProceed6s = true ∧ wVibrationChannelsProceed6su.vib.out.count (3 : Fin 8).val < (vibCh wVibrationChannelsProceed6su (3 : Fin 8).val).buf.length := by decide

theorem witness_VibrationChannelsProceed_7 :
    vibUp upSt = true ∧ flag upSt (VIB_CHSTAT_STAGEFLT (3 : Fin 8).val) = false := by decide

def wVibrationChannelsProceed8s : State := upSt

def wVibrationChannelsProceed8su : State := rouse 9 wVibrationChannelsProceed8s

def wVibrationChannelsProceed8t : State := { upSt with vib := { upSt.vib with pins := 5 } }

def wVibrationChannelsProceed8tu : State := rouse 9 wVibrationChannelsProceed8t

theorem witness_VibrationChannelsProceed_8 :
    islUp wVibrationChannelsProceed8s 9 = true ∧ true ≠ getBit wVibrationChannelsProceed8su VIB_BLKCFG_POL (2 : Fin 4).val ∧ false = getBit wVibrationChannelsProceed8su VIB_BLKCFG_POL (2 : Fin 4).val ∧ wVibrationChannelsProceed8su.vib.pins.testBit (2 : Fin 4).val = false ∧
    islUp wVibrationChannelsProceed8t 9 = true ∧ false = getBit wVibrationChannelsProceed8tu VIB_BLKCFG_POL (2 : Fin 4).val ∧ wVibrationChannelsProceed8tu.vib.pins.testBit (2 : Fin 4).val = true := by decide

def wVibrationChannelsProceed9s : State := { upSt with vib := { upSt.vib with rel := [(2, 1)] } }

def wVibrationChannelsProceed9su : State := stir 9 wVibrationChannelsProceed9s

theorem witness_VibrationChannelsProceed_9 :
    vibUp wVibrationChannelsProceed9s = true ∧ tabGet (fun _ => 0) wVibrationChannelsProceed9su.vib.rel (2 : Fin 4).val ≠ 0 ∧
    edges wVibrationChannelsProceed9su 9 + 1 - tabGet (fun _ => 0) wVibrationChannelsProceed9su.vib.rel (2 : Fin 4).val ≥ fget wVibrationChannelsProceed9su VIB_BLKCFG_HOLD := by decide

theorem witness_IntegerInstructionsCompute_1 :
    Runs .host avAll upSt upSt ∧ Runs (.shuttle 3) avAll upSh upSh ∧ Runs (.seq 1) avAll upSeq upSeq := by decide

theorem witness_IntegerInstructionsCompute_2 :
    Runs .host avHS upSt upSt ∧ Runs (.shuttle 3) avHS upSh upSh := by decide

theorem witness_IntegerInstructionsCompute_3 :
    Runs .host avAll upSt upSt ∧ Runs (.shuttle 3) avAll upSh upSh ∧ Runs (.seq 1) avAll upSeq upSeq := by decide

theorem witness_RegistersOfEnginesHold :
    (3 : Fin 32).val ≠ 0 ∧ (2 : Fin 32) ≠ 3 ∧ Engine.host ≠ .seq 1 := by decide

theorem witness_BranchesAndJumpsComplete_1 :
    Runs .host avAll upSt upSt ∧ Runs (.shuttle 3) avAll upSh upSh ∧ Runs (.seq 1) avAll upSeq upSeq := by decide

theorem witness_BranchesAndJumpsComplete_2 :
    Runs .host avAll upSt upSt ∧ Runs (.shuttle 3) avAll upSh upSh ∧ Runs (.seq 1) avAll upSeq upSeq := by decide

def wLoadsAndStoresComplete1t : State := busRead .host .word 16 upSt

theorem witness_LoadsAndStoresComplete_1 :
    Runs .host avAll upSt upSt ∧ mpuAllows upSt 16 0 = true ∧ inRecWin 16 = false ∧ waitsBank .host false 16 upSt = false ∧ region 16 ≠ .warp ∧ region 16 ≠ .block 9 ∧ 16 % Size.word.bytes = 0 ∧
    (regOf upSt .host 0 + (16 : BitVec 16).signExtend 32).toNat = 16 ∧ 16 % Size.byte.bytes = 0 ∧ 16 % Size.half.bytes = 0 ∧
    wLoadsAndStoresComplete1t.hostBus.err = none ∧ (busRead .host .byte 16 upSt).hostBus.err = none ∧ (busRead .host .half 16 upSt).hostBus.err = none := by decide

def wLoadsAndStoresComplete2s : State := { upSt with cpu := { core := { g := [(1, 0x20900004)] } } }

def wLoadsAndStoresComplete2t : State := { upSt with cpu := { core := { g := [(1, 0x20900004)] }, await := some 0x20900004 } }

theorem witness_LoadsAndStoresComplete_2 :
    Runs .host avAll wLoadsAndStoresComplete2s wLoadsAndStoresComplete2s ∧ (regOf wLoadsAndStoresComplete2s .host 1 + (0 : BitVec 16).signExtend 32).toNat = 0x20900004 ∧ mpuAllows wLoadsAndStoresComplete2s 0x20900004 0 = true ∧ region 0x20900004 = .block 9 ∧ busFault .host false wLoadsAndStoresComplete2s 0x20900004 = none ∧
    wLoadsAndStoresComplete2s.cpu.await ≠ some 0x20900004 ∧ Runs .host avAll wLoadsAndStoresComplete2t wLoadsAndStoresComplete2t ∧ (regOf wLoadsAndStoresComplete2t .host 1 + (0 : BitVec 16).signExtend 32).toNat = 0x20900004 ∧ mpuAllows wLoadsAndStoresComplete2t 0x20900004 0 = true ∧
    busFault .host false wLoadsAndStoresComplete2t 0x20900004 = none ∧ wLoadsAndStoresComplete2t.cpu.await = some 0x20900004 ∧ wLoadsAndStoresComplete2t.tick.reads.any (fun r => r.1 == .host) = false := by decide

def wLoadsAndStoresComplete3s : State := setShuttle 3 { core := { g := [(1, 0x10000000)] } } upSh

def wLoadsAndStoresComplete3su : State := bankDone (bankOf 0) 4 (bankAsk (bankOf 0) 4 (rouse 3 wLoadsAndStoresComplete3s))

theorem witness_LoadsAndStoresComplete_3 :
    Runs (.shuttle 3) avAll upSh upSh ∧ (regOf upSh (.shuttle 3) 0 + (16 : BitVec 16).signExtend 32).toNat = 16 ∧ shPlace 16 = .imem 16 ∧
    Ecc.join .clean (shBad upSh (3 : Fin 16).val (.imem 16)) = .clean ∧
    16 % 4 = 0 ∧ 16 % 2 = 0 ∧ 16 % 1 = 0 ∧ Runs (.shuttle 3) avAll wLoadsAndStoresComplete3s wLoadsAndStoresComplete3s ∧ (regOf wLoadsAndStoresComplete3s (.shuttle 3) 1 + (0 : BitVec 16).signExtend 32).toNat = 0x10000000 ∧
    shPlace 0x10000000 = .warp 0 ∧ sluiceBusy wLoadsAndStoresComplete3s (3 : Fin 16).val = false ∧ bankGrants (bankAsk (bankOf 0) 4 (rouse 3 wLoadsAndStoresComplete3s)) (bankOf 0) 4 = true ∧
    Ecc.join .clean (warpBad wLoadsAndStoresComplete3su 0) = .clean := by decide

def wLoadsAndStoresComplete4s : State := { upSt with cpu := { core := { g := [(1, 0x04001000)] } } }

theorem witness_LoadsAndStoresComplete_4 :
    Runs .host avAll wLoadsAndStoresComplete4s wLoadsAndStoresComplete4s ∧ (regOf wLoadsAndStoresComplete4s .host 1 + (0 : BitVec 16).signExtend 32).toNat = 0x04001000 ∧ mpuAllows wLoadsAndStoresComplete4s 0x04001000 1 = true ∧ waitsBank .host true 0x04001000 wLoadsAndStoresComplete4s = false ∧
    0x04001000 % Size.word.bytes = 0 ∧ islUp (busWrite .host .word 0x04001000 0 wLoadsAndStoresComplete4s) 2 = true ∧ islUp (busWrite .host .half 0x04001000 0 wLoadsAndStoresComplete4s) 2 = true ∧
    islUp (busWrite .host .byte 0x04001000 0 wLoadsAndStoresComplete4s) 2 = true := by decide

def wLoadsAndStoresComplete5s : State := setShuttle 3 { core := { g := [(1, 0x10000)] } } upSh

def wLoadsAndStoresComplete5t : State := setShuttle 3 { core := { g := [(1, 0x10000000)] } } upSh

theorem witness_LoadsAndStoresComplete_5 :
    Runs (.shuttle 3) avAll wLoadsAndStoresComplete5s wLoadsAndStoresComplete5s ∧ (regOf wLoadsAndStoresComplete5s (.shuttle 3) 1 + (0 : BitVec 16).signExtend 32).toNat = 0x10000 ∧ shPlace 0x10000 = .local_ 0 ∧
    (shuttle wLoadsAndStoresComplete5s (3 : Fin 16).val).curEval = none ∧ 0x10000 % 2 = 0 ∧ 0x10000 % 4 = 0 ∧ Runs (.shuttle 3) avAll wLoadsAndStoresComplete5t wLoadsAndStoresComplete5t ∧
    (regOf wLoadsAndStoresComplete5t (.shuttle 3) 1 + (0 : BitVec 16).signExtend 32).toNat = 0x10000000 ∧ shPlace 0x10000000 = .warp 0 ∧ (shuttle wLoadsAndStoresComplete5t (3 : Fin 16).val).curEval = none ∧
    inPublished wLoadsAndStoresComplete5t 0 = false ∧ sluiceBusy wLoadsAndStoresComplete5t (3 : Fin 16).val = false ∧ 0x10000000 % 4 = 0 := by decide

def wLoadsAndStoresComplete6s : State := { upSeq with seq := [(1, { g := [(1, 0x10000)] })] }

theorem witness_LoadsAndStoresComplete_6 :
    Runs (.seq 1) avAll wLoadsAndStoresComplete6s wLoadsAndStoresComplete6s ∧ (regOf wLoadsAndStoresComplete6s (.seq 1) 1 + (4 : BitVec 16).signExtend 32).toNat = 0x10004 := by decide

def wControlWordsAndSystemComplete1u : State := upSt

theorem witness_ControlWordsAndSystemComplete_1 :
    Runs .host avAll upSt upSt ∧ cwRead .host (0x104 : BitVec 16).toNat upSt = some (0x40, upSt) ∧ hostPriv upSt = true ∧
    Runs (.seq 1) avAll upSeq upSeq ∧ cwRead (.seq 1) (1 : BitVec 16).toNat upSeq = some (1, upSeq) := by decide

theorem witness_ControlWordsAndSystemComplete_2 :
    Runs .host avHS upSt upSt ∧ cwRead .host (0x104 : BitVec 16).toNat upSt = some (0x40, upSt) ∧ cwMask .host (0x104 : BitVec 16).toNat = some 0xFFFFFFC0 ∧
    hostPriv upSt = true ∧ Runs (.shuttle 3) avHS upSh upSh ∧ cwRead (.shuttle 3) (2 : BitVec 16).toNat upSh = some (0, upSh) ∧
    cwMask (.shuttle 3) (2 : BitVec 16).toNat = some 0x1F := by decide

def wControlWordsAndSystemComplete3t : State := { upSt with cpu := { core := { pc := 0x100 }, cw := [(0x100, 0), (0x120, 0x0000000F), (0x121, 0x00010000)] } }

theorem witness_ControlWordsAndSystemComplete_3 :
    Runs .host avHost upSt upSt ∧ hostPriv upSt = true ∧ Runs .host avHost wControlWordsAndSystemComplete3t wControlWordsAndSystemComplete3t ∧ hostPriv wControlWordsAndSystemComplete3t = false := by decide

def wControlWordsAndSystemComplete4s : State := { upSt with cpu := { core := { armed := true } } }

theorem witness_ControlWordsAndSystemComplete_4 :
    Runs .host avAll wControlWordsAndSystemComplete4s wControlWordsAndSystemComplete4s ∧ (coreOf wControlWordsAndSystemComplete4s .host).armed = true := by decide

def wControlWordsAndSystemComplete5s : State := setShuttle 3 { core := { armed := true } } upSh

theorem witness_ControlWordsAndSystemComplete_5 :
    Runs (.shuttle 3) avAll wControlWordsAndSystemComplete5s wControlWordsAndSystemComplete5s ∧ (coreOf wControlWordsAndSystemComplete5s (.shuttle 3)).armed = true := by decide

theorem witness_ControlWordsAndSystemComplete_6 :
    Runs .host avHost upSt upSt ∧ hostPriv upSt = true := by decide

def wControlWordsAndSystemComplete7t : State := { wr (wr upSt SYS_EVT 0xFF) SYS_EVTIEN 0xFF with cpu := { cw := [(0x100, 5), (0x108, 0xFFFFFFFF)] } }

theorem witness_ControlWordsAndSystemComplete_7 :
    Runs .host avHost { wControlWordsAndSystemComplete7t with cpu := { wControlWordsAndSystemComplete7t.cpu with wfi := false } } wControlWordsAndSystemComplete7t ∧ hostPriv wControlWordsAndSystemComplete7t = true ∧ (claimLine wControlWordsAndSystemComplete7t).isSome = true ∧
    Runs .host avHost { upSt with cpu := { upSt.cpu with wfi := false } } upSt ∧ hostPriv upSt = true ∧ (claimLine upSt).isSome = false := by decide

def wControlWordsAndSystemComplete8s : State := { wr (wr upSt SYS_EVT 0xFF) SYS_EVTIEN 0xFF with cpu := { cw := [(0x100, 5), (0x108, 0xFFFFFFFF)] } }

def wControlWordsAndSystemComplete8t : State := { wr (wr upSt SYS_EVT 0xFF) SYS_EVTIEN 0xFF with cpu := { wfi := true, cw := [(0x100, 5), (0x108, 0xFFFFFFFF)] } }

theorem witness_ControlWordsAndSystemComplete_8 :
    hostAtBoundary wControlWordsAndSystemComplete8s = true ∧ wget (cwGet wControlWordsAndSystemComplete8s 0x100) 0 0 = 1 ∧ claimLine wControlWordsAndSystemComplete8s = some 0 ∧ wControlWordsAndSystemComplete8s.cpu.wfi = false ∧
    hostAtBoundary wControlWordsAndSystemComplete8t = true ∧ wget (cwGet wControlWordsAndSystemComplete8t 0x100) 0 0 = 1 ∧ claimLine wControlWordsAndSystemComplete8t = some 0 ∧ wControlWordsAndSystemComplete8t.cpu.wfi = true := by decide

def wControlWordsAndSystemComplete9s : State := { upSt with cpu := { posted := some 5 } }

theorem witness_ControlWordsAndSystemComplete_9 :
    hostAtBoundary wControlWordsAndSystemComplete9s = true ∧ wControlWordsAndSystemComplete9s.cpu.posted = some 5 := by decide

theorem witness_HostEntersExceptions_1 :
    (0x104 : Nat) ≠ 0x100 := by decide

def wHostEntersExceptions2t : State := { upSt with cpu := { core := { pc := 0x20000000 } } }

def wHostEntersExceptions2u : State := { upSt with cpu := { core := { pc := 0x04000000 }, sram := [(0, 255), (1, 255), (2, 255), (3, 255)] } }

theorem witness_HostEntersExceptions_2 :
    executes wHostEntersExceptions2t .host = true ∧ fetchFault .host (useStep .host wHostEntersExceptions2t) = some (5, 0, 0) ∧ executes upSt .host = true ∧ fetchFault .host (useStep .host upSt) = none ∧ avSeq.host = false ∧ illegalStored .host (useStep .host upSt) = none ∧
    executes wHostEntersExceptions2u .host = true ∧ fetchFault .host (useStep .host wHostEntersExceptions2u) = none ∧ illegalStored .host (useStep .host wHostEntersExceptions2u) = some 0xFFFFFFFF := by decide

def wProtectionUnitDecides1t : State := { upSt with cpu := { cw := [(0x100, 0)] } }

theorem witness_ProtectionUnitDecides :
    hostPriv upSt = true ∧ hostPriv wProtectionUnitDecides1t = false ∧ wProtectionUnitDecides1t.cpu.cw = [(0x100, 0)] := by decide

theorem witness_BinaryInstructionsComplete_1 :
    Runs .host avHS upSt upSt ∧ Runs (.shuttle 3) avHS upSh upSh := by decide

theorem witness_BinaryInstructionsComplete_2 :
    Runs .host avHS upSt upSt ∧ Runs (.shuttle 3) avHS upSh upSh := by decide

theorem witness_BinaryOperandsTreated_1 :
    (0x7FC00001 : Nat) < 2 ^ 32 ∧ (match fpUnpack f32 0x7FC00001 with | .nan _ => true | _ => false) = true := by decide

theorem witness_FrambethWordsAgree_1 :
    frambethWord (.add .host 1 2 3) = some (.host, 0x00031040) ∧ (opAvail (wordOp 0x00031040) (wordFn 0x00031040)).has .host = true ∧
    frambethWord (.sw (.seq 1) 31 30 0x8001) = some (.seq 1, 0x801EF85A) ∧ (opAvail (wordOp 0x801EF85A) (wordFn 0x801EF85A)).has (.seq 1) = true := by decide

theorem witness_FrambethWordsAgree_2 :
    decodeFrambeth .host 0x00031040 = some (.add .host 1 2 3) ∧ decodeFrambeth (.seq 1) 0x801EF85A = some (.sw (.seq 1) 31 30 0x8001) := by decide

def wShuttleInstructionsComplete1s : State := setShuttle 3 { core := { g := [(1, 5)] } } (fset upSh (QUEUE_CFG_WSH 5) 3)

theorem witness_ShuttleInstructionsComplete_1 :
    Runs (.shuttle 3) avShuttle wShuttleInstructionsComplete1s wShuttleInstructionsComplete1s ∧ (shuttle wShuttleInstructionsComplete1s (3 : Fin 16).val).prov = false ∧ (shuttle wShuttleInstructionsComplete1s (3 : Fin 16).val).gate = [] ∧
    (regOf wShuttleInstructionsComplete1s (.shuttle 3) 1).toNat = 5 ∧ fget wShuttleInstructionsComplete1s (QUEUE_CFG_WSRC 5) = 0 ∧ fget wShuttleInstructionsComplete1s (QUEUE_CFG_WSH 5) = (3 : Fin 16).val ∧ 5 % 32 < 24 := by decide

def wShuttleInstructionsComplete2s : State := fset upSh (QUEUE_CFG_RSH 0) 3

theorem witness_ShuttleInstructionsComplete_2 :
    Runs (.shuttle 3) avShuttle wShuttleInstructionsComplete2s wShuttleInstructionsComplete2s ∧ (regOf wShuttleInstructionsComplete2s (.shuttle 3) 1).toNat % 32 = 0 ∧ flag wShuttleInstructionsComplete2s (QUEUE_CFG_RHOST 0) = false ∧ fget wShuttleInstructionsComplete2s (QUEUE_CFG_RSH 0) = (3 : Fin 16).val ∧
    1 ≤ (4 : Fin 32).val ∧ (4 : Fin 32).val ≤ 29 := by decide

def wShuttleInstructionsComplete3h : Held := { id := 1, w0 := 0, w1 := 0, pick := 0 }

def wShuttleInstructionsComplete3g : Held := { id := 1, w0 := 0x40000000000, w1 := 0, pick := 0 }

def wShuttleInstructionsComplete3s : State := setHeld 3 [wShuttleInstructionsComplete3h] upSh

def wShuttleInstructionsComplete3t : State := setHeld 3 [wShuttleInstructionsComplete3g] upSh

def wShuttleInstructionsComplete3v : State := skipDrops 3 (endEvaluation 3 wShuttleInstructionsComplete3s)

def wShuttleInstructionsComplete3w : State := skipDrops 3 (endEvaluation 3 wShuttleInstructionsComplete3t)

theorem witness_ShuttleInstructionsComplete_3 :
    Runs (.shuttle 3) avShuttle wShuttleInstructionsComplete3s wShuttleInstructionsComplete3s ∧ (heldOf wShuttleInstructionsComplete3v (3 : Fin 16).val).find? Held.waits = some wShuttleInstructionsComplete3h ∧ (recIsPick wShuttleInstructionsComplete3h.w0 && wShuttleInstructionsComplete3h.pick == rd wShuttleInstructionsComplete3v LOOM_PICKNUM && pickAwaits wShuttleInstructionsComplete3v) = false ∧ recPend wShuttleInstructionsComplete3h.w0 = 0 ∧
    (shuttle wShuttleInstructionsComplete3v (3 : Fin 16).val).evals = [] ∧ Runs (.shuttle 3) avShuttle wShuttleInstructionsComplete3t wShuttleInstructionsComplete3t ∧
    (heldOf wShuttleInstructionsComplete3w (3 : Fin 16).val).find? Held.waits = some wShuttleInstructionsComplete3g ∧ (recIsPick wShuttleInstructionsComplete3g.w0 && wShuttleInstructionsComplete3g.pick == rd wShuttleInstructionsComplete3w LOOM_PICKNUM && pickAwaits wShuttleInstructionsComplete3w) = false ∧ recPend wShuttleInstructionsComplete3g.w0 ≠ 0 ∧ 0 ∉ (shuttle wShuttleInstructionsComplete3w (3 : Fin 16).val).slots := by decide

theorem witness_ShuttleInstructionsComplete_4 :
    (1 : Nat) ≤ 28 := by decide

theorem witness_ShuttleInstructionsComplete_5 :
    Runs (.shuttle 3) avShuttle upSh upSh ∧ (shuttle upSh (3 : Fin 16).val).evals.length ≤ (regOf upSh (.shuttle 3) 1).toNat % 16 ∧ (4 : Fin 32).val ≤ 30 := by decide

def wScanInstructionsComplete1s : State := { upSeq with seq := [(1, { g := [(1, 5), (2, 9)] })] }

theorem witness_ScanInstructionsComplete_1 :
    Runs (.seq 1) avSeq wScanInstructionsComplete1s wScanInstructionsComplete1s ∧ 5 = (regOf wScanInstructionsComplete1s (.seq 1) 1).toNat % 16 ∧ 5 / 4 = (1 : Fin 4).val ∧ stepLegal (regOf wScanInstructionsComplete1s (.seq 1) 0) = true ∧
    (afeGrp wScanInstructionsComplete1s 5).queue.length < 4 ∧ groupSteps wScanInstructionsComplete1s 5 ≤ (regOf wScanInstructionsComplete1s (.seq 1) 0).toNat ∧ 9 / 4 ≠ (1 : Fin 4).val ∧ stepLegal 0xFFFFFFFF = false := by decide

theorem witness_ScanInstructionsComplete_2 :
    Runs (.seq 1) avSeq upSeq upSeq ∧ 0 ≤ (((shadow upSeq 8).truncate 32 : Word) - regOf upSeq (.seq 1) 0).toInt := by decide

theorem witness_LoomCommandsComplete_1 :
    Arrives .host (LOOM_SHCMD (3 : Fin 16).val) upSt (arrived .host (LOOM_SHCMD 3) upSt) ∧ flag (arrived .host (LOOM_SHCMD 3) upSt) (LOOM_SHCMD_BUSY 3) = false ∧
    fget (arrived .host (LOOM_SHCMD 3) upSt) (LOOM_SHSTAT_STATE 3) = 0 ∧ flag (arrived .host (LOOM_SHCMD 3) upSt) LOOM_STAT_FATAL = false ∧
    Arrives .host (LOOM_SHCMD (3 : Fin 16).val) upSh (arrived .host (LOOM_SHCMD 3) upSh) ∧ flag (arrived .host (LOOM_SHCMD 3) upSh) (LOOM_SHCMD_BUSY 3) = false ∧
    fget (arrived .host (LOOM_SHCMD 3) upSh) (LOOM_SHSTAT_STATE 3) = 1 := by decide

def wLoomCommandsComplete2s : State := fset upSt (LOOM_SHSTAT_STATE 3) 3

def wLoomCommandsComplete2su : State := stir 3 wLoomCommandsComplete2s

theorem witness_LoomCommandsComplete_2 :
    warpUp wLoomCommandsComplete2s = true ∧ fget wLoomCommandsComplete2su (LOOM_SHSTAT_STATE (3 : Fin 16).val) = 3 := by decide

def wLoomCommandsComplete3s : State := setShuttle 0 { ibad := [(1, .corrected)] } upSt

def wLoomCommandsComplete3u : State := rouse (addrIsland 0x20240004) upSt

def wLoomCommandsComplete3x : State := rouse (addrIsland 0x20240004) wLoomCommandsComplete3s

theorem witness_LoomCommandsComplete_3 :
    Fetches .host 0x20240004 upSt wLoomCommandsComplete3u ∧ windowOpen (rouse 4 wLoomCommandsComplete3u) = true ∧ shBad (rouse 4 wLoomCommandsComplete3u) 0 (.imem 4) = .clean ∧
    Fetches .host 0x20240004 wLoomCommandsComplete3s wLoomCommandsComplete3x ∧ windowOpen (rouse 4 wLoomCommandsComplete3x) = true ∧ shBad (rouse 4 wLoomCommandsComplete3x) 0 (.imem 4) = .corrected ∧
    fget wLoomCommandsComplete3u LOOM_SHSEL_SEL = 0 ∧ Arrives .host 0x20250004 upSt (arrived .host 0x20250004 upSt) ∧
    windowOpen (rouse 4 (arrived .host 0x20250004 upSt)) = true ∧ 0x20250004 = 0x20240000 + 4 * (16385 : Fin 24576).val ∧ 0x20240004 = 0x20240000 + 4 * (1 : Fin 24576).val := by decide

theorem witness_LoomCommandsComplete_4 :
    Arrives .host LOOM_CTL upSt (arrived .host LOOM_CTL upSt) ∧ flag (arrived .host LOOM_CTL upSt) LOOM_CTL_PICKEN = false := by decide

theorem witness_LoomCommandsComplete_5 :
    Arrives .host LOOM_PICKCFG upSt (arrived .host LOOM_PICKCFG upSt) ∧ flag (arrived .host LOOM_PICKCFG upSt) LOOM_CTL_LOCK = false ∧
    250 ≤ wget (1000 : Word) 13 0 ∧ wget (1000 : Word) 13 0 ≤ 10000 ∧ wget (5 : Word) 13 0 < 250 := by decide

def wLoomCommandsComplete6s : State := { setF upSt LOOM_CTL_PICKEN with loom := { sched := true, acc := 512000, pickus := 1000 } }

def wLoomCommandsComplete6t : State := { upSt with loom := { sched := true, acc := 512000, pickus := 1000 } }

def wLoomCommandsComplete6su : State := stir 3 wLoomCommandsComplete6s

def wLoomCommandsComplete6tu : State := stir 3 wLoomCommandsComplete6t

theorem witness_LoomCommandsComplete_6 :
    warpUp wLoomCommandsComplete6s = true ∧ wLoomCommandsComplete6su.loom.sched = true ∧ wLoomCommandsComplete6su.loom.acc ≥ wLoomCommandsComplete6su.loom.pickus * 512 ∧ flag wLoomCommandsComplete6su LOOM_CTL_PICKEN = true ∧
    warpUp wLoomCommandsComplete6t = true ∧ wLoomCommandsComplete6tu.loom.sched = true ∧ wLoomCommandsComplete6tu.loom.acc ≥ wLoomCommandsComplete6tu.loom.pickus * 512 ∧ flag wLoomCommandsComplete6tu LOOM_CTL_PICKEN = false := by decide

def wLoomCommandsComplete7g : GateEnt := ⟨.hirq 1, 0, 0⟩

def wLoomCommandsComplete7s : State := setShuttle 3 { gate := [wLoomCommandsComplete7g] } upSh

def wLoomCommandsComplete7su : State := stir 3 wLoomCommandsComplete7s

theorem witness_LoomCommandsComplete_7 :
    warpUp wLoomCommandsComplete7s = true ∧ (shuttle wLoomCommandsComplete7su (3 : Fin 16).val).gate = wLoomCommandsComplete7g :: [] ∧ (shuttle wLoomCommandsComplete7su (3 : Fin 16).val).tagProv wLoomCommandsComplete7g.tag = false := by decide

theorem witness_LoomCommandsComplete_8 :
    warpUp (setF upSt LOOM_CTL_PICKEN) = true ∧ flag (stir 3 (setF upSt LOOM_CTL_PICKEN)) LOOM_CTL_PICKEN = true := by decide

def wLoomCommandsComplete9a : State := clrF upSt LOOM_STAT_CLR

def wLoomCommandsComplete9u : State := arrived .host 0x10000008 wLoomCommandsComplete9a

def wLoomCommandsComplete9s : State := { wLoomCommandsComplete9a with loom := { bankReq := [(12, ⟨true, 5, 0, 16⟩)] } }

def wLoomCommandsComplete9su : State := arrived .host 0x10000008 wLoomCommandsComplete9s

def wLoomCommandsComplete9f : State := setF wLoomCommandsComplete9a LOOM_STAT_FATAL

def wLoomCommandsComplete9fu : State := arrived .host 0x10000008 wLoomCommandsComplete9f

theorem witness_LoomCommandsComplete_9 :
    Arrives .host (0x10000000 + (8 : BitVec 21).toNat) wLoomCommandsComplete9a wLoomCommandsComplete9u ∧ (8 : BitVec 21).toNat % Size.word.bytes = 0 ∧
    warpRefused wLoomCommandsComplete9u (8 : BitVec 21).toNat = false ∧ bankBlocks .host 0x10000008 wLoomCommandsComplete9u = false ∧ warpBad (bankDone (bankOf 8) (bankIni .host) wLoomCommandsComplete9u) 8 = .clean ∧
    Arrives .host (0x10000000 + (8 : BitVec 21).toNat) wLoomCommandsComplete9s wLoomCommandsComplete9su ∧ warpRefused wLoomCommandsComplete9su (8 : BitVec 21).toNat = false ∧ bankBlocks .host 0x10000008 wLoomCommandsComplete9su = true ∧
    Arrives .host (0x10000000 + (8 : BitVec 21).toNat) wLoomCommandsComplete9f wLoomCommandsComplete9fu ∧ warpRefused wLoomCommandsComplete9fu (8 : BitVec 21).toNat = true := by decide

def wLoomCommandsComplete10s : State := setF upSt LOOM_STAT_CLR

def wLoomCommandsComplete10u : State := restartWaits 3 (clrF { wLoomCommandsComplete10s with loom := { wLoomCommandsComplete10s.loom with warp := [], bad := [] } } LOOM_STAT_CLR)

def wLoomCommandsComplete10t : State := { setF upSt LOOM_STAT_CLR with sys := { upSt.sys with relBusy := true } }

def wLoomCommandsComplete10v : State := restartWaits 3 (clrF { wLoomCommandsComplete10t with loom := { wLoomCommandsComplete10t.loom with warp := [], bad := [] } } LOOM_STAT_CLR)

theorem witness_LoomCommandsComplete_10 :
    islUp wLoomCommandsComplete10s 3 = true ∧ flag wLoomCommandsComplete10s LOOM_STAT_CLR = true ∧ wLoomCommandsComplete10u.sys.relBusy = false ∧ islUp wLoomCommandsComplete10t 3 = true ∧ flag wLoomCommandsComplete10t LOOM_STAT_CLR = true ∧ wLoomCommandsComplete10v.sys.relBusy = true := by decide

def wHeldRecordsAndNoticesProceed1r : SampleRec := { chan := 3 }

def wHeldRecordsAndNoticesProceed1s : State := { upSt with afe := { out := [.sample wHeldRecordsAndNoticesProceed1r] }, dio := { out := [(1, 2)] } }

def wHeldRecordsAndNoticesProceed1su : State := stir 3 wHeldRecordsAndNoticesProceed1s

theorem witness_HeldRecordsAndNoticesProceed_1 :
    warpUp wHeldRecordsAndNoticesProceed1s = true ∧ wHeldRecordsAndNoticesProceed1su.afe.out = .sample wHeldRecordsAndNoticesProceed1r :: [] ∧ wHeldRecordsAndNoticesProceed1r.repl = false ∧ wHeldRecordsAndNoticesProceed1su.dio.out = (1, 2) :: [] := by decide

def wHeldRecordsAndNoticesProceed2r : SampleRec := { chan := 3, repl := true }

def wHeldRecordsAndNoticesProceed2c : ClearRec := { chan := 3, kind := 0, bit := 1, bound := {} }

def wHeldRecordsAndNoticesProceed2s : State := { upSt with afe := { out := [.sample wHeldRecordsAndNoticesProceed2r] }, selv := { agree := [(1, 2)] } }

def wHeldRecordsAndNoticesProceed2t : State := { upSt with afe := { out := [.clear wHeldRecordsAndNoticesProceed2c] } }

def wHeldRecordsAndNoticesProceed2su : State := stir 3 wHeldRecordsAndNoticesProceed2s

def wHeldRecordsAndNoticesProceed2tu : State := stir 3 wHeldRecordsAndNoticesProceed2t

theorem witness_HeldRecordsAndNoticesProceed_2 :
    warpUp wHeldRecordsAndNoticesProceed2s = true ∧ wHeldRecordsAndNoticesProceed2su.afe.out = .sample wHeldRecordsAndNoticesProceed2r :: [] ∧ wHeldRecordsAndNoticesProceed2r.repl = true ∧ wHeldRecordsAndNoticesProceed2su.selv.agree = (1, 2) :: [] ∧ warpUp wHeldRecordsAndNoticesProceed2t = true ∧ wHeldRecordsAndNoticesProceed2tu.afe.out = .clear wHeldRecordsAndNoticesProceed2c :: [] := by decide

theorem witness_HeldRecordsAndNoticesProceed_3 :
    (shuttle (setShuttle 3 { notices := [.clear 1] } upSh) (3 : Fin 16).val).notices = .clear 1 :: [] ∧
    (shuttle (setShuttle 3 { notices := [.squash 1] } upSh) (3 : Fin 16).val).notices = .squash 1 :: [] := by decide

def wHeldRecordsAndNoticesProceed4h : Held := { id := 1, w0 := 0x40000000000, w1 := 0, pick := 0, due := true }

def wHeldRecordsAndNoticesProceed4s : State := setHeld 3 [wHeldRecordsAndNoticesProceed4h] upSh

def wHeldRecordsAndNoticesProceed4su : State := stir 3 wHeldRecordsAndNoticesProceed4s

theorem witness_HeldRecordsAndNoticesProceed_4 :
    warpUp wHeldRecordsAndNoticesProceed4s = true ∧ (heldOf wHeldRecordsAndNoticesProceed4su (3 : Fin 16).val).find? (fun h => h.due && recPend h.w0 != 0 && h.resolved.isNone && h.reject != some true) = some wHeldRecordsAndNoticesProceed4h := by decide

def wHeldRecordsAndNoticesProceed5s : State := { wr upSh LOOM_PICKNUM 5 with loom := { started := [(3, true)] } }

def wHeldRecordsAndNoticesProceed5su : State := stir 3 wHeldRecordsAndNoticesProceed5s

theorem witness_HeldRecordsAndNoticesProceed_5 :
    warpUp wHeldRecordsAndNoticesProceed5s = true ∧ receives wHeldRecordsAndNoticesProceed5su (3 : Fin 16).val = true ∧ flag wHeldRecordsAndNoticesProceed5su LOOM_STAT_FATAL = false ∧ wHeldRecordsAndNoticesProceed5su.loom.issued = [] ∧ wHeldRecordsAndNoticesProceed5su.loom.wstores = [] ∧ 0 < (reportable wHeldRecordsAndNoticesProceed5su (3 : Fin 16).val - repOf wHeldRecordsAndNoticesProceed5su (3 : Fin 16).val).toInt := by decide

def wHeldRecordsAndNoticesProceed6s : State := { upSt with loom := { pub := some (4, 0) } }

def wHeldRecordsAndNoticesProceed6su : State := stir 3 wHeldRecordsAndNoticesProceed6s

theorem witness_HeldRecordsAndNoticesProceed_6 :
    warpUp wHeldRecordsAndNoticesProceed6s = true ∧ wHeldRecordsAndNoticesProceed6su.loom.pub = some (4, 0) ∧ wHeldRecordsAndNoticesProceed6su.loom.pubNext = none ∧ flag wHeldRecordsAndNoticesProceed6su LOOM_STAT_FATAL = false ∧ (∀ b, b < 8 → bankGrants wHeldRecordsAndNoticesProceed6su b 3 = true) ∧ wHeldRecordsAndNoticesProceed6su.loom.bad = [] := by decide

def wHeldRecordsAndNoticesProceed7w : WarpStore := ⟨3, 8, 4, 7⟩

def wHeldRecordsAndNoticesProceed7s : State := { upSt with loom := { wstores := [wHeldRecordsAndNoticesProceed7w] } }

def wHeldRecordsAndNoticesProceed7su : State := stir 3 wHeldRecordsAndNoticesProceed7s

theorem witness_HeldRecordsAndNoticesProceed_7 :
    warpUp wHeldRecordsAndNoticesProceed7s = true ∧ firstStore wHeldRecordsAndNoticesProceed7su (3 : Fin 16).val = some wHeldRecordsAndNoticesProceed7w ∧ quadTurn wHeldRecordsAndNoticesProceed7su ((3 : Fin 16).val / 4) = some (3 : Fin 16).val ∧
    bankGrants wHeldRecordsAndNoticesProceed7su (bankOf wHeldRecordsAndNoticesProceed7w.addr) (4 + (3 : Fin 16).val / 4) = true ∧ warpBad wHeldRecordsAndNoticesProceed7su wHeldRecordsAndNoticesProceed7w.addr = .clean := by decide

def wHeldRecordsAndNoticesProceed8s : State := fset upSt RV_STAT_STATE 1

def wHeldRecordsAndNoticesProceed8t : State := { upSt with sys := { power := tabSet (fun _ => .off) upSt.sys.power 16 .off } }

theorem witness_HeldRecordsAndNoticesProceed_8 :
    islUp wHeldRecordsAndNoticesProceed8s 2 = true ∧ (rvUp wHeldRecordsAndNoticesProceed8s && rvState wHeldRecordsAndNoticesProceed8s == 1) = true ∧ islUp wHeldRecordsAndNoticesProceed8t 2 = true ∧ rvUp wHeldRecordsAndNoticesProceed8t = false := by decide

def wEgressPathsProceed1s : State := { upSt with loom := { issued := [(5, .dout 3 true)] } }

def wEgressPathsProceed1su : State := atSub 3 7 wEgressPathsProceed1s

theorem witness_EgressPathsProceed_1 :
    islUp wEgressPathsProceed1s 3 = true ∧ wEgressPathsProceed1su.loom.issued.find? (fun p => p.1 == (5 : Fin 16).val) = some ((5 : Fin 16).val, .dout 3 true) ∧ quadTurn wEgressPathsProceed1su ((5 : Fin 16).val / 4) = some (5 : Fin 16).val ∧
    (egPath wEgressPathsProceed1su 3).wait = [] ∧ wEgressPathsProceed1su.loom.issued.find? (fun p => p.1 == (6 : Fin 16).val) = none ∧ quadTurn wEgressPathsProceed1su ((6 : Fin 16).val / 4) ≠ some (6 : Fin 16).val := by decide

def wEgressPathsProceed2x : EgEnt := ⟨.out 3 true, .out, 4⟩

def wEgressPathsProceed2s : State := setEgPath 3 { wait := [wEgressPathsProceed2x] } upSt

def wEgressPathsProceed2t : State := setEgPath 3 { wait := [wEgressPathsProceed2x], sent := [wEgressPathsProceed2x, wEgressPathsProceed2x, wEgressPathsProceed2x] } upSt

theorem witness_EgressPathsProceed_2 :
    islUp wEgressPathsProceed2s 3 = true ∧ egNext (egPath wEgressPathsProceed2s (3 : Fin 4).val).wait = some wEgressPathsProceed2x ∧ ((egPath wEgressPathsProceed2s (3 : Fin 4).val).sent.map (fun y => egWords (3 : Fin 4).val y.item)).sum < 3 ∧
    islUp wEgressPathsProceed2t 3 = true ∧ egNext (egPath wEgressPathsProceed2t (3 : Fin 4).val).wait = some wEgressPathsProceed2x ∧ 3 ≤ ((egPath wEgressPathsProceed2t (3 : Fin 4).val).sent.map (fun y => egWords (3 : Fin 4).val y.item)).sum := by decide

def wEgressPathsProceed3e : State := setEgPath 1 { seq := 4 } upSt

theorem witness_EgressPathsProceed_3 :
    ((egPath wEgressPathsProceed3e 1).wait.filter (fun y => y.cls.inFifo)).length < fifoCap 1 := by decide

def wLibraryWorkProceeds1w : Nat → State := fun op => { setShuttle 0 { lib := true, cur := some 0, core := { g := [(5, 0xC0000000)] } } (fset upSt (LOOM_SHSTAT_STATE 0) 1) with loom := { warp := [(4, 1), (0x803, BitVec.ofNat 8 op)] } }

def wLibraryWorkProceeds1b : Nat → State := fun op => libBegin 0 (wLibraryWorkProceeds1w op)

def wLibraryWorkProceeds1e : Nat → Word := fun op => BitVec.ofNat 32 (op * 2 ^ 24)

theorem witness_LibraryWorkProceeds_1 :
    ∀ op : Fin 9, libReady (wLibraryWorkProceeds1w (op.val + 1)) (0 : Fin 16).val = true ∧ (libRec (wLibraryWorkProceeds1w (op.val + 1)) (0 : Fin 16).val).pick = true ∧ (libSt (wLibraryWorkProceeds1w (op.val + 1)) (0 : Fin 16).val).hook = none ∧
      nextCommand (wLibraryWorkProceeds1b (op.val + 1)) (0 : Fin 16).val = some (wLibraryWorkProceeds1e (op.val + 1), 0) ∧ wget (wLibraryWorkProceeds1e (op.val + 1)) 31 24 = op.val + 1 ∧
      (applyCommand 0 (wLibraryWorkProceeds1e (op.val + 1)) 0 (libRec (wLibraryWorkProceeds1w (op.val + 1)) 0) (setLib 0 { libSt (wLibraryWorkProceeds1b (op.val + 1)) 0 with tail := 1, cmds := 1 } (wLibraryWorkProceeds1b (op.val + 1)))).isSome = true := by decide

def wLibraryWorkProceeds2w : LibDesc → State := fun x => setShuttle 0 { lib := true, cur := some 0, core := { g := [(5, 0xC0000000)] }, lst := { descs := [(5, x)] } } { fset upSt (LOOM_SHSTAT_STATE 0) 1 with loom := { warp := [(0x20A3, 0x10)] } }

def wLibraryWorkProceeds2b : LibDesc → State := fun x => libBegin 0 (wLibraryWorkProceeds2w x)

def wLibraryWorkProceeds2x : LibDesc := { used := true, c := true, dly := some 0 }

def wLibraryWorkProceeds2y : LibDesc := { used := true, a := true, st := 6, dly := some 0, sup := true }

theorem witness_LibraryWorkProceeds_2 :
    (libReady (wLibraryWorkProceeds2w wLibraryWorkProceeds2x) (0 : Fin 16).val = true ∧ (libRec (wLibraryWorkProceeds2w wLibraryWorkProceeds2x) (0 : Fin 16).val).pick = true ∧ (libSt (wLibraryWorkProceeds2w wLibraryWorkProceeds2x) (0 : Fin 16).val).hook = none ∧ (ownDescs (wLibraryWorkProceeds2b wLibraryWorkProceeds2x) (0 : Fin 16).val).contains (5 : BitVec 12).toNat = true ∧
      (libBlk (wLibraryWorkProceeds2b wLibraryWorkProceeds2x) 0 5).dly = some 0 ∧ (libBlk (wLibraryWorkProceeds2b wLibraryWorkProceeds2x) 0 5).held = false ∧ 0 ≤ ((shuttle (wLibraryWorkProceeds2b wLibraryWorkProceeds2x) 0).pick - 0).toInt ∧ (libBlk (wLibraryWorkProceeds2b wLibraryWorkProceeds2x) 0 5).c = true ∧
      (libNext 0 5 (libDesc (wLibraryWorkProceeds2b wLibraryWorkProceeds2x) 0 5) (libRec (wLibraryWorkProceeds2w wLibraryWorkProceeds2x) 0) (setBlk 0 5 { libBlk (wLibraryWorkProceeds2b wLibraryWorkProceeds2x) 0 5 with a := true, dly := none } (wLibraryWorkProceeds2b wLibraryWorkProceeds2x))).isSome = true) ∧
    (libReady (wLibraryWorkProceeds2w wLibraryWorkProceeds2y) (0 : Fin 16).val = true ∧ (libRec (wLibraryWorkProceeds2w wLibraryWorkProceeds2y) (0 : Fin 16).val).pick = true ∧ (libSt (wLibraryWorkProceeds2w wLibraryWorkProceeds2y) (0 : Fin 16).val).hook = none ∧ (ownDescs (wLibraryWorkProceeds2b wLibraryWorkProceeds2y) (0 : Fin 16).val).contains (5 : BitVec 12).toNat = true ∧
      (libBlk (wLibraryWorkProceeds2b wLibraryWorkProceeds2y) 0 5).dly = some 0 ∧ (libBlk (wLibraryWorkProceeds2b wLibraryWorkProceeds2y) 0 5).c = false ∧
      (libNext 0 5 (libDesc (wLibraryWorkProceeds2b wLibraryWorkProceeds2y) 0 5) (libRec (wLibraryWorkProceeds2w wLibraryWorkProceeds2y) 0) (setBlk 0 5 { libBlk (wLibraryWorkProceeds2b wLibraryWorkProceeds2y) 0 5 with a := false, dly := none } (wLibraryWorkProceeds2b wLibraryWorkProceeds2y))).isSome = true ∧
      (supOff 0 5 (libDesc (wLibraryWorkProceeds2b wLibraryWorkProceeds2y) 0 5) (libRec (wLibraryWorkProceeds2w wLibraryWorkProceeds2y) 0) (wLibraryWorkProceeds2b wLibraryWorkProceeds2y)).isSome = true ∧ 0 ≤ ((shuttle (wLibraryWorkProceeds2b wLibraryWorkProceeds2y) 0).pick - (libBlk (wLibraryWorkProceeds2b wLibraryWorkProceeds2y) 0 5).shelf).toInt ∧
      (unshelve 0 5 (libDesc (wLibraryWorkProceeds2b wLibraryWorkProceeds2y) 0 5) (libRec (wLibraryWorkProceeds2w wLibraryWorkProceeds2y) 0) (wLibraryWorkProceeds2b wLibraryWorkProceeds2y)).isSome = true) := by decide

def wLibraryWorkProceeds3w : LibDuty → State := fun x => { setShuttle 0 { lib := true, cur := some 0, core := { g := [(5, 0xC0000000)] }, lst := { duty := x } } (fset upSt (LOOM_SHSTAT_STATE 0) 1) with loom := { warp := [(0x1400, 0xE8), (0x1401, 3), (0x1403, 0x80), (0x43000, 1)] } }

def wLibraryWorkProceeds3b : LibDuty → State := fun x => libBegin 0 (wLibraryWorkProceeds3w x)

def wLibraryWorkProceeds3x : LibDuty := { stage := 1, armed := true }

def wLibraryWorkProceeds3y : LibDuty := { armed := true, pre := true }

theorem witness_LibraryWorkProceeds_3 :
    (libReady (wLibraryWorkProceeds3w wLibraryWorkProceeds3x) (0 : Fin 16).val = true ∧ (libRec (wLibraryWorkProceeds3w wLibraryWorkProceeds3x) (0 : Fin 16).val).pick = true ∧ (libSt (wLibraryWorkProceeds3w wLibraryWorkProceeds3x) (0 : Fin 16).val).hook = none ∧ isDuty (wLibraryWorkProceeds3b wLibraryWorkProceeds3x) 0 = true ∧ escalates (wLibraryWorkProceeds3b wLibraryWorkProceeds3x) 0 = true ∧
      statusSum (wLibraryWorkProceeds3b wLibraryWorkProceeds3x) 0 0 15 0 ≠ 0 ∧ (setCall 0 2 false (shuttle (wLibraryWorkProceeds3b wLibraryWorkProceeds3x) 0).pick (wLibraryWorkProceeds3b wLibraryWorkProceeds3x)).isSome = true ∧ preDue (wLibraryWorkProceeds3b wLibraryWorkProceeds3x) 0 = true) ∧
    (libReady (wLibraryWorkProceeds3w wLibraryWorkProceeds3y) (0 : Fin 16).val = true ∧ isDuty (wLibraryWorkProceeds3b wLibraryWorkProceeds3y) 0 = true ∧ deadDue (wLibraryWorkProceeds3b wLibraryWorkProceeds3y) 0 = true) := by decide

def wLibraryWorkProceeds4x : State := setShuttle 3 { lib := true, cur := some 0 } upSh

def wLibraryWorkProceeds4y : State := setShuttle 3 { lib := true, cur := some 0, core := { g := [(5, 0xC0000000)] } } upSh

theorem witness_LibraryWorkProceeds_4 :
    libReady wLibraryWorkProceeds4x (3 : Fin 16).val = true ∧ libRoutine wLibraryWorkProceeds4x (3 : Fin 16).val = none ∧ (libRec wLibraryWorkProceeds4x (3 : Fin 16).val).pick = false ∧ lget (libRec wLibraryWorkProceeds4x (3 : Fin 16).val).w0 63 62 ≠ 3 ∧
    libReady wLibraryWorkProceeds4y (3 : Fin 16).val = true ∧ libRoutine wLibraryWorkProceeds4y (3 : Fin 16).val = none ∧ (libRec wLibraryWorkProceeds4y (3 : Fin 16).val).pick = true ∧ (libSt wLibraryWorkProceeds4y (3 : Fin 16).val).hook = none := by
  have q : ∀ s : State, (shuttle s 3).core.pc = 0 → libRoutine s 3 = none := by
    intro s hs
    simp only [libRoutine, hs]
    split
    · rw [List.find?_eq_none]
      rintro k - hk
      simp only [Bool.and_eq_true, decide_eq_true_eq, beq_iff_eq] at hk
      rw [← hk.2] at hk
      exact absurd hk.1.2 (by decide)
    · rfl
  exact ⟨by decide, q _ rfl, by decide, by decide, by decide, q _ rfl, by decide, by decide⟩

theorem witness_QueueCommandsTakeEffect_1 :
    Arrives .host (QUEUE_CFG (3 : Fin 32).val) upSt (arrived .host (QUEUE_CFG (3 : Fin 32).val) upSt) ∧ flag (arrived .host (QUEUE_CFG (3 : Fin 32).val) upSt) QUEUE_CTLG_LOCK = false ∧
    flag (arrived .host (QUEUE_CFG (3 : Fin 32).val) upSt) (QUEUE_CTL_EN (3 : Fin 32).val) = false ∧ 8 ≤ wget (9 : Word) 6 0 ∧ wget (9 : Word) 6 0 ≤ 64 ∧
    queuePool (arrived .host (QUEUE_CFG (3 : Fin 32).val) upSt) - fget (arrived .host (QUEUE_CFG (3 : Fin 32).val) upSt) (QUEUE_CFG_DEPTH (3 : Fin 32).val) + wget (9 : Word) 6 0 ≤ 1024 ∧
    64 < wget (65 : Word) 6 0 := by decide

def wQueueCommandsTakeEffect2s : State := fset (setF upSt (QUEUE_CTL_EN 3)) (QUEUE_CFG_WSRC 3) 1

def wQueueCommandsTakeEffect2t : State := setQue 3 { open_ := some [1, 2, 8] } wQueueCommandsTakeEffect2s

theorem witness_QueueCommandsTakeEffect_2 :
    Arrives .host (QUEUE_WR (3 : Fin 32).val) wQueueCommandsTakeEffect2s (arrived .host (QUEUE_WR (3 : Fin 32).val) wQueueCommandsTakeEffect2s) ∧ fget wQueueCommandsTakeEffect2s (QUEUE_CFG_WSRC (3 : Fin 32).val) = 1 ∧ wget (0x85 : Word) 31 16 = 0 ∧
    flag wQueueCommandsTakeEffect2s (QUEUE_CTL_EN (3 : Fin 32).val) = true ∧ flag (arrived .host (QUEUE_WR (3 : Fin 32).val) wQueueCommandsTakeEffect2s) (QUEUE_CFG_WIDTH (3 : Fin 32).val) = false ∧
    queueUsed { que wQueueCommandsTakeEffect2s (3 : Fin 32).val with offPkt := false } < fget wQueueCommandsTakeEffect2s (QUEUE_CFG_DEPTH (3 : Fin 32).val) ∧
    Arrives .host (QUEUE_WR (3 : Fin 32).val) wQueueCommandsTakeEffect2t (arrived .host (QUEUE_WR (3 : Fin 32).val) wQueueCommandsTakeEffect2t) ∧ (que wQueueCommandsTakeEffect2t 3).open_ = some [1, 2, 8] ∧ 8 + 256 * ((0 : Word).truncate 8 : Byte).toNat ≤ 8 * fget wQueueCommandsTakeEffect2t (QUEUE_CFG_DEPTH 3) := by decide

def wQueueCommandsTakeEffect3s : State := fset (setQue 3 { disc := true } upSt) (QUEUE_CFG_WSRC 3) 1

def wQueueCommandsTakeEffect3t : State := fset (setQue 3 { open_ := some [1, 2, 4, 0, 9] } upSt) (QUEUE_CFG_WSRC 3) 1

def wQueueCommandsTakeEffect3r : State := fset (setQue 3 { open_ := some [1, 2, 6, 0, 9] } upSt) (QUEUE_CFG_WSRC 3) 1

theorem witness_QueueCommandsTakeEffect_3 :
    Arrives .host (QUEUE_WCMD (3 : Fin 32).val) wQueueCommandsTakeEffect3s (arrived .host (QUEUE_WCMD (3 : Fin 32).val) wQueueCommandsTakeEffect3s) ∧ fget wQueueCommandsTakeEffect3s (QUEUE_CFG_WSRC (3 : Fin 32).val) = 1 ∧ (que wQueueCommandsTakeEffect3s 3).disc = true ∧
    Arrives .host (QUEUE_WCMD (3 : Fin 32).val) wQueueCommandsTakeEffect3t (arrived .host (QUEUE_WCMD (3 : Fin 32).val) wQueueCommandsTakeEffect3t) ∧ (que wQueueCommandsTakeEffect3t 3).open_ = some [1, 2, 4, 0, 9] ∧ packetLen [1, 2, 4, 0, 9] = some 4 ∧
    packetLen [1, 2, 6, 0, 9] = some 6 ∧ fget wQueueCommandsTakeEffect3r (QUEUE_CFG_WSRC (3 : Fin 32).val) = 1 ∧ (que wQueueCommandsTakeEffect3r 3).open_ = some [1, 2, 6, 0, 9] := by decide

def wQueueCommandsTakeEffect5p : FrontPacket := ⟨3, [1, 2, 4, 0], 0⟩

def wQueueCommandsTakeEffect5s : State := { setVibCh 2 { buf := [wQueueCommandsTakeEffect5p] } (setCan 1 { can upSt 1 with held := [wQueueCommandsTakeEffect5p] } upSt) with comms := [1] }

def wQueueCommandsTakeEffect5u : State := stir 3 { wQueueCommandsTakeEffect5s with vib := { wQueueCommandsTakeEffect5s.vib with out := [2] } }

theorem witness_QueueCommandsTakeEffect_5 :
    warpUp wQueueCommandsTakeEffect5s = true ∧ vibNext wQueueCommandsTakeEffect5u = some (2, wQueueCommandsTakeEffect5p) ∧ wQueueCommandsTakeEffect5u.comms = [1] ∧ (can wQueueCommandsTakeEffect5u 1).held = [wQueueCommandsTakeEffect5p] ∧ (queueFront wQueueCommandsTakeEffect5p.queue 2 (wQueueCommandsTakeEffect5p.sent == 0) (nextWrite wQueueCommandsTakeEffect5p) wQueueCommandsTakeEffect5u).2 = true ∧ wQueueCommandsTakeEffect5p.sent + 2 < wQueueCommandsTakeEffect5p.bytes.length := by decide

def wQueueCommandsTakeEffect6s : State := setQue 3 { commits := [[⟨0x123456789, true, true, 5⟩]] } upSt

def wQueueCommandsTakeEffect6t : State := setF wQueueCommandsTakeEffect6s (QUEUE_CFG_NOTIFY 3)

def wQueueCommandsTakeEffect6su : State := atSub 3 7 (stir 3 wQueueCommandsTakeEffect6s)

def wQueueCommandsTakeEffect6tu : State := atSub 3 7 (stir 3 wQueueCommandsTakeEffect6t)

theorem witness_QueueCommandsTakeEffect_6 :
    warpUp wQueueCommandsTakeEffect6s = true ∧ (que wQueueCommandsTakeEffect6su (3 : Fin 32).val).commits = [[⟨0x123456789, true, true, 5⟩]] ∧ flag wQueueCommandsTakeEffect6su (QUEUE_CFG_NOTIFY (3 : Fin 32).val) = false ∧
    warpUp wQueueCommandsTakeEffect6t = true ∧ (que wQueueCommandsTakeEffect6tu (3 : Fin 32).val).commits = [[⟨0x123456789, true, true, 5⟩]] ∧ flag wQueueCommandsTakeEffect6tu (QUEUE_CFG_NOTIFY (3 : Fin 32).val) = true ∧ flag wQueueCommandsTakeEffect6tu (QUEUE_CFG_RHOST (3 : Fin 32).val) = false := by decide

def wQueueCommandsTakeEffect7s : State := setQue 3 { visible := [⟨0x123456789, true, true, 5⟩] } (setF upSt (QUEUE_CFG_RHOST 3))

theorem witness_QueueCommandsTakeEffect_7 :
    Fetches .host (QUEUE_RDTAG (3 : Fin 32).val) wQueueCommandsTakeEffect7s (rouse (addrIsland (QUEUE_RDTAG (3 : Fin 32).val)) wQueueCommandsTakeEffect7s) ∧ flag wQueueCommandsTakeEffect7s (QUEUE_CFG_RHOST (3 : Fin 32).val) = true ∧
    (que wQueueCommandsTakeEffect7s (3 : Fin 32).val).visible = [⟨0x123456789, true, true, 5⟩] := by decide

def wQueueCommandsTakeEffect8s : State := setF upSt (QUEUE_CTL_EN 3)

theorem witness_QueueCommandsTakeEffect_8 :
    Arrives .host (QUEUE_CTL (3 : Fin 32).val) wQueueCommandsTakeEffect8s (arrived .host (QUEUE_CTL (3 : Fin 32).val) wQueueCommandsTakeEffect8s) ∧ flag wQueueCommandsTakeEffect8s (QUEUE_CTL_EN (3 : Fin 32).val) = true := by decide

def wFieldBanksAndInputsProceed1s : State := setBank 7 { on := true } upSt

def wFieldBanksAndInputsProceed1t : State := setEdges (setBit upSt DIO_STAT_UP 7) 10 16

theorem witness_FieldBanksAndInputsProceed_1 :
    dioUp wFieldBanksAndInputsProceed1s = true ∧ (dioBank wFieldBanksAndInputsProceed1s (7 : Fin 9).val).on = true ∧ dioUp wFieldBanksAndInputsProceed1t = true ∧ bankUp (stir 10 wFieldBanksAndInputsProceed1t) (7 : Fin 9).val = true ∧ (dioBank (stir 10 wFieldBanksAndInputsProceed1t) (7 : Fin 9).val).last + 16 ≤ edges (stir 10 wFieldBanksAndInputsProceed1t) 10 := by decide

theorem witness_FieldBanksAndInputsProceed_2 :
    (dioBank (setBank 7 { on := true, state := 1 } upSt) (6 + (1 : Fin 3).val)).on = true ∧ (dioBank (setBank 7 { on := true, state := 1 } upSt) (6 + (1 : Fin 3).val)).state = 1 ∧
    (dioBank (setBank 7 { on := true, state := 2 } upSt) (6 + (1 : Fin 3).val)).state = 2 := by decide

def wFieldBanksAndInputsProceed3a : State := setBank 7 { on := true, state := 3, held := 2, cfg := { bank := 1 } } upSt

def wFieldBanksAndInputsProceed3b : State := setBank 7 { on := true, state := 3, held := 2, cfg := { bank := 2 } } upSt

theorem witness_FieldBanksAndInputsProceed_3 :
    (dioBank wFieldBanksAndInputsProceed3a (6 + 9 / 8)).state = 3 ∧ outPar wFieldBanksAndInputsProceed3a 9 = false ∧ outFail wFieldBanksAndInputsProceed3a 9 = 1 ∧ outFail wFieldBanksAndInputsProceed3b 9 = 2 ∧ outActual wFieldBanksAndInputsProceed3a 9 = true := by decide

theorem witness_FieldBanksAndInputsProceed_4 :
    (2 : Fin 4).val ≠ 0 ∧ (dioBank upSt (5 + (2 : Fin 4).val)).on = false := by decide

def wFieldBanksAndInputsProceed5s : State := setIn 9 { wb := true } (setBank 1 { on := true, cfg := { bank := 1 } } upSt)

def wFieldBanksAndInputsProceed5t : State := setBank 1 { on := true, cfg := { bank := 1 } } upSt

theorem witness_FieldBanksAndInputsProceed_5 :
    inMeasured wFieldBanksAndInputsProceed5s (9 : Fin 48).val = true ∧ filterPassed wFieldBanksAndInputsProceed5s (9 : Fin 48).val (0 : BitVec 16).toNat = true ∧ (dioIn wFieldBanksAndInputsProceed5s (9 : Fin 48).val).wb = true ∧
    inMeasured wFieldBanksAndInputsProceed5t (9 : Fin 48).val = true ∧ filterPassed wFieldBanksAndInputsProceed5t (9 : Fin 48).val (0 : BitVec 16).toNat = true ∧ (dioIn wFieldBanksAndInputsProceed5t (9 : Fin 48).val).wb = false := by decide

def wFieldBanksAndInputsProceed6t : State := setBank 1 { on := true, cfg := { bank := 0x11 } } upSt

theorem witness_FieldBanksAndInputsProceed_6 :
    inMeasured wFieldBanksAndInputsProceed6t (9 : Fin 48).val = true ∧ wget (inCfg wFieldBanksAndInputsProceed6t (9 : Fin 48).val) 4 4 = 1 ∧ (dioBank wFieldBanksAndInputsProceed6t ((9 : Fin 48).val / 8)).wbsup = false := by decide

theorem witness_FieldBanksAndInputsProceed_7 :
    (dioBank (setBank 2 { on := true } upSt) (2 : Fin 6).val).on = true ∧ (1499 : BitVec 16).toNat < 1500 ∧ 1500 ≤ (1500 : BitVec 16).toNat := by decide

def wFieldBanksAndInputsProceed8s : State := setIn 9 { due := some (5, true, 6) } upSt

theorem witness_FieldBanksAndInputsProceed_8 :
    dioUp wFieldBanksAndInputsProceed8s = true ∧ (dioIn (stir 10 wFieldBanksAndInputsProceed8s) (9 : Fin 48).val).due = some (5, true, 6) := by decide

def wFieldBanksAndInputsProceed9t : State := setBank 1 { on := true, cfg := { bank := 9 } } upSt

theorem witness_FieldBanksAndInputsProceed_9 :
    inMeasured wFieldBanksAndInputsProceed9t (9 : Fin 48).val = true ∧ wget (inCfg wFieldBanksAndInputsProceed9t (9 : Fin 48).val) 3 3 = 1 ∧ gateFits (wget (inCfg wFieldBanksAndInputsProceed9t (9 : Fin 48).val) 15 12) (328 : BitVec 16).toNat = true ∧ (1 : BitVec 32).toNat < 2 ∧
    ((dioIn (sendCount 9 wFieldBanksAndInputsProceed9t) (9 : Fin 48).val).gwb || (dioIn (sendCount 9 wFieldBanksAndInputsProceed9t) (9 : Fin 48).val).wb) = false ∧
    ((dioIn (sendCount 9 (setIn 9 { wb := true } wFieldBanksAndInputsProceed9t)) (9 : Fin 48).val).gwb || (dioIn (sendCount 9 (setIn 9 { wb := true } wFieldBanksAndInputsProceed9t)) (9 : Fin 48).val).wb) = true := by decide

def wFieldBanksAndInputsProceed10s : State := setBit upSt DIO_STAT_UP 1

theorem witness_FieldBanksAndInputsProceed_10 :
    Arrives .host (DIO_INCFG (9 : Fin 48).val) upSt (arrived .host (DIO_INCFG (9 : Fin 48).val) upSt) ∧ bankUp (arrived .host (DIO_INCFG (9 : Fin 48).val) upSt) ((9 : Fin 48).val / 8) = false ∧
    Arrives .host (DIO_INCFG (9 : Fin 48).val) wFieldBanksAndInputsProceed10s (arrived .host (DIO_INCFG (9 : Fin 48).val) wFieldBanksAndInputsProceed10s) ∧ bankUp (arrived .host (DIO_INCFG (9 : Fin 48).val) wFieldBanksAndInputsProceed10s) ((9 : Fin 48).val / 8) = true := by decide

def wFieldOutputsProceed1x : EgEnt := ⟨.out 5 true, .out, 4⟩

def wFieldOutputsProceed1s : State := setEgPath 3 { sent := [wFieldOutputsProceed1x] } (fset upSt ⟨DIO_OBANK 0, 2, 2⟩ 0)

def wFieldOutputsProceed1t : State := setF wFieldOutputsProceed1s DIO_STAT_TAKEN

theorem witness_FieldOutputsProceed_1 :
    dioUp wFieldOutputsProceed1s = true ∧ (egTake 3 (stir 10 wFieldOutputsProceed1s)).1 = some wFieldOutputsProceed1x ∧ outHost (egTake 3 (stir 10 wFieldOutputsProceed1s)).2 5 = false ∧ accepting (egTake 3 (stir 10 wFieldOutputsProceed1s)).2 = true ∧
    dioUp wFieldOutputsProceed1t = true ∧ (egTake 3 (stir 10 wFieldOutputsProceed1t)).1 = some wFieldOutputsProceed1x ∧ accepting (egTake 3 (stir 10 wFieldOutputsProceed1t)).2 = false := by decide

def wFieldOutputsProceed2s : State := setF upSt (DIO_OBANK_SRC 0)

def wFieldOutputsProceed2t : State := setF wFieldOutputsProceed2s DIO_STAT_TAKEN

theorem witness_FieldOutputsProceed_2 :
    Arrives .host DIO_OCMD wFieldOutputsProceed2s (arrived .host DIO_OCMD wFieldOutputsProceed2s) ∧ wget (0x501 : Word) 31 16 = 0 ∧ wget (0x501 : Word) 12 8 < 24 ∧ outHost (arrived .host DIO_OCMD wFieldOutputsProceed2s) (wget (0x501 : Word) 12 8) = true ∧
    accepting (arrived .host DIO_OCMD wFieldOutputsProceed2s) = true ∧ Arrives .host DIO_OCMD wFieldOutputsProceed2t (arrived .host DIO_OCMD wFieldOutputsProceed2t) ∧ accepting (arrived .host DIO_OCMD wFieldOutputsProceed2t) = false ∧
    outHost (arrived .host DIO_OCMD (clrF wFieldOutputsProceed2s (DIO_OBANK_SRC 0))) 5 = false := by decide

def wFieldOutputsProceed3s : State := setBank 7 { on := true, uv := true } upSt

def wFieldOutputsProceed3t : State := setBank 7 { on := true, uv := true, cfg := { bank := 8 } } upSt

theorem witness_FieldOutputsProceed_3 :
    (dioBank wFieldOutputsProceed3s (6 + (1 : Fin 3).val)).on = true ∧ (1799 : BitVec 16).toNat < 1800 ∧ (1599 : BitVec 16).toNat < 1600 ∧ (dioBank wFieldOutputsProceed3s (6 + (1 : Fin 3).val)).uv = true ∧
    wget (outBankCfg wFieldOutputsProceed3s (1 : Fin 3).val) 3 3 ≠ 1 ∧ (dioBank wFieldOutputsProceed3t (6 + (1 : Fin 3).val)).uv = true ∧ wget (outBankCfg wFieldOutputsProceed3t (1 : Fin 3).val) 3 3 = 1 := by decide

def wFieldOutputsProceed4s : State := setBank 7 { on := true, uv := true, ready := true } (setBit upSt DIO_STAT_UP 7)

theorem witness_FieldOutputsProceed_4 :
    Arrives .host (DIO_OXCMD (1 : Fin 3).val) wFieldOutputsProceed4s (arrived .host (DIO_OXCMD (1 : Fin 3).val) wFieldOutputsProceed4s) ∧ bankUp wFieldOutputsProceed4s (6 + (1 : Fin 3).val) = true ∧ (dioBank wFieldOutputsProceed4s (6 + (1 : Fin 3).val)).on = true ∧
    (dioBank wFieldOutputsProceed4s (6 + (1 : Fin 3).val)).uv = true ∧ (dioBank wFieldOutputsProceed4s (6 + (1 : Fin 3).val)).ready = true := by decide

def wFieldOutputsProceed5s : State := setBank 7 { on := true, state := 1, cfg := { cmd := 2 } } upSt

def wFieldOutputsProceed5t : State := setOut 9 { fault := .curlim } wFieldOutputsProceed5s

theorem witness_FieldOutputsProceed_5 :
    outActual wFieldOutputsProceed5s (9 : Fin 24).val = true ∧ (dioOut wFieldOutputsProceed5s (9 : Fin 24).val).fault = .none ∧ outActual wFieldOutputsProceed5t (9 : Fin 24).val = true ∧ (dioOut wFieldOutputsProceed5t (9 : Fin 24).val).fault = .curlim ∧
    (dioOut (setOut 9 { fault := .thermal } wFieldOutputsProceed5s) (9 : Fin 24).val).fault = .thermal := by decide

def wFieldOutputsProceed6s : State := setBank 7 { on := true } upSt

def wFieldOutputsProceed6t : State := setBank 7 { on := true, cfg := { words := [0, 8] } } upSt

theorem witness_FieldOutputsProceed_6 :
    (dioBank wFieldOutputsProceed6s (6 + (9 : Fin 24).val / 8)).on = true ∧ outActual wFieldOutputsProceed6s (9 : Fin 24).val = false ∧ (dioOut wFieldOutputsProceed6s (9 : Fin 24).val).fdrv = false ∧ outPar wFieldOutputsProceed6s (9 : Fin 24).val = false ∧
    outPar wFieldOutputsProceed6t (9 : Fin 24).val = true := by decide

def wFieldOutputsProceed7x : EgEnt := ⟨.release, .out, 4⟩

def wFieldOutputsProceed7y : EgEnt := ⟨.assume, .out, 4⟩

def wFieldOutputsProceed7z : EgEnt := ⟨.marker, .marker, 4⟩

theorem witness_FieldOutputsProceed_7 :
    dioUp upSt = true ∧ (egTake 3 (stir 10 (setEgPath 3 { sent := [wFieldOutputsProceed7x] } upSt))).1 = some wFieldOutputsProceed7x ∧ (egTake 3 (stir 10 (setEgPath 3 { sent := [wFieldOutputsProceed7y] } upSt))).1 = some wFieldOutputsProceed7y ∧
    (egTake 3 (stir 10 (setEgPath 3 { sent := [wFieldOutputsProceed7z] } upSt))).1 = some wFieldOutputsProceed7z := by decide

def wCanControllersProceed1s : State := fset upSt (CAN_CTL_RATE 1) 2

def wCanControllersProceed1t : State := fset upSt (CAN_CTL_RATE 1) 7

theorem witness_CanControllersProceed_1 :
    Arrives .host (CAN_CTL (1 : Fin 3).val) wCanControllersProceed1s (arrived .host (CAN_CTL (1 : Fin 3).val) wCanControllersProceed1s) ∧ flag wCanControllersProceed1s (CAN_CTL_EN (1 : Fin 3).val) = false ∧ fget wCanControllersProceed1s (CAN_STAT_STATE (1 : Fin 3).val) = canOff ∧
    (can wCanControllersProceed1s (1 : Fin 3).val).closing = false ∧ canTimingOk (codeWrite (CAN_CTL (1 : Fin 3).val) (wset ((rd wCanControllersProceed1s (CAN_CTL (1 : Fin 3).val) ||| 1) &&& 0xFFFFFFBF) 0 0 0) wCanControllersProceed1s) (1 : Fin 3).val = true ∧
    Arrives .host (CAN_CTL (1 : Fin 3).val) wCanControllersProceed1t (arrived .host (CAN_CTL (1 : Fin 3).val) wCanControllersProceed1t) ∧
    canTimingOk (codeWrite (CAN_CTL (1 : Fin 3).val) (wset ((rd wCanControllersProceed1t (CAN_CTL (1 : Fin 3).val) ||| 1) &&& 0xFFFFFFBF) 0 0 0) wCanControllersProceed1t) (1 : Fin 3).val = false := by decide

def wCanControllersProceed2f : CanFrame := { id := 5, ide := false, rtr := false, fdf := false, brs := false, dlc := 0, data := [] }

def wCanControllersProceed2s : State := setF upSt (CAN_CTL_EN 1)

def wCanControllersProceed2t : State := setCan 1 { bus := some { who := .flood, frame := wCanControllersProceed2f } } (setF upSt (CAN_CTL_EN 1))

theorem witness_CanControllersProceed_2 :
    Arrives .host (CAN_CTL (1 : Fin 3).val) wCanControllersProceed2s (arrived .host (CAN_CTL (1 : Fin 3).val) wCanControllersProceed2s) ∧ flag wCanControllersProceed2s (CAN_CTL_EN (1 : Fin 3).val) = true ∧ wget (rd wCanControllersProceed2s (CAN_CTL (1 : Fin 3).val)) 6 6 = 0 ∧
    (can wCanControllersProceed2s (1 : Fin 3).val).bus.isSome = false ∧ (can wCanControllersProceed2s (1 : Fin 3).val).rxing = false ∧ Arrives .host (CAN_CTL (1 : Fin 3).val) wCanControllersProceed2t (arrived .host (CAN_CTL (1 : Fin 3).val) wCanControllersProceed2t) ∧ (can wCanControllersProceed2t (1 : Fin 3).val).bus.isSome = true := by decide

def wCanControllersProceed3s : State := fset (setF upSt (CAN_CTL_EN 1)) (CAN_STAT_STATE 1) 4

theorem witness_CanControllersProceed_3 :
    Arrives .host (CAN_CTL (1 : Fin 3).val) wCanControllersProceed3s (arrived .host (CAN_CTL (1 : Fin 3).val) wCanControllersProceed3s) ∧ flag wCanControllersProceed3s (CAN_CTL_EN (1 : Fin 3).val) = true ∧ fget wCanControllersProceed3s (CAN_STAT_STATE (1 : Fin 3).val) = canBusOff := by decide

theorem witness_CanControllersProceed_4 :
    commsUp upSt = true ∧ fget (stir 11 (fset upSt (CAN_STAT_STATE 1) 1)) (CAN_STAT_STATE (1 : Fin 3).val) = canIntegrating ∧ fget (stir 11 (fset upSt (CAN_STAT_STATE 1) 5)) (CAN_STAT_STATE (1 : Fin 3).val) = canRecovering := by decide

def wCanControllersProceed5s : State := fset upSt (CAN_STAT_STATE 1) 2

theorem witness_CanControllersProceed_5 :
    canOnline wCanControllersProceed5s (1 : Fin 3).val = true ∧ fget wCanControllersProceed5s (CAN_CTL_MODE (1 : Fin 3).val) ≠ 3 ∧ (can wCanControllersProceed5s (1 : Fin 3).val).bus = none ∧ flag (stir 11 (clrF wCanControllersProceed5s (CAN_CTL_FDEN 1))) (CAN_CTL_FDEN (1 : Fin 3).val) = false := by decide

def wCanControllersProceed6p : FrontPacket := ⟨3, [1, 2, 4, 0], 0⟩

def wCanControllersProceed6s : State := setCan 1 { held := [wCanControllersProceed6p] } upSt

theorem witness_CanControllersProceed_6 :
    commsUp wCanControllersProceed6s = true ∧ (can (stir 11 wCanControllersProceed6s) (1 : Fin 3).val).held ≠ [] ∧ (stir 11 wCanControllersProceed6s).comms = [] := by decide

def wCanControllersProceed7s : State := setCan 1 { flood := some { path := 1, first := {}, pick0 := 0 } } (setF (fset upSt (CAN_STAT_STATE 1) 2) (CAN_CTL_EN 1))

def wCanControllersProceed7t : State := setF (fset upSt (CAN_STAT_STATE 1) 2) (CAN_CTL_EN 1)

theorem witness_CanControllersProceed_7 :
    canOnline wCanControllersProceed7s (1 : Fin 3).val = true ∧ (can wCanControllersProceed7s (1 : Fin 3).val).bus = none ∧ (can wCanControllersProceed7s (1 : Fin 3).val).rxing = false ∧ flag wCanControllersProceed7s (CAN_CTL_EN (1 : Fin 3).val) = true ∧
    fget wCanControllersProceed7s (CAN_CTL_MODE (1 : Fin 3).val) = 0 ∧ (canWinner (canPending wCanControllersProceed7s (1 : Fin 3).val)).isSome = true ∧
    canOnline wCanControllersProceed7t (1 : Fin 3).val = true ∧ (can wCanControllersProceed7t (1 : Fin 3).val).bus = none ∧ (can wCanControllersProceed7t (1 : Fin 3).val).rxing = false ∧ flag wCanControllersProceed7t (CAN_CTL_EN (1 : Fin 3).val) = true ∧
    fget wCanControllersProceed7t (CAN_CTL_MODE (1 : Fin 3).val) ≠ 3 ∧ canWinner (canPending wCanControllersProceed7t (1 : Fin 3).val) = none := by decide

def wCanControllersProceed8f : CanFrame := { id := 5, ide := false, rtr := false, fdf := false, brs := false, dlc := 0, data := [] }

def wCanControllersProceed8s : State := setCan 1 { bus := some { who := .host 5, frame := wCanControllersProceed8f } } upSt

def wCanControllersProceed8t : State := setCan 1 { bus := some { who := .host 5, frame := wCanControllersProceed8f, abort := true } } upSt

def wCanControllersProceed8u : State := stir 11 wCanControllersProceed8s

theorem witness_CanControllersProceed_8 :
    commsUp wCanControllersProceed8s = true ∧ (can wCanControllersProceed8u (1 : Fin 3).val).bus = some { who := .host 5, frame := wCanControllersProceed8f } ∧ fget wCanControllersProceed8u (CAN_CTL_MODE (1 : Fin 3).val) ≠ 3 ∧ flag wCanControllersProceed8u (CAN_MBCFG_ONESHOT (1 : Fin 3).val 5) = false ∧
    (can (stir 11 wCanControllersProceed8t) (1 : Fin 3).val).bus = some { who := .host 5, frame := wCanControllersProceed8f, abort := true } := by decide

def wCanControllersProceed9f : CanFrame := { id := 5, ide := false, rtr := false, fdf := false, brs := false, dlc := 0, data := [] }

def wCanControllersProceed9s : State := fset upSt (CAN_STAT_STATE 1) 2

def wCanControllersProceed9t : State := setCan 1 { bus := some { who := .host 5, frame := wCanControllersProceed9f } } wCanControllersProceed9s

def wCanControllersProceed9c : State := setCan 1 { closing := true } wCanControllersProceed9s

theorem witness_CanControllersProceed_9 :
    canOnline wCanControllersProceed9s (1 : Fin 3).val = true ∧ (can (stir 11 wCanControllersProceed9s) (1 : Fin 3).val).bus = none ∧ (can (stir 11 wCanControllersProceed9s) (1 : Fin 3).val).closing = false ∧ canOnline wCanControllersProceed9t (1 : Fin 3).val = true ∧ (can (stir 11 wCanControllersProceed9t) (1 : Fin 3).val).bus.isSome = true ∧
    flag (stir 11 (setF wCanControllersProceed9s (CAN_CTL_PXE 1))) (CAN_CTL_PXE (1 : Fin 3).val) = true ∧ flag (stir 11 (clrF wCanControllersProceed9s (CAN_CTL_PXE 1))) (CAN_CTL_PXE (1 : Fin 3).val) = false ∧
    canOnline wCanControllersProceed9c (1 : Fin 3).val = true ∧ (can (stir 11 wCanControllersProceed9c) (1 : Fin 3).val).closing = true := by decide

def wCanControllersProceed10f : CanFrame := { id := 5, ide := false, rtr := false, fdf := false, brs := false, dlc := 0, data := [] }

def wCanControllersProceed10s : State := setF (fset upSt (CAN_MBCFG_ROLE 1 5) 2) (CAN_MBSTAT_REQ 1 5)

def wCanControllersProceed10t : State := setCan 1 { bus := some { who := .host 5, frame := wCanControllersProceed10f } } wCanControllersProceed10s

theorem witness_CanControllersProceed_10 :
    Arrives .host (CAN_MBSTAT (1 : Fin 3).val (5 : Fin 64).val) wCanControllersProceed10s (arrived .host (CAN_MBSTAT (1 : Fin 3).val (5 : Fin 64).val) wCanControllersProceed10s) ∧
    fget (codeWrite (CAN_MBSTAT 1 5) 0 wCanControllersProceed10s) (CAN_MBCFG_ROLE (1 : Fin 3).val (5 : Fin 64).val) = 2 ∧ (can (codeWrite (CAN_MBSTAT 1 5) 0 wCanControllersProceed10s) 1).bus.map (·.who) ≠ some (.host 5) ∧
    flag (codeWrite (CAN_MBSTAT 1 5) 0 wCanControllersProceed10s) (CAN_MBSTAT_REQ 1 5) = true ∧
    Arrives .host (CAN_MBSTAT (1 : Fin 3).val (5 : Fin 64).val) wCanControllersProceed10t (arrived .host (CAN_MBSTAT (1 : Fin 3).val (5 : Fin 64).val) wCanControllersProceed10t) ∧ (can (codeWrite (CAN_MBSTAT 1 5) 0 wCanControllersProceed10t) 1).bus.map (·.who) = some (.host 5) := by decide

def wCanControllersProceed11f : Flood := { path := 1, first := {}, pick0 := 0 }

def wCanControllersProceed11x : EgEnt := ⟨.state 5 0 0 0 1 0, .alarm, 7⟩

def wCanControllersProceed11y : EgEnt := ⟨.flood wCanControllersProceed11f, .flood, 7⟩

theorem witness_CanControllersProceed_11 :
    commsUp upSt = true ∧ (egTake 1 (stir 11 (setEgPath 1 { sent := [wCanControllersProceed11x] } upSt))).1 = some wCanControllersProceed11x ∧ (egTake 1 (stir 11 (setEgPath 1 { sent := [wCanControllersProceed11y] } upSt))).1 = some wCanControllersProceed11y := by decide

theorem witness_CanControllersProceed_12 :
    fget (fset upSt (CAN_MBCFG_ROLE 1 5) 3) (CAN_MBCFG_ROLE 1 5) = 3 ∧ (tabGet (fun _ => {}) (can upSt 1).alarms 5).rep = 0 ∧ (can upSt 1).bus = none ∧ fget upSt (CAN_MBCFG_ROLE 1 5) ≠ 3 := by decide

theorem witness_CanControllersProceed_13 :
    Arrives .host (CAN_ALMCTL (1 : Fin 3).val) upSt (arrived .host (CAN_ALMCTL (1 : Fin 3).val) upSt) ∧
    (can (codeWrite (CAN_ALMCTL (1 : Fin 3).val) ((rd upSt (CAN_ALMCTL (1 : Fin 3).val) ||| 0x40000000) &&& 0xBFFFFFFF) upSt) (1 : Fin 3).val).bus = none := by decide

def wLinksProceed1s : State := setF (setF (setF upSt (ETH_CTL_EN 1)) (ETH_STAT_LINK 1)) (ETH_CTL_PROMISC 1)

def wLinksProceed1su : State := stir 11 wLinksProceed1s

def wLinksProceed1sv : State := setPort 1 { ethPort wLinksProceed1su 1 with offAt := none } wLinksProceed1su

def wLinksProceed1f : List Byte := List.replicate 60 1

theorem witness_LinksProceed_1 :
    commsUp wLinksProceed1s = true ∧ ethListens wLinksProceed1su (1 : Fin 2).val (3 : BitVec 8).toNat = true ∧ ethListens (stir 11 upSt) (1 : Fin 2).val (3 : BitVec 8).toNat = false ∧ 60 ≤ wLinksProceed1f.length ∧ wLinksProceed1f.length ≤ 1518 ∧ isPause wLinksProceed1f = false ∧
    ethAccepts wLinksProceed1sv (1 : Fin 2).val (wLinksProceed1f.take 6) = true ∧ ethAccepts (clrF (clrF wLinksProceed1sv (ETH_CTL_PROMISC 1)) (ETH_CTL_MCHASH 1)) (1 : Fin 2).val (wLinksProceed1f.take 6) = false ∧ ([] : List Byte).length < 60 := by decide

theorem witness_LinksProceed_2 :
    Arrives .host (ETH_RXTAIL (1 : Fin 2).val) upSt (arrived .host (ETH_RXTAIL (1 : Fin 2).val) upSt) ∧ wget (8 : Word) 1 0 = 0 ∧ wget (3 : Word) 1 0 ≠ 0 := by decide

theorem witness_LinksProceed_3 :
    Arrives .host (ETH_TXCMD (1 : Fin 2).val) upSt (arrived .host (ETH_TXCMD (1 : Fin 2).val) upSt) ∧ wget (0x20040 : Word) 10 0 ≤ 1518 ∧ wget (0x20040 : Word) 10 0 ≠ 0 ∧ wget (0x20000 : Word) 10 0 = 0 ∧
    (ethPort (arrived .host (ETH_TXCMD (1 : Fin 2).val) upSt) (1 : Fin 2).val).cmds.any (fun c => c.1 == 2) = false := by decide

def wLinksProceed4s : State := setPort 1 { cmds := [(2, 64)] } (setF (setF upSt (ETH_CTL_EN 1)) (ETH_STAT_LINK 1))

def wLinksProceed4su : State := stir 11 wLinksProceed4s

theorem witness_LinksProceed_4 :
    commsUp wLinksProceed4s = true ∧ (ethPort wLinksProceed4su (1 : Fin 2).val).cmds = [(2, 64)] ∧ flag wLinksProceed4su (ETH_CTL_EN (1 : Fin 2).val) = true ∧ flag wLinksProceed4su (ETH_STAT_LINK (1 : Fin 2).val) = true ∧ flag wLinksProceed4su (ETH_STAT_DUPLEX (1 : Fin 2).val) = false := by decide

def wLinksProceed5s : State := setPort 1 { caps := [⟨7, {}⟩] } upSt

theorem witness_LinksProceed_5 :
    Fetches .host (ETH_PTPSEQ (1 : Fin 2).val) wLinksProceed5s (rouse (addrIsland (ETH_PTPSEQ (1 : Fin 2).val)) wLinksProceed5s) ∧ (ethPort wLinksProceed5s (1 : Fin 2).val).caps = [⟨7, {}⟩] := by decide

def wLinksProceed6s : State := setF upSt (ETH_CTL_EN 1)

theorem witness_LinksProceed_6 :
    Arrives .host (ETH_CTL (1 : Fin 2).val) upSt (arrived .host (ETH_CTL (1 : Fin 2).val) upSt) ∧ flag (arrived .host (ETH_CTL (1 : Fin 2).val) upSt) (ETH_CTL_EN (1 : Fin 2).val) = false ∧
    flag (codeWrite (ETH_CTL (1 : Fin 2).val) (rd (arrived .host (ETH_CTL (1 : Fin 2).val) upSt) (ETH_CTL (1 : Fin 2).val) ||| 1) (arrived .host (ETH_CTL (1 : Fin 2).val) upSt)) (ETH_CTL_EN (1 : Fin 2).val) = true ∧
    Arrives .host (ETH_CTL (1 : Fin 2).val) wLinksProceed6s (arrived .host (ETH_CTL (1 : Fin 2).val) wLinksProceed6s) ∧ flag wLinksProceed6s (ETH_CTL_EN (1 : Fin 2).val) = true ∧
    flag (codeWrite (ETH_CTL (1 : Fin 2).val) (rd wLinksProceed6s (ETH_CTL (1 : Fin 2).val) &&& 0xFFFFFFFE) wLinksProceed6s) (ETH_CTL_EN (1 : Fin 2).val) = false := by decide

def wLinksProceed7s : State := setF upSt (ETH_CTL_EN 1)

def wLinksProceed7su : State := stir 11 wLinksProceed7s

theorem witness_LinksProceed_7 :
    commsUp upSt = true ∧ flag wLinksProceed7su (ETH_CTL_EN (1 : Fin 2).val) = true ∧ flag wLinksProceed7su (ETH_STAT_LINK (1 : Fin 2).val) = false ∧
    (flag (clrF wLinksProceed7su (ETH_CTL_ANEN 1)) (ETH_CTL_ANEN (1 : Fin 2).val) = true → (ethPort (clrF wLinksProceed7su (ETH_CTL_ANEN 1)) (1 : Fin 2).val).enAt + 49152 ≤ edges (clrF wLinksProceed7su (ETH_CTL_ANEN 1)) 11) ∧
    flag (stir 11 (setF upSt (ETH_STAT_LINK 1))) (ETH_STAT_LINK (1 : Fin 2).val) = true := by decide

def wLinksProceed8s : State := setF upSt SPI_CTL_EN

def wLinksProceed8su : State := stir 11 wLinksProceed8s

def wLinksProceed8t : State := { wLinksProceed8s with links := { wLinksProceed8s.links with spi := some .write } }

def wLinksProceed8tu : State := stir 11 wLinksProceed8t

theorem witness_LinksProceed_8 :
    commsUp wLinksProceed8s = true ∧ wLinksProceed8su.links.spi = none ∧ flag wLinksProceed8su SPI_CTL_EN = true ∧ commsUp wLinksProceed8t = true ∧ wLinksProceed8tu.links.spi = some .write ∧ wLinksProceed8tu.links.spiErr = false ∧ flag wLinksProceed8tu SPI_CTL_EN = true ∧
    flag (stir 11 upSt) SPI_CTL_EN = false ∧ (stir 11 upSt).links.spi = none ∧
    (0x8FF : BitVec 16).toNat < 4096 ∧ (0x7FF : BitVec 16).toNat < 0x800 ∧ 4096 ≤ (0x1000 : BitVec 16).toNat ∧ (0x33 : Byte) ≠ 0x05 ∧ (0x33 : Byte) ≠ 0x0B ∧ (0x33 : Byte) ≠ 0x02 := by decide

def wLinksProceed9s : State := { upSt with links := { upSt.links with rx := [(65, true)], tx := List.replicate 64 7 } }

theorem witness_LinksProceed_9 :
    Arrives .host UART_DATA upSt (arrived .host UART_DATA upSt) ∧ (arrived .host UART_DATA upSt).links.tx.length < 64 ∧ Arrives .host UART_DATA wLinksProceed9s (arrived .host UART_DATA wLinksProceed9s) ∧
    64 ≤ (arrived .host UART_DATA wLinksProceed9s).links.tx.length ∧ Fetches .host UART_DATA wLinksProceed9s (rouse (addrIsland UART_DATA) wLinksProceed9s) ∧ (rouse (addrIsland UART_DATA) wLinksProceed9s).links.rx = [(65, true)] ∧
    Fetches .host UART_DATA upSt (rouse (addrIsland UART_DATA) upSt) ∧ (rouse (addrIsland UART_DATA) upSt).links.rx = [] := by decide

def wLinksProceed10s : State := setF upSt UART_CTL_EN

def wLinksProceed10su : State := stir 11 wLinksProceed10s

theorem witness_LinksProceed_10 :
    commsUp wLinksProceed10s = true ∧ flag wLinksProceed10su UART_CTL_EN = true ∧ wLinksProceed10su.links.rx.length < 64 := by decide

def wTickEdgeAdvancesCount1a : State := setF (setF (setF State.reset TICK_CMD_LOADCNT) TICK_CTL_HALT) TICK_CTL_ADDMISS

theorem witness_TickEdgeAdvancesCount :
    flag wTickEdgeAdvancesCount1a TICK_CMD_LOADCNT = true ∧ flag wTickEdgeAdvancesCount1a TICK_CTL_ADDMISS = true ∧ flag wTickEdgeAdvancesCount1a TICK_CTL_HALT = true ∧ edgeHalt wTickEdgeAdvancesCount1a = true ∧ wTickEdgeAdvancesCount1a.tick.osfClr = false ∧ ({ wTickEdgeAdvancesCount1a with tick := { wTickEdgeAdvancesCount1a.tick with osfClr := true } } : State).tick.osfClr = true ∧
    flag State.reset TICK_CMD_LOADCNT = false := by decide

theorem witness_TickStepOfAccumulator :
    (1048575 : Int) + 1 ≥ 1048576 ∧ (-1048575 : Int) + -1 ≤ -1048576 ∧ (-1048576 : Int) < 0 + 0 ∧ (0 : Int) + 0 < 1048576 := by decide

theorem witness_TickCommandsComplete_1 :
    Arrives .host TICK_CMD upSt (arrived .host TICK_CMD upSt) ∧ fget (arrived .host TICK_CMD upSt) TICK_CMD_LOADCAL = 0 ∧
    fget (arrived .host TICK_CMD upSt) TICK_CMD_LOADCNT ≤ 1 := by decide

theorem witness_TickCommandsComplete_2 :
    Arrives .host TICK_CMD upSt (arrived .host TICK_CMD upSt) ∧ fget (arrived .host TICK_CMD upSt) TICK_CMD_LOADCNT = 0 ∧
    fget (arrived .host TICK_CMD upSt) TICK_CMD_LOADCAL ≤ 1 := by decide

theorem witness_TickCommandsComplete_3 :
    Arrives .host TICK_CMD upSt (arrived .host TICK_CMD upSt) := by decide

theorem witness_TickCommandsComplete_4 :
    Arrives .host TICK_CTL upSt (arrived .host TICK_CTL upSt) ∧ flag (arrived .host TICK_CTL upSt) TICK_CTL_HALT = false := by decide

def wTickCommandsComplete5s : State := setF upSt TICK_CTL_HALT

theorem witness_TickCommandsComplete_5 :
    Arrives .host TICK_CTL wTickCommandsComplete5s (arrived .host TICK_CTL wTickCommandsComplete5s) ∧ flag (arrived .host TICK_CTL wTickCommandsComplete5s) TICK_CTL_HALT = true := by decide

theorem witness_TickCommandsComplete_6 :
    Arrives .host TICK_TRIM upSt (arrived .host TICK_TRIM upSt) ∧ flag (arrived .host TICK_TRIM upSt) TICK_CTL_LOCK = false ∧
    wget (5 : Word) 10 0 ≠ 0x400 ∧ wget (0x400 : Word) 10 0 = 0x400 := by decide

theorem witness_TickCommandsComplete_7 :
    Arrives .host (TICK_ALMHI (2 : Fin 4).val) upSt (arrived .host (TICK_ALMHI (2 : Fin 4).val) upSt) := by decide

def wTickCommandsComplete8s : State := setF { State.reset with tick := { due := [(1, { due := true })] } } (TICK_ALMHI_ARM 1)

theorem witness_TickCommandsComplete_8 :
    tabGet (fun _ => {}) wTickCommandsComplete8s.tick.due (1 : Fin 4).val = { due := true } ∧ flag wTickCommandsComplete8s (TICK_ALMHI_ARM (1 : Fin 4).val) = true := by decide

def wTickCommandsComplete9s : State := { setF (fset State.reset TICK_MREFCFG_CYC 5) TICK_CTL_MREFEN with tick := { mrefQual := true } }

def wTickCommandsComplete9t : State := { wTickCommandsComplete9s with tick := { mrefQual := true, mrefOpen := true, mrefCyc := 4 } }

theorem witness_TickCommandsComplete_9 :
    5 = fget wTickCommandsComplete9s TICK_MREFCFG_CYC ∧ flag wTickCommandsComplete9s TICK_CTL_MREFEN = true ∧ flag wTickCommandsComplete9s SYS_SUPSTAT_VAUXOK = true ∧ wTickCommandsComplete9s.tick.mrefQual = true ∧ wTickCommandsComplete9s.tick.mrefOpen = false ∧
    fget wTickCommandsComplete9t TICK_MREFCFG_CYC = 5 ∧ flag wTickCommandsComplete9t TICK_CTL_MREFEN = true ∧ flag wTickCommandsComplete9t SYS_SUPSTAT_VAUXOK = true ∧ wTickCommandsComplete9t.tick.mrefQual = true ∧ wTickCommandsComplete9t.tick.mrefOpen = true ∧ 5 ≤ wTickCommandsComplete9t.tick.mrefCyc + 1 ∧
    ({ mrefOpen := true } : TickSt).mrefCyc + 1 < 5 ∧ fget (fset wTickCommandsComplete9s TICK_MREFCFG_CYC 0) TICK_MREFCFG_CYC = 0 := by decide

def wTickCommandsComplete10s : State := { setF State.reset TICK_CTL_MREFEN with tick := { mrefOpen := true, mrefGap := 3277 } }

theorem witness_TickCommandsComplete_10 :
    flag wTickCommandsComplete10s TICK_CTL_MREFEN = true ∧ flag wTickCommandsComplete10s SYS_SUPSTAT_VAUXOK = true ∧ wTickCommandsComplete10s.tick.mrefOpen = true ∧ 3277 ≤ wTickCommandsComplete10s.tick.mrefGap := by decide

theorem witness_TickCommandsComplete_11 :
    islUp State.reset 0 = true := by decide

theorem witness_TickCommandsComplete_12 :
    Arrives .host TICK_STAT upSt (arrived .host TICK_STAT upSt) := by decide

def wRecorderAndStorageProceed1s : EgItem → State := fun x => setEgPath 0 { sent := [⟨x, .state, 0⟩] } (setF upSt STORE_STAT_READY)

def wRecorderAndStorageProceed1f : Flood := { path := 1, first := {}, pick0 := 0 }

theorem witness_RecorderAndStorageProceed_1 :
    islUp (wRecorderAndStorageProceed1s (.hist 5 6)) 12 = true ∧ flag (wRecorderAndStorageProceed1s (.hist 5 6)) STORE_STAT_READY = true ∧ (egTake 0 (wRecorderAndStorageProceed1s (.hist 5 6))).1 = some ⟨.hist 5 6, .state, 0⟩ ∧ flag (rouse 12 (wRecorderAndStorageProceed1s (.hist 5 6))) REC_STAT_FROZEN = false ∧
    (egTake 0 (wRecorderAndStorageProceed1s (.extreme 5 6 7))).1 = some ⟨.extreme 5 6 7, .state, 0⟩ ∧ (egTake 0 (wRecorderAndStorageProceed1s (.state 5 6 7 8 1 0))).1 = some ⟨.state 5 6 7 8 1 0, .state, 0⟩ ∧ (recState 5 1 6 7 8 (rouse 12 (wRecorderAndStorageProceed1s (.state 5 6 7 8 1 0)))).2 = true ∧
    (egTake 0 (wRecorderAndStorageProceed1s (.flood wRecorderAndStorageProceed1f))).1 = some ⟨.flood wRecorderAndStorageProceed1f, .state, 0⟩ ∧ (recAppend 4 (floodBody wRecorderAndStorageProceed1f) (rouse 12 (wRecorderAndStorageProceed1s (.flood wRecorderAndStorageProceed1f)))).2 = true ∧ flag (rouse 12 (setF (wRecorderAndStorageProceed1s (.flood wRecorderAndStorageProceed1f)) REC_STAT_FROZEN)) REC_STAT_FROZEN = true := by decide

def wRecorderAndStorageProceed2h : State := setF upSt (REC_HDESC_EN 9)

def wRecorderAndStorageProceed2x : State := setF upSt (REC_XDESC_EN 9)

theorem witness_RecorderAndStorageProceed_2 :
    Arrives .host (REC_HDESC (9 : Fin 4096).val) upSt (arrived .host (REC_HDESC (9 : Fin 4096).val) upSt) ∧ getBit (arrived .host (REC_HDESC (9 : Fin 4096).val) upSt) ⟨REC_HDESC (9 : Fin 4096).val, 31, 0⟩ 31 = false ∧
    Arrives .host (REC_XDESC (9 : Fin 4096).val) upSt (arrived .host (REC_XDESC (9 : Fin 4096).val) upSt) ∧ getBit (arrived .host (REC_XDESC (9 : Fin 4096).val) upSt) ⟨REC_XDESC (9 : Fin 4096).val, 31, 0⟩ 31 = false ∧
    Arrives .host (REC_HDESC (9 : Fin 4096).val) wRecorderAndStorageProceed2h (arrived .host (REC_HDESC (9 : Fin 4096).val) wRecorderAndStorageProceed2h) ∧ getBit (arrived .host (REC_HDESC (9 : Fin 4096).val) wRecorderAndStorageProceed2h) ⟨REC_HDESC (9 : Fin 4096).val, 31, 0⟩ 31 = true ∧
    Arrives .host (REC_XDESC (9 : Fin 4096).val) wRecorderAndStorageProceed2x (arrived .host (REC_XDESC (9 : Fin 4096).val) wRecorderAndStorageProceed2x) ∧ getBit (arrived .host (REC_XDESC (9 : Fin 4096).val) wRecorderAndStorageProceed2x) ⟨REC_XDESC (9 : Fin 4096).val, 31, 0⟩ 31 = true := by decide

def wRecorderAndStorageProceed3s : State := setStore { upSt.store with due := [(1, { due := true })], closing := [(1, ⟨[(false, 5)], false⟩)] } (setF upSt STORE_STAT_READY)

def wRecorderAndStorageProceed3t : State := setStore { upSt.store with closing := [(1, ⟨[(false, 5)], false⟩)] } upSt

theorem witness_RecorderAndStorageProceed_3 :
    islUp wRecorderAndStorageProceed3s 12 = true ∧ (tabGet (fun _ => {}) (rouse 12 wRecorderAndStorageProceed3s).store.due (1 : Fin 2).val).due = true ∧ (closeJob (rouse 12 wRecorderAndStorageProceed3s) (1 : Fin 2).val).todo = (false, 5) :: [] ∧
    (copySeries 1 false 5 false (rouse 12 wRecorderAndStorageProceed3s)).2 = true ∧ islUp wRecorderAndStorageProceed3t 12 = true ∧ (closeJob (rouse 12 wRecorderAndStorageProceed3t) (1 : Fin 2).val).todo = (false, 5) :: [] ∧ (copySeries 1 false 5 false (rouse 12 wRecorderAndStorageProceed3t)).2 = false := by decide

theorem witness_RecorderAndStorageProceed_4 :
    Arrives .host REC_CMD upSt (arrived .host REC_CMD upSt) ∧ Arrives .host REC_CURIDX upSt (arrived .host REC_CURIDX upSt) := by decide

def wRecorderAndStorageProceed5s : State := setF (setStore { upSt.store with cursor := some { space := 0, idx := 7 } } upSt) REC_CURSTAT_BUSY

theorem witness_RecorderAndStorageProceed_5 :
    islUp wRecorderAndStorageProceed5s 12 = true ∧ (rouse 12 wRecorderAndStorageProceed5s).store.cursor = some { space := 0, idx := 7 } ∧ flag (rouse 12 wRecorderAndStorageProceed5s) REC_CURSTAT_BUSY = true ∧ loadStatus (rouse 12 wRecorderAndStorageProceed5s) { space := 0, idx := 7 } = some 2 := by decide

theorem witness_RecorderAndStorageProceed_6 :
    accError upSt (0x20800800 + 4 * (9 : Fin 64).val) = none ∧ flag (rouse 12 upSt) REC_CURSTAT_BUSY = false ∧ flag (rouse 12 (setF upSt REC_CURSTAT_BUSY)) REC_CURSTAT_BUSY = true ∧
    accError (setF upSt REC_CURSTAT_BUSY) (0x20800800 + 4 * (9 : Fin 64).val) = none := by decide

def wRecorderAndStorageProceed7s : State := setEdges (setStore { upSt.store with openPg := some ⟨[], 0⟩ } upSt) 12 10000000

theorem witness_RecorderAndStorageProceed_7 :
    islUp wRecorderAndStorageProceed7s 12 = true ∧ (rouse 12 wRecorderAndStorageProceed7s).store.openPg = some ⟨[], 0⟩ ∧ 0 + 1024 * fget (rouse 12 wRecorderAndStorageProceed7s) REC_CFG_FLUSHT ≤ edges (rouse 12 wRecorderAndStorageProceed7s) 12 ∧ flag (rouse 12 wRecorderAndStorageProceed7s) STORE_STAT_SUSP = false := by decide

theorem witness_RecorderAndStorageProceed_8 :
    Arrives .host STORE_NCMD upSt (arrived .host STORE_NCMD upSt) := by decide

theorem witness_RecorderAndStorageProceed_9 :
    flag upSt STORE_NCMD_BUSY = false ∧ partition 2 = some (1664, 384) ∧ partition 1 = some (128, 1536) ∧ fget upSt STORE_NADDR_BLOCK < 384 ∧ 1664 + fget upSt STORE_NADDR_BLOCK ≠ 126 ∧ 1664 + fget upSt STORE_NADDR_BLOCK ≠ 127 ∧
    blockGood upSt (1664 + fget upSt STORE_NADDR_BLOCK) = true ∧ blockGood upSt (128 + fget upSt STORE_NADDR_BLOCK) = true ∧ upSt.life.state ≠ .custody ∧ flag upSt STORE_STAT_SUSP = false := by decide

def wRecorderAndStorageProceed10s : State := setStore { upSt.store with hostReq := some (.hostRead 5) } upSt

theorem witness_RecorderAndStorageProceed_10 :
    islUp wRecorderAndStorageProceed10s 12 = true ∧ (rouse 12 wRecorderAndStorageProceed10s).store.op = none ∧ nandPick (rouse 12 wRecorderAndStorageProceed10s) = some 1 ∧ nandWaiting (rouse 12 wRecorderAndStorageProceed10s) 1 = some (.hostRead 5) ∧
    (rouse 12 (setStore { upSt.store with op := some (.hostErase 5) } upSt)).store.op = some (.hostErase 5) ∧ (rouse 12 (setStore { upSt.store with op := some (.program 5) } upSt)).store.op = some (.program 5) ∧
    (rouse 12 (setStore { upSt.store with op := some (.hostRead 5) } upSt)).store.op = some (.hostRead 5) := by decide

theorem witness_RecorderAndStorageProceed_11 :
    islUp upSt 12 = true ∧ flag upSt STORE_STAT_READY = false ∧ logScan upSt = none := by decide

def wRecorderAndStorageProceed12s : State := setF upSt STORE_STAT_SUSP

def wRecorderAndStorageProceed12t : State := setStore { upSt.store with hostReq := some (.hostErase 5) } upSt

theorem witness_RecorderAndStorageProceed_12 :
    islUp upSt 12 = true ∧ 500 < (501 : BitVec 12).toInt ∧ flag (fset (rouse 12 upSt) STORE_STAT_NTEMP 501) STORE_STAT_SUSP = false ∧ (fset (rouse 12 upSt) STORE_STAT_NTEMP 501).store.hostReq = none ∧
    (fset (rouse 12 wRecorderAndStorageProceed12t) STORE_STAT_NTEMP 501).store.hostReq = some (.hostErase 5) ∧ (500 : BitVec 12).toInt ≤ 500 ∧ (479 : BitVec 12).toInt < 480 ∧ 480 ≤ (480 : BitVec 12).toInt ∧
    flag (fset (rouse 12 wRecorderAndStorageProceed12s) STORE_STAT_NTEMP 479) STORE_STAT_SUSP = true := by decide

def wDisplayDriversProceed1s : State := setF upSt DISP_CTL_LCDEN

theorem witness_DisplayDriversProceed_1 :
    Arrives .host DISP_CTL upSt (arrived .host DISP_CTL upSt) ∧ flag (arrived .host DISP_CTL upSt) DISP_CTL_LCDEN = false ∧
    flag (ladderShow (codeWrite DISP_CTL (rd (arrived .host DISP_CTL upSt) DISP_CTL ||| 1) (arrived .host DISP_CTL upSt))) DISP_CTL_LCDEN = true ∧
    flag (ladderShow (codeWrite DISP_CTL (rd (arrived .host DISP_CTL upSt) DISP_CTL ||| 1) (arrived .host DISP_CTL upSt))) DISP_LCDSTAT_RUN = false ∧
    Arrives .host DISP_CTL wDisplayDriversProceed1s (arrived .host DISP_CTL wDisplayDriversProceed1s) ∧ flag (arrived .host DISP_CTL wDisplayDriversProceed1s) DISP_CTL_LCDEN = true := by decide

def wDisplayDriversProceed2s : State := setF (setF upSt DISP_CTL_LCDEN) DISP_CTL_LADDER

def wDisplayDriversProceed2t : State := setEdges (setF wDisplayDriversProceed2s DISP_LCDSTAT_RUN) 13 1000

theorem witness_DisplayDriversProceed_2 :
    dispUp wDisplayDriversProceed2s = true ∧ flag (stir 13 wDisplayDriversProceed2s) DISP_CTL_LCDEN = true ∧ flag (stir 13 wDisplayDriversProceed2s) DISP_LCDSTAT_RUN = false ∧ onLadder (stir 13 wDisplayDriversProceed2s) = true ∧ dispUp wDisplayDriversProceed2t = true ∧ flag (stir 13 wDisplayDriversProceed2t) DISP_LCDSTAT_RUN = true ∧ frameOver (stir 13 wDisplayDriversProceed2t) = true ∧ flag (stir 13 wDisplayDriversProceed2s) DISP_LCDSTAT_RUN = false := by decide

def wDisplayDriversProceed4s : State := setF upSt DISP_CTL_ANEN

theorem witness_DisplayDriversProceed_4 :
    Arrives .host DISP_CMD wDisplayDriversProceed4s (arrived .host DISP_CMD wDisplayDriversProceed4s) ∧ flag (arrived .host DISP_CMD wDisplayDriversProceed4s) DISP_CTL_LADDER = false ∧ mainReady (arrived .host DISP_CMD wDisplayDriversProceed4s) = true ∧ (arrived .host DISP_CMD wDisplayDriversProceed4s).disp.clear = .none ∧
    Arrives .host DISP_CMD (setF wDisplayDriversProceed4s DISP_CTL_LADDER) (arrived .host DISP_CMD (setF wDisplayDriversProceed4s DISP_CTL_LADDER)) ∧ flag (arrived .host DISP_CMD (setF wDisplayDriversProceed4s DISP_CTL_LADDER)) DISP_CTL_LADDER = true := by decide

theorem witness_DisplayDriversProceed_5 :
    dispUp upSt = true := by decide

theorem witness_DisplayDriversProceed_6 :
    Arrives .host (DISP_ANTGT 0) upSt (arrived .host (DISP_ANTGT 0) upSt) ∧ Arrives .host (DISP_ANTGT 1) upSt (arrived .host (DISP_ANTGT 1) upSt) := by decide

def wDisplayDriversProceed7s : State := fset (setF upSt DISP_CTL_ANEN) DISP_ANDIRTY_DIRTY 5

def wDisplayDriversProceed7t : State := setEngine false { run := true, acked := true, segs := 1, tgts := 2 } wDisplayDriversProceed7s

def wDisplayDriversProceed7c : State := setDisp { upSt.disp with clear := .running } upSt

theorem witness_DisplayDriversProceed_7 :
    dispUp (setEdges (dirtySet 5 wDisplayDriversProceed7s) 13 1000000) = true ∧ andlyOver (stir 13 (setEdges (dirtySet 5 wDisplayDriversProceed7s) 13 1000000)) = true ∧ mainReady (stir 13 (setEdges (dirtySet 5 wDisplayDriversProceed7s) 13 1000000)) = true ∧
    dispUp wDisplayDriversProceed7t = true ∧ (engine (stir 13 wDisplayDriversProceed7t) false).run = true ∧ engineOver (stir 13 wDisplayDriversProceed7t) (engine (stir 13 wDisplayDriversProceed7t) false) = false ∧ engineOver (stir 13 (setEdges wDisplayDriversProceed7t 13 1000000)) (engine (stir 13 (setEdges wDisplayDriversProceed7t 13 1000000)) false) = true ∧
    dispUp wDisplayDriversProceed7c = true ∧ clearOver (stir 13 wDisplayDriversProceed7c) = false ∧ clearOver (stir 13 (setEdges wDisplayDriversProceed7c 13 1000000)) = true ∧ dispUp (setEdges wDisplayDriversProceed7c 13 1000000) = true ∧ dispUp (setEdges wDisplayDriversProceed7t 13 1000000) = true ∧ (engine (stir 13 (setEngine true { run := true } upSt)) true).run = true := by decide

def wDisplayDriversProceed8f : Flood := { path := 2, first := {}, pick0 := 0 }

theorem witness_DisplayDriversProceed_8 :
    islUp upSt 13 = true ∧ (egTake 2 (setEgPath 2 { sent := [⟨.state 5 0 0 0 1 0, .state, 0⟩] } upSt)).1 = some ⟨.state 5 0 0 0 1 0, .state, 0⟩ ∧ (egTake 2 (setEgPath 2 { sent := [⟨.flood wDisplayDriversProceed8f, .flood, 0⟩] } upSt)).1 = some ⟨.flood wDisplayDriversProceed8f, .flood, 0⟩ := by decide

def wDisplayDriversProceed9s : State := setEdges (setDisp { upSt.disp with flood := some 3 } upSt) 13 10000000

theorem witness_DisplayDriversProceed_9 :
    dispUp wDisplayDriversProceed9s = true ∧ (stir 13 wDisplayDriversProceed9s).disp.flood = some 3 ∧ 3 + max 1 (32768 * fget (stir 13 wDisplayDriversProceed9s) DISP_ANCFG_FLHOLD) ≤ edges (stir 13 wDisplayDriversProceed9s) 13 := by decide

def wDisplayDriversProceed10s : State := { upSt with rv := { upSt.rv with segs := [5] } }

theorem witness_DisplayDriversProceed_10 :
    islUp wDisplayDriversProceed10s 13 = true ∧ wDisplayDriversProceed10s.disp.clear = .none ∧ wDisplayDriversProceed10s.rv.segs = [5] := by decide

def wPolderProceeds1s : State := setPower upSt 17 .off

theorem witness_PolderProceeds_1 :
    upSt.sys.variantM = true ∧ polUp upSt = true ∧ wPolderProceeds1s.sys.variantM = true ∧ polUp wPolderProceeds1s = false ∧ wPolderProceeds1s.nor.save.tx = [] ∧ wPolderProceeds1s.nor.events.length < 32768 ∧ (polCommitted { wPolderProceeds1s with nor := { wPolderProceeds1s.nor with copyB := some [] } }).isSome = true := by decide

theorem witness_PolderProceeds_2 :
    polUp upSt = true := by decide

theorem witness_PolderProceeds_3 :
    polUp upSt = true ∧ (stir 17 upSt).nor.events.length < 32768 ∧ (stir 17 upSt).pol.warn = false ∧ (stir 17 (setPol { upSt.pol with warn := true } upSt)).pol.warn = true := by decide

def wPolderProceeds4s : State := setPol { upSt.pol with par := some [] } upSt

theorem witness_PolderProceeds_4 :
    polUp wPolderProceeds4s = true ∧ (stir 17 wPolderProceeds4s).pol.par.isSome = true ∧ (stir 17 wPolderProceeds4s).pol.warn = false ∧ pulseApart (polMeter (stir 17 wPolderProceeds4s) 1).at1 5 = true ∧ pulseApart (polMeter (stir 17 wPolderProceeds4s) 0).at2 7 = true ∧ polUp upSt = true ∧ (stir 17 upSt).pol.par = none := by decide

def wPolderProceeds5s : State := setPol { upSt.pol with cyc := 9 } upSt

theorem witness_PolderProceeds_5 :
    polUp wPolderProceeds5s = true ∧ ((stir 17 wPolderProceeds5s).pol.cyc + 1) % 10 = 0 ∧ (stir 17 wPolderProceeds5s).pol.par = none ∧ (stir 17 upSt).nor.save.tx = [] ∧ polUp upSt = true ∧ ((stir 17 upSt).pol.cyc + 1) % 10 ≠ 0 ∧ (stir 17 upSt).pol.snap = none := by decide

def wPolderProceeds6d : PolDay := ⟨3, 5, {}, {}, {}, {}⟩

def wPolderProceeds6s : State := setNor { upSt.nor with days := [wPolderProceeds6d] } upSt

theorem witness_PolderProceeds_6 :
    polUp wPolderProceeds6s = true ∧ (stir 17 wPolderProceeds6s).nor.days = [wPolderProceeds6d] ∧ 4 ≤ freeSlots (stir 17 wPolderProceeds6s) ∧ freeSlots (setPol { wPolderProceeds6s.pol with tx := List.replicate 110592 (0, { no := 1 }) } wPolderProceeds6s) < 2 := by
  refine ⟨by decide, by decide, by decide, ?_⟩
  simp only [freeSlots, setPol, List.length_replicate]; omega

def wPolderProceeds7u : State := stir 17 upSt

theorem witness_PolderProceeds_7 :
    polUp upSt = true ∧ (polMeter wPolderProceeds7u (1 : Fin 2).val).tflt = false ∧ (polMeter wPolderProceeds7u (1 : Fin 2).val).dflt = false ∧ (2 : Fin 4).val = 2 * (1 : Fin 2).val ∧ (3 : Fin 4).val = 2 * (1 : Fin 2).val + 1 ∧
    (polMeter (setMeter 1 { tflt := true, dflt := true } wPolderProceeds7u) (1 : Fin 2).val).tflt = true ∧ (polMeter (setMeter 1 { tflt := true, dflt := true } wPolderProceeds7u) (1 : Fin 2).val).dflt = true := by decide

def wPolderProceeds8s : State := setPol { upSt.pol with unsealed := true } upSt

def wPolderProceeds8t : State := setPol { upSt.pol with unsealed := true, staged := [(3, 4)] } upSt

theorem witness_PolderProceeds_8 :
    polUp upSt = true ∧ (stir 17 upSt).pol.unsealed = false ∧ polUp wPolderProceeds8s = true ∧ (stir 17 wPolderProceeds8s).pol.unsealed = true ∧ (stir 17 wPolderProceeds8s).pol.staged = [] ∧ polUp wPolderProceeds8t = true ∧ (stir 17 wPolderProceeds8t).pol.unsealed = true ∧ (stir 17 wPolderProceeds8t).pol.staged ≠ [] := by decide

def wPolderRequestsAndMailbox1s : State := setF upSt POLD_STAT_LINK

theorem witness_PolderRequestsAndMailbox_1 :
    Arrives .host POLD_REQ wPolderRequestsAndMailbox1s (arrived .host POLD_REQ wPolderRequestsAndMailbox1s) ∧ flag (arrived .host POLD_REQ wPolderRequestsAndMailbox1s) POLD_STAT_BUSY = false ∧ polUp (arrived .host POLD_REQ wPolderRequestsAndMailbox1s) = true ∧
    flag (arrived .host POLD_REQ wPolderRequestsAndMailbox1s) POLD_STAT_LINK = true := by decide

def wPolderRequestsAndMailbox2s : State := setPol { upSt.pol with unsealed := true } upSt

def wPolderRequestsAndMailbox2t : State := setTx 1 (some { no := 5 }) upSt

theorem witness_PolderRequestsAndMailbox_2 :
    upSt.pol.parflt = false ∧ upSt.pol.unsealed = false ∧ (polTx wPolderRequestsAndMailbox2t 1).isSome = true ∧ wPolderRequestsAndMailbox2s.pol.unsealed = true ∧ parIndex 32 = true ∧ parOk 32 0x42C80000 = true ∧ parIndex 12 = false ∧
    (setPol { upSt.pol with parflt := true } upSt).pol.parflt = true := by decide

def wPolderRequestsAndMailbox3s : State := setF (setPol { upSt.pol with out := [.response 0 [5]] } upSt) POLD_STAT_BUSY

theorem witness_PolderRequestsAndMailbox_3 :
    islUp wPolderRequestsAndMailbox3s 0 = true ∧ (polTake isResponse (stir 0 wPolderRequestsAndMailbox3s)).1 = some (.response 0 [5]) ∧ flag (linkHeard (polTake isResponse (stir 0 wPolderRequestsAndMailbox3s)).2) POLD_STAT_BUSY = true ∧ askedLong (stir 0 wPolderRequestsAndMailbox3s) = true ∧ askedLong (stir 0 (setF wPolderRequestsAndMailbox3s POLD_STAT_LINK)) = false ∧ askedLong (stir 0 (setEdges (setF wPolderRequestsAndMailbox3s POLD_STAT_LINK) 0 10000)) = true ∧
    flag (linkHeard (polTake isResponse (clrF (stir 0 wPolderRequestsAndMailbox3s) POLD_STAT_BUSY)).2) POLD_STAT_BUSY = false := by decide

def wPolderRequestsAndMailbox4s : State := setF (setPol { upSt.pol with timeRq := true } upSt) (TICK_CAPSTAT_VALID 2)

def wPolderRequestsAndMailbox4u : State := stir 17 wPolderRequestsAndMailbox4s

def wPolderRequestsAndMailbox4v : State := setPol { upSt.pol with rqCyc := some 0, par := some [(32, 0x42700000)] } upSt

theorem witness_PolderRequestsAndMailbox_4 :
    polUp wPolderRequestsAndMailbox4s = true ∧ islUp wPolderRequestsAndMailbox4u 0 = true ∧ timeDue wPolderRequestsAndMailbox4u = true ∧ polUp wPolderRequestsAndMailbox4v = true ∧ islUp (stir 17 wPolderRequestsAndMailbox4v) 0 = true ∧ timeDue (stir 17 wPolderRequestsAndMailbox4v) = false ∧ wPolderRequestsAndMailbox4u.pol.timeRq = true ∧ tabGet (fun _ => 0) wPolderRequestsAndMailbox4u.tick.capReq 2 = 0 ∧ flag wPolderRequestsAndMailbox4u (TICK_CAPSTAT_VALID 2) = true := by decide

theorem witness_PolderRequestsAndMailbox_5 :
    islUp (stir 17 upSt) 0 = true ∧ polUp upSt = true ∧ islUp (setEdges (setF upSt POLD_STAT_LINK) 0 10000) 0 = true ∧ linkSilent (stir 0 (setEdges (setF upSt POLD_STAT_LINK) 0 10000)) = true := by decide

def wPolderRequestsAndMailbox6s : State := { setPol { upSt.pol with warnTx := true, out := [.result []] } upSt with loom := { upSt.loom with snapReq := [4] } }

theorem witness_PolderRequestsAndMailbox_6 :
    islUp wPolderRequestsAndMailbox6s 0 = true ∧ (stir 0 wPolderRequestsAndMailbox6s).loom.snapReq = 4 :: [] ∧ (stir 0 wPolderRequestsAndMailbox6s).sys.variantM = true ∧ polUp (stir 0 wPolderRequestsAndMailbox6s) = true ∧ (polTake (fun m => !isResponse m) (stir 0 wPolderRequestsAndMailbox6s)).1 = some (.result []) ∧ (stir 0 wPolderRequestsAndMailbox6s).pol.warnTx = true := by decide

def wSelvedgeProceeds1s : State := setF upSt SELV_STAT_LANE1

theorem witness_SelvedgeProceeds_1 :
    selvUp upSt = true ∧ flag (stir 14 upSt) (laneBit (1 : Fin 2).val) = false ∧ selvUp wSelvedgeProceeds1s = true ∧ flag (stir 14 wSelvedgeProceeds1s) (laneBit (1 : Fin 2).val) = true := by decide

theorem witness_SelvedgeProceeds_2 :
    Arrives .host SELV_CTL upSt (arrived .host SELV_CTL upSt) ∧ flag (arrived .host SELV_CTL upSt) SELV_CTL_EN = false ∧
    wget (rd (arrived .host SELV_CTL upSt) SELV_CTL) 31 31 = 0 ∧ wget (rd (arrived .host SELV_CTL upSt) SELV_CTL) 2 2 = 0 := by decide

def wSelvedgeProceeds3s : State := setF upSt SELV_CTL_EN

theorem witness_SelvedgeProceeds_3 :
    Arrives .host SELV_CTL wSelvedgeProceeds3s (arrived .host SELV_CTL wSelvedgeProceeds3s) ∧ flag (arrived .host SELV_CTL wSelvedgeProceeds3s) SELV_CTL_EN = true ∧
    wget (rd (arrived .host SELV_CTL wSelvedgeProceeds3s) SELV_CTL) 31 31 = 0 ∧ wget (rd (arrived .host SELV_CTL wSelvedgeProceeds3s) SELV_CTL) 2 2 = 0 := by decide

def wSelvedgeProceeds4s : State := setSelv { peer := some ⟨1, .standby, 0, 0, false, true⟩ } (fset (fset (setF upSt SELV_CTL_EN) SELV_STAT_ROLE 2) SELV_STAT_PROLE 1)

def wSelvedgeProceeds4u : State := arrived .host SELV_CTL wSelvedgeProceeds4s

def wSelvedgeProceeds4c : State := cdupUpdate (fset wSelvedgeProceeds4u SELV_CTL_CDUP (fget wSelvedgeProceeds4u SELV_CTL_CDUP))

theorem witness_SelvedgeProceeds_4 :
    Arrives .host SELV_CTL wSelvedgeProceeds4s wSelvedgeProceeds4u ∧ flag wSelvedgeProceeds4u SELV_CTL_EN = true ∧ wget (rd wSelvedgeProceeds4u SELV_CTL) 31 31 = 0 ∧ selvRoleOf wSelvedgeProceeds4c = .active ∧ fget wSelvedgeProceeds4c SELV_STAT_PROLE = 1 ∧ (wSelvedgeProceeds4c.selv.peer.map (·.copyOk)).getD false = true := by decide

theorem witness_SelvedgeProceeds_5 :
    Arrives .host SELV_CTL upSt (arrived .host SELV_CTL upSt) ∧ wget (rd (arrived .host SELV_CTL upSt) SELV_CTL) 31 31 = 0 ∧ wget (rd (arrived .host SELV_CTL upSt) SELV_CTL) 2 2 = 0 := by decide

def wSelvedgeProceeds6s : State := setEdges (setF upSt SELV_CTL_EN) 14 32

theorem witness_SelvedgeProceeds_6 :
    selvUp wSelvedgeProceeds6s = true ∧ keepDue (stir 14 wSelvedgeProceeds6s) = true ∧ selvUp upSt = true ∧ keepDue (stir 14 upSt) = false := by decide

def wSelvedgeProceeds7s : State := setF upSt SELV_CTL_EN

theorem witness_SelvedgeProceeds_7 :
    selvUp wSelvedgeProceeds7s = true ∧ flag (stir 14 wSelvedgeProceeds7s) SELV_CTL_EN = true := by decide

def wSelvedgeProceeds8s : State := setSelv { heard := some 4 } { upSt with sys := { upSt.sys with edges := [(14, 100)] } }

theorem witness_SelvedgeProceeds_8 :
    selvUp wSelvedgeProceeds8s = true ∧ (stir 14 wSelvedgeProceeds8s).selv.heard = some 4 ∧ 4 + 96 ≤ edges (stir 14 wSelvedgeProceeds8s) 14 := by decide

def wSelvedgeProceeds9s : State := clrF (setSelv { alone := 200 } (setF upSt SELV_CTL_EN)) SELV_CFG_FENCE

def wSelvedgeProceeds9t : State := setF wSelvedgeProceeds9s SELV_CFG_FENCE

theorem witness_SelvedgeProceeds_9 :
    selvUp wSelvedgeProceeds9s = true ∧ flag (putF (stir 14 wSelvedgeProceeds9s) SELV_STAT_ROLEI true) SELV_CTL_EN = true ∧ selvRoleOf (putF (stir 14 wSelvedgeProceeds9s) SELV_STAT_ROLEI true) = .none ∧ flag (putF (stir 14 wSelvedgeProceeds9s) SELV_STAT_ROLEI true) SELV_STAT_PAIRED = false ∧
    fget (putF (stir 14 wSelvedgeProceeds9s) SELV_STAT_ROLEI true) SELV_CFG_ALONE ≤ (stir 14 wSelvedgeProceeds9s).selv.alone ∧ flag (putF (stir 14 wSelvedgeProceeds9s) SELV_STAT_ROLEI true) SELV_CFG_FENCE = false ∧
    selvUp wSelvedgeProceeds9t = true ∧ flag (putF (stir 14 wSelvedgeProceeds9t) SELV_STAT_ROLEI true) SELV_CTL_EN = true ∧ flag (putF (stir 14 wSelvedgeProceeds9t) SELV_STAT_ROLEI true) SELV_CFG_FENCE = true ∧ flag (putF (stir 14 wSelvedgeProceeds9t) SELV_STAT_ROLEI false) SELV_CFG_FENCE = true ∧
    fget (putF (stir 14 wSelvedgeProceeds9t) SELV_STAT_ROLEI true) SELV_CFG_ALONE ≤ (stir 14 wSelvedgeProceeds9t).selv.alone := by decide

def wSelvedgeProceeds10s : State := setSelv { bounds := [4, 5] } (setF upSt SELV_CTL_EN)

def wSelvedgeProceeds10t : State := putF (setSelv { wSelvedgeProceeds10s.selv with bounds := [5] } wSelvedgeProceeds10s) SELV_STAT_ROLEI true

theorem witness_SelvedgeProceeds_10 :
    selvUp wSelvedgeProceeds10s = true ∧ (stir 14 wSelvedgeProceeds10s).selv.bounds = [4, 5] ∧ flag (stir 14 wSelvedgeProceeds10t) SELV_CTL_EN = true ∧ selvRoleOf (stir 14 wSelvedgeProceeds10t) = .none ∧ flag (stir 14 wSelvedgeProceeds10t) SELV_STAT_PAIRED = false ∧
    selvRoleOf (putF (setSelv { (stir 14 wSelvedgeProceeds10s).selv with bounds := [5] } (fset (stir 14 wSelvedgeProceeds10s) SELV_STAT_ROLE 1)) SELV_STAT_ROLEI true) = .standby ∧
    selvRoleOf (putF (setSelv { (stir 14 wSelvedgeProceeds10s).selv with bounds := [5] } (fset (stir 14 wSelvedgeProceeds10s) SELV_STAT_ROLE 2)) SELV_STAT_ROLEI true) = .active := by decide

def wSelvedgeProceeds11s : State := clrF (fset upSt SELV_STAT_MISS 2) SELV_CFG_FENCE

def wSelvedgeProceeds11t : State := setF (setF wSelvedgeProceeds11s SELV_CFG_FENCE) SELV_STAT_ROLEI

theorem witness_SelvedgeProceeds_11 :
    (setSelv { granted := true } upSt).selv.granted = true ∧ (setSelv { beat := true } upSt).selv.granted = false ∧ (setSelv { beat := true } upSt).selv.beat = true ∧
    upSt.selv.granted = false ∧ upSt.selv.beat = false ∧ fget upSt SELV_STAT_MISS < 2 ∧ wSelvedgeProceeds11s.selv.granted = false ∧ wSelvedgeProceeds11s.selv.beat = false ∧ 2 ≤ fget wSelvedgeProceeds11s SELV_STAT_MISS ∧ flag wSelvedgeProceeds11s SELV_CFG_FENCE = false ∧
    wSelvedgeProceeds11t.selv.granted = false ∧ wSelvedgeProceeds11t.selv.beat = false ∧ 2 ≤ fget wSelvedgeProceeds11t SELV_STAT_MISS ∧ flag wSelvedgeProceeds11t SELV_CFG_FENCE = true ∧ flag wSelvedgeProceeds11t SELV_STAT_ROLEI = true := by decide

def wSelvedgeProceeds12s : State := setSelv { taking := true } upSt

def wSelvedgeProceeds12t : State := setSelv { taking := true, good := some ⟨1, 1, 1, 2, 3⟩ } upSt

theorem witness_SelvedgeProceeds_12 :
    selvUp wSelvedgeProceeds12s = true ∧ (stir 14 wSelvedgeProceeds12s).selv.taking = true ∧ (stir 14 wSelvedgeProceeds12s).selv.good = none ∧ selvUp wSelvedgeProceeds12t = true ∧ (stir 14 wSelvedgeProceeds12t).selv.taking = true ∧ (stir 14 wSelvedgeProceeds12t).selv.good = some ⟨1, 1, 1, 2, 3⟩ := by decide

def wSelvedgeProceeds13s : State := setF upSt SELV_CTL_EN

def wSelvedgeProceeds13n : Heartbeat := ⟨.standby, 5, 1, 1, false⟩

def wSelvedgeProceeds13a : Heartbeat := ⟨.active, 5, 1, 1, false⟩

def wSelvedgeProceeds13b : State := fset (setF upSt SELV_CTL_EN) SELV_STAT_ROLE 1

def wSelvedgeProceeds13c : State := fset (setF upSt SELV_CTL_EN) SELV_STAT_ROLE 2

def wSelvedgeProceeds13d : State := fset wSelvedgeProceeds13c SELV_EPOCH_EPOCH 9

theorem witness_SelvedgeProceeds_13 :
    selvUp wSelvedgeProceeds13s = true ∧ flag (stir 14 wSelvedgeProceeds13s) SELV_CTL_EN = true ∧ wSelvedgeProceeds13n.role ≠ .active ∧ wSelvedgeProceeds13a.role = .active ∧ selvUp wSelvedgeProceeds13b = true ∧ flag (stir 14 wSelvedgeProceeds13b) SELV_CTL_EN = true ∧
    selvRoleOf (cdupUpdate (leaveNone (peerReport wSelvedgeProceeds13a.role wSelvedgeProceeds13a.epoch (stir 14 wSelvedgeProceeds13b)))) = .standby ∧ selvUp wSelvedgeProceeds13c = true ∧ flag (stir 14 wSelvedgeProceeds13c) SELV_CTL_EN = true ∧
    selvRoleOf (cdupUpdate (leaveNone (peerReport wSelvedgeProceeds13a.role wSelvedgeProceeds13a.epoch (stir 14 wSelvedgeProceeds13c)))) = .active ∧ epochGreater wSelvedgeProceeds13a.epoch (selvEpoch (cdupUpdate (leaveNone (peerReport wSelvedgeProceeds13a.role wSelvedgeProceeds13a.epoch (stir 14 wSelvedgeProceeds13c))))) = true ∧
    (cdupUpdate (leaveNone (peerReport wSelvedgeProceeds13a.role wSelvedgeProceeds13a.epoch (stir 14 wSelvedgeProceeds13c)))).selv.giving = false ∧
    (cdupUpdate (leaveNone (peerReport wSelvedgeProceeds13a.role wSelvedgeProceeds13a.epoch (setSelv { giving := true } (stir 14 wSelvedgeProceeds13c))))).selv.giving = true ∧
    selvRoleOf (cdupUpdate (leaveNone (peerReport wSelvedgeProceeds13a.role wSelvedgeProceeds13a.epoch (stir 14 wSelvedgeProceeds13d)))) = .active ∧ epochGreater wSelvedgeProceeds13a.epoch (selvEpoch (cdupUpdate (leaveNone (peerReport wSelvedgeProceeds13a.role wSelvedgeProceeds13a.epoch (stir 14 wSelvedgeProceeds13d))))) = false ∧
    wSelvedgeProceeds13a.epoch ≠ selvEpoch (cdupUpdate (leaveNone (peerReport wSelvedgeProceeds13a.role wSelvedgeProceeds13a.epoch (stir 14 wSelvedgeProceeds13d)))) := by decide

def wSelvedgeProceeds14s : State := { fset upSt SELV_STAT_ROLE 2 with loom := { upSt.loom with copyReq := [(3, 5)] } }

def wSelvedgeProceeds14r : CopyHdr := ⟨1, 1, 1, 2, 3⟩

def wSelvedgeProceeds14v : State := setSelv { sending := some wSelvedgeProceeds14r } wSelvedgeProceeds14s

def wSelvedgeProceeds14w : State := setSelv { sending := some wSelvedgeProceeds14r, wait := some (1, 2) } wSelvedgeProceeds14s

theorem witness_SelvedgeProceeds_14 :
    selvUp wSelvedgeProceeds14s = true ∧ (stir 14 wSelvedgeProceeds14s).loom.copyReq = [(3, 5)] ∧ selvRoleOf { (stir 14 wSelvedgeProceeds14s) with loom := { (stir 14 wSelvedgeProceeds14s).loom with copyReq := [] } } = .active ∧ (stir 14 wSelvedgeProceeds14s).selv.sending = none ∧
    selvUp wSelvedgeProceeds14v = true ∧ (stir 14 wSelvedgeProceeds14v).selv.sending ≠ none ∧ (stir 14 wSelvedgeProceeds14v).selv.wait = none ∧ selvUp wSelvedgeProceeds14w = true ∧ (stir 14 wSelvedgeProceeds14w).selv.sending ≠ none ∧ (stir 14 wSelvedgeProceeds14w).selv.wait ≠ none ∧ selvRoleOf (stir 14 wSelvedgeProceeds14w) = .active := by decide

def wSelvedgeProceeds15r : CopyHdr := ⟨1, 1, 1, 2, 3⟩

def wSelvedgeProceeds15v : State := setSelv { sending := some wSelvedgeProceeds15r } upSt

def wSelvedgeProceeds15w : State := setSelv { sending := some wSelvedgeProceeds15r, wait := some (1, 2) } upSt

theorem witness_SelvedgeProceeds_15 :
    selvUp wSelvedgeProceeds15v = true ∧ (stir 14 wSelvedgeProceeds15v).selv.sending = some wSelvedgeProceeds15r ∧ (stir 14 wSelvedgeProceeds15v).selv.wait = none ∧ selvUp wSelvedgeProceeds15w = true ∧ (stir 14 wSelvedgeProceeds15w).selv.sending = some wSelvedgeProceeds15r ∧ (stir 14 wSelvedgeProceeds15w).selv.wait = some (1, 2) := by decide

def wSelvedgeProceeds17s : State := fset (setF upSt SELV_CTL_EN) SELV_STAT_ROLE 1

theorem witness_SelvedgeProceeds_17 :
    selvUp wSelvedgeProceeds17s = true ∧ selvRoleOf (stir 14 wSelvedgeProceeds17s) = .standby ∧ flag (stir 14 wSelvedgeProceeds17s) SELV_CTL_EN = true ∧ (stir 14 wSelvedgeProceeds17s).selv.good = none ∧ (stir 14 wSelvedgeProceeds17s).selv.due = none := by decide

def wSelvedgeProceeds18v : Vote := ⟨70, 9, 0, 0, 1, 0⟩

def wSelvedgeProceeds18x : Vote := ⟨70, 8, 0, 0, 1, 0⟩

def wSelvedgeProceeds18y : Vote := ⟨70, 8, 0, 0, 0, 0⟩

def wSelvedgeProceeds18s : State := setSelv { votes := [wSelvedgeProceeds18x] } (setF upSt SELV_STAT_CDUPON)

def wSelvedgeProceeds18t : State := setSelv { votes := [wSelvedgeProceeds18y] } (setF upSt SELV_STAT_CDUPON)

theorem witness_SelvedgeProceeds_18 :
    selvUp wSelvedgeProceeds18s = true ∧ flag (stir 14 wSelvedgeProceeds18s) SELV_STAT_CDUPON = true ∧ (stir 14 wSelvedgeProceeds18s).selv.votes.filter (fun y => y.src == wSelvedgeProceeds18v.src) = [wSelvedgeProceeds18x] ∧ { wSelvedgeProceeds18v with at_ := edges (stir 14 wSelvedgeProceeds18s) 14 }.at_ - wSelvedgeProceeds18x.at_ ≤ fget (stir 14 wSelvedgeProceeds18s) SELV_AGRCFG_AGRWIN ∧
    votesAgree (setSelv { (stir 14 wSelvedgeProceeds18s).selv with pvotes := [(70, wSelvedgeProceeds18v)], votes := [] } (stir 14 wSelvedgeProceeds18s)) wSelvedgeProceeds18x wSelvedgeProceeds18v = true ∧ votesAgree (setSelv { (stir 14 wSelvedgeProceeds18t).selv with pvotes := [(70, wSelvedgeProceeds18v)], votes := [] } (stir 14 wSelvedgeProceeds18t)) wSelvedgeProceeds18y wSelvedgeProceeds18v = false ∧
    (stir 14 wSelvedgeProceeds18t).selv.votes.filter (fun y => y.src == wSelvedgeProceeds18v.src) = [wSelvedgeProceeds18y] ∧ (setF (stir 14 upSt) SELV_STAT_CDUPON).selv.votes = [] := by decide

def wSelvedgeProceeds19x : Vote := ⟨70, 8, 0, 0, 1, 0⟩

def wSelvedgeProceeds19s : State := setSelv { votes := [wSelvedgeProceeds19x] } { upSt with sys := { upSt.sys with edges := [(14, 1000)] } }

theorem witness_SelvedgeProceeds_19 :
    selvUp wSelvedgeProceeds19s = true ∧ (stir 14 wSelvedgeProceeds19s).selv.votes.find? (fun x => decide (edges (stir 14 wSelvedgeProceeds19s) 14 - x.at_ > fget (stir 14 wSelvedgeProceeds19s) SELV_AGRCFG_AGRWIN)) = some wSelvedgeProceeds19x := by decide

theorem witness_ReeveProceeds_1 :
    rvUp (setPower upSt 16 .off) = false := by decide

def wReeveProceeds2s : State := { upSt with sys := { upSt.sys with lockWait := true } }

theorem witness_ReeveProceeds_2 :
    rvUp upSt = true ∧ upSt.sys.lockWait = false ∧ (resetIsland 16 upSt).sys.lockWait = false ∧ rvUp wReeveProceeds2s = true ∧ (resetIsland 16 wReeveProceeds2s).sys.lockWait = true := by decide

def wReeveProceeds3a : State := { upSt with rvTrig := [.reset] }

def wReeveProceeds3b : State := { fset upSt RV_STAT_STATE 1 with rvTrig := [.fatal] }

def wReeveProceeds3c : State := { fset upSt RV_STAT_STATE 2 with rvTrig := [.host] }

theorem witness_ReeveProceeds_3 :
    wReeveProceeds3a.rvTrig = [.reset] ∧ rvUp wReeveProceeds3a = true ∧ rvState (rvCauseSet RvCause.reset.bit (stir 16 { wReeveProceeds3a with rvTrig := [] })) = 0 ∧ wReeveProceeds3b.rvTrig = [.fatal] ∧ rvUp wReeveProceeds3b = true ∧
    rvState (rvCauseSet RvCause.fatal.bit (stir 16 { wReeveProceeds3b with rvTrig := [] })) = 1 ∧ (rvEngage (rvCauseSet RvCause.fatal.bit (stir 16 { wReeveProceeds3b with rvTrig := [] }))).sys.lockWait = wReeveProceeds3b.sys.lockWait ∧
    wReeveProceeds3c.rvTrig = [.host] ∧ rvUp wReeveProceeds3c = true ∧ rvState (rvCauseSet RvCause.host.bit { wReeveProceeds3c with rvTrig := [] }) = 2 ∧ wReeveProceeds3a.sys.lockWait = false := by decide

theorem witness_ReeveProceeds_4 :
    flag (setBit upSt RV_CAUSE_CAUSE 2) RV_CAUSE_VALID = false ∧ flag (setBit (setF upSt RV_CAUSE_VALID) RV_CAUSE_CAUSE 2) RV_CAUSE_VALID = true := by decide

def wReeveProceeds5u : State := arrived .host RV_CMD upSt

def wReeveProceeds5v : State := fset upSt RV_STAT_STATE 1

def wReeveProceeds5w : State := fset upSt RV_STAT_STATE 2

theorem witness_ReeveProceeds_5 :
    Arrives .host RV_CMD upSt wReeveProceeds5u ∧ rvState wReeveProceeds5u = 0 ∧ Arrives .host RV_CMD wReeveProceeds5v (arrived .host RV_CMD wReeveProceeds5v) ∧ rvState (arrived .host RV_CMD wReeveProceeds5v) = 1 ∧ rvState (arrived .host RV_CMD wReeveProceeds5w) = 2 := by decide

def wReeveProceeds6u : State := arrived .host RV_CMD upSt

def wReeveProceeds6v : State := fset upSt RV_STAT_STATE 1

def wReeveProceeds6w : State := setF (fset upSt RV_STAT_STATE 2) RV_STAT_MARKSEEN

theorem witness_ReeveProceeds_6 :
    Arrives .host RV_CMD upSt wReeveProceeds6u ∧ rvState wReeveProceeds6u = 0 ∧ rvState (rvCauseSet 4 wReeveProceeds6u) = 0 ∧ Arrives .host RV_CMD wReeveProceeds6v (arrived .host RV_CMD wReeveProceeds6v) ∧ rvState (rvCauseSet 4 (arrived .host RV_CMD wReeveProceeds6v)) = 1 ∧
    rvState (arrived .host RV_CMD wReeveProceeds6w) = 2 ∧ rvState (rvCauseSet 4 (arrived .host RV_CMD wReeveProceeds6w)) = 2 ∧ flag (arrived .host RV_CMD wReeveProceeds6w) RV_STAT_MARKSEEN = true ∧ Arrives .host RV_CMD wReeveProceeds6w (arrived .host RV_CMD wReeveProceeds6w) := by decide

def wReeveProceeds7v : State := fset upSt RV_STAT_STATE 1

def wReeveProceeds7w : State := fset upSt RV_STAT_STATE 2

theorem witness_ReeveProceeds_7 :
    Arrives .host (RvReg.alo 3).addr upSt (arrived .host (RvReg.alo 3).addr upSt) ∧ rvState (arrived .host (RvReg.alo 3).addr upSt) = 0 ∧ Arrives .host (RvReg.alo 3).addr wReeveProceeds7v (arrived .host (RvReg.alo 3).addr wReeveProceeds7v) ∧
    rvState (arrived .host (RvReg.alo 3).addr wReeveProceeds7v) = 1 ∧ Arrives .host (RvReg.alo 3).addr wReeveProceeds7w (arrived .host (RvReg.alo 3).addr wReeveProceeds7w) ∧ rvState (arrived .host (RvReg.alo 3).addr wReeveProceeds7w) = 2 := by decide

def wReeveProceeds8c : RvCode := ⟨3, 5, 1⟩

def wReeveProceeds8s : State := { upSt with afe := { upSt.afe with rvOut := [wReeveProceeds8c] } }

def wReeveProceeds8t : State := { fset upSt RV_STAT_STATE 1 with afe := { upSt.afe with rvOut := [wReeveProceeds8c] } }

theorem witness_ReeveProceeds_8 :
    rvUp wReeveProceeds8s = true ∧ (stir 16 wReeveProceeds8s).afe.rvOut = [wReeveProceeds8c] ∧ rvState (stir 16 wReeveProceeds8s) = 0 ∧ rvUp wReeveProceeds8t = true ∧ (stir 16 wReeveProceeds8t).afe.rvOut = [wReeveProceeds8c] ∧ 0 < rvState (stir 16 wReeveProceeds8t) := by decide

def wReeveProceeds9s : State := setBit (fset upSt (RV_ACFG_DLY 3) 4) RV_ALM_SRC 3

def wReeveProceeds9t : State := fset upSt (RV_ACFG_DLY 3) 4

theorem witness_ReeveProceeds_9 :
    getBit upSt RV_ALM_SRC 3 = false ∧ rvLimit upSt (RV_AHI 3) < 5 ∧ max 1 (fget upSt (RV_ACFG_DLY 3)) ≤ (rvSrc upSt 3).cnt + 1 ∧ getBit wReeveProceeds9t RV_ALM_SRC 3 = false ∧ (rvSrc wReeveProceeds9t 3).cnt + 1 < max 1 (fget wReeveProceeds9t (RV_ACFG_DLY 3)) ∧
    getBit wReeveProceeds9s RV_ALM_SRC 3 = true ∧ rvLimit wReeveProceeds9s (RV_ALO 3) + (wget (rd wReeveProceeds9s (RV_AHYS 3)) 23 0 : Nat) ≤ 0 ∧ (0 : Int) ≤ rvLimit wReeveProceeds9s (RV_AHI 3) - (wget (rd wReeveProceeds9s (RV_AHYS 3)) 23 0 : Nat) ∧ (rvSrc wReeveProceeds9s 3).cnt + 1 < max 1 (fget wReeveProceeds9s (RV_ACFG_DLY 3)) ∧
    getBit (setBit upSt RV_ALM_SRC 3) RV_ALM_SRC 3 = true ∧ max 1 (fget (setBit upSt RV_ALM_SRC 3) (RV_ACFG_DLY 3)) ≤ (rvSrc (setBit upSt RV_ALM_SRC 3) 3).cnt + 1 := by decide

def wReeveProceeds10c : RvInput := ⟨3, true, false, false⟩

def wReeveProceeds10s : State := { upSt with dio := { upSt.dio with rvOut := [wReeveProceeds10c] } }

def wReeveProceeds10t : State := { fset upSt RV_STAT_STATE 1 with dio := { upSt.dio with rvOut := [wReeveProceeds10c] }, rv := { maps := [(4, 0x80000000)] } }

theorem witness_ReeveProceeds_10 :
    rvUp wReeveProceeds10s = true ∧ (stir 16 wReeveProceeds10s).dio.rvOut = [wReeveProceeds10c] ∧ rvState (stir 16 wReeveProceeds10s) = 0 ∧ rvUp wReeveProceeds10t = true ∧ (stir 16 wReeveProceeds10t).dio.rvOut = [wReeveProceeds10c] ∧ 0 < rvState (stir 16 wReeveProceeds10t) ∧ rvValid (stir 16 wReeveProceeds10t) (16 + 3) = true := by decide

def wReeveProceeds11t : State := { fset upSt RV_STAT_STATE 1 with rv := { maps := [(4, 0x80000000)], src := [(19, { level := some false })] } }

def wReeveProceeds11u : State := setBit { wReeveProceeds11t with rv := { maps := [(4, 0x80000000)], src := [(19, { level := some true })] } } RV_ALM_SRC 19

theorem witness_ReeveProceeds_11 :
    rvUp wReeveProceeds11t = true ∧ (rvSrc (stir 16 wReeveProceeds11t) (16 + (3 : Fin 8).val)).level = some false ∧ rvValid (stir 16 wReeveProceeds11t) (16 + (3 : Fin 8).val) = true ∧ 0 < rvState (stir 16 wReeveProceeds11t) ∧ wget (rvCfg (stir 16 wReeveProceeds11t) (16 + (3 : Fin 8).val)) 2 2 = 0 ∧
    getBit (stir 16 wReeveProceeds11t) RV_FLT_SRC (16 + (3 : Fin 8).val) = false ∧ (rvSrc (stir 16 wReeveProceeds11t) (16 + (3 : Fin 8).val)).since + 32 * wget (rvCfg (stir 16 wReeveProceeds11t) (16 + (3 : Fin 8).val)) 23 16 ≤ edges (stir 16 wReeveProceeds11t) 16 ∧
    false = (wget (rvCfg (stir 16 wReeveProceeds11t) (16 + (3 : Fin 8).val)) 0 0 == 1) ∧ getBit (stir 16 wReeveProceeds11t) RV_ALM_SRC (16 + (3 : Fin 8).val) = false ∧
    rvUp wReeveProceeds11u = true ∧ (rvSrc (stir 16 wReeveProceeds11u) (16 + (3 : Fin 8).val)).level = some true ∧ true ≠ (wget (rvCfg (stir 16 wReeveProceeds11u) (16 + (3 : Fin 8).val)) 0 0 == 1) ∧ getBit (stir 16 wReeveProceeds11u) RV_ALM_SRC (16 + (3 : Fin 8).val) = true ∧
    getBit (stir 16 wReeveProceeds11u) RV_FLT_SRC (16 + (3 : Fin 8).val) = false := by decide

def wReeveProceeds12t : State := { fset upSt RV_STAT_STATE 1 with rv := { maps := [(0, 0x80000000), (4, 0x80000000)] }, sys := { upSt.sys with edges := [(16, 99)] } }

theorem witness_ReeveProceeds_12 :
    rvUp wReeveProceeds12t = true ∧ 0 < rvState (stir 16 wReeveProceeds12t) ∧ rvValid (stir 16 wReeveProceeds12t) (3 : Fin 16).val = true ∧ (rvSrc (stir 16 wReeveProceeds12t) (3 : Fin 16).val).last + max 1 (32 * fget (stir 16 wReeveProceeds12t) (RV_ACFG_STALE (3 : Fin 16).val)) ≤ edges (stir 16 wReeveProceeds12t) 16 ∧
    rvValid (stir 16 wReeveProceeds12t) (16 + (3 : Fin 8).val) = true ∧ wget (rvCfg (stir 16 wReeveProceeds12t) (16 + (3 : Fin 8).val)) 2 2 = 0 ∧ (rvSrc (stir 16 wReeveProceeds12t) (16 + (3 : Fin 8).val)).last + 96 ≤ edges (stir 16 wReeveProceeds12t) 16 := by decide

def wReeveProceeds13s : State := fset upSt (RV_ACFG_FLTALM 3) 1

def wReeveProceeds13t : State := setF (setBit (setRvSrc 3 { rvSrc upSt 3 with held := 0 } upSt) RV_FLT_SRC 3) RV_EVT_FLT

def wReeveProceeds13u : State := setF (setBit (setRvSrc 3 { rvSrc wReeveProceeds13s 3 with held := 0 } wReeveProceeds13s) RV_FLT_SRC 3) RV_EVT_FLT

theorem witness_ReeveProceeds_13 :
    getBit (setBit upSt RV_FLT_SRC 3) RV_FLT_SRC 3 = true ∧ getBit upSt RV_FLT_SRC 3 = false ∧ wget (rvCfg wReeveProceeds13t 3) 8 8 = 0 ∧ getBit wReeveProceeds13s RV_FLT_SRC 3 = false ∧ wget (rvCfg wReeveProceeds13u 3) 8 8 = 1 := by decide

def wReeveProceeds14t : State := { fset upSt RV_STAT_STATE 2 with rv := { marks := 1 } }

def wReeveProceeds14u : State := { fset upSt RV_STAT_STATE 1 with rv := { marks := 1 } }

theorem witness_ReeveProceeds_14 :
    rvUp wReeveProceeds14t = true ∧ (stir 16 wReeveProceeds14t).rv.marks ≠ 0 ∧ rvState (stir 16 wReeveProceeds14t) = 2 ∧ rvUp wReeveProceeds14u = true ∧ (stir 16 wReeveProceeds14u).rv.marks ≠ 0 ∧ rvState (stir 16 wReeveProceeds14u) ≠ 2 := by decide

def wPerformanceMonitorProceeds1u : State := arrived .host (PERF_SEL (5 : Fin 64).val) upSt

theorem witness_PerformanceMonitorProceeds_1 :
    Arrives .host (PERF_SEL (5 : Fin 64).val) upSt wPerformanceMonitorProceeds1u ∧ flag wPerformanceMonitorProceeds1u PERF_CTL_LOCK = false ∧ flag wPerformanceMonitorProceeds1u (PERF_SEL_EN (5 : Fin 64).val) = false ∧
    selOk wPerformanceMonitorProceeds1u (5 : Fin 64).val 0x80020010 = true ∧ wget (0x800200FF : Word) 31 31 = 1 ∧ selOk wPerformanceMonitorProceeds1u (5 : Fin 64).val 0x800200FF = false := by decide

def wPerformanceMonitorProceeds2s : State := setF upSt (PERF_SEL_EN 4)

def wPerformanceMonitorProceeds2t : State := setF (setF wPerformanceMonitorProceeds2s (PERF_SEL_EN 5)) (PERF_SEL_CHAIN 5)

theorem witness_PerformanceMonitorProceeds_2 :
    unitCounts wPerformanceMonitorProceeds2s (4 : Fin 64).val = true ∧ mayWrap wPerformanceMonitorProceeds2s (4 : Fin 64).val = true ∧ mayWrap wPerformanceMonitorProceeds2t (4 : Fin 64).val = true ∧ flag wPerformanceMonitorProceeds2s (PERF_SEL_CHAIN (4 : Fin 64).val) = false ∧ islUp wPerformanceMonitorProceeds2s 15 = true ∧ flag wPerformanceMonitorProceeds2s (PERF_SEL_SAMPLE (4 : Fin 64).val) = false ∧
    flag wPerformanceMonitorProceeds2s (PERF_SEL_CHAIN ((4 : Fin 64).val + 1)) = false ∧ unitCounts wPerformanceMonitorProceeds2t (4 : Fin 64).val = true ∧ flag wPerformanceMonitorProceeds2t (PERF_SEL_CHAIN (4 : Fin 64).val) = false ∧
    flag wPerformanceMonitorProceeds2t (PERF_SEL_SAMPLE (4 : Fin 64).val) = false ∧ flag wPerformanceMonitorProceeds2t (PERF_SEL_CHAIN ((4 : Fin 64).val + 1)) = true ∧ flag wPerformanceMonitorProceeds2t (PERF_SEL_EN ((4 : Fin 64).val + 1)) = true ∧
    tabGet (fun _ => 0) wPerformanceMonitorProceeds2t.perf.units ((4 : Fin 64).val + 1) + 1 ≠ 0 := by decide

def wPerformanceMonitorProceeds3u : State := arrived .host PERF_CMD upSt

def wPerformanceMonitorProceeds3v : State := arrived .host PERF_CMD (setF upSt PERF_STAT_BUSY)

def wPerformanceMonitorProceeds3w : State := arrived .host PERF_CMD { upSt with perf := { resume := [(3, some 7)] } }

theorem witness_PerformanceMonitorProceeds_3 :
    Arrives .host PERF_CMD upSt wPerformanceMonitorProceeds3u ∧ flag wPerformanceMonitorProceeds3u PERF_STAT_BUSY = false ∧ wPerformanceMonitorProceeds3u.perf.resume = [] ∧ Arrives .host PERF_CMD (setF upSt PERF_STAT_BUSY) wPerformanceMonitorProceeds3v ∧ flag wPerformanceMonitorProceeds3v PERF_STAT_BUSY = true ∧
    flag wPerformanceMonitorProceeds3w PERF_STAT_BUSY = false ∧ wPerformanceMonitorProceeds3w.perf.resume = [(3, some 7)] := by decide

def wPerformanceMonitorProceeds4a : State := { upSt with perf := { cmd := some .unfreeze, frozen := true } }

def wPerformanceMonitorProceeds4b : State := { upSt with perf := { cmd := some .snap } }

def wPerformanceMonitorProceeds4c : State := { upSt with perf := { cmd := some .freeze } }

def wPerformanceMonitorProceeds4d : State := { upSt with perf := { cmd := some .snap, frozen := true } }

theorem witness_PerformanceMonitorProceeds_4 :
    perfUp wPerformanceMonitorProceeds4a = true ∧ wPerformanceMonitorProceeds4a.perf.passed = false ∧ wPerformanceMonitorProceeds4a.perf.edge ≤ edges wPerformanceMonitorProceeds4a 15 ∧ wPerformanceMonitorProceeds4a.perf.cmd = some .unfreeze ∧ perfUp wPerformanceMonitorProceeds4b = true ∧ wPerformanceMonitorProceeds4b.perf.passed = false ∧ wPerformanceMonitorProceeds4b.perf.edge ≤ edges wPerformanceMonitorProceeds4b 15 ∧ wPerformanceMonitorProceeds4b.perf.cmd = some .snap ∧
    (stir 15 wPerformanceMonitorProceeds4b).perf.frozen = false ∧ perfUp wPerformanceMonitorProceeds4c = true ∧ wPerformanceMonitorProceeds4c.perf.passed = false ∧ wPerformanceMonitorProceeds4c.perf.edge ≤ edges wPerformanceMonitorProceeds4c 15 ∧ wPerformanceMonitorProceeds4c.perf.cmd = some .freeze ∧ (stir 15 wPerformanceMonitorProceeds4c).perf.frozen = false ∧
    perfUp wPerformanceMonitorProceeds4d = true ∧ wPerformanceMonitorProceeds4d.perf.passed = false ∧ wPerformanceMonitorProceeds4d.perf.edge ≤ edges wPerformanceMonitorProceeds4d 15 ∧ wPerformanceMonitorProceeds4d.perf.cmd ≠ none ∧ wPerformanceMonitorProceeds4d.perf.cmd ≠ some .unfreeze ∧ (stir 15 wPerformanceMonitorProceeds4d).perf.frozen = true := by decide

def wPerformanceMonitorProceeds5b : State := { upSt with perf := { cmd := some .snap, passed := true } }

def wPerformanceMonitorProceeds5c : State := { upSt with perf := { cmd := some .freeze, passed := true } }

theorem witness_PerformanceMonitorProceeds_5 :
    perfUp wPerformanceMonitorProceeds5b = true ∧ wPerformanceMonitorProceeds5b.perf.passed = true ∧ wPerformanceMonitorProceeds5b.perf.cmd = some .snap ∧ perfUp wPerformanceMonitorProceeds5c = true ∧ wPerformanceMonitorProceeds5c.perf.passed = true ∧ wPerformanceMonitorProceeds5c.perf.cmd = some .freeze := by decide

def wPerformanceMonitorProceeds6s : State := setF upSt PERF_STAT_FROZEN

theorem witness_PerformanceMonitorProceeds_6 :
    Arrives .host (PERF_VAL (5 : Fin 64).val) wPerformanceMonitorProceeds6s (arrived .host (PERF_VAL (5 : Fin 64).val) wPerformanceMonitorProceeds6s) ∧ flag (arrived .host (PERF_VAL (5 : Fin 64).val) wPerformanceMonitorProceeds6s) PERF_STAT_FROZEN = true := by decide

def wPerformanceMonitorProceeds7s : State := { fset upSt PERF_BWWIN_WIN 5 with sys := { upSt.sys with edges := [(15, 9)] } }

theorem witness_PerformanceMonitorProceeds_7 :
    perfUp wPerformanceMonitorProceeds7s = true ∧ wPerformanceMonitorProceeds7s.perf.bwFrom + max 1 (fget wPerformanceMonitorProceeds7s PERF_BWWIN_WIN) ≤ edges wPerformanceMonitorProceeds7s 15 := by decide

def wLifecycleFusesOnlyAdvance1s : State := { upSt with life := { state := .develop, prog := [(1, true)], keys := [(1, [5])], cmd := some (.keyprog 2 [7]) } }

theorem witness_LifecycleFusesOnlyAdvance :
    ∃ (f : LifeSt) (s t : State), FusesKept f s.life ∧ step s = .next t ∧ s.life ≠ t.life := by
  exact ⟨wLifecycleFusesOnlyAdvance1s.life, { wLifecycleFusesOnlyAdvance1s with pending := [.lifeCommandComplete true] }, _,
    ⟨le_refl _, le_refl _, fun _ _ h => h, fun _ h => ⟨h, rfl⟩, fun _ h => h, fun _ h => h, fun _ h => h⟩, rfl, by decide⟩

theorem witness_LifecycleCommandsAreAccepted_1 :
    Arrives .host LIFE_CMD upSt (arrived .host LIFE_CMD upSt) ∧ (arrived .host LIFE_CMD upSt).life.cmd = none ∧
    (arrived .host LIFE_CMD upSt).life.state = .blank ∧ (2 : BitVec 8).toNat < 4 ∧ slotProg (arrived .host LIFE_CMD upSt) (2 : BitVec 8).toNat = false ∧
    tabGet (fun _ => false) (arrived .host LIFE_CMD upSt).life.dead (2 : BitVec 8).toNat = false := by decide

def wLifecycleCommandsAreAccepted2s : State := { upSt with life := { state := .develop, prog := [(1, true)] } }

theorem witness_LifecycleCommandsAreAccepted_2 :
    Arrives .host LIFE_CMD wLifecycleCommandsAreAccepted2s (arrived .host LIFE_CMD wLifecycleCommandsAreAccepted2s) ∧ (arrived .host LIFE_CMD wLifecycleCommandsAreAccepted2s).life.cmd = none ∧
    (arrived .host LIFE_CMD wLifecycleCommandsAreAccepted2s).life.state = .develop ∧ (2 : BitVec 8).toNat < 4 ∧ 1 ≠ (2 : BitVec 8).toNat ∧ slotProg (arrived .host LIFE_CMD wLifecycleCommandsAreAccepted2s) 1 = true ∧
    slotRevoked (arrived .host LIFE_CMD wLifecycleCommandsAreAccepted2s) 1 = false := by decide

def wLifecycleCommandsAreAccepted3s : State := { upSt with life := { state := .blank, prog := [(0, true)] } }

theorem witness_LifecycleCommandsAreAccepted_3 :
    Arrives .host LIFE_CMD wLifecycleCommandsAreAccepted3s (arrived .host LIFE_CMD wLifecycleCommandsAreAccepted3s) ∧ (arrived .host LIFE_CMD wLifecycleCommandsAreAccepted3s).life.cmd = none ∧
    ((arrived .host LIFE_CMD wLifecycleCommandsAreAccepted3s).life.state = .develop ∨ (arrived .host LIFE_CMD wLifecycleCommandsAreAccepted3s).life.state = .blank ∧ slotProg (arrived .host LIFE_CMD wLifecycleCommandsAreAccepted3s) 0 = true) := by decide

def wLifecycleCommandsAreAccepted4s : State := { upSt with life := { state := .field } }

theorem witness_LifecycleCommandsAreAccepted_4 :
    Arrives .host LIFE_CMD wLifecycleCommandsAreAccepted4s (arrived .host LIFE_CMD wLifecycleCommandsAreAccepted4s) ∧ (arrived .host LIFE_CMD wLifecycleCommandsAreAccepted4s).life.cmd = none ∧
    (arrived .host LIFE_CMD wLifecycleCommandsAreAccepted4s).life.state = .field ∧ (arrived .host LIFE_CMD wLifecycleCommandsAreAccepted4s).life.minver < (2 : BitVec 8).toNat := by decide

theorem witness_LifecycleCommandsAreAccepted_5 :
    Arrives .host LIFE_CMD upSt (arrived .host LIFE_CMD upSt) ∧ (arrived .host LIFE_CMD upSt).life.cmd = none ∧
    (arrived .host LIFE_CMD upSt).life.state ≠ .custody ∧ (1 : BitVec 8).toNat < 2 ∧ tabGet (fun _ => false) (arrived .host LIFE_CMD upSt).life.ksProg (1 : BitVec 8).toNat = false ∧
    tabGet (fun _ => false) (arrived .host LIFE_CMD upSt).life.ksDead (1 : BitVec 8).toNat = false := by decide

def wLifecycleCommandsAreAccepted6s : State := { upSt with life := { state := .develop } }

theorem witness_LifecycleCommandsAreAccepted_6 :
    Arrives .host LIFE_CMD wLifecycleCommandsAreAccepted6s (arrived .host LIFE_CMD wLifecycleCommandsAreAccepted6s) ∧ (arrived .host LIFE_CMD wLifecycleCommandsAreAccepted6s).life.cmd = none ∧
    (arrived .host LIFE_CMD wLifecycleCommandsAreAccepted6s).life.state = .develop ∧ flag (arrived .host LIFE_CMD wLifecycleCommandsAreAccepted6s) STORE_STAT_SUSP = false ∧ islUp (arrived .host LIFE_CMD wLifecycleCommandsAreAccepted6s) 12 = true := by decide

def wLifecycleCommandsAreAccepted7s : State := { upSt with life := { cmd := some .advance } }

theorem witness_LifecycleCommandsAreAccepted_7 :
    wget (0 : Word) 31 16 ≠ 0xC7D2 ∧ wget (0xC7D20003 : Word) 31 16 = 0xC7D2 ∧
    lifeAccepted (wget (0xC7D20003 : Word) 3 0) (wget (0xC7D20003 : Word) 15 8) upSt = none ∧ wLifecycleCommandsAreAccepted7s.life.cmd.isSome = true := by decide

def wLifecycleCommandsTakeEffect1s : State := { upSt with life := { cmd := some .advance } }

theorem witness_LifecycleCommandsTakeEffect_1 :
    wLifecycleCommandsTakeEffect1s.life.cmd = some .advance := by decide

def wLifecycleCommandsTakeEffect2s : State := setF { upSt with life := { state := .develop, cmd := some (.custody true) } } STORE_STAT_READY

theorem witness_LifecycleCommandsTakeEffect_2 :
    wLifecycleCommandsTakeEffect2s.life.cmd = some (.custody true) ∧ custodyReady wLifecycleCommandsTakeEffect2s = true := by decide

def wLifecycleCommandsTakeEffect3t : State := { upSt with cpu := { cw := [(0x100, 0), (0x120, 0x2100000F), (0x121, 0x21000000)] } }

theorem witness_LifecycleCommandsTakeEffect_3 :
    Fetches .host (LIFE_CKS (3 : Fin 16).val) upSt (rouse (addrIsland (LIFE_CKS 3)) upSt) ∧ mpuAllows upSt (LIFE_CKS (3 : Fin 16).val) 0 = true ∧
    hostPriv (rouse (addrIsland (LIFE_CKS 3)) upSt) = true ∧
    Fetches .host (LIFE_CKS (3 : Fin 16).val) wLifecycleCommandsTakeEffect3t (rouse (addrIsland (LIFE_CKS 3)) wLifecycleCommandsTakeEffect3t) ∧ mpuAllows wLifecycleCommandsTakeEffect3t (LIFE_CKS (3 : Fin 16).val) 0 = true ∧
    hostPriv (rouse (addrIsland (LIFE_CKS 3)) wLifecycleCommandsTakeEffect3t) = false := by decide

def wRecoveryRequestsAreAnswered1s : State := { setF upSt SYS_STARTCTL_RECOVER with links := { mem := putBytes [] (spiBox + 0x800) [1, 0, 3, 0] } }

theorem witness_RecoveryRequestsAreAnswered_1 :
    recServes wRecoveryRequestsAreAnswered1s = true ∧ wget (boxWord wRecoveryRequestsAreAnswered1s 0x800) 7 0 = 1 ∧ wRecoveryRequestsAreAnswered1s.cpu.recSeq ≠ some (wget (boxWord wRecoveryRequestsAreAnswered1s 0x800) 31 16) := by decide

def wRecoveryRequestsAreAnswered2s : State := { setF upSt SYS_STARTCTL_RECOVER with links := { mem := putBytes [] (spiBox + 0x800) [3, 0, 3, 0] } }

def wRecoveryRequestsAreAnswered2t : State := { wRecoveryRequestsAreAnswered2s with life := { state := .field } }

def wRecoveryRequestsAreAnswered2d : State := { wRecoveryRequestsAreAnswered2s with life := { state := .develop } }

theorem witness_RecoveryRequestsAreAnswered_2 :
    recServes wRecoveryRequestsAreAnswered2s = true ∧ wget (boxWord wRecoveryRequestsAreAnswered2s 0x800) 7 0 = 3 ∧ wRecoveryRequestsAreAnswered2s.cpu.recSeq ≠ some (wget (boxWord wRecoveryRequestsAreAnswered2s 0x800) 31 16) ∧ wRecoveryRequestsAreAnswered2s.life.state = .blank ∧ (∀ n, n < 4 → slotProg wRecoveryRequestsAreAnswered2s n = false) ∧
    recServes wRecoveryRequestsAreAnswered2t = true ∧ wget (boxWord wRecoveryRequestsAreAnswered2t 0x800) 7 0 = 3 ∧ wRecoveryRequestsAreAnswered2t.cpu.recSeq ≠ some (wget (boxWord wRecoveryRequestsAreAnswered2t 0x800) 31 16) ∧ wRecoveryRequestsAreAnswered2t.life.state = .field ∧ recServes wRecoveryRequestsAreAnswered2d = true ∧ wget (boxWord wRecoveryRequestsAreAnswered2d 0x800) 7 0 = 3 ∧ wRecoveryRequestsAreAnswered2d.cpu.recSeq ≠ some (wget (boxWord wRecoveryRequestsAreAnswered2d 0x800) 31 16) ∧ wRecoveryRequestsAreAnswered2d.life.state = .develop ∧ wRecoveryRequestsAreAnswered2d.life.cmd = none := by decide

def wRecoveryRequestsAreAnswered3s : State := { setF upSt SYS_STARTCTL_RECOVER with links := { mem := putBytes [] (spiBox + 0x800) [2, 0, 3, 0] } }

theorem witness_RecoveryRequestsAreAnswered_3 :
    recServes wRecoveryRequestsAreAnswered3s = true ∧ wget (boxWord wRecoveryRequestsAreAnswered3s 0x800) 7 0 = 2 ∧ wRecoveryRequestsAreAnswered3s.cpu.recSeq ≠ some (wget (boxWord wRecoveryRequestsAreAnswered3s 0x800) 31 16) ∧ wRecoveryRequestsAreAnswered3s.life.state = .blank ∧ wRecoveryRequestsAreAnswered3s.life.cmd = none ∧ slotProg wRecoveryRequestsAreAnswered3s 2 = false ∧ tabGet (fun _ => false) wRecoveryRequestsAreAnswered3s.life.dead 2 = false ∧ slotProg { wRecoveryRequestsAreAnswered3s with life := { prog := [(2, true)] } } 2 = true := by decide

def wRecoveryRequestsAreAnswered4s : State := { setF upSt SYS_STARTCTL_RECOVER with links := { mem := putBytes [] (spiBox + 0x800) [4, 0, 3, 0] } }

def wRecoveryRequestsAreAnswered4t : State := { wRecoveryRequestsAreAnswered4s with life := { state := .custody } }

theorem witness_RecoveryRequestsAreAnswered_4 :
    recServes wRecoveryRequestsAreAnswered4s = true ∧ wget (boxWord wRecoveryRequestsAreAnswered4s 0x800) 7 0 = 4 ∧ wRecoveryRequestsAreAnswered4s.cpu.recSeq ≠ some (wget (boxWord wRecoveryRequestsAreAnswered4s 0x800) 31 16) ∧ wRecoveryRequestsAreAnswered4s.life.state ≠ .custody ∧ recNand wRecoveryRequestsAreAnswered4s = true ∧ recNand (setF wRecoveryRequestsAreAnswered4s STORE_STAT_SUSP) = false ∧ (copyBlocks wRecoveryRequestsAreAnswered4s 1)[(0 : Fin 62).val]? = some 62 ∧ recServes wRecoveryRequestsAreAnswered4t = true ∧ wget (boxWord wRecoveryRequestsAreAnswered4t 0x800) 7 0 = 4 ∧ wRecoveryRequestsAreAnswered4t.cpu.recSeq ≠ some (wget (boxWord wRecoveryRequestsAreAnswered4t 0x800) 31 16) ∧ wRecoveryRequestsAreAnswered4t.life.state = .custody := by decide

def wRecoveryRequestsAreAnswered5s : State := { setF upSt SYS_STARTCTL_RECOVER with links := { mem := putBytes [] (spiBox + 0x800) [5, 0, 3, 0] } }

theorem witness_RecoveryRequestsAreAnswered_5 :
    recServes wRecoveryRequestsAreAnswered5s = true ∧ wget (boxWord wRecoveryRequestsAreAnswered5s 0x800) 7 0 = 5 ∧ wRecoveryRequestsAreAnswered5s.cpu.recSeq ≠ some (wget (boxWord wRecoveryRequestsAreAnswered5s 0x800) 31 16) ∧ wRecoveryRequestsAreAnswered5s.life.state ≠ .custody ∧ recNand wRecoveryRequestsAreAnswered5s = true ∧ recNand (setF wRecoveryRequestsAreAnswered5s STORE_STAT_SUSP) = false ∧ wRecoveryRequestsAreAnswered5s.cpu.recPg = none ∧ (1 : Nat) < 2 ∧ (4096 : Nat) % 1024 = 0 ∧ (100 : Nat) % 1024 ≠ 0 ∧ ({ wRecoveryRequestsAreAnswered5s with cpu := { recPg := some (1985, 1024) } } : State).cpu.recPg = some (1985, 1024) ∧
    (copyPages wRecoveryRequestsAreAnswered5s 1)[4096 / 4096]? = some 1985 ∧ (copyPages wRecoveryRequestsAreAnswered5s 1)[100000000 / 4096]? = none := by
  refine ⟨by decide, by decide, by decide, by decide, by decide, by decide, by decide, by decide, by decide, by decide, by decide, by rfl, ?_⟩
  have h : ∀ s c, (copyPages s c).length ≤ 1984 := by
    intro s c
    have h1 : (copyPages s c).length = 32 * (copyBlocks s c).length := by
      simp only [copyPages, List.length_flatMap, List.length_map, List.length_range, List.map_const', List.sum_replicate, smul_eq_mul]; omega
    have h2 : (copyBlocks s c).length ≤ 62 := by
      refine le_trans (List.length_filter_le _ _) ?_; simp
    omega
  exact List.getElem?_eq_none (le_trans (h _ _) (by norm_num))

def wRecoveryRequestsAreAnswered6s : State := { setF upSt SYS_STARTCTL_RECOVER with links := { mem := putBytes [] (spiBox + 0x800) [5, 0, 3, 0] }, life := { state := .custody } }

theorem witness_RecoveryRequestsAreAnswered_6 :
    recServes wRecoveryRequestsAreAnswered6s = true ∧ wget (boxWord wRecoveryRequestsAreAnswered6s 0x800) 7 0 = 5 ∧ wRecoveryRequestsAreAnswered6s.cpu.recSeq ≠ some (wget (boxWord wRecoveryRequestsAreAnswered6s 0x800) 31 16) ∧ wRecoveryRequestsAreAnswered6s.life.state = .custody := by decide

def wRecoveryRequestsAreAnswered7s : State := { setF upSt SYS_STARTCTL_RECOVER with links := { mem := putBytes [] (spiBox + 0x800) [6, 0, 3, 0] } }

theorem witness_RecoveryRequestsAreAnswered_7 :
    recServes wRecoveryRequestsAreAnswered7s = true ∧ wget (boxWord wRecoveryRequestsAreAnswered7s 0x800) 7 0 = 6 ∧ wRecoveryRequestsAreAnswered7s.cpu.recSeq ≠ some (wget (boxWord wRecoveryRequestsAreAnswered7s 0x800) 31 16) ∧ partition 1 = some (128, 1536) ∧ partition 9 = none ∧ islUp wRecoveryRequestsAreAnswered7s 12 = true ∧ blockGood wRecoveryRequestsAreAnswered7s (128 + 5) = true ∧ tabFind (rouse 12 wRecoveryRequestsAreAnswered7s).nand.pages (32 * (128 + 5) + 7) = none ∧
    tabFind (rouse 12 { wRecoveryRequestsAreAnswered7s with nand := { pages := [(4263, ⟨[], []⟩)] } }).nand.pages (32 * (128 + 5) + 7) = some ⟨[], []⟩ ∧ (partition 0).isSome = true ∧ islUp (setPower wRecoveryRequestsAreAnswered7s 12 .off) 12 = false := by decide

def wRecoveryRequestsAreAnswered8s : State := { setF upSt SYS_STARTCTL_RECOVER with links := { mem := putBytes [] (spiBox + 0x800) [7, 0, 3, 0] } }

def wRecoveryRequestsAreAnswered8n : State := setF wRecoveryRequestsAreAnswered8s POLD_STAT_LINK

theorem witness_RecoveryRequestsAreAnswered_8 :
    recServes wRecoveryRequestsAreAnswered8s = true ∧ wget (boxWord wRecoveryRequestsAreAnswered8s 0x800) 7 0 = 7 ∧ wRecoveryRequestsAreAnswered8s.cpu.recSeq ≠ some (wget (boxWord wRecoveryRequestsAreAnswered8s 0x800) 31 16) ∧ wRecoveryRequestsAreAnswered8s.sys.variantM = true ∧ flag wRecoveryRequestsAreAnswered8s POLD_STAT_BUSY = false ∧ (5 : Nat) ≠ 0x01 ∧ (5 : Nat) ≠ 0x02 ∧ (5 : Nat) ≠ 0x20 ∧ (polTake isResponse (polReqWrite true (w32 (2 ^ 24)) wRecoveryRequestsAreAnswered8n)).1 = none ∧
    ((polTake isResponse (polReqWrite false (w32 (2 ^ 24)) wRecoveryRequestsAreAnswered8n)).1.map isResponse) = some true ∧ ({ wRecoveryRequestsAreAnswered8s with sys := { wRecoveryRequestsAreAnswered8s.sys with variantM := false } } : State).sys.variantM = false := by decide

def wRecoveryRequestsAreAnswered9s : State := { setF upSt SYS_STARTCTL_RECOVER with links := { mem := putBytes [] (spiBox + 0x800) [8, 0, 3, 0] } }

theorem witness_RecoveryRequestsAreAnswered_9 :
    recServes wRecoveryRequestsAreAnswered9s = true ∧ wget (boxWord wRecoveryRequestsAreAnswered9s 0x800) 7 0 = 8 ∧ wRecoveryRequestsAreAnswered9s.cpu.recSeq ≠ some (wget (boxWord wRecoveryRequestsAreAnswered9s 0x800) 31 16) := by decide

def wRecoveryRequestsAreAnswered10p : NandPage := ⟨List.replicate 8 0, []⟩

def wRecoveryRequestsAreAnswered10s : State := { upSt with nand := { pages := [(7, wRecoveryRequestsAreAnswered10p)] }, cpu := { recPg := some (7, 0) } }

theorem witness_RecoveryRequestsAreAnswered_10 :
    tabFind upSt.nand.pages 7 = none ∧ tabFind wRecoveryRequestsAreAnswered10s.nand.pages 7 = some wRecoveryRequestsAreAnswered10p ∧ wRecoveryRequestsAreAnswered10s.cpu.recPg = some (7, 0) := by decide

theorem witness_DebugPortCommandsComplete_1 :
    upSt.dbg.ir ≠ .extest ∧ (0xFF : Byte) ≠ 0x00 ∧ (0xFF : Byte) ≠ 0x01 ∧ (0xFF : Byte) ≠ 0x02 ∧ (0xFF : Byte) ≠ 0x10 ∧ (0xFF : Byte) ≠ 0x11 ∧ (0xFF : Byte) ≠ 0x12 := by decide

theorem witness_DebugPortCommandsComplete_2 :
    ({ upSt with dbg := { ir := .extest } } : State).dbg.ir = .extest := by decide

theorem witness_DebugPortCommandsComplete_3 :
    dbgLevel upSt ≥ 1 ∧ upSt.dbg.ir ≠ .extest ∧ dbgMax upSt = 2 := by decide

theorem witness_DebugPortCommandsComplete_4 :
    dbgEngine (some 3) = .shuttle 3 ∧ dbgLevel upSt ≥ 1 ∧ upSt.dbg.ir ≠ .extest ∧ islUp upSt (dbgEngine (some 3)).island = true ∧ islUp upSt (dbgEngine none).island = true := by decide

def wDebugPortCommandsComplete5s : State := { upSt with life := { state := .field } }

theorem witness_DebugPortCommandsComplete_5 :
    dbgLevel wDebugPortCommandsComplete5s = 0 ∧ wDebugPortCommandsComplete5s.dbg.ir ≠ .extest := by decide

theorem witness_SluicesStayWithinBounds_2 :
    ∃ t, SluicesWf State.reset ∧ exec (.sluiceRequest 0 1 {}) State.reset = .next t := by
  exact ⟨_, fun src dst => ⟨by simp [sluiceOf, State.reset, tabGet, tabFind], by simp [sluiceOf, State.reset, tabGet, tabFind]⟩, rfl⟩
end

section
/-! PROOFS. The register interface (00_scope, R8 to R10): the state after reset, stores and fields, the access codes, the locks, and the
commands that write, read and lock a register. -/

namespace Sys2Proof.Machine

/-! ### The state after a power-on reset -/

/-- Only SYS_SUPSTAT is listed among the registers of the reset state: every other register reads its reset value. -/
theorem rd_reset_of_ne (a : Nat) (h : a ≠ SYS_SUPSTAT) : rd State.reset a = resetVal a := by
  have hfind : tabFind State.reset.regs a = none := if_neg (Ne.symm h)
  simp only [rd, tabGet, hfind, Option.getD_none]

/-- The reset state lists the power of SYS and TICK alone: every island from 2 on reads as OFF. -/
theorem power_reset_of_two_le (i : Nat) (h : 2 ≤ i) : power State.reset i = .off := by
  have h0 : (0 : Nat) ≠ i := by omega
  have h1 : (1 : Nat) ≠ i := by omega
  simp [power, State.reset, tabGet, tabFind, h0, h1]

/-- Settles O2: SYS_SUPSTAT is the only register that the reset state lists, and SYS and TICK the only islands; the named registers are
looked up in the register tables. -/
theorem powerOnResetState : Obligations.PowerOnResetState := by
  unfold Obligations.PowerOnResetState
  have hSupstat : rd State.reset SYS_SUPSTAT = 5 := by decide
  have hCause : rd State.reset SYS_RSTCAUSE = 1 := by decide
  have hStep : fget State.reset SYS_STARTSTAT_STEP = 1 := by decide
  have hOsf : flag State.reset TICK_STAT_OSF = true := by decide
  exact ⟨rd_reset_of_ne, hSupstat, hCause, hStep, rfl, rfl, power_reset_of_two_le, rfl, hOsf, rfl, rfl⟩

/-! ### Stores in registers and fields -/

/-- A field of another register, or of other bits of the same one, keeps its value when a field is replaced. -/
theorem fget_fset_of_apart (s : State) (F G : Fld) (v : Nat) (hlo : F.lo ≤ F.hi) (hhi : F.hi < 32) (hg : G.hi < 32)
    (h : G.addr ≠ F.addr ∨ G.hi < F.lo ∨ F.hi < G.lo) : fget (fset s F v) G = fget s G := by
  rcases h with haddr | hbits
  · exact fget_fset_addr s F G v haddr
  · exact fget_fset_bits s F G v hlo hhi hg hbits

/-- Settles O3, by what a store does to the word at its own address and at another, and a field store to its own bits and to others. -/
theorem registerReadAfterWrite : Obligations.RegisterReadAfterWrite := by
  unfold Obligations.RegisterReadAfterWrite
  refine ⟨fun s a b v => ⟨rd_wr_self s a v, rd_wr_ne s a b v⟩, fun s F G v hlo hF hG => ⟨?_, ?_⟩⟩
  · exact fget_fset s F v hlo hF
  · exact fget_fset_of_apart s F G v hlo hF hG

/-! ### The access codes of one field (R9) -/

/-- A field's value fits its width. -/
theorem wget_lt (w : Word) (hi lo : Nat) : wget w hi lo < 2 ^ (hi + 1 - lo) := Nat.mod_lt _ (Nat.two_pow_pos _)

/-- A field that is replaced by a value of its width holds that value. -/
theorem wget_wset_of_lt (w : Word) (hi lo v : Nat) (hlo : lo ≤ hi) (hhi : hi < 32) (hv : v < 2 ^ (hi + 1 - lo)) :
    wget (wset w hi lo v) hi lo = v := by
  rw [wget_wset w hi lo v hlo hhi, Nat.mod_eq_of_lt hv]

/-- What a write of the value `new` makes of the value `old` of a field, by its access code and its reserved encodings (R8, R9). -/
def fieldAfter (lock : Bool) (a : Nat) (f : FieldRow) (new old : Nat) : Nat :=
  match f.acc with
  | .rw => if encOk a f.hi f.lo new then new else old
  | .rwl => if !lock && encOk a f.hi f.lo new then new else old
  | .w1c => old - (old &&& new)
  | .w1s => old ||| new
  | _ => old

/-- The lock freezes an RWL field. -/
theorem fieldAfter_rwl_locked (lock : Bool) (a : Nat) (f : FieldRow) (new old : Nat) (hacc : f.acc = .rwl) (hlock : lock = true) :
    fieldAfter lock a f new old = old := by
  simp [fieldAfter, hacc, hlock]

/-- An RWL field whose lock is clear takes a value that is not reserved. -/
theorem fieldAfter_rwl_unlocked (lock : Bool) (a : Nat) (f : FieldRow) (new old : Nat) (hacc : f.acc = .rwl) (hlock : lock = false)
    (henc : encOk a f.hi f.lo new = true) : fieldAfter lock a f new old = new := by
  simp [fieldAfter, hacc, hlock, henc]

/-- The field of the word written holds the value that its access code gives. -/
theorem wget_fieldWrite (lock : Bool) (a : Nat) (f : FieldRow) (v cur : Word) (hlo : f.lo ≤ f.hi) (hhi : f.hi < 32) :
    wget (fieldWrite lock a f v cur) f.hi f.lo = fieldAfter lock a f (wget v f.hi f.lo) (wget cur f.hi f.lo) := by
  have hnew := wget_lt v f.hi f.lo
  have hold := wget_lt cur f.hi f.lo
  have hstore := fun n => wget_wset_of_lt cur f.hi f.lo n hlo hhi
  unfold fieldWrite fieldAfter
  cases f.acc with
  | rw => dsimp only; split_ifs <;> simp only [hstore _ hnew]
  | rwl => dsimp only; split_ifs <;> simp only [hstore _ hnew]
  | w1c => exact hstore _ (Nat.lt_of_le_of_lt (Nat.sub_le _ _) hold)
  | w1s => exact hstore _ (Nat.or_lt_two_pow hold hnew)
  | ro | rc | wo => rfl

/-- A write replaces the bits of its field or changes nothing. -/
theorem fieldWrite_eq_or (lock : Bool) (a : Nat) (f : FieldRow) (v cur : Word) :
    fieldWrite lock a f v cur = cur ∨ ∃ n, fieldWrite lock a f v cur = wset cur f.hi f.lo n := by
  unfold fieldWrite
  cases f.acc with
  | rw => dsimp only; split_ifs <;> simp
  | rwl => dsimp only; split_ifs <;> simp
  | w1c | w1s => exact .inr ⟨_, rfl⟩
  | ro | rc | wo => exact .inl rfl

/-- A field of other bits keeps its value under the write of a field. -/
theorem wget_fieldWrite_ne (lock : Bool) (a : Nat) (f : FieldRow) (v cur : Word) (h l : Nat) (hlo : f.lo ≤ f.hi) (hhi : f.hi < 32)
    (hh : h < 32) (hd : h < f.lo ∨ f.hi < l) : wget (fieldWrite lock a f v cur) h l = wget cur h l := by
  rcases fieldWrite_eq_or lock a f v cur with heq | ⟨n, heq⟩
  · rw [heq]
  · rw [heq, wget_wset_ne cur f.hi f.lo n h l hlo hhi hh hd]

/-- A field that software does not write keeps the word as it stands. -/
theorem fieldWrite_of_unwritable (lock : Bool) (a : Nat) (f : FieldRow) (v cur : Word) (h : f.acc = .ro ∨ f.acc = .rc ∨ f.acc = .wo) :
    fieldWrite lock a f v cur = cur := by
  unfold fieldWrite
  rcases h with h | h | h <;> rw [h]

/-- A read of a register of the map returns its word and clears its RC fields. -/
theorem codeRead_of_regRow (s : State) (a : Nat) (r : RegRow) (h : regRow a = some r) :
    codeRead a s = (rd s a, wr s a (r.fields.foldl (fun cur f => if f.acc = .rc then wset cur f.hi f.lo 0 else cur) (rd s a))) := by
  simp only [codeRead, readClear, h]

/-- Settles O12, by the value that a write leaves in its field, code by code. -/
theorem accessCodesApply : Obligations.AccessCodesApply := by
  unfold Obligations.AccessCodesApply
  refine ⟨fun lock a f v cur hlo hhi henc => ?_, codeRead_of_regRow⟩
  have hval := wget_fieldWrite lock a f v cur hlo hhi
  refine ⟨fun hacc => ?_, fun hacc => ?_, fun hacc => ?_, fun hacc => ?_, fieldWrite_of_unwritable lock a f v cur⟩
  · simp only [hval, fieldAfter, hacc, henc, if_true]
  · cases lock with
    | false => rw [hval, fieldAfter_rwl_unlocked _ _ _ _ _ hacc rfl henc]; rfl
    | true => rw [hval, fieldAfter_rwl_locked _ _ _ _ _ hacc rfl]; rfl
  · simp only [hval, fieldAfter, hacc]
  · simp only [hval, fieldAfter, hacc]

/-! ### The access codes of a register -/

/-- The fields of a register lie in its word, each apart from the others. -/
abbrev fieldsApart (l : List FieldRow) : Prop :=
  (∀ f ∈ l, f.lo ≤ f.hi ∧ f.hi < 32) ∧ l.Pairwise (fun f g => f.hi < g.lo ∨ g.hi < f.lo)

/-- A field of other bits keeps its value under the writes of a list of fields. -/
theorem wget_foldl_fieldWrite_ne (lock : Bool) (a : Nat) (v : Word) (h l : Nat) (hh : h < 32) (fs : List FieldRow) (cur : Word)
    (hfit : ∀ f ∈ fs, f.lo ≤ f.hi ∧ f.hi < 32) (hd : ∀ f ∈ fs, h < f.lo ∨ f.hi < l) :
    wget (fs.foldl (fun cur f => fieldWrite lock a f v cur) cur) h l = wget cur h l := by
  induction fs generalizing cur with
  | nil => rfl
  | cons f fs ih =>
    obtain ⟨⟨hlo, hhi⟩, hfits⟩ := List.forall_mem_cons.mp hfit
    obtain ⟨hdf, hds⟩ := List.forall_mem_cons.mp hd
    rw [List.foldl_cons, ih _ hfits hds, wget_fieldWrite_ne lock a f v cur h l hlo hhi hh hdf]

/-- Each field of a word that is written field by field holds the value that its own access code gives. -/
theorem wget_foldl_fieldWrite (lock : Bool) (a : Nat) (v : Word) (fs : List FieldRow) (cur : Word) (f : FieldRow) (hf : f ∈ fs)
    (hap : fieldsApart fs) :
    wget (fs.foldl (fun cur f => fieldWrite lock a f v cur) cur) f.hi f.lo =
      fieldAfter lock a f (wget v f.hi f.lo) (wget cur f.hi f.lo) := by
  obtain ⟨hfit, hpair⟩ := hap
  induction fs generalizing cur with
  | nil => cases hf
  | cons g fs ih =>
    obtain ⟨hflo, hfhi⟩ := hfit f hf
    obtain ⟨⟨hglo, hghi⟩, hfits⟩ := List.forall_mem_cons.mp hfit
    obtain ⟨hgap, hpairs⟩ := List.pairwise_cons.mp hpair
    rw [List.foldl_cons]
    rcases List.mem_cons.mp hf with rfl | hmem
    · rw [wget_foldl_fieldWrite_ne lock a v f.hi f.lo hfhi fs _ hfits hgap, wget_fieldWrite lock a f v cur hflo hfhi]
    · rw [ih _ hmem hfits hpairs, wget_fieldWrite_ne lock a g v cur f.hi f.lo hglo hghi hfhi (hgap f hmem).symm]

/-- The row of the register table for an address has the field `f`, and its fields lie apart. -/
abbrev holdsField (a : Nat) (f : FieldRow) : Prop :=
  ∃ r ∈ regRow a, f ∈ r.fields ∧ fieldsApart r.fields

/-- A write by the access codes gives a field of its register the value that its access code gives. -/
theorem wget_codeWrite (a : Nat) (f : FieldRow) (v : Word) (s : State) (h : holdsField a f) :
    wget (rd (codeWrite a v s) a) f.hi f.lo = fieldAfter (locked s a) a f (wget v f.hi f.lo) (wget (rd s a) f.hi f.lo) := by
  obtain ⟨r, hrow, hmem, hap⟩ := h
  rw [Option.mem_def] at hrow
  simp only [codeWrite, hrow, rd_wr_self, wget_foldl_fieldWrite _ _ _ _ _ f hmem hap]

/-! ### Locks (R10) -/

/-- A block whose lock register is `l` is locked where the top bit of `l` is set. -/
theorem locked_eq_flag (s : State) (a l : Nat) (h : lockReg (a / 0x100000 - 0x200) = some l) : locked s a = flag s ⟨l, 31, 31⟩ := by
  unfold locked
  rw [h, flag_bit s ⟨l, 31, 31⟩ rfl]
  exact BitVec.testBit_toNat _

/-- An RWL field keeps its value under any write while the lock is set. -/
theorem fget_codeWrite_rwl_locked (a l hi lo : Nat) (v : Word) (s : State) (hf : holdsField a ⟨hi, lo, .rwl⟩)
    (hl : lockReg (a / 0x100000 - 0x200) = some l) (hlock : flag s ⟨l, 31, 31⟩ = true) :
    fget (codeWrite a v s) ⟨a, hi, lo⟩ = fget s ⟨a, hi, lo⟩ := by
  rw [← locked_eq_flag s a l hl] at hlock
  exact (wget_codeWrite a ⟨hi, lo, .rwl⟩ v s hf).trans (fieldAfter_rwl_locked _ a ⟨hi, lo, .rwl⟩ _ _ rfl hlock)

/-- An RWL field stores the bits written while the lock is clear, whatever the write makes of the lock. -/
theorem fget_codeWrite_rwl_unlocked (a l hi lo : Nat) (v : Word) (s : State) (hf : holdsField a ⟨hi, lo, .rwl⟩)
    (hl : lockReg (a / 0x100000 - 0x200) = some l) (hlock : flag s ⟨l, 31, 31⟩ = false) (henc : encOk a hi lo (wget v hi lo) = true) :
    fget (codeWrite a v s) ⟨a, hi, lo⟩ = wget v hi lo := by
  rw [← locked_eq_flag s a l hl] at hlock
  exact (wget_codeWrite a ⟨hi, lo, .rwl⟩ v s hf).trans (fieldAfter_rwl_unlocked _ a ⟨hi, lo, .rwl⟩ _ _ rfl hlock henc)

/-- A W1S field reads as the bits it held and the bits written. -/
theorem fget_codeWrite_w1s (a hi lo : Nat) (v : Word) (s : State) (hf : holdsField a ⟨hi, lo, .w1s⟩) :
    fget (codeWrite a v s) ⟨a, hi, lo⟩ = fget s ⟨a, hi, lo⟩ ||| wget v hi lo :=
  wget_codeWrite a ⟨hi, lo, .w1s⟩ v s hf

/-- A one-bit field that is not set is zero. -/
theorem fget_of_flag_false (s : State) (a j : Nat) (h : flag s ⟨a, j, j⟩ = false) : fget s ⟨a, j, j⟩ = 0 := by
  rw [flag_bit s ⟨a, j, j⟩ rfl] at h
  simp only [fget, wget_bit, h, Bool.toNat_false]

/-- A lock bit that is clear takes the bit written. -/
theorem fget_codeWrite_lock_unlocked (a : Nat) (v : Word) (s : State) (hf : holdsField a ⟨31, 31, .w1s⟩)
    (hlock : flag s ⟨a, 31, 31⟩ = false) : fget (codeWrite a v s) ⟨a, 31, 31⟩ = wget v 31 31 := by
  rw [fget_codeWrite_w1s a 31 31 v s hf, fget_of_flag_false s a 31 hlock, Nat.zero_or]

/-- The lock bit of every block is bit 31 of its lock register, which software can only set. -/
theorem holdsField_lockReg (b l : Nat) (h : lockReg b = some l) : holdsField l ⟨31, 31, .w1s⟩ := by
  unfold lockReg at h
  split at h <;> cases h <;> decide

/-- A lock bit that is set stays set under any write by the access codes. -/
theorem lockBit_codeWrite (b l a : Nat) (v : Word) (s : State) (hl : lockReg b = some l) (h : (rd s l).toNat.testBit 31 = true) :
    (rd (codeWrite a v s) l).toNat.testBit 31 = true := by
  by_cases ha : l = a
  · subst ha
    have hset := fget_codeWrite_w1s l 31 31 v s (holdsField_lockReg b l hl)
    rw [BitVec.testBit_toNat] at h ⊢
    simp only [fget, wget_bit, h] at hset
    revert hset
    cases (rd (codeWrite l v s) l).getLsbD 31 <;> cases v.getLsbD 31 <;> decide
  · rwa [codeWrite_rd a l v s ha]

/-- Settles O13: the lock that governs a write is that of the state before it, and the lock bit is a W1S field. -/
theorem lockBitsFreezeFields : Obligations.LockBitsFreezeFields := by
  unfold Obligations.LockBitsFreezeFields
  have hSluCtl : holdsField SLU_CTL ⟨31, 31, .w1s⟩ := holdsField_lockReg 1 SLU_CTL rfl
  have hStoreCtl : holdsField STORE_CTL ⟨31, 31, .w1s⟩ := holdsField_lockReg 8 STORE_CTL rfl
  have hTmo : holdsField SLU_CTL ⟨7, 0, .rwl⟩ := by decide
  have hBootwe : holdsField STORE_CTL ⟨0, 0, .rwl⟩ := by decide
  have hSnapen : holdsField POLD_CTL ⟨8, 8, .rwl⟩ := by decide
  have hPdiv : holdsField POLD_CTL ⟨3, 0, .rwl⟩ := by decide
  have hDbggrant : holdsField LIFE_CTL ⟨1, 0, .rwl⟩ := by decide
  refine ⟨fun s v => ⟨fun h => ⟨?_, ?_⟩, fun h => ⟨?_, ?_⟩, fun h => ⟨?_, ?_⟩, ?_, ?_, fun h => ⟨?_, ?_⟩, ?_⟩, lockBit_codeWrite⟩
  · exact fget_codeWrite_rwl_unlocked SLU_CTL SLU_CTL 7 0 v s hTmo rfl h rfl
  · exact fget_codeWrite_lock_unlocked SLU_CTL v s hSluCtl h
  · exact fget_codeWrite_rwl_unlocked STORE_CTL STORE_CTL 0 0 v s hBootwe rfl h rfl
  · exact fget_codeWrite_lock_unlocked STORE_CTL v s hStoreCtl h
  · exact fget_codeWrite_rwl_unlocked POLD_CTL POLD_CTL 8 8 v s hSnapen rfl h rfl
  · exact fget_codeWrite_rwl_unlocked POLD_CTL POLD_CTL 3 0 v s hPdiv rfl h rfl
  · exact fget_codeWrite_rwl_locked SLU_CTL SLU_CTL 7 0 v s hTmo rfl
  · exact fget_codeWrite_rwl_locked STORE_CTL STORE_CTL 0 0 v s hBootwe rfl
  · exact fget_codeWrite_rwl_locked POLD_CTL POLD_CTL 8 8 v s hSnapen rfl h
  · exact fget_codeWrite_rwl_locked POLD_CTL POLD_CTL 3 0 v s hPdiv rfl h
  · exact fget_codeWrite_rwl_locked LIFE_CTL LIFE_CTL 1 0 v s hDbggrant rfl

/-! ### The commands of the register interface -/

/-- A write that keeps the rules of width and arrives does what its place gives. -/
theorem busWrite_arrives {i : Initiator} {z : Size} {a : Nat} {s u : State} (v : Word) (h : Arrives i a s u)
    (hshape : shapeError true z a = false) : busWrite i z a v s = placeWrite i z a v u := by
  simp only [busWrite, hshape, Bool.and_false, Bool.false_eq_true, if_false, access_arrives _ h]

/-- A write to a word of a block that no route holds is made by the access codes. -/
theorem placeWrite_codes {i : Initiator} {a b : Nat} (v : Word) (u : State) (hblock : region a = .block b)
    (hfree : (blockWrites i b).all (fun r => !inRun r.base r.step r.cnt a) = true) :
    placeWrite i .word a v u = codeWrite a v u := by
  have hnone : (blockWrites i b).find? (fun r => inRun r.base r.step r.cnt a) = none := by
    simpa only [List.find?_eq_none, List.all_eq_true, Bool.not_eq_true', Bool.not_eq_true] using hfree
  simp only [placeWrite, hblock, routeWrite, hnone]

/-- A read of a word of a block that no route holds returns the word and clears its RC fields. -/
theorem placeRead_codes {i : Initiator} {a b : Nat} (u : State) (hblock : region a = .block b)
    (hfree : (blockReads i b).all (fun r => !inRun r.base r.step r.cnt a) = true) :
    placeRead i .word a u = (rd u a, readClear a u) := by
  have hnone : (blockReads i b).find? (fun r => inRun r.base r.step r.cnt a) = none := by
    simpa only [List.find?_eq_none, List.all_eq_true, Bool.not_eq_true', Bool.not_eq_true] using hfree
  simp only [placeRead, hblock, routeRead, hnone, codeRead]

/-- An aligned write to host SRAM breaks no rule of width. -/
theorem shapeError_sram (w : Bool) (z : Size) (a : Nat) (halign : a % z.bytes = 0) (h : region a = .sram) : shapeError w z a = false := by
  simp [shapeError, halign, h]

/-- A write of a word to a lock register breaks no rule of width. -/
theorem shapeError_lockReg (w : Bool) (b l : Nat) (h : lockReg b = some l) : shapeError w .word l = false := by
  unfold lockReg at h
  split at h <;> cases h <;> cases w <;> rfl

/-- A word read of a block other than TICK and outside REC_WIN is an access of the block. -/
theorem busRead_fetches {i : Initiator} {a b : Nat} {s u : State} (h : Fetches i a s u) (hshape : shapeError false .word a = false)
    (hblock : region a = .block b) (hwin : inRecWin a = false) (hb : b ≠ 9) :
    busRead i .word a s = setReply i ⟨(placeRead i .word a u).1, none⟩ (placeRead i .word a u).2 := by
  have hbank : waitsBank i false a s = false := by simp [waitsBank, hblock]
  have hTick : region a ≠ .block 9 := by simpa [hblock] using hb
  simp only [busRead, hshape, hbank, hwin, hTick, Bool.and_false, Bool.false_eq_true, if_false, accessRead_fetches _ h]

/-- A read of TICK that may be made is kept for the next tick edge (R381). -/
theorem tickRead_fetches {i : Initiator} {a : Nat} {s u : State} (h : Fetches i a s u) :
    tickRead i a s = { u with tick := { u.tick with reads := u.tick.reads ++ [(i, a)] } } := by
  obtain ⟨hreach, rfl⟩ := h
  simp only [readReaches, Bool.and_eq_true, Bool.or_eq_true, beq_iff_eq, decide_eq_true_eq, Option.isNone_iff_eq_none,
    Bool.not_eq_true'] at hreach
  obtain ⟨⟨hmay, hfault⟩, hbehind⟩ := hreach
  simp only [tickRead, hmay, hfault, hbehind, if_true, Bool.false_eq_true, if_false]

/-- A word read of TICK waits for the next tick edge. -/
theorem busRead_tick {i : Initiator} {a : Nat} {s u : State} (h : Fetches i a s u) (hshape : shapeError false .word a = false)
    (hblock : region a = .block 9) (hwin : inRecWin a = false) :
    busRead i .word a s = { u with tick := { u.tick with reads := u.tick.reads ++ [(i, a)] } } := by
  have hbank : waitsBank i false a s = false := by simp [waitsBank, hblock]
  simp only [busRead, hshape, hbank, hwin, hblock, Bool.and_false, Bool.false_eq_true, if_false, if_true, tickRead_fetches h]

/-- A register write is a write at its address, of its width. -/
theorem exec_registerWrite (i : Initiator) (a v : Word) (z : Size) (s : State) :
    exec (.registerWrite i a v z) s = .next (busWrite i z a.toNat v s) := rfl

/-- An RC read is a read of the word at its address. -/
theorem exec_rcRead (i : Initiator) (a : Word) (s : State) : exec (.rcRead i a) s = .next (busRead i .word a.toNat s) := rfl

/-- The setting of a block's lock is a write of its lock register with bit 31 set. -/
theorem exec_lockSet {b : Fin 17} {l : Nat} (i : Initiator) (v : Word) (s : State) (h : lockReg b.val = some l) :
    exec (.lockSet i b v) s = .next (busWrite i .word l (v ||| 0x80000000) s) := by
  change execLockSet i b v s = _
  simp only [execLockSet, h]

/-- Settles O11, by where an access goes that keeps the rules of width and arrives: to a block's routes or its access codes, to SRAM, or
to the tick edge that answers it. -/
theorem registerCommandsComplete : Obligations.RegisterCommandsComplete := by
  unfold Obligations.RegisterCommandsComplete
  refine ⟨fun i a v z s u h hshape => ?_, fun i a v b s u h hshape hblock hfree => ?_, fun i a v z s u h halign hsram => ?_,
    fun i a b s u h hshape hblock hfree hwin => ⟨fun hb => ?_, fun hb => ?_⟩, fun i b l v s u hl h => ?_⟩
  · rw [exec_registerWrite, busWrite_arrives v h hshape]
  · rw [exec_registerWrite, busWrite_arrives v h hshape, placeWrite_codes v u hblock hfree]
  · rw [exec_registerWrite, busWrite_arrives v h (shapeError_sram true z _ halign hsram)]
    simp only [placeWrite, hsram]
  · rw [exec_rcRead, busRead_fetches h hshape hblock hwin hb, placeRead_codes u hblock hfree]
  · subst hb
    rw [exec_rcRead, busRead_tick h hshape hblock hwin]
  · rw [exec_lockSet i v s hl, busWrite_arrives _ h (shapeError_lockReg true b l hl)]

end Sys2Proof.Machine
end

section
/-! PROOFS. The sluices (01_islands_and_sluices, R16 to R35): what the operations leave of the sluices, the four phases, the timeouts, the
ages and the tick edges, and the bounds of every sluice. -/

namespace Sys2Proof.Machine

/-! ### What leaves the sluice fabric as it stands -/

@[simp] theorem forN_slu (n : Nat) (f : Nat → State → State) (s : State) (hf : ∀ k s, (f k s).slu = s.slu) : (forN n f s).slu = s.slu :=
  List.foldlRecOn (motive := fun t => t.slu = s.slu) _ _ rfl fun t ht k _ => (hf k t).trans ht

@[simp] theorem forL_slu {α : Type} (l : List α) (f : α → State → State) (s : State) (hf : ∀ x s, (f x s).slu = s.slu) :
    (forL l f s).slu = s.slu :=
  List.foldlRecOn (motive := fun t => t.slu = s.slu) _ _ rfl fun t ht x _ => (hf x t).trans ht

@[simp] theorem onlyIf_slu (c : Bool) (f : State → State) (s : State) : (onlyIf c f s).slu = if c then (f s).slu else s.slu := by
  cases c <;> rfl

@[simp] theorem bump_slu (s : State) (F : Fld) : (bump s F).slu = s.slu := rfl

@[simp] theorem stir_slu (i : Nat) (s : State) : (stir i s).slu = s.slu := by
  unfold stir; split <;> rfl

@[simp] theorem sluError_slu (kind src dst : Nat) (addr : Word) (s : State) : (sluError kind src dst addr s).slu = s.slu := by
  unfold sluError; split <;> rfl

@[simp] theorem setReply_slu (i : Initiator) (r : BusReply) (s : State) : (setReply i r s).slu = s.slu := by
  cases i <;> rfl

@[simp] theorem busError_slu (i : Initiator) (e : BusErr) (a : Nat) (s : State) : (busError i e a s).slu = s.slu := by
  cases e <;> simp [busError]

@[simp] theorem writeError_slu (i : Initiator) (e : BusErr) (a : Nat) (s : State) : (writeError i e a s).slu = s.slu := by
  simp only [writeError, apply_ite State.slu, busError_slu, ite_self]

@[simp] theorem wordError_slu (e : BusErr) (w : SluiceWord) (s : State) : (wordError e w s).slu = s.slu := by
  unfold wordError
  split
  · split
    · exact writeError_slu ..
    · exact busError_slu ..
  · rfl

/-! STORE's calendar and period clocks at a wake. -/

theorem storeSeconds_slu (n last : Nat) (s : State) : (storeSeconds n last s).slu = s.slu := by
  induction n generalizing last with
  | zero => rfl
  | succ n ih => exact ih (last - 1)

theorem periodStep_slu (edge load : Bool) (a b : Tick) (n : Nat) (s : State) : (periodStep edge load a b n s).slu = s.slu := by
  simp only [periodStep, apply_ite State.slu, ite_self]

theorem storeCalStep_slu (a b : Tick) (s : State) : (storeCalStep a b s).slu = s.slu := by
  simp only [storeCalStep, apply_ite State.slu, storeSeconds_slu, ite_self]

theorem storeCalInvalid_slu (s : State) : (storeCalInvalid s).slu = s.slu := rfl

@[simp] theorem storeStep_slu (edge load : Bool) (a b : Tick) (s : State) : (storeStep edge load a b s).slu = s.slu := by
  simp only [storeStep, periodStep_slu, apply_ite State.slu, storeCalInvalid_slu, storeCalStep_slu, ite_self]

/-! The fatal loom fault, which stops every shuttle and demotes the module (R238, R484). -/

@[simp] theorem heldClear_slu (n : Nat) (h : Held) (mask : Nat) (s : State) : (heldClear n h mask s).slu = s.slu := by
  unfold heldClear
  dsimp only
  split <;> rfl

theorem clearDup_slu (s : State) : (clearDup s).slu = s.slu :=
  forN_slu _ _ _ fun _ _ => forL_slu _ _ _ fun _ _ => heldClear_slu ..

@[simp] theorem cdupUpdate_slu (s : State) : (cdupUpdate s).slu = s.slu := by
  unfold cdupUpdate
  dsimp only
  split
  · rfl
  · split
    · rfl
    · exact clearDup_slu _

@[simp] theorem setSelv_slu (x : SelvSt) (s : State) : (setSelv x s).slu = s.slu := rfl

@[simp] theorem sendKeepalive_slu (s : State) : (sendKeepalive s).slu = s.slu := rfl

@[simp] theorem copyAbandon_slu (s : State) : (copyAbandon s).slu = s.slu := rfl

@[simp] theorem setEgPath_slu (p : Nat) (x : EgPath) (s : State) : (setEgPath p x s).slu = s.slu := rfl

@[simp] theorem relayDiol_slu (x : EgItem) (s : State) : (relayDiol x s).slu = s.slu := rfl

@[simp] theorem selvDemote_slu (s : State) : (selvDemote s).slu = s.slu := by
  unfold selvDemote selvRole
  split_ifs <;> simp

@[simp] theorem squashEvals_slu (n : Nat) (dead : List Eval) (s : State) : (squashEvals n dead s).slu = s.slu := by
  unfold squashEvals queueUndoTakes setShuttle
  dsimp only
  exact (forL_slu _ (fun _ => sampleSquash) _ fun _ _ => rfl).trans (by simp)

@[simp] theorem setShState_slu (n st : Nat) (s : State) : (setShState n st s).slu = s.slu := by
  unfold setShState setBit clrBit
  dsimp only
  split_ifs <;> rfl

@[simp] theorem fatalStop_slu (n st : Nat) (s : State) : (fatalStop n st s).slu = s.slu := by
  unfold fatalStop releaseHeld setShuttle setHeld bankDrop
  dsimp only
  split_ifs <;> simp

@[simp] theorem fatalFault_slu (cause : Nat) (sh : Option Nat) (s : State) : (fatalFault cause sh s).slu = s.slu := by
  unfold fatalFault
  split <;> simp

/-! ### Reading and storing a sluice -/

theorem sluiceOf_congr {s t : State} (h : t.slu.sluices = s.slu.sluices) (a b : Nat) : sluiceOf t a b = sluiceOf s a b := by
  simp only [sluiceOf, h]

@[simp] theorem sluiceOf_setSluice_self (a b : Nat) (x : Sluice) (s : State) : sluiceOf (setSluice a b x s) a b = x :=
  tabGet_set_self ..

/-- Pairs of one key are one entry of the table. -/
theorem sluiceOf_setSluice (a b : Nat) (x : Sluice) (s : State) (c d : Nat) :
    sluiceOf (setSluice a b x s) c d = if pairKey c d = pairKey a b then x else sluiceOf s c d :=
  tabGet_set ..

/-- The reads that wait for their answers replaced. -/
def setOpen (l : List OpenRead) (s : State) : State := { s with slu := { s.slu with open_ := l } }

theorem setOpen_self (s : State) : setOpen s.slu.open_ s = s := rfl

/-- An answer takes one read from those that wait. -/
theorem answered_eq_setOpen (src dst : Nat) (s : State) : ∃ l, answered src dst s = setOpen l s := by
  unfold answered
  dsimp only
  split
  · exact ⟨_, rfl⟩
  · exact ⟨_, (setOpen_self s).symm⟩

/-- A read that has crossed joins those that wait, and any other word changes nothing. -/
theorem openRead_eq_setOpen (src dst : Nat) (w : SluiceWord) (s : State) : ∃ l, openRead src dst w s = setOpen l s := by
  unfold openRead
  split
  · exact ⟨_, rfl⟩
  · exact ⟨_, (setOpen_self s).symm⟩

/-! ### An island that a request rouses (R22, R53) -/

/-- A table changed entry by entry reads as the changed entry of its key. -/
theorem tabFind_map {α : Type} (g : Nat → α → α) (t : Tab α) (k : Nat) :
    tabFind (t.map fun e => (e.1, g e.1 e.2)) k = (tabFind t k).map (g k) := by
  induction t with
  | nil => rfl
  | cons e t ih =>
    simp only [List.map_cons, tabFind]
    split_ifs with h
    · rw [h, Option.map_some]
    · exact ih

/-- A sluice of key `k` once island `i` is awake: the timeout of a word that waits for it starts afresh. -/
def restartedWait (i : Nat) (s : State) (k : Nat) (x : Sluice) : Sluice :=
  if k % 32 == i && x.req && !x.ack then { x with since := waitEdges s (k / 32) } else x

theorem restartWaits_sluices (i : Nat) (s : State) :
    (restartWaits i s).slu.sluices = s.slu.sluices.map fun e => (e.1, restartedWait i s e.1 e.2) := by
  refine List.map_congr_left fun e _ => ?_
  unfold restartedWait
  split_ifs <;> rfl

theorem sluiceOf_restartWaits (i : Nat) (s : State) (a b : Nat) :
    sluiceOf (restartWaits i s) a b = restartedWait i s (pairKey a b) (sluiceOf s a b) := by
  unfold sluiceOf tabGet
  rw [restartWaits_sluices, tabFind_map]
  cases tabFind s.slu.sluices (pairKey a b) with
  | none => simp [restartedWait]
  | some x => rfl

theorem wakeIsland_slu (i : Nat) (s : State) : (wakeIsland i s).slu = (restartWaits i s).slu := by
  have hrun : (runIsland i s).slu = (restartWaits i s).slu := by
    unfold runIsland
    split <;> rfl
  unfold wakeIsland
  dsimp only
  split_ifs
  · exact (storeStep_slu ..).trans hrun
  · exact hrun

/-- A request changes nothing of the fabric but the timeouts of the words that wait for a sleeping island. -/
theorem rouse_slu (i : Nat) (s : State) : (rouse i s).slu = s.slu ∨ (rouse i s).slu = (restartWaits i s).slu := by
  unfold rouse
  split
  · exact .inr (wakeIsland_slu i s)
  · exact .inl rfl
  · exact .inl rfl

theorem rouse_arb (i : Nat) (s : State) : (rouse i s).slu.arb = s.slu.arb := by
  rcases rouse_slu i s with h | h
  · rw [h]
  · rw [h]; rfl

/-- The programmed levels and limits hold for a request that rouses its destination. -/
theorem arbOf_rouse_stir (i j : Nat) (s : State) (a b : Nat) : arbOf (rouse i (stir j s)) a b = arbOf s a b := by
  have hrest : (rouse i (stir j s)).rest = s.rest := (rouse_rest ..).trans (stir_rest ..)
  have hvariant : (rouse i (stir j s)).sys.variantM = s.sys.variantM := congrArg (·.2.2) hrest
  simp only [arbOf, rouse_arb, stir_slu, hvariant]

/-! ### The bounds of a sluice (R16, R17, R553) -/

theorem Sluice.wf_default : Sluice.wf {} := ⟨by simp, Nat.zero_le 2⟩

/-- The bounds speak of REQ, the word and the receive register alone. -/
theorem Sluice.wf.of_eq {x y : Sluice} (h : x.wf) (hreq : y.req = x.req) (hword : y.word = x.word) (hrx : y.rx = x.rx) : y.wf := by
  unfold Sluice.wf at h ⊢
  rwa [hreq, hword, hrx]

/-- The receive register may be emptied, and takes a word where it has a free entry. -/
theorem Sluice.wf.of_rx {x y : Sluice} (h : x.wf) (hreq : y.req = x.req) (hword : y.word = x.word) (hrx : y.rx.length ≤ 2) : y.wf := by
  obtain ⟨hheld, -⟩ := h
  exact ⟨by rw [hreq, hword]; exact hheld, hrx⟩

theorem SluicesWf.of_sluices {s t : State} (h : SluicesWf s) (hslu : t.slu.sluices = s.slu.sluices) : SluicesWf t := fun a b => by
  rw [sluiceOf_congr hslu]
  exact h a b

theorem SluicesWf.of_slu {s t : State} (h : SluicesWf s) (hslu : t.slu = s.slu) : SluicesWf t := h.of_sluices (by rw [hslu])

theorem SluicesWf.setSluice {s : State} {x : Sluice} (h : SluicesWf s) (a b : Nat) (hx : x.wf) : SluicesWf (setSluice a b x s) := fun c d => by
  rw [sluiceOf_setSluice]
  split_ifs
  · exact hx
  · exact h c d

theorem SluicesWf.restartWaits {s : State} (h : SluicesWf s) (i : Nat) : SluicesWf (restartWaits i s) := fun a b => by
  rw [sluiceOf_restartWaits, restartedWait]
  split_ifs
  · exact (h a b).of_eq rfl rfl rfl
  · exact h a b

theorem SluicesWf.stir {s : State} (h : SluicesWf s) (i : Nat) : SluicesWf (stir i s) := h.of_slu (stir_slu i s)

theorem SluicesWf.rouse {s : State} (h : SluicesWf s) (i : Nat) : SluicesWf (rouse i s) := by
  rcases rouse_slu i s with hslu | hslu
  · exact h.of_slu hslu
  · exact (h.restartWaits i).of_slu hslu

/-! ### Phase 1: the source raises REQ (R24 to R26, R34) -/

/-- A word that is sent stands in its sluice, cut to the width, at the level programmed for it. -/
theorem sluiceOf_raiseReq (a b : Nat) (w : SluiceWord) (s : State) :
    ∃ n, sluiceOf (raiseReq a b w s) a b = { sluiceOf (rouse b (stir a s)) a b with
      req := true, word := some (fitWord a b w), since := n, age := 0, lvl := (arbOf s a b).level, lim := (arbOf s a b).limit } := by
  rw [← arbOf_rouse_stir b a s]
  exact ⟨_, sluiceOf_setSluice_self ..⟩

theorem SluicesWf.raiseReq {s : State} (h : SluicesWf s) (a b : Nat) (w : SluiceWord) : SluicesWf (raiseReq a b w s) := by
  have hroused := (h.stir a).rouse b
  have hbound := (hroused a b).2
  exact hroused.setSluice a b ⟨by simp, hbound⟩

/-- A word that its source may send now: the sluice is there and free, and the source runs. -/
def mayRequest (s : State) (a b : Nat) : Prop :=
  (sluiceLevel s.sys.variantM a b).isSome = true ∧ running s a = true ∧ (sluiceOf s a b).req = false ∧ (sluiceOf s a b).ack = false

theorem sluiceRequest_raises {s : State} {a b : Nat} {w : SluiceWord} (h : mayRequest s a b) (hquad : (isQuadrant a && b == 0) = false)
    (htag : w.tag = false) (hacc : w.acc = none ∨ ∃ i x, w.acc = some (i, x) ∧ accError s x.toNat = none) :
    sluiceRequest a b w s = raiseReq a b w s := by
  obtain ⟨hlevel, hrun, hreq, hack⟩ := h
  have hlevel' := Option.isSome_iff_ne_none.mp hlevel
  unfold sluiceRequest
  rcases hacc with hacc | ⟨i, x, hacc, herr⟩
  · simp [hlevel', hrun, hreq, hack, hquad, htag, hacc]
  · simp [hlevel', hrun, hreq, hack, hquad, htag, hacc, herr]

theorem sluiceRequest_leaks {s : State} {a b : Nat} {w : SluiceWord} (h : mayRequest s a b) (hquad : (isQuadrant a && b == 0) = false)
    (htag : w.tag = true) (hrefused : refusesTag a b = true) : sluiceRequest a b w s = provLeak a b s := by
  obtain ⟨hlevel, hrun, hreq, hack⟩ := h
  have hlevel' := Option.isSome_iff_ne_none.mp hlevel
  simp [sluiceRequest, hlevel', hrun, hreq, hack, hquad, htag, hrefused]

/-- A request raises REQ, or leaves every sluice as it stands. -/
theorem sluiceRequest_cases (a b : Nat) (w : SluiceWord) (s : State) :
    sluiceRequest a b w s = raiseReq a b w s ∨ (sluiceRequest a b w s).slu = s.slu := by
  unfold sluiceRequest provLeak
  dsimp only
  split
  · exact .inr rfl
  · split
    · exact .inr rfl
    · split
      · exact .inr (by simp)
      · split
        · split
          · exact .inr (wordError_slu ..)
          · exact .inl rfl
        · exact .inl rfl

theorem SluicesWf.sluiceRequest {s : State} (h : SluicesWf s) (a b : Nat) (w : SluiceWord) : SluicesWf (sluiceRequest a b w s) := by
  rcases sluiceRequest_cases a b w s with heq | hslu
  · rw [heq]
    exact h.raiseReq a b w
  · exact h.of_slu hslu

/-! ### Phase 2: the destination latches the word (R17, R19, R23) -/

/-- A sluice after the consuming logic took `n` words. -/
def Sluice.taken (n : Nat) (x : Sluice) : Sluice := { x with rx := x.rx.drop n }

/-- A sluice whose word `w` is latched, or discarded if it was abandoned. -/
def Sluice.latched (w : SluiceWord) (x : Sluice) : Sluice :=
  { x with ack := true, age := 0, rx := if x.dead then x.rx else x.rx ++ [w] }

/-- Does the destination latch the word of a sluice once `n` words are taken? -/
def latches (s : State) (a b n : Nat) : Bool :=
  let x := (sluiceOf s a b).taken n
  x.waits && accepts s b && decide (x.rx.length < 2) && granted (setSluice a b x s) a b

/-- The state in which the word `w` of a sluice has been latched, but for the reads that wait. -/
def afterLatch (a b n : Nat) (w : SluiceWord) (s : State) : State :=
  setSluice a b (((sluiceOf s a b).taken n).latched w) (stir b (setSluice a b ((sluiceOf s a b).taken n) s))

theorem sluiceLatch_of_word {s : State} {a b n : Nat} {w : SluiceWord} (hword : (sluiceOf s a b).word = some w) :
    sluiceLatch a b n s =
      if latches s a b n then
        if (sluiceOf s a b).dead then afterLatch a b n w s
        else if w.ans then answered a b (afterLatch a b n w s) else openRead a b w (afterLatch a b n w s)
      else setSluice a b ((sluiceOf s a b).taken n) s := by
  unfold sluiceLatch
  dsimp only
  split
  case h_1 v hv =>
    obtain rfl : w = v := Option.some.inj (hword.symm.trans hv)
    rfl
  case h_2 hnone => exact absurd (hword.symm.trans hnone) (by simp)

theorem sluiceLatch_of_no_word {s : State} {a b : Nat} (n : Nat) (hword : (sluiceOf s a b).word = none) :
    sluiceLatch a b n s = setSluice a b ((sluiceOf s a b).taken n) s := by
  unfold sluiceLatch
  dsimp only
  split
  case h_1 v hv => exact absurd (hword.symm.trans hv) (by simp)
  case h_2 => rfl

theorem sluiceLatch_of_latches {s : State} {a b n : Nat} {w : SluiceWord} (hword : (sluiceOf s a b).word = some w)
    (h : latches s a b n = true) : ∃ l, sluiceLatch a b n s = setOpen l (afterLatch a b n w s) := by
  rw [sluiceLatch_of_word hword, if_pos h]
  split_ifs
  · exact ⟨_, (setOpen_self _).symm⟩
  · exact answered_eq_setOpen ..
  · exact openRead_eq_setOpen ..

/-- A destination that latches nothing has taken the words alone. -/
theorem sluiceLatch_of_not_latches {s : State} {a b n : Nat} (h : latches s a b n = false) :
    sluiceLatch a b n s = setSluice a b ((sluiceOf s a b).taken n) s := by
  cases hword : (sluiceOf s a b).word with
  | none => exact sluiceLatch_of_no_word n hword
  | some w => rw [sluiceLatch_of_word hword, h]; rfl

theorem Sluice.wf.taken {x : Sluice} (h : x.wf) (n : Nat) : (x.taken n).wf := by
  have hbound := h.2
  refine h.of_rx rfl rfl ?_
  simp only [Sluice.taken, List.length_drop]
  omega

theorem Sluice.wf.latched {x : Sluice} (h : x.wf) (w : SluiceWord) (hfree : x.rx.length < 2) : (x.latched w).wf := by
  refine h.of_rx rfl rfl ?_
  unfold Sluice.latched
  split_ifs
  · exact h.2
  · simpa using hfree

theorem SluicesWf.sluiceLatch {s : State} (h : SluicesWf s) (a b n : Nat) : SluicesWf (sluiceLatch a b n s) := by
  have htaken := (h a b).taken n
  have hset := h.setSluice a b htaken
  cases hlatch : latches s a b n with
  | false => rwa [sluiceLatch_of_not_latches hlatch]
  | true =>
    have hcond := hlatch
    simp only [latches, Sluice.waits, Bool.and_eq_true, decide_eq_true_eq] at hcond
    obtain ⟨⟨⟨⟨-, hword⟩, -⟩, hfree⟩, -⟩ := hcond
    obtain ⟨w, hw⟩ := Option.isSome_iff_exists.mp hword
    obtain ⟨l, heq⟩ := sluiceLatch_of_latches hw hlatch
    rw [heq]
    exact ((hset.stir b).setSluice a b (htaken.latched w hfree)).of_sluices rfl

/-! ### Phases 3 and 4: REQ and ACK are lowered (R16) -/

theorem SluicesWf.ackSeen {s t : State} (h : SluicesWf s) (a b : Fin 27) (ht : execSluiceAckSeen a b s = .next t) : SluicesWf t := by
  have hbound := (h a b).2
  unfold execSluiceAckSeen at ht
  dsimp only at ht
  split_ifs at ht <;> cases ht
  · exact h.setSluice a b ⟨by simp, hbound⟩
  · exact h

theorem SluicesWf.ackLow {s t : State} (h : SluicesWf s) (a b : Fin 27) (ht : execSluiceAckLow a b s = .next t) : SluicesWf t := by
  unfold execSluiceAckLow at ht
  dsimp only at ht
  split_ifs at ht <;> cases ht
  · exact h.setSluice a b ((h a b).of_eq rfl rfl rfl)
  · exact h

/-! ### The timeout of a handshake (R22, R23) -/

/-- The word of a sluice is abandoned: its access ends with TIMEOUT, or the timeout is counted. -/
def abandon (a b : Nat) (w : SluiceWord) (s : State) : State :=
  let s := setSluice a b { sluiceOf s a b with dead := true } s
  if w.acc.isSome then wordError .timeout w s else bump (sluError 0 a b 0 s) SLU_TMOCNT_COUNT

theorem handshakeTimeout_of_word {s : State} {a b : Nat} {w : SluiceWord} (hword : (sluiceOf s a b).word = some w) :
    handshakeTimeout a b s =
      if (sluiceOf s a b).waits && !(sluiceOf s a b).dead && accepts s b &&
        decide (waitEdges s a ≥ (sluiceOf s a b).since + fget s SLU_CTL_TMO + 1) then abandon a b w s
      else s := by
  unfold handshakeTimeout
  dsimp only
  split
  case h_1 v hv =>
    obtain rfl : w = v := Option.some.inj (hword.symm.trans hv)
    rfl
  case h_2 hnone => exact absurd (hword.symm.trans hnone) (by simp)

theorem handshakeTimeout_of_no_word {s : State} {a b : Nat} (hword : (sluiceOf s a b).word = none) : handshakeTimeout a b s = s := by
  unfold handshakeTimeout
  dsimp only
  split
  case h_1 v hv => exact absurd (hword.symm.trans hv) (by simp)
  case h_2 => rfl

theorem abandon_slu (a b : Nat) (w : SluiceWord) (s : State) :
    (abandon a b w s).slu = (setSluice a b { sluiceOf s a b with dead := true } s).slu := by
  unfold abandon
  dsimp only
  split_ifs <;> simp

theorem SluicesWf.handshakeTimeout {s : State} (h : SluicesWf s) (a b : Nat) : SluicesWf (handshakeTimeout a b s) := by
  cases hword : (sluiceOf s a b).word with
  | none => rwa [handshakeTimeout_of_no_word hword]
  | some w =>
    rw [handshakeTimeout_of_word hword]
    split_ifs
    · have hdead : Sluice.wf { sluiceOf s a b with dead := true } := (h a b).of_eq rfl rfl rfl
      exact (h.setSluice a b hdead).of_slu (abandon_slu a b w s)
    · exact h

/-! ### Ages (R32, R33, R206, R228, R423) -/

theorem SluicesWf.agePromotion {s : State} (h : SluicesWf s) (who : Requester) (age : Nat) : SluicesWf (agePromotion who age s) := by
  unfold Machine.agePromotion
  cases who with
  | sluice a b =>
    dsimp only
    split_ifs
    · exact h.setSluice a b ((h a b).of_eq rfl rfl rfl)
    · exact h
  | warpBank b r => exact h.of_slu (by dsimp only; split_ifs <;> rfl)
  | nand l => exact h.of_slu (by dsimp only; split_ifs <;> rfl)
  | shuttle n => exact h.of_slu (by dsimp only; split_ifs <;> rfl)

/-! ### Every sluice stays within its bounds -/

/-- After reset no sluice is listed, and each reads as free and empty. -/
theorem SluicesWf.reset : SluicesWf State.reset := fun _ _ => Sluice.wf_default

/-- Settles O57: each command stores a sluice within its bounds, or stores none. -/
theorem sluicesStayWithinBounds : Obligations.SluicesStayWithinBounds := by
  unfold Obligations.SluicesStayWithinBounds
  refine ⟨SluicesWf.reset, fun s t src dst w taken who age h ht => ?_⟩
  rcases ht with ht | ht | ht | ht | ht | ht
  · cases ht
    exact h.sluiceRequest src dst w
  · cases ht
    exact h.sluiceLatch src dst taken
  · exact h.ackSeen src dst ht
  · exact h.ackLow src dst ht
  · cases ht
    exact h.handshakeTimeout src dst
  · cases ht
    exact h.agePromotion who age.toNat

/-! ### Levels of requesters that wait (R33) -/

/-- Settles O15, by the three ranges of the age. -/
theorem agingPromotesRequesters : Obligations.AgingPromotesRequesters := by
  unfold Obligations.AgingPromotesRequesters
  intro lvl lim age
  refine ⟨fun h => ?_, fun hlow hhigh => ?_, fun h => ?_, ?_⟩
  · rw [effLevel, if_neg (by omega), if_neg (by omega)]
  · rw [effLevel, if_neg (by omega), if_pos hlow]
  · rw [effLevel, if_pos (.inr h)]
  · simp [effLevel]

/-! ### A tick edge that an island recognises (R28 to R30, R382) -/

@[simp] theorem stir_regs (i : Nat) (s : State) : (stir i s).regs = s.regs := by
  unfold stir; split <;> rfl

@[simp] theorem edges_stir (i : Nat) (s : State) (j : Nat) : edges (stir i s) j = edges s j := by
  unfold stir; split <;> rfl

@[simp] theorem shadow_stir (i : Nat) (s : State) (j : Nat) : shadow (stir i s) j = shadow s j := by
  unfold stir; split <;> rfl

/-- A message is taken from those that are on their way to a running island, and its shadow follows it where it has one. -/
def takeEdge (i : Nat) (m : TickMsg) (l : List TickMsg) (s : State) : State :=
  onlyIf (hasShadow i) (fun u => setShadow u i (m.shadow (shadow s i))) (setInbox (stir i s) i l)

/-- The edge is counted and the sub-tick count starts afresh. -/
def closeEdge (i : Nat) (s : State) : State := setEdges (atSub i 0 s) i (edges s i + 1)

theorem recogniseEdge_of_inbox {i : Nat} {m : TickMsg} {l : List TickMsg} {s : State} (hbox : inbox s i = m :: l)
    (hrun : running s i = true) : recogniseEdge i s =
      edgeWork i m.isLoad (shadow s i) (shadow (closeEdge i (takeEdge i m l s)) i) (closeEdge i (takeEdge i m l s)) := by
  unfold recogniseEdge
  split
  case h_1 m' l' hbox' _ =>
    obtain ⟨rfl, rfl⟩ : m = m' ∧ l = l' := List.cons_eq_cons.mp (hbox.symm.trans hbox')
    rfl
  case h_2 hnone => exact absurd hrun (hnone m l hbox)

theorem edges_setEdges_self (s : State) (i n : Nat) : edges (setEdges s i n) i = n := tabGet_set_self ..

theorem subTick_atSub_self (s : State) (i : Nat) (b : BitVec 16) : subTick (atSub i b s) i = b := tabGet_set_self ..

theorem edges_closeEdge (i : Nat) (s : State) : edges (closeEdge i s) i = edges s i + 1 := edges_setEdges_self (atSub i 0 s) i _

theorem subTick_closeEdge (i : Nat) (s : State) : subTick (closeEdge i s) i = 0 := subTick_atSub_self s i 0

theorem takeEdge_of_hasShadow {i : Nat} (m : TickMsg) (l : List TickMsg) (s : State) (h : hasShadow i = true) :
    takeEdge i m l s = setShadow (setInbox (stir i s) i l) i (m.shadow (shadow s i)) := by
  rw [takeEdge, h]
  rfl

theorem takeEdge_of_no_shadow {i : Nat} (m : TickMsg) (l : List TickMsg) (s : State) (h : hasShadow i = false) :
    takeEdge i m l s = setInbox (stir i s) i l := by
  rw [takeEdge, h]
  rfl

/-- The message leaves the rest of its island and every register alone. -/
theorem takeEdge_frame (i : Nat) (m : TickMsg) (l : List TickMsg) (s : State) :
    inbox (takeEdge i m l s) i = l ∧ edges (takeEdge i m l s) i = edges s i ∧ (takeEdge i m l s).regs = s.regs ∧
      (takeEdge i m l s).sys.power = (stir i s).sys.power := by
  cases h : hasShadow i with
  | false =>
    rw [takeEdge_of_no_shadow m l s h]
    exact ⟨tabGet_set_self (fun _ => []) .., edges_stir i s i, stir_regs i s, rfl⟩
  | true =>
    rw [takeEdge_of_hasShadow m l s h]
    exact ⟨tabGet_set_self (fun _ => []) .., edges_stir i s i, stir_regs i s, rfl⟩

theorem shadow_takeEdge_of_hasShadow {i : Nat} (m : TickMsg) (l : List TickMsg) (s : State) (h : hasShadow i = true) :
    shadow (takeEdge i m l s) i = m.shadow (shadow s i) := by
  rw [takeEdge_of_hasShadow m l s h]
  exact tabGet_set_self (fun _ => 0) ..

theorem shadow_takeEdge_of_no_shadow {i : Nat} (m : TickMsg) (l : List TickMsg) (s : State) (h : hasShadow i = false) :
    shadow (takeEdge i m l s) i = shadow s i := by
  rw [takeEdge_of_no_shadow m l s h]
  exact shadow_stir i s i

/-! ### The phases complete -/

theorem exec_sluiceRequest (a b : Fin 27) (w : SluiceWord) (s : State) :
    exec (.sluiceRequest a b w) s = .next (sluiceRequest a b w s) := rfl

theorem exec_sluiceLatch (a b : Fin 27) (n : Fin 3) (s : State) : exec (.sluiceLatch a b n) s = .next (sluiceLatch a b n s) := rfl

theorem exec_handshakeTimeout (a b : Fin 27) (s : State) : exec (.handshakeTimeout a b) s = .next (handshakeTimeout a b s) := rfl

theorem exec_agePromotion (who : Requester) (n : BitVec 16) (s : State) :
    exec (.agePromotion who n) s = .next (agePromotion who n.toNat s) := rfl

theorem exec_islandTickRecognised (i : Fin 27) (s : State) : exec (.islandTickRecognised i) s = .next (recogniseEdge i s) := rfl

theorem stir_setSluice (i a b : Nat) (x : Sluice) (s : State) : stir i (setSluice a b x s) = setSluice a b x (stir i s) := by
  unfold stir
  split_ifs with hset hs hs
  · rfl
  · exact absurd hset hs
  · exact absurd hs hset
  · rfl

/-- A word that is latched leaves the registers and the supplies alone, but that its destination runs. -/
theorem afterLatch_frame (a b n : Nat) (w : SluiceWord) (s : State) :
    (afterLatch a b n w s).regs = s.regs ∧ (afterLatch a b n w s).sys = (stir b s).sys := by
  rw [afterLatch, stir_setSluice]
  exact ⟨stir_regs b s, rfl⟩

theorem sluiceAckSeen_lowers {a b : Fin 27} {s : State} (hreq : (sluiceOf s a b).req = true) (hack : (sluiceOf s a b).ack = true)
    (hrun : running s a = true) : exec (.sluiceAckSeen a b) s =
      .next (setSluice a b { sluiceOf s a b with req := false, word := none, dead := false } s) :=
  if_pos (by simp [hreq, hack, hrun])

theorem sluiceAckLow_lowers {a b : Fin 27} {s : State} (hreq : (sluiceOf s a b).req = false) (hack : (sluiceOf s a b).ack = true)
    (hrun : running s b = true) : exec (.sluiceAckLow a b) s =
      .next (setSluice a b { sluiceOf s a b with ack := false, lvl := 0, lim := 0, since := 0 } s) :=
  if_pos (by simp [hreq, hack, hrun])

theorem handshakeTimeout_abandons {a b : Nat} {w : SluiceWord} {s : State} (hword : (sluiceOf s a b).word = some w)
    (hwaits : (sluiceOf s a b).waits = true) (hdead : (sluiceOf s a b).dead = false) (haccepts : accepts s b = true)
    (hlate : waitEdges s a ≥ (sluiceOf s a b).since + fget s SLU_CTL_TMO + 1) : handshakeTimeout a b s = abandon a b w s := by
  rw [handshakeTimeout_of_word hword, if_pos]
  simp only [hwaits, hdead, haccepts, decide_eq_true hlate, Bool.not_false, Bool.and_self]

theorem abandon_of_no_access {w : SluiceWord} (a b : Nat) (s : State) (h : w.acc = none) :
    abandon a b w s = bump (sluError 0 a b 0 (setSluice a b { sluiceOf s a b with dead := true } s)) SLU_TMOCNT_COUNT := by
  simp only [abandon, h, Option.isSome_none, Bool.false_eq_true, if_false]

theorem abandon_of_access {w : SluiceWord} {i : Initiator} {r : Word} (a b : Nat) (s : State) (h : w.acc = some (i, r)) :
    abandon a b w s = if w.wr then writeError i .timeout r.toNat (setSluice a b { sluiceOf s a b with dead := true } s)
      else busError i .timeout r.toNat (setSluice a b { sluiceOf s a b with dead := true } s) := by
  simp only [abandon, wordError, h, Option.isSome_some, if_true]

/-- An age counted in 16 bits does not pass the value at which ages saturate. -/
theorem min_age_saturation (n : BitVec 16) : min n.toNat 0xFFFF = n.toNat := Nat.min_eq_left (by omega)

theorem agePromotion_sluice {a b : Fin 27} (n : BitVec 16) {s : State} (h : (sluiceOf s a b).waits = true) :
    agePromotion (.sluice a b) n.toNat s = setSluice a b { sluiceOf s a b with age := max (sluiceOf s a b).age n.toNat } s := by
  simp only [agePromotion, h, if_true, min_age_saturation]

theorem agePromotion_warpBank {b r : Fin 8} (n : BitVec 16) {s : State} (h : (bankReq s b r).on = true) :
    agePromotion (.warpBank b r) n.toNat s = setBankReq b r { bankReq s b r with age := max (bankReq s b r).age n.toNat } s := by
  simp only [agePromotion, h, if_true, min_age_saturation]

theorem agePromotion_shuttle {k : Fin 16} (n : BitVec 16) {s : State} (hwords : hasWords s k = true)
    (hturn : quadTurn s (k / 4) ≠ some k.val) : agePromotion (.shuttle k) n.toNat s =
      { s with loom := { s.loom with shAge := tabSet (fun _ => 0) s.loom.shAge k (max (shAge s k) n.toNat) } } := by
  simp only [agePromotion, hwords, bne_iff_ne.mpr hturn, Bool.and_self, if_true, min_age_saturation]

theorem agePromotion_nand {l : Fin 4} (n : BitVec 16) {s : State} (h : (nandWaiting s l).isSome = true) :
    agePromotion (.nand l) n.toNat s =
      setStore { s.store with ages := tabSet (fun _ => 0) s.store.ages l (max (nandAge s l) n.toNat) } s := by
  simp only [agePromotion, h, if_true, min_age_saturation]

/-- Settles O16, phase by phase, then the timeout, the ages and the tick edges. -/
theorem sluicePhasesComplete : Obligations.SluicePhasesComplete := by
  unfold Obligations.SluicePhasesComplete
  refine ⟨fun a b w s hlevel hrun hreq hack hquad htag hacc => ⟨?_, ?_⟩,
    fun a b w s hlevel hrun hreq hack hquad htag hrefused => ?_,
    fun a b n x w s hx hreq hack hword haccepts hfree hgranted => ?_,
    fun a b x s hx hreq hack hrun => ?_,
    fun a b x s hx hreq hack hrun => ?_,
    fun a b x w s hx hreq hack hword hdead haccepts hlate => ?_,
    fun n s => ⟨fun a b x hx hwaits => ?_, fun b r x hx hon => ?_, fun k hwords hturn => ?_, fun l hwaits => ?_⟩,
    fun i m l s hbox hrun => ?_⟩
  · rw [exec_sluiceRequest, sluiceRequest_raises ⟨hlevel, hrun, hreq, hack⟩ hquad htag hacc]
  · obtain ⟨since, hraised⟩ := sluiceOf_raiseReq a b w s
    rw [hraised]
    exact ⟨rfl, rfl, rfl, rfl⟩
  · rw [exec_sluiceRequest, sluiceRequest_leaks ⟨hlevel, hrun, hreq, hack⟩ hquad htag hrefused, provLeak]
  · subst hx
    have hwaits : ((sluiceOf s a b).taken n).waits = true := by simp [Sluice.waits, Sluice.taken, hreq, hack, hword]
    have hlatches : latches s a b n = true := by
      simp only [latches, Bool.and_eq_true, decide_eq_true_eq]
      exact ⟨⟨⟨hwaits, haccepts⟩, hfree⟩, hgranted⟩
    obtain ⟨l, heq⟩ := sluiceLatch_of_latches hword hlatches
    obtain ⟨hregs, hsys⟩ := afterLatch_frame a b n w s
    exact ⟨_, (exec_sluiceLatch a b n s).trans (congrArg _ heq), sluiceOf_setSluice_self .., hregs, hsys⟩
  · subst hx
    exact sluiceAckSeen_lowers hreq hack hrun
  · subst hx
    exact sluiceAckLow_lowers hreq hack hrun
  · subst hx
    have hwaits : (sluiceOf s a b).waits = true := by simp [Sluice.waits, hreq, hack, hword]
    rw [exec_handshakeTimeout, handshakeTimeout_abandons hword hwaits hdead haccepts hlate]
    exact ⟨fun hacc => congrArg _ (abandon_of_no_access a b s hacc), fun i r hacc => congrArg _ (abandon_of_access a b s hacc)⟩
  · subst hx
    rw [exec_agePromotion, agePromotion_sluice n hwaits]
  · subst hx
    rw [exec_agePromotion, agePromotion_warpBank n hon]
  · rw [exec_agePromotion, agePromotion_shuttle n hwords hturn]
  · rw [exec_agePromotion, agePromotion_nand n hwaits]
    exact ⟨_, rfl, tabGet_set_self (fun _ => 0) .., rfl⟩
  · obtain ⟨hinbox, hedges, hregs, hpower⟩ := takeEdge_frame i m l s
    refine ⟨closeEdge i (takeEdge i m l s), ?_, hinbox, ?_, subTick_closeEdge .., ?_, ?_, hregs, hpower⟩
    · rw [exec_islandTickRecognised, recogniseEdge_of_inbox hbox hrun]
    · rw [edges_closeEdge, hedges]
    · exact shadow_takeEdge_of_hasShadow m l s
    · exact shadow_takeEdge_of_no_shadow m l s

end Sys2Proof.Machine
end

section
/-! PROOFS. SYS (02_power_reset_and_start_up, R49 to R73): what a reset of islands leaves of SYS, the supplies, and
the stop of TICK's oscillator. -/

namespace Sys2Proof.Machine

/-! ### What a repeated change keeps -/

/-- What each change of a list keeps, all of them keep. -/
theorem forL_keeps {α β : Type} (g : State → β) (l : List α) (f : α → State → State) (s : State) (hf : ∀ x s, g (f x s) = g s) :
    g (forL l f s) = g s :=
  List.foldlRecOn (motive := fun t => g t = g s) _ _ rfl fun t ht x _ => (hf x t).trans ht

theorem forN_keeps {β : Type} (g : State → β) (n : Nat) (f : Nat → State → State) (s : State) (hf : ∀ k s, g (f k s) = g s) :
    g (forN n f s) = g s := forL_keeps g (List.range n) f s hf

theorem onlyIf_keeps {β : Type} (g : State → β) (c : Bool) (f : State → State) (s : State) (hf : ∀ s, g (f s) = g s) :
    g (onlyIf c f s) = g s := by
  cases c
  · rfl
  · exact hf s

theorem onlyIf_sys (c : Bool) (f : State → State) (s : State) : (onlyIf c f s).sys = if c then (f s).sys else s.sys := by
  cases c <;> rfl

/-- Changes that each leave the state as it is leave it so together. -/
theorem forN_eq_self {n : Nat} {f : Nat → State → State} {s : State} (hf : ∀ k, k < n → f k s = s) : forN n f s = s :=
  List.foldlRecOn (motive := fun t => t = s) _ _ rfl fun t ht k hk => by rw [ht, hf k (List.mem_range.mp hk)]

/-! ### What a reset of islands leaves of SYS (R61) -/

theorem sluError_sys (kind src dst : Nat) (addr : Word) (s : State) : (sluError kind src dst addr s).sys = s.sys := by
  unfold sluError
  dsimp only
  split
  · exact wr_sys ..
  · exact (wr_sys ..).trans ((wr_sys ..).trans (wr_sys ..))

theorem setReply_sys (i : Initiator) (r : BusReply) (s : State) : (setReply i r s).sys = s.sys := by
  cases i <;> rfl

theorem busError_sys (i : Initiator) (e : BusErr) (a : Nat) (s : State) : (busError i e a s).sys = s.sys := by
  cases e with
  | timeout => exact (sluError_sys ..).trans (setReply_sys ..)
  | other => exact setReply_sys ..
  | offacc | unmapped | accerr => exact (sluError_sys ..).trans (setReply_sys ..)

theorem writeError_sys (i : Initiator) (e : BusErr) (a : Nat) (s : State) : (writeError i e a s).sys = s.sys := by
  simp only [writeError, apply_ite State.sys, busError_sys, ite_self]

theorem wordError_sys (e : BusErr) (w : SluiceWord) (s : State) : (wordError e w s).sys = s.sys := by
  unfold wordError
  split
  · simp only [apply_ite State.sys, writeError_sys, busError_sys, ite_self]
  · rfl

theorem abortOpen_sys (i : Nat) (s : State) : (abortOpen i s).sys = s.sys := by
  unfold abortOpen
  dsimp only
  rw [forL_keeps State.sys _ _ _ fun _ s => onlyIf_keeps State.sys _ _ s fun _ => busError_sys ..]
  refine forL_keeps State.sys _ _ s fun e s => ?_
  split
  · simp only [apply_ite State.sys, wordError_sys, ite_self]
  · rfl

theorem writerReset_sys (src : Nat) (s : State) : (writerReset src s).sys = s.sys :=
  onlyIf_keeps State.sys _ _ s fun s => forN_keeps State.sys _ _ s fun _ s => by dsimp only; split <;> rfl

theorem nandLose_sys (page : Nat) (s : State) : (nandLose page s).sys = s.sys := rfl

theorem nandCut_sys (s : State) : (nandCut s).sys = s.sys := by
  have hblock := fun b => forN_keeps State.sys 32 (fun i => nandLose (32 * b + i)) s fun _ s => nandLose_sys _ s
  unfold nandCut
  split
  · rfl
  · rfl
  · exact hblock _
  · exact hblock _
  · rfl

theorem heldClear_sys (n : Nat) (h : Held) (mask : Nat) (s : State) : (heldClear n h mask s).sys = s.sys := by
  unfold heldClear
  dsimp only
  split <;> rfl

theorem clearDup_sys (s : State) : (clearDup s).sys = s.sys :=
  forN_keeps State.sys _ _ s fun _ s => forL_keeps State.sys _ _ s fun _ _ => heldClear_sys ..

theorem cdupUpdate_sys (s : State) : (cdupUpdate s).sys = s.sys := by
  unfold cdupUpdate
  dsimp only
  split_ifs
  · rfl
  · rfl
  · exact clearDup_sys _

theorem selvRole_sys (r : Role) (s : State) : (selvRole r s).sys = s.sys := by
  unfold selvRole
  split
  · rfl
  · simp only [cdupUpdate_sys, sendKeepalive, copyAbandon, relayDiol, setSelv, setEgPath, onlyIf_sys, fset_sys, setF_sys, ite_self]

theorem resetWarp_sys (s : State) : (resetWarp s).sys = s.sys :=
  onlyIf_keeps State.sys _ _ _ fun _ => selvRole_sys ..

theorem dioReset_porPending (s : State) : (dioReset s).sys.porPending = s.sys.porPending := by
  unfold dioReset
  dsimp only
  exact forN_keeps (fun s => s.sys.porPending) 9 _ _ fun _ _ => rfl

/-- The reset of no island changes whether a power-on reset is due. The goals follow the order in which the reset lists the islands. -/
theorem resetIslandState_porPending (i : Nat) (s : State) : (resetIslandState i s).sys.porPending = s.sys.porPending := by
  unfold resetIslandState
  split
  · rfl
  · exact congrArg SysSt.porPending (writerReset_sys 1 s)
  · exact congrArg SysSt.porPending (resetWarp_sys s)
  iterate 4 · rfl
  · rfl
  · exact congrArg SysSt.porPending (writerReset_sys 2 s)
  · exact dioReset_porPending s
  · exact congrArg SysSt.porPending (writerReset_sys 3 s)
  · exact congrArg SysSt.porPending (onlyIf_keeps State.sys _ _ _ fun _ => clearDup_sys _)
  · rfl
  · exact congrArg SysSt.porPending ((nandCut_sys _).trans (forL_keeps State.sys _ _ s fun _ _ => busError_sys ..))
  iterate 4 · rfl

theorem resetIsland_porPending (i : Nat) (s : State) : (resetIsland i s).sys.porPending = s.sys.porPending := by
  have hopen : (abortOpen i s).sys.porPending = s.sys.porPending := by rw [abortOpen_sys]
  have hstate : (perfIslandReset i (resetIslandState i (setInbox (setPower (dropSluices i (abortOpen i s)) i .off) i []))).sys.porPending =
      s.sys.porPending := (resetIslandState_porPending ..).trans hopen
  unfold resetIsland
  dsimp only
  split
  · exact hstate
  · exact hstate

theorem resetIslands_porPending (l : List Nat) (s : State) : (resetIslands l s).sys.porPending = s.sys.porPending :=
  forL_keeps (fun s => s.sys.porPending) l resetIsland s resetIsland_porPending

theorem releaseSys_porPending (s : State) : (releaseSys s).sys.porPending = s.sys.porPending := by
  simp only [releaseSys, onlyIf_sys, setF_sys, ite_self]
  rfl

theorem noteReset_sys (s : State) : (noteReset s).sys = s.sys := rfl

theorem resetAll_porPending (s : State) : (resetAll s).sys.porPending = s.sys.porPending := by
  have hreset : (resetIsland 0 (noteReset (resetIslands logicIslands s))).sys.porPending = s.sys.porPending := by
    rw [resetIsland_porPending, noteReset_sys, resetIslands_porPending]
  unfold resetAll
  dsimp only
  split
  · exact (releaseSys_porPending _).trans hreset
  · exact hreset

/-! ### Supplies (R50, R61, R65, R73; the levels of VBAT by assumption log 164) -/

/-- VMAIN above its overvoltage threshold is not good. -/
theorem supplyGood_overvoltage {s : State} (h : flag s SYS_SUPSTAT_VMAINOV = true) : supplyGood .vmain s = s := by
  simp [supplyGood, h]

/-- A supply that may be good sets its bit, and once both are good SYS runs, from a power-on reset where one is due. -/
theorem supplyGood_accepted {sup : Supply} {s : State} (h : sup ≠ .vmain ∨ flag s SYS_SUPSTAT_VMAINOV = false) :
    supplyGood sup s = if flag (setF s (supOk sup)) SYS_SUPSTAT_VMAINOK && flag (setF s (supOk sup)) SYS_SUPSTAT_VAUXOK then
        if s.sys.porPending then
          wr (resetAll { setF s (supOk sup) with sys := { s.sys with porPending := false, holdA := false, holdB := false } }) SYS_RSTCAUSE 1
        else if islUp s 0 then setF s (supOk sup) else releaseSys (setF s (supOk sup))
      else setF s (supOk sup) := by
  have hov : (sup == .vmain && flag s SYS_SUPSTAT_VMAINOV) = false := by
    rcases h with h | h
    · rw [beq_false_of_ne h, Bool.false_and]
    · rw [h, Bool.and_false]
  rw [supplyGood, hov]
  rfl

theorem exec_supplyGood (sup : Supply) (s : State) : exec (.supplyGood sup) s = .next (supplyGood sup s) := rfl

theorem exec_supplyWarning (w : SupplyWarn) (on : Bool) (s : State) : exec (.supplyWarning w on) s = .next (supplyWarning w on s) := rfl

/-! ### The oscillator's stop (R396, R401, R402) -/

theorem rd_clearBlock (b a : Nat) (s : State) : rd (clearBlock b s) a = if a / 0x100000 = 0x200 + b then resetVal a else rd s a := by
  simp only [rd, clearBlock, tabGet_clear, beq_iff_eq]

/-- The registers after a reset of TICK: its block cleared, the enables, the lock and ONVBAT put back. -/
theorem resetTick_regs (s : State) : (resetTick s).regs = (putF (fset (wr (clearBlock 9 s) TICK_IEN (rd s TICK_IEN)) TICK_CTL_LOCK
    (fget s TICK_CTL_LOCK)) TICK_STAT_ONVBAT (flag s TICK_STAT_ONVBAT)).regs := rfl

/-- Of TICK's block a reset keeps the enables, the lock and ONVBAT: every other register is at its reset value. -/
theorem rd_resetTick {a : Nat} (s : State) (hIen : a ≠ TICK_IEN) (hCtl : a ≠ TICK_CTL) (hStat : a ≠ TICK_STAT) :
    rd (resetTick s) a = if a / 0x100000 = 0x209 then resetVal a else rd s a := by
  rw [rd_of_regs _ _ a (resetTick_regs s), putF, rd_fset_ne _ _ _ _ hStat, rd_fset_ne _ _ _ _ hCtl, rd_wr_ne _ _ _ _ hIen, rd_clearBlock]

theorem rd_resetTick_ien (s : State) : rd (resetTick s) TICK_IEN = rd s TICK_IEN := by
  have hStat : TICK_IEN ≠ TICK_STAT_ONVBAT.addr := by decide
  have hCtl : TICK_IEN ≠ TICK_CTL_LOCK.addr := by decide
  rw [rd_of_regs _ _ _ (resetTick_regs s), putF, rd_fset_ne _ _ _ _ hStat, rd_fset_ne _ _ _ _ hCtl, rd_wr_self]

theorem lock_resetTick (s : State) : fget (resetTick s) TICK_CTL_LOCK = fget s TICK_CTL_LOCK := by
  have hStat : TICK_CTL_LOCK.addr ≠ TICK_STAT_ONVBAT.addr := by decide
  rw [fget_of_regs _ _ _ (resetTick_regs s), putF, fget_fset_addr _ _ _ _ hStat, fget_fset _ _ _ (by decide) (by decide)]
  exact Nat.mod_eq_of_lt (wget_lt ..)

/-- A one-bit field at a truth value holds it. -/
theorem flag_putF (s : State) (F : Fld) (b : Bool) (h : F.hi = F.lo) (hhi : F.hi < 32) : flag (putF s F b) F = b := by
  cases b
  · exact flag_clrF s F h hhi
  · exact flag_setF s F h hhi

theorem onvbat_resetTick (s : State) : flag (resetTick s) TICK_STAT_ONVBAT = flag s TICK_STAT_ONVBAT := by
  rw [flag_of_regs _ _ _ (resetTick_regs s), flag_putF _ _ _ rfl (by decide)]

theorem exec_tickOscillatorStop (s : State) : exec .tickOscillatorStop s = .next (resetTick s) := rfl

theorem resetTick_frame (s : State) : (resetTick s).tick = { reads := s.tick.reads, mrefN := s.tick.mrefN } ∧
    (resetTick s).sys = s.sys ∧ (resetTick s).life = s.life := ⟨rfl, rfl, rfl⟩

/-- Settles O4, by the supply's three cases, each warning's two levels, and register by register for the oscillator's stop. -/
theorem supplyEventsTakeEffect : Obligations.SupplyEventsTakeEffect := by
  unfold Obligations.SupplyEventsTakeEffect
  refine ⟨fun sup s hgood hpor => ⟨fun hup => ?_, fun hup => ?_⟩, fun s hov => ?_, fun sup s hgood hpor hmain haux => ?_,
    fun s => ⟨rfl, rfl, rfl, rfl, rfl, rfl⟩, fun s => ⟨rfl, rfl, rfl⟩, fun s => ⟨rfl, rfl⟩, fun s => ?_⟩
  · simp only [exec_supplyGood, supplyGood_accepted hgood, hpor, hup, Bool.false_eq_true, if_true, if_false, ite_self]
  · simp only [exec_supplyGood, supplyGood_accepted hgood, suppliesGood, setF_sys, hpor, hup, Bool.false_eq_true, if_false,
      Bool.not_false, Bool.and_true]
  · rw [exec_supplyGood, supplyGood_overvoltage hov]
  · refine ⟨_, exec_supplyGood sup s, ?_⟩
    rw [supplyGood_accepted hgood, hmain, haux, hpor]
    exact ⟨rd_wr_self .., resetAll_porPending _⟩
  · obtain ⟨htick, hsys, hlife⟩ := resetTick_frame s
    refine ⟨exec_tickOscillatorStop s, htick, hsys, hlife, rd_resetTick_ien s, lock_resetTick s, onvbat_resetTick s,
      fun a ha hIen hCtl hStat => ?_, fun a ha => ?_⟩
    · rw [rd_resetTick s hIen hCtl hStat, if_pos ha]
    · have hne : ∀ b, b / 0x100000 = 0x209 → a ≠ b := fun b hb hab => ha (hab ▸ hb)
      rw [rd_resetTick s (hne TICK_IEN rfl) (hne TICK_CTL rfl) (hne TICK_STAT rfl), if_neg ha]

end Sys2Proof.Machine
end

section
/-! PROOFS. SYS (02_power_reset_and_start_up, R53 to R73): the reset commands, die temperatures, power states, release steps, start-up
control and the watchdog. -/

namespace Sys2Proof.Machine

/-! ### Power states of one island (R53 to R56) -/

theorem rouse_of_run {s : State} {i : Nat} (h : power s i = .run) : rouse i s = s := by
  simp only [rouse, h]

theorem rouse_of_sleep {s : State} {i : Nat} (h : power s i = .sleep) : rouse i s = wakeIsland i s := by
  simp only [rouse, h]

theorem stir_of_run {s : State} {i : Nat} (h : power s i = .run) : stir i s = s := by
  simp [stir, h]

/-- An island other than STORE wakes with its shadow loaded. -/
theorem wakeIsland_of_ne_store {i : Nat} (s : State) (h : i ≠ 12) : wakeIsland i s = setLoadSeen (runIsland i s) i false := if_neg h

/-- STORE's calendar and period clocks follow its wake from the shadow it slept with. -/
theorem wakeIsland_store (s : State) : wakeIsland 12 s =
    storeStep false (loadSeen s 12) (shadow s 12) s.tick.count (setLoadSeen (runIsland 12 s) 12 false) := rfl

theorem islandSleep_of_ok {s : State} {i : Nat} (hpower : power s i = .run ∨ power s i = .idle) (hok : sleepOk s i = true)
    (hmask : getBit s SYS_NOSLEEP_ISL i = false) : islandSleep i s =
      sleepCount i (setInbox (setPower (if (inbox s i).any TickMsg.isLoad then setLoadSeen s i true else s) i .sleep) i []) :=
  if_pos ⟨hpower, hok, hmask⟩

/-- Where none of the islands that can sleep does, a write to SYS_NOSLEEP wakes none. -/
theorem nosleepWrite_of_awake {s : State} (v : Word) (hlock : flag s SYS_CTL_LOCK = false) (hawake : ∀ n, n < 16 → power s n ≠ .sleep) :
    nosleepWrite v s = fset s SYS_NOSLEEP_ISL (wget v 26 0 &&& sleepMask) := by
  simp only [nosleepWrite, hlock, Bool.false_eq_true, if_false]
  refine forN_eq_self fun k hk => if_neg ?_
  rw [Bool.and_eq_true, beq_iff_eq]
  exact fun h => hawake k hk h.2

/-! ### Die temperatures (R57, R58) -/

/-- Does a warning rearm: not at or above the threshold, and again 5 °C below it (R57)? -/
def rearmed (warn t : Int) (armed : Bool) : Bool := if t ≥ warn then false else if t ≤ warn - 20 then true else armed

/-- The readings of both dies stored and their warnings treated, before a thermal reset. -/
def sampledTemps (a b : BitVec 12) (s : State) : State :=
  let warn := (BitVec.ofNat 12 (fget s SYS_THCFG_WARN)).toInt
  let u := wr (wr s SYS_TEMPA (BitVec.ofNat 32 (0x80000000 + a.toNat))) SYS_TEMPB (BitVec.ofNat 32 (0x80000000 + b.toNat))
  let u := onlyIf (decide (a.toInt ≥ warn) && u.sys.warnA) (setF · SYS_EVT_TWARNA) u
  let u := onlyIf (decide (b.toInt ≥ warn) && u.sys.warnB) (setF · SYS_EVT_TWARNB) u
  { u with sys := { u.sys with warnA := rearmed warn a.toInt u.sys.warnA, warnB := rearmed warn b.toInt u.sys.warnB } }

theorem rearmed_of_lt {warn t : Int} (armed : Bool) (h : t < warn) : rearmed warn t armed = (decide (t ≤ warn - 20) || armed) := by
  rw [rearmed, if_neg (by omega)]
  split_ifs with hlow <;> simp [hlow]

/-- Readings below the warning threshold are stored, and rearm the warnings. -/
theorem sampledTemps_of_lt {a b : BitVec 12} {s : State} {w : Int} (hw : w = (BitVec.ofNat 12 (fget s SYS_THCFG_WARN)).toInt)
    (ha : a.toInt < w) (hb : b.toInt < w) : sampledTemps a b s =
      let u := wr (wr s SYS_TEMPA (BitVec.ofNat 32 (0x80000000 + a.toNat))) SYS_TEMPB (BitVec.ofNat 32 (0x80000000 + b.toNat))
      { u with sys := { u.sys with
          warnA := decide (a.toInt ≤ w - 20) || s.sys.warnA, warnB := decide (b.toInt ≤ w - 20) || s.sys.warnB } } := by
  rw [← rearmed_of_lt s.sys.warnA ha, ← rearmed_of_lt s.sys.warnB hb]
  subst hw
  have hna := decide_eq_false (not_le.mpr ha)
  have hnb := decide_eq_false (not_le.mpr hb)
  simp only [sampledTemps, ge_iff_le, hna, hnb, Bool.false_and, onlyIf, Bool.false_eq_true, if_false, wr_sys]

/-- A sample leaves the power states and the thermal holds as they stand, until a die is found too hot. -/
theorem sampledTemps_frame (a b : BitVec 12) (s : State) :
    (sampledTemps a b s).sys.power = s.sys.power ∧ (sampledTemps a b s).sys.holdA = s.sys.holdA := by
  simp only [sampledTemps, onlyIf_sys, setF_sys, wr_sys, ite_self, and_self]

theorem dieTemperature_of_up {a b : BitVec 12} {s : State} (h : islUp s 0 = true) : dieTemperature a b s =
    let u := onlyIf (decide (a.toInt ≥ 640) && !(sampledTemps a b s).sys.holdA) (thermalReset false) (sampledTemps a b s)
    onlyIf (decide (b.toInt ≥ 640) && !u.sys.holdB) (thermalReset true) u := by
  rw [dieTemperature, if_pos h]
  rfl

/-- Below 160 °C a die is not reset. -/
theorem onlyIf_cool {t : BitVec 12} (hold : Bool) (f : State → State) (s : State) (h : t.toInt < 640) :
    onlyIf (decide (t.toInt ≥ 640) && !hold) f s = s := by
  rw [decide_eq_false (not_le.mpr h)]
  rfl

theorem dieTemperature_cool {a b : BitVec 12} {s : State} (hup : islUp s 0 = true) (ha : a.toInt < 640) (hb : b.toInt < 640) :
    dieTemperature a b s = sampledTemps a b s := by
  rw [dieTemperature_of_up hup, onlyIf_cool _ _ _ ha]
  exact onlyIf_cool _ _ _ hb

/-- A reading of die A of 160 °C or more resets it where it is not held already. -/
theorem dieTemperature_hot_dieA {a b : BitVec 12} {s : State} (hup : islUp s 0 = true) (ha : a.toInt ≥ 640)
    (hhold : s.sys.holdA = false) (hb : b.toInt < 640) : dieTemperature a b s = thermalReset false (sampledTemps a b s) := by
  obtain ⟨-, hheld⟩ := sampledTemps_frame a b s
  rw [dieTemperature_of_up hup, hheld, hhold, decide_eq_true ha]
  exact onlyIf_cool _ _ _ hb

theorem exec_dieTemperatureSample (a b : BitVec 12) (s : State) : exec (.dieTemperatureSample a b) s = .next (dieTemperature a b s) := rfl

/-! ### The reset commands (R50, R58, R61, R62, R71, R374; that VAUX below 2.50 V ends both thermal holds is assumption log 11) -/

theorem exec_softwareReset (i : Initiator) (v : Word) (s : State) :
    exec (.softwareReset i v) s = .next (access i SYS_SWRST (swrstWrite v) s) := rfl

theorem exec_supplyFail (sup : Supply) (deep : Bool) (s : State) : exec (.supplyFail sup deep) s = .next (supplyFail sup deep s) := rfl

/-- VMAIN, or VAUX that stays above 2.50 V, fails by a brown-out. -/
theorem supplyFail_brownOut {sup : Supply} {deep : Bool} (s : State) (h : deep = false ∨ sup = .vmain) : supplyFail sup deep s =
    resetLogic SYS_RSTCAUSE_BOD
      (onlyIf (islUp s 16) (fun s => { s with rvTrig := s.rvTrig ++ [.supply] }) (clrF s (supOk sup))) := by
  have hshallow : (deep && sup == .vaux) = false := by
    rcases h with rfl | rfl
    · rfl
    · cases deep <;> rfl
  rw [supplyFail, hshallow]
  rfl

/-- Settles O5, command by command: each comes down to its reset, whose cause the shared reset records. -/
theorem resetCommandsReset : Obligations.ResetCommandsReset := by
  unfold Obligations.ResetCommandsReset
  refine ⟨fun s => ⟨_, rfl, rfl, ?_⟩, fun i v s u h => ⟨fun hkey => ?_, fun hkey => ?_⟩, fun s hlevel => ⟨?_, ?_⟩,
    fun sup deep s h => ?_, fun s => ⟨_, rfl, rfl, rfl, rfl⟩, fun s hen hcount => ⟨?_, ?_⟩,
    fun a b s hup ha hhold hb hwarn => ⟨sampledTemps a b s, ?_, ?_, ?_⟩⟩
  · exact flag_setF _ SYS_RSTCAUSE_EXT rfl (by decide)
  · rw [exec_softwareReset, access_arrives _ h]
    exact congrArg _ (if_pos hkey)
  · rw [exec_softwareReset, access_arrives _ h]
    exact congrArg _ (if_neg hkey)
  · exact congrArg _ (if_pos hlevel)
  · exact resetLogic_cause SYS_RSTCAUSE_DBG s rfl (by decide)
  · rw [exec_supplyFail, supplyFail_brownOut s h]
  · exact if_pos ⟨hen, hcount⟩
  · exact resetLogic_cause SYS_RSTCAUSE_WDOG s rfl (by decide)
  · rw [exec_dieTemperatureSample, dieTemperature_hot_dieA hup ha hhold hb]
  · exact (sampledTemps_frame a b s).1
  · obtain ⟨hcause, hheld, -⟩ := thermalReset_cause false (sampledTemps a b s)
    exact ⟨hcause, hheld rfl⟩

/-! ### Release steps (R65 to R67; that a release runs its islands in the same command is assumption log 12) -/

/-- A release step begins once the step before is complete and nothing holds it back. -/
theorem releaseStep_of_due {n : Nat} {s : State} (hlo : 2 ≤ n) (hhi : n ≤ 6) (hstep : fget s SYS_STARTSTAT_STEP = n - 1)
    (hbusy : s.sys.relBusy = false) (hmain : flag s SYS_SUPSTAT_VMAINOK = true) (haux : flag s SYS_SUPSTAT_VAUXOK = true)
    (hgo : n = 4 → flag s SYS_STARTCTL_GO = true) (hheld : stepHeld s n = false) : releaseStep n s =
      if n == 4 && !islUp s 3 then
        { forL (stepIslands n) releaseIsland s with sys := { (forL (stepIslands n) releaseIsland s).sys with relBusy := true } }
      else stepDone n (forL (stepIslands n) releaseIsland s) :=
  if_pos ⟨hlo, hhi, hstep, hbusy, hmain, haux, hgo, hheld⟩

theorem exec_releaseStep (n : Fin 7) (s : State) : exec (.releaseStep n) s = .next (releaseStep n s) := rfl

theorem releaseIsland_of_up {s : State} {i : Nat} (h : islUp s i = true) : releaseIsland i s = s := if_pos h

/-! ### Start-up control (R67, R529, R533; the boot ROM's part as one event is assumption log 136) -/

theorem exec_go_host (rom : Bool) (s : State) : exec (.go .host rom) s = .next (access .host SYS_STARTCTL (goWrite rom) s) := by
  cases rom <;> rfl

theorem exec_recover_host (rom : Bool) (s : State) :
    exec (.recover .host rom) s = .next (access .host SYS_STARTCTL (recoverWrite rom) s) := by
  cases rom <;> rfl

/-- RECOVER where COMMS already runs: the SPI target is enabled, and without GO the recovery mode is shown. -/
theorem recoverWrite_comms_up {s : State} (hhold : s.sys.holdA = false) (hup : islUp s 11 = true)
    (hgo : flag (setF (setF (setF s SYS_STARTCTL_RECOVER) SYS_EVT_RECOVDONE) SPI_CTL_EN) SYS_STARTCTL_GO = false) :
    recoverWrite true s =
      setF (setF (setF (setF s SYS_STARTCTL_RECOVER) SYS_EVT_RECOVDONE) SPI_CTL_EN) SYS_STARTSTAT_RECMODE := by
  have hcomms : releaseIsland 11 (setF s SYS_STARTCTL_RECOVER) = setF s SYS_STARTCTL_RECOVER := releaseIsland_of_up hup
  simp only [recoverWrite, if_true, setF_sys, hhold, hcomms, hgo, Bool.false_eq_true, if_false]

/-- The boot ROM runs with STORE awake, before GO and RECOVER. -/
theorem exec_bootImageVerify_of_run {s : State} (b0 b1 : Bool) (hhost : power s 2 = .run) (hstore : power s 12 = .run)
    (hpc : (pcOf s .host).toNat < 0x10000) (hgo : flag s SYS_STARTCTL_GO = false) (hrec : flag s SYS_STARTCTL_RECOVER = false) :
    exec (.bootImageVerify b0 b1) s =
      if s.life.state = .blank then .next (recoverWrite true s)
      else if !b0 && copyValid (bootReads 0 b0 (useScratch s)) 0 then .next (bootImage 0 (bootReads 0 b0 (useScratch s)))
      else .next (if !b1 && copyValid (bootReads 1 b1 (bootReads 0 b0 (useScratch s))) 1
        then bootImage 1 (bootReads 1 b1 (bootReads 0 b0 (useScratch s)))
        else recoverWrite true (bootReads 1 b1 (bootReads 0 b0 (useScratch s)))) := by
  have hdue : ((power s 2 == .run || power s 2 == .idle) && islUp s 12 && decide ((pcOf s .host).toNat < 0x10000) &&
      !flag s SYS_STARTCTL_GO && !flag s SYS_STARTCTL_RECOVER) = true := by
    simp [islUp, hhost, hstore, hpc, hgo, hrec]
  have hawake : rouse 12 (stir 2 s) = s := by rw [stir_of_run hhost, rouse_of_run hstore]
  change execBootImageVerify b0 b1 s = _
  rw [execBootImageVerify, if_pos hdue, hawake]

/-! ### The watchdog (R71) -/

theorem wdctlWrite_locked {s : State} (v : Word) (h : flag s SYS_CTL_LOCK = true) : wdctlWrite v s = s := if_pos h

theorem wdctlWrite_unlocked {s : State} (v : Word) (h : flag s SYS_CTL_LOCK = false) : wdctlWrite v s =
    let t := fset (fset s SYS_WDCTL_EN (wget v 31 31)) SYS_WDCTL_TIMEOUT (wget v 23 0)
    if flag s SYS_WDCTL_EN = false ∧ wget v 31 31 = 1 then { t with sys := { t.sys with wdCount := 0 } } else t := by
  simp only [wdctlWrite, h, Bool.false_eq_true, if_false, Bool.and_eq_true, Bool.not_eq_true', beq_iff_eq]

theorem exec_watchdogConfigWrite (i : Initiator) (v : Word) (s : State) :
    exec (.watchdogConfigWrite i v) s = .next (access i SYS_WDCTL (wdctlWrite v) s) := rfl

theorem exec_watchdogKick (i : Initiator) (v : Word) (s : State) :
    exec (.watchdogKick i v) s = .next (access i SYS_WDKICK (wdkickWrite v) s) := rfl

theorem exec_nosleepWrite (i : Initiator) (v : Word) (s : State) :
    exec (.nosleepWrite i v) s = .next (access i SYS_NOSLEEP (nosleepWrite v) s) := rfl

theorem exec_islandSleep (i : Fin 27) (s : State) : exec (.islandSleep i) s = .next (islandSleep i s) := rfl

theorem exec_islandWake (i : Fin 27) (s : State) : exec (.islandWake i) s = .next (rouse i s) := rfl

/-- Settles O6, command by command, each by the lemma of its operation where its condition holds. -/
theorem sysCommandsComplete : Obligations.SysCommandsComplete := by
  unfold Obligations.SysCommandsComplete
  refine ⟨fun a b s w hup hw hlim ha hb => ?_, fun s => ⟨fun h => congrArg _ (if_pos h), fun h => congrArg _ (if_pos h)⟩,
    fun i s hrun => if_pos hrun, fun i s hpower hok hmask => ⟨fun hload => ?_, fun hload => ?_⟩, fun i s hsleep hne => ?_,
    fun s hsleep => ?_, fun i v s u h hlock hawake => ?_, fun n s hlo hstep hbusy hmain haux hgo hheld => ?_,
    fun s u h => ⟨?_, ?_⟩, fun s u h hhold hup => ⟨fun hgo => ?_, ?_⟩, fun s hhost hstore hpc hgo hrec => ?_,
    fun i v s u h => ⟨fun hlock => ?_, fun hlock => ⟨_, rfl, ?_⟩⟩, fun i v s u h => ⟨fun hkey hen => ?_, fun hkey => ?_⟩,
    fun s hen hcount => if_pos ⟨hen, hcount⟩⟩
  · rw [exec_dieTemperatureSample, dieTemperature_cool hup (by omega) (by omega), sampledTemps_of_lt hw ha hb]
  · rw [exec_islandSleep, islandSleep_of_ok hpower hok hmask, hload]
    rfl
  · rw [exec_islandSleep, islandSleep_of_ok hpower hok hmask, hload]
    rfl
  · rw [exec_islandWake, rouse_of_sleep hsleep, wakeIsland_of_ne_store s hne]
  · rw [exec_islandWake, ← wakeIsland_store s]
    exact congrArg _ (rouse_of_sleep hsleep)
  · rw [exec_nosleepWrite, access_arrives _ h, nosleepWrite_of_awake v hlock hawake]
  · rw [exec_releaseStep, releaseStep_of_due hlo (by omega) hstep hbusy hmain haux hgo hheld]
    refine ⟨fun hopen => ?_, fun ⟨hn, hoff⟩ => ⟨_, ?_, rfl⟩⟩
    · have hold : (n.val == 4 && !islUp s 3) = false := by
        rcases hopen with hn | hup
        · rw [beq_false_of_ne hn, Bool.false_and]
        · rw [hup, Bool.not_true, Bool.and_false]
      rw [hold]
      rfl
    · rw [hn, hoff]
      rfl
  · rw [exec_go_host, access_arrives _ h]
    rfl
  · rw [exec_go_host, access_arrives _ h]
    rfl
  · rw [exec_recover_host, access_arrives _ h, recoverWrite_comms_up hhold hup hgo]
  · rw [exec_recover_host, access_arrives _ h]
    rfl
  · refine ⟨fun hblank b0 b1 => ?_, fun hlife u v b0 b1 hu hv => ?_⟩
    · rw [exec_bootImageVerify_of_run b0 b1 hhost hstore hpc hgo hrec, if_pos hblank]
    · rw [exec_bootImageVerify_of_run b0 b1 hhost hstore hpc hgo hrec, if_neg hlife, ← hu, ← hv, ← apply_ite Host.Outcome.next]
      simp only [Bool.and_eq_true, Bool.not_eq_true']
  · rw [exec_watchdogConfigWrite, access_arrives _ h, wdctlWrite_locked v hlock]
  · rw [exec_watchdogConfigWrite, access_arrives _ h, wdctlWrite_unlocked v hlock]
  · rw [exec_watchdogKick, access_arrives _ h]
    exact congrArg _ (if_pos ⟨hkey, hen⟩)
  · rw [exec_watchdogKick, access_arrives _ h]
    exact congrArg _ (if_neg fun hboth => hkey hboth.1)

end Sys2Proof.Machine
end

section
/-! PROOFS. The debug port (13_ethernet_and_host_links, R373 to R376): the selection of an instruction, its availability at the access
level, and the commands of the port. -/

namespace Sys2Proof.Machine

/-! ### The instruction register (R373) -/

/-- From another instruction than EXTEST, a selection changes the instruction alone. -/
theorem jtagSelect_of_ir_ne_extest {s : State} (k : JtagIr) (h : s.dbg.ir ≠ .extest) :
    jtagSelect k s = { s with dbg := { s.dbg with ir := k } } := by
  simp only [jtagSelect, h, false_and, if_false, setDbg]

/-- Leaving EXTEST performs a debug reset first. -/
theorem jtagSelect_leaving_extest {s : State} {k : JtagIr} (h : s.dbg.ir = .extest) (hk : k ≠ .extest) :
    jtagSelect k s = setDbg { (resetLogic SYS_RSTCAUSE_DBG s).dbg with ir := k } (resetLogic SYS_RSTCAUSE_DBG s) := by
  simp only [jtagSelect, h, hk, ne_eq, not_false_eq_true, and_self, if_true]

/-- A code that is no other instruction's selects BYPASS. -/
theorem jtagOf_eq_bypass {code : Byte}
    (h : code ≠ 0x00 ∧ code ≠ 0x01 ∧ code ≠ 0x02 ∧ code ≠ 0x10 ∧ code ≠ 0x11 ∧ code ≠ 0x12) : jtagOf code = .bypass := by
  obtain ⟨hExtest, hIdcode, hSample, hDbgstat, hDbgacc, hDbgctl⟩ := h
  simp only [jtagOf, hExtest, hIdcode, hSample, hDbgstat, hDbgacc, hDbgctl, if_false]

/-! ### The instructions that need BASIC access (R373, assumption log 154) -/

theorem jtagBasic_of_permitted {s : State} (code : Byte) (f : State → State) (h : dbgLevel s ≥ 1) :
    jtagBasic code f s = f (jtagSelect (jtagOf code) s) := if_pos h

theorem jtagBasic_of_refused {s : State} (code : Byte) (f : State → State) (h : dbgLevel s = 0) :
    jtagBasic code f s = jtagSelect .bypass s := if_neg (by omega)

theorem exec_bypass (s : State) : exec .bypass s = .next (jtagSelect .bypass s) := rfl

theorem exec_idcode (s : State) :
    exec .idcode s = .next (setDbg { (jtagSelect .idcode s).dbg with out := 0xB64165AB } (jtagSelect .idcode s)) := rfl

theorem exec_samplePreload (l p : List Bool) (s : State) : exec (.samplePreload l p) s =
    .next (setDbg { (jtagSelect .samplePreload s).dbg with cells := l, bound := p } (jtagSelect .samplePreload s)) := rfl

theorem exec_dbgstat (s : State) : exec .dbgstat s = .next (setDbg
    { (jtagSelect .dbgstat s).dbg with out := BitVec.ofNat 32 (dbgLevel (jtagSelect .dbgstat s)) } (jtagSelect .dbgstat s)) := rfl

theorem exec_extest (l c : List Bool) (s : State) : exec (.extest l c) s =
    .next (jtagBasic 0x00 (fun s => setDbg { s.dbg with cells := l, bound := c } s) s) := rfl

/-- What a DBGACC access does once its instruction is selected. -/
def dbgAccess (op : DbgOp) (s : State) : State :=
  match op with
  | .bus a (some v) => busWrite .debug .word a.toNat v s
  | .bus a none => busRead .debug .word a.toNat s
  | .shuttle n item v => dbgShuttle n.val item v s

theorem exec_dbgacc (op : DbgOp) (s : State) : exec (.dbgacc op) s = .next (jtagBasic 0x11 (dbgAccess op) s) := by
  rcases op with ⟨a, _ | v⟩ | ⟨n, item, v⟩ <;> rfl

theorem exec_debugExpertRequest (s : State) : exec .debugExpertRequest s =
    .next (jtagBasic 0x12 (fun s => if dbgMax s = 2 then setDbg { s.dbg with expert := true } s else s) s) := rfl

theorem exec_dbgacc_of_permitted {s : State} (op : DbgOp) (hlevel : dbgLevel s ≥ 1) (hir : s.dbg.ir ≠ .extest) :
    exec (.dbgacc op) s = .next (dbgAccess op { s with dbg := { s.dbg with ir := .dbgacc } }) := by
  have hcode : jtagOf 0x11 = .dbgacc := rfl
  rw [exec_dbgacc, jtagBasic_of_permitted _ _ hlevel, hcode, jtagSelect_of_ir_ne_extest _ hir]

/-- A change of the debug state of an engine whose island is up. -/
theorem dbgControl_of_permitted {e : Option (Fin 16)} {s : State} (f : Core → Core) (hlevel : dbgLevel s ≥ 1)
    (hir : s.dbg.ir ≠ .extest) (hup : islUp s (dbgEngine e).island = true) :
    dbgControl e f s = setCore (dbgEngine e) (f (coreOf { s with dbg := { s.dbg with ir := .dbgctl } } (dbgEngine e)))
      { s with dbg := { s.dbg with ir := .dbgctl } } := by
  have hcode : jtagOf 0x12 = .dbgctl := rfl
  rw [dbgControl, jtagBasic_of_permitted _ _ hlevel, hcode, jtagSelect_of_ir_ne_extest _ hir]
  exact if_pos hup

/-- Settles O55, by the selection of each command's instruction, and then by what the command does under it. -/
theorem debugPortCommandsComplete : Obligations.DebugPortCommandsComplete := by
  unfold Obligations.DebugPortCommandsComplete
  refine ⟨fun code s hir hcode => ⟨jtagOf_eq_bypass hcode, ?_, ?_, fun l p => ?_, ?_⟩, fun s hir => ⟨_, ?_, rfl⟩,
    fun s hlevel hir => ⟨fun l c => ?_, fun a v => ?_, fun a => ?_, fun n x v => ?_, fun hmax => ?_⟩,
    fun e g s u hg hlevel hir hup hu => ?_, fun s hlevel hir e l c o => ⟨?_, ?_, ?_, ?_⟩⟩
  · rw [exec_bypass, jtagSelect_of_ir_ne_extest _ hir]
  · rw [exec_idcode, jtagSelect_of_ir_ne_extest _ hir]
    rfl
  · rw [exec_samplePreload, jtagSelect_of_ir_ne_extest _ hir]
    rfl
  · rw [exec_dbgstat, jtagSelect_of_ir_ne_extest _ hir]
    rfl
  · rw [exec_bypass, jtagSelect_leaving_extest hir (by decide)]
  · rw [exec_extest, jtagBasic_of_permitted _ _ hlevel, jtagSelect_of_ir_ne_extest _ hir]
    rfl
  · exact exec_dbgacc_of_permitted (.bus a (some v)) hlevel hir
  · exact exec_dbgacc_of_permitted (.bus a none) hlevel hir
  · exact exec_dbgacc_of_permitted (.shuttle n x v) hlevel hir
  · rw [exec_debugExpertRequest, jtagBasic_of_permitted _ _ hlevel, jtagSelect_of_ir_ne_extest _ hir]
    exact congrArg _ (if_pos hmax)
  · subst hg hu
    have hcontrol := fun f => dbgControl_of_permitted f hlevel hir hup
    exact ⟨congrArg _ (hcontrol _), congrArg _ (hcontrol _), congrArg _ (hcontrol _), congrArg _ (hcontrol _)⟩
  · exact congrArg _ (jtagBasic_of_refused 0x12 _ hlevel)
  · rw [exec_extest, exec_bypass, jtagBasic_of_refused _ _ hlevel]
  · rw [exec_dbgacc, exec_bypass, jtagBasic_of_refused _ _ hlevel]
  · rw [exec_debugExpertRequest, exec_bypass, jtagBasic_of_refused _ _ hlevel]

end Sys2Proof.Machine
end

section
/-! PROOFS. The analog front end (03_analog_front_end, R76 to R112): the words of its records, blanking, settings and faults, and what a
visit that begins does to the loop supply's flag. -/

namespace Sys2Proof.Machine

/-! ### The words of a record (R96) -/

/-- Word 0 of a sample record whose fields are within their widths is the sum of its fields at their places. -/
theorem sampleWord_toNat {r : SampleRec} (hrange : r.range < 8) (hgen : r.gen < 256) (hpend : r.pend < 32) (hqual : r.qual < 16)
    (hchan : r.chan < 64) : (sampleWord r).toNat = r.repl.toNat * 2 ^ 58 + r.range * 2 ^ 55 + r.gen * 2 ^ 47 + r.pend * 2 ^ 42 +
      r.qual * 2 ^ 38 + r.chan * 2 ^ 32 + r.value.toNat := by
  have hrepl := Bool.toNat_lt r.repl
  have hvalue := r.value.isLt
  rw [sampleWord, BitVec.toNat_ofNat, Nat.mod_eq_of_lt hrange, Nat.mod_eq_of_lt hgen, Nat.mod_eq_of_lt hpend, Nat.mod_eq_of_lt hqual,
    Nat.mod_eq_of_lt hchan]
  exact Nat.mod_eq_of_lt (by omega)

/-- Word 0 of a clearance record whose fields are within their widths is REC 0b01 and its fields at their places. -/
theorem clearWord_toNat {r : ClearRec} (hkind : r.kind < 4) (hbit : r.bit < 8) (hchan : r.chan < 128) :
    (clearWord r).toNat = 2 ^ 62 + r.kind * 2 ^ 60 + r.bit * 2 ^ 52 + r.chan * 2 ^ 38 := by
  rw [clearWord, BitVec.toNat_ofNat, Nat.mod_eq_of_lt hkind, Nat.mod_eq_of_lt hbit, Nat.mod_eq_of_lt hchan]
  exact Nat.mod_eq_of_lt (by omega)

/-- The `n` bits of a word from place `lo` on. -/
theorem extractLsb'_toNat_place {m : Nat} (w : BitVec m) (lo n : Nat) : (w.extractLsb' lo n).toNat = w.toNat / 2 ^ lo % 2 ^ n := by
  rw [BitVec.extractLsb'_toNat, Nat.shiftRight_eq_div_pow]

theorem extractLsb'_eq_ofNat {m : Nat} {w : BitVec m} {lo n v : Nat} (h : w.toNat / 2 ^ lo % 2 ^ n = v % 2 ^ n) :
    w.extractLsb' lo n = BitVec.ofNat n v :=
  BitVec.eq_of_toNat_eq ((extractLsb'_toNat_place w lo n).trans (h.trans (BitVec.toNat_ofNat v n).symm))

/-- A clearance record reads back from its word 0 and its bound. -/
theorem clearOfWord_clearWord {r : ClearRec} (hkind : r.kind < 4) (hbit : r.bit < 8) (hchan : r.chan < 128) :
    clearOfWord (clearWord r) r.bound = r := by
  have hw := clearWord_toNat hkind hbit hchan
  simp only [Nat.reducePow] at hw
  have hkindAt : (clearWord r).toNat / 2 ^ 60 % 4 = r.kind := by omega
  have hbitAt : (clearWord r).toNat / 2 ^ 52 % 8 = r.bit := by omega
  have hchanAt : (clearWord r).toNat / 2 ^ 38 % 128 = r.chan := by omega
  rw [clearOfWord, hkindAt, hbitAt, hchanAt]

/-- Settles O10: a field of a word is a quotient and a remainder of the sum that the word is. -/
theorem recordWordsHoldTheirFields : Obligations.RecordWordsHoldTheirFields := by
  unfold Obligations.RecordWordsHoldTheirFields
  refine ⟨fun r hrange hgen hpend hqual hchan => ?_, fun r hkind hbit hchan => ?_⟩
  · have hrepl := Bool.toNat_lt r.repl
    have hvalue := r.value.isLt
    have hw := sampleWord_toNat hrange hgen hpend hqual hchan
    simp only [Nat.reducePow] at hw
    have hval : (sampleWord r).extractLsb' 0 32 = BitVec.ofNat 32 r.value.toNat := extractLsb'_eq_ofNat (by omega)
    rw [BitVec.ofNat_toNat, BitVec.setWidth_eq] at hval
    simp only [extractLsb'_toNat_place, Nat.reducePow]
    refine ⟨extractLsb'_eq_ofNat (v := 0) ?_, extractLsb'_eq_ofNat (v := 0) ?_, ?_, ?_, ?_, ?_, ?_, ?_, hval⟩ <;> omega
  · have hw := clearWord_toNat hkind hbit hchan
    simp only [Nat.reducePow] at hw
    refine ⟨extractLsb'_eq_ofNat (v := 1) ?_, extractLsb'_eq_ofNat (v := 0) ?_, extractLsb'_eq_ofNat (v := 0) ?_,
      extractLsb'_eq_ofNat (v := 0) ?_, clearOfWord_clearWord hkind hbit hchan⟩ <;> omega

/-! ### The events of the AFE (R53; that a pin command says that the pin has qualified, and wakes the island, is assumption log 162) -/

theorem afeEvent_of_up {s : State} (sub : BitVec 16) (f : State → State) (h : afeUp s = true) :
    afeEvent sub f s = f (atSub 8 sub (stir 8 s)) := if_pos h

theorem afePin_of_up {s : State} (sub : BitVec 16) (f : State → State) (h : islUp s 8 = true) :
    afePin sub f s = f (atSub 8 sub (rouse 8 s)) := if_pos h

/-! ### Blanking sources (R105; that HOLD counts the edges the AFE recognises is assumption log 22) -/

/-- A source that is enabled blanks from its assertion on. -/
theorem sourceAsserts_of_enabled {s : State} {src : Nat} (h : flag s (AFE_BLKCFG_EN src) = true) : sourceAsserts src s =
    reblank (2 ^ src) (fun s => setHold src 0 (setBit s AFE_BLKSTAT_ACT src)) (setBit s AFE_EVT_BLKON src) := if_pos h

theorem sourceAsserts_of_disabled {s : State} {src : Nat} (h : flag s (AFE_BLKCFG_EN src) = false) : sourceAsserts src s = s :=
  if_neg (Bool.eq_false_iff.mp h)

/-- The release of a source that blanks begins its hold. -/
theorem sourceReleases_of_hold {s : State} {src : Nat} (hact : getBit s AFE_BLKSTAT_ACT src = true)
    (hhold : fget s (AFE_BLKCFG_HOLD src) ≠ 0) : sourceReleases src s = setHold src (1 + edges s 8) s :=
  (if_pos hact).trans (if_neg hhold)

/-- Without a hold the release ends the blanking. -/
theorem sourceReleases_of_no_hold {s : State} {src : Nat} (hact : getBit s AFE_BLKSTAT_ACT src = true)
    (hhold : fget s (AFE_BLKCFG_HOLD src) = 0) : sourceReleases src s = sourceEnds src s :=
  (if_pos hact).trans (if_pos hhold)

theorem sourceReleases_of_inactive {s : State} {src : Nat} (h : getBit s AFE_BLKSTAT_ACT src = false) : sourceReleases src s = s :=
  if_neg (Bool.eq_false_iff.mp h)

/-- A hold in progress that has lasted its length ends the blanking. -/
theorem holdExpiry_of_lapsed {s : State} {src : Nat} (hrun : tabGet (fun _ => 0) s.afe.hold src ≠ 0)
    (hlapsed : fget s (AFE_BLKCFG_HOLD src) ≤ edges s 8 + 1 - tabGet (fun _ => 0) s.afe.hold src) :
    holdExpiry src s = sourceEnds src s := if_pos ⟨hrun, hlapsed⟩

/-! ### Settings (R76, R88, R105, R108, R112, R556) -/

theorem blkMapWrite_of_unlocked {s : State} (a src : Nat) (v : Word) (h : flag s AFE_CTL_LOCK = false) :
    blkMapWrite a src v s = reblank (2 ^ src) (fun t => wr t a v) s := if_neg (Bool.eq_false_iff.mp h)

theorem blkWinWrite_of_unlocked {s : State} (v : Word) (h : flag s AFE_CTL_LOCK = false) :
    blkWinWrite v s = fset s AFE_BLKWIN_WIN (min (wget v 15 0) 0xC000) := if_neg (Bool.eq_false_iff.mp h)

/-- A TYPE that R76 gives is stored with the rest of the profile. -/
theorem chCfgWrite_of_type (n : Nat) {v : Word} (s : State) (h : wget v 3 0 ≤ 8) :
    chCfgWrite n v s = wr s (AFE_CHCFG n) (wset (v &&& 0xF1FF) 3 0 (wget v 3 0)) := by
  rw [chCfgWrite, if_pos h]

/-- A reserved TYPE leaves the one stored. -/
theorem chCfgWrite_of_reserved (n : Nat) {v : Word} (s : State) (h : 8 < wget v 3 0) :
    chCfgWrite n v s = wr s (AFE_CHCFG n) (wset (v &&& 0xF1FF) 3 0 (fget s (AFE_CHCFG_TYPE n))) := by
  rw [chCfgWrite, if_neg (not_le.mpr h)]

theorem odrWrite_of_rate (g : Nat) {v : Word} (s : State) (h : wget v 2 0 ≤ 4) :
    odrWrite g v s = fset s (AFE_GCFG_ODR g) (wget v 2 0) := if_pos h

theorem odrWrite_of_reserved (g : Nat) {v : Word} (s : State) (h : 4 < wget v 2 0) : odrWrite g v s = s := if_neg (not_le.mpr h)

/-! ### The commands of blanking, settings and faults -/

theorem exec_blankAssert (pin : Fin 4) (sub : BitVec 16) (s : State) : exec (.blankAssert pin sub) s =
    .next (afePin sub (fun s => if s.afe.pins.testBit pin.val then s
      else sourceAsserts pin.val { s with afe := { s.afe with pins := s.afe.pins ||| 2 ^ pin.val } }) s) := rfl

theorem exec_blankRelease (pin : Fin 4) (sub : BitVec 16) (s : State) : exec (.blankRelease pin sub) s =
    .next (afePin sub (fun s => if s.afe.pins.testBit pin.val then
        sourceReleases pin.val { s with afe := { s.afe with pins := s.afe.pins - 2 ^ pin.val } }
      else s) s) := rfl

theorem exec_blankHoldExpiry (src : Fin 8) (sub : BitVec 16) (s : State) :
    exec (.blankHoldExpiry src sub) s = .next (afeEvent sub (holdExpiry src.val) s) := rfl

theorem exec_blankConfigWrite_cfg (i : Initiator) (src : Fin 8) (v : Word) (sub : BitVec 16) (s : State) :
    exec (.blankConfigWrite i .cfg src v sub) s =
      .next (access i (AFE_BLKCFG src.val) (fun s => blkCfgWrite src.val v (atSub 8 sub s)) s) := rfl

theorem exec_blankConfigWrite_sw (i : Initiator) (src : Fin 8) (v : Word) (sub : BitVec 16) (s : State) :
    exec (.blankConfigWrite i .sw src v sub) s = .next (access i AFE_BLKSW (fun s => blkSwWrite v (atSub 8 sub s)) s) := rfl

theorem exec_blankConfigWrite_mapLo (i : Initiator) (src : Fin 8) (v : Word) (sub : BitVec 16) (s : State) :
    exec (.blankConfigWrite i .mapLo src v sub) s =
      .next (access i (AFE_BLKMAPLO src.val) (fun s => blkMapWrite (AFE_BLKMAPLO src.val) src.val v (atSub 8 sub s)) s) := rfl

theorem exec_blankConfigWrite_mapHi (i : Initiator) (src : Fin 8) (v : Word) (sub : BitVec 16) (s : State) :
    exec (.blankConfigWrite i .mapHi src v sub) s =
      .next (access i (AFE_BLKMAPHI src.val) (fun s => blkMapWrite (AFE_BLKMAPHI src.val) src.val v (atSub 8 sub s)) s) := rfl

theorem exec_blankWindowWrite (i : Initiator) (v : Word) (s : State) :
    exec (.blankWindowWrite i v) s = .next (access i AFE_BLKWIN (blkWinWrite v) s) := rfl

theorem exec_channelConfigWrite_profile (i : Initiator) (n : Fin 64) (v : Word) (s : State) :
    exec (.channelConfigWrite i n false v) s = .next (access i (AFE_CHCFG n.val) (chCfgWrite n.val v) s) := rfl

theorem exec_channelConfigWrite_range (i : Initiator) (n : Fin 64) (v : Word) (s : State) :
    exec (.channelConfigWrite i n true v) s = .next (access i (AFE_CHRNG n.val) (chRngWrite n.val v) s) := rfl

theorem exec_groupOdrWrite (i : Initiator) (g : Fin 16) (v : Word) (s : State) :
    exec (.groupOdrWrite i g v) s = .next (access i (AFE_GCFG g.val) (odrWrite g.val v) s) := rfl

/-- A reference fault of an AFE that is up clears REFOK and sets its event. -/
theorem exec_referenceFault_of_up {s : State} (hok : flag s AFE_STAT_REFOK = true) (hup : islUp s 8 = true) :
    exec .referenceFault s = .next (setF (clrF s AFE_STAT_REFOK) AFE_EVT_REFFLT) := by
  change execReferenceFault s = _
  rw [execReferenceFault, hok, hup]
  rfl

/-- The loop supply's report stores its current and its limit; the event comes with a limit that is new. -/
theorem exec_loopOverload_of_up (mA : BitVec 8) (limit : Bool) {s : State} (h : afeUp s = true) :
    exec (.loopOverload mA limit) s = .next (onlyIf (limit && !flag s AFE_STAT_LOOPOL) (setF · AFE_EVT_LOOPOL)
      (putF (fset (stir 8 s) AFE_STAT_LOOPI mA.toNat) AFE_STAT_LOOPOL limit)) := congrArg _ (if_pos h)

/-- Settles O8, command by command: where its island is up, or its access arrives, each comes down to its operation's case. -/
theorem blankingAndSettingsTakeEffect : Obligations.BlankingAndSettingsTakeEffect := by
  unfold Obligations.BlankingAndSettingsTakeEffect
  refine ⟨fun pin sub s u hup hu => ⟨fun hlow => ?_, fun hhigh => ?_⟩,
    fun src s => ⟨sourceAsserts_of_enabled, sourceAsserts_of_disabled, sourceReleases_of_hold, sourceReleases_of_no_hold,
      sourceReleases_of_inactive⟩,
    fun src sub s u hup hu hrun hlapsed => ?_,
    fun i src v sub s u => ⟨fun h => ?_, fun h => ?_, fun h hlock => ?_, fun h hlock => ?_, fun h hlock => ?_⟩,
    fun i n g v s u => ⟨fun h htype => ?_, fun h htype => ?_, fun h => ?_, fun h hodr => ?_, fun h hodr => ?_⟩,
    fun g s => ⟨fun hup => congrArg _ (if_pos hup), rfl⟩, fun s => ⟨exec_referenceFault_of_up, rfl⟩,
    fun mA s hup => ⟨fun hnew => ?_, ?_⟩⟩
  · rw [exec_blankAssert, afePin_of_up _ _ hup, ← hu]
    exact congrArg _ (if_neg (Bool.eq_false_iff.mp hlow))
  · rw [exec_blankRelease, afePin_of_up _ _ hup, ← hu]
    exact congrArg _ (if_pos hhigh)
  · rw [exec_blankHoldExpiry, afeEvent_of_up _ _ hup, ← hu, holdExpiry_of_lapsed hrun hlapsed]
  · rw [exec_blankConfigWrite_cfg, access_arrives _ h]
  · rw [exec_blankConfigWrite_sw, access_arrives _ h]
  · rw [exec_blankConfigWrite_mapLo, access_arrives _ h, blkMapWrite_of_unlocked (s := atSub 8 sub u) _ _ _ hlock]
  · rw [exec_blankConfigWrite_mapHi, access_arrives _ h, blkMapWrite_of_unlocked (s := atSub 8 sub u) _ _ _ hlock]
  · rw [exec_blankWindowWrite, access_arrives _ h, blkWinWrite_of_unlocked _ hlock]
  · rw [exec_channelConfigWrite_profile, access_arrives _ h, chCfgWrite_of_type _ _ htype]
  · rw [exec_channelConfigWrite_profile, access_arrives _ h, chCfgWrite_of_reserved _ _ htype]
  · rw [exec_channelConfigWrite_range, access_arrives _ h]
  · rw [exec_groupOdrWrite, access_arrives _ h, odrWrite_of_rate _ _ hodr]
  · rw [exec_groupOdrWrite, access_arrives _ h, odrWrite_of_reserved _ _ hodr]
  · rw [exec_loopOverload_of_up mA true hup, hnew]
    rfl
  · rw [exec_loopOverload_of_up mA false hup]
    rfl

/-! ### A visit that begins (R79, R112) -/

/-- Group 5 runs and its next cold-junction visit is granted; its channel 20 still has the excitation of a loop channel (TYPE 7), which
keeps LOOPON set, and software has since turned the channel's TYPE to OFF. -/
def loopChannelOff : State :=
  { regs := [(AFE_STAT, 3), (AFE_SCANCTL 1, 1)]
    sys := { power := [(8, .run)] }
    afe := { grp := [(5, { on := true, granted := some .cj })], ch := [(20, { exc := some (7, 0, false) })] } }

/-- The cold-junction visit takes the excitation from channel 20, and LOOPON with it. -/
theorem loopChannelOff_visitStart :
    flag loopChannelOff AFE_STAT_LOOPON = true ∧ flag (visitStart 5 (atSub 8 0 (stir 8 loopChannelOff))) AFE_STAT_LOOPON = false := by
  decide

/-- Refutes O7: a granted cold-junction visit that begins does not leave every register alone. Where it is the first visit of its group since
software turned the only live loop channel OFF, the channel loses its excitation (R79) and AFE_STAT.LOOPON, which shows the loop supply,
falls (R112). -/
theorem not_sequencersVisitsAndConversionsProceed : ¬ Obligations.SequencersVisitsAndConversionsProceed := by
  unfold Obligations.SequencersVisitsAndConversionsProceed
  rintro ⟨-, -, hstart, -⟩
  have hup : afeUp loopChannelOff = true := by decide
  obtain ⟨t, hexec, hregs, -⟩ := hstart 5 0 loopChannelOff _ hup rfl (by decide) (by decide) (by decide) (by decide)
  obtain ⟨hon, hoff⟩ := loopChannelOff_visitStart
  have hnext : exec (.visitStart 5 0) loopChannelOff = .next (afeEvent 0 (visitStart 5) loopChannelOff) := rfl
  rw [hnext, afeEvent_of_up _ _ hup] at hexec
  cases hexec
  rw [flag_of_regs _ _ _ (hregs.trans (stir_regs 8 loopChannelOff)), hon] at hoff
  exact absurd hoff (by decide)

end Sys2Proof.Machine
end

section
/-! PROOFS. The scan instructions of a sequencer (06_frambeth_instruction_set, R204, R205). -/

namespace Sys2Proof.Machine

/-- A scan operation that a sequencer executes is performed for it. -/
theorem scanOp_runs {k : Fin 4} {s u : State} (fn : Nat) (a b : Fin 32) (f : Nat → State → State) (h : Runs (.seq k) avSeq s u) :
    scanOp (.seq k) fn a b f s = f k.val u := runOn_runs _ _ h

theorem exec_scan_of_runs {k : Fin 4} {s u : State} (a b : Fin 32) (h : Runs (.seq k) avSeq s u) :
    exec (.scan (.seq k) a b) s = .next (
      let g := (regOf u (.seq k) a).toNat % 16
      let w := regOf u (.seq k) b
      if g / 4 ≠ k.val then seqFault k.val 2 ((pcOf u (.seq k)).toNat / 4) u
      else if stepLegal w = false then seqFault k.val 4 ((pcOf u (.seq k)).toNat / 4) u
      else if (afeGrp u g).queue.length ≥ 4 then u
      else advance (.seq k) (setAfeGrp g { afeGrp u g with queue := (afeGrp u g).queue ++ [w] } u)) :=
  congrArg _ (scanOp_runs _ _ _ _ h)

theorem exec_scanw_of_runs {k : Fin 4} {s u : State} (a b : Fin 32) (h : Runs (.seq k) avSeq s u) :
    exec (.scanw (.seq k) a b) s = .next (
      let g := (regOf u (.seq k) a).toNat % 16
      if g / 4 ≠ k.val then seqFault k.val 2 ((pcOf u (.seq k)).toNat / 4) u
      else if groupSteps u g > (regOf u (.seq k) b).toNat then u
      else advance (.seq k) u) :=
  congrArg _ (scanOp_runs _ _ _ _ h)

theorem exec_sblank_of_runs {k : Fin 4} {s u : State} (a b : Fin 32) (h : Runs (.seq k) avSeq s u) :
    exec (.sblank (.seq k) a b) s =
      .next (advance (.seq k) (seqBlank k.val ((regOf u (.seq k) a).toNat % 4) (regOf u (.seq k) b != 0) u)) :=
  congrArg _ (scanOp_runs _ _ _ _ h)

theorem exec_tickw_of_runs {k : Fin 4} {s u : State} (a : Fin 32) (h : Runs (.seq k) avSeq s u) :
    exec (.tickw (.seq k) a) s =
      .next (if (((shadow u 8).truncate 32 : Word) - regOf u (.seq k) a).toInt < 0 then u else advance (.seq k) u) :=
  congrArg _ (scanOp_runs _ _ _ _ h)

/-- Settles O30, instruction by instruction, each by the conditions that its operation tests in turn. -/
theorem scanInstructionsComplete : Obligations.ScanInstructionsComplete := by
  unfold Obligations.ScanInstructionsComplete
  refine ⟨fun k a b g w s u h hg hw => ⟨fun hown hlegal hroom => ?_, fun hown hfew => ?_, fun hforeign => ⟨?_, ?_⟩,
    fun hown hillegal => ?_⟩, fun k a b s u h => ⟨exec_sblank_of_runs a b h, fun hreached => ?_⟩⟩
  · have hstep : ¬ stepLegal w = false := by rw [hlegal]; decide
    simp only [exec_scan_of_runs a b h, ← hg, ← hw, if_neg (not_not.mpr hown), if_neg hstep, if_neg (not_le.mpr hroom)]
  · simp only [exec_scanw_of_runs a b h, ← hg, ← hw, if_neg (not_not.mpr hown), if_neg (not_lt.mpr hfew)]
  · simp only [exec_scan_of_runs a b h, ← hg, if_pos hforeign]
  · simp only [exec_scanw_of_runs a b h, ← hg, if_pos hforeign]
  · simp only [exec_scan_of_runs a b h, ← hg, ← hw, if_neg (not_not.mpr hown), if_pos hillegal]
  · rw [exec_tickw_of_runs a h, if_neg (not_lt.mpr hreached)]

end Sys2Proof.Machine
end

section
/-! PROOFS. Live calibration (04_live_calibration_and_linearisation, R122 to R142): the commands of AFE_CALCMD, the stages, the requests of
the rota and the impedance window. -/

namespace Sys2Proof.Machine

/-! ### A command on one channel (R129 to R132, R139, R140) -/

/-- STAGE of a COMMITTED channel waits for its boundary. -/
theorem calDo_stage {n : Nat} {s : State} (h : fget s (AFE_CALSTAT_STATE n) = 1) :
    calDo 1 n s = calBusy { s with afe := { s.afe with staged := s.afe.staged ++ [n] } } := if_pos h

theorem calDo_abort {n : Nat} {s : State} (h : fget s (AFE_CALSTAT_STATE n) ≠ 0) : calDo 3 n s = endStage n s := if_neg h

theorem calDo_impnow_possible {n : Nat} {s : State} (h : impPossible s (n / 4) = true) :
    calDo 5 n s = setAfeCh n { afeCh s n with impReq := true } s := if_pos h

theorem calDo_impnow_impossible {n : Nat} {s : State} (h : impPossible s (n / 4) = false) :
    calDo 5 n s = setF s AFE_CALEVT_IMPSKIP := if_neg (Bool.eq_false_iff.mp h)

/-- The two fields of a command word (R132): the command in bits 2 to 0, the channel in bits 14 to 8. -/
theorem wget_calWord {op c : Nat} (hop : op < 8) (hc : c < 128) :
    wget (BitVec.ofNat 32 (256 * c + op)) 2 0 = op ∧ wget (BitVec.ofNat 32 (256 * c + op)) 14 8 = c := by
  rw [wget, wget, BitVec.toNat_ofNat]
  constructor <;> omega

/-- A channel that no rota calibration holds has its command performed at once. -/
theorem calRun_single_of_no_rota {n : Nat} {s : State} (op : Nat) (h : (afeCh s n).rota = none) :
    calRun [(op, n)] s = calRun [] (calDo op n s) := by
  have hfree : ¬ (op ≤ 3 ∧ (afeCh s n).rota.isSome) := by simp [h]
  exact if_neg hfree

/-- One of the five commands, written for one channel while none is held. -/
theorem calCmdWrite_of_free {op : Nat} {n : Fin 64} {s : State} (hop : 1 ≤ op ∧ op ≤ 5) (hbusy : flag s AFE_CALCMD_BUSY = false)
    (hrota : (afeCh s n.val).rota = none) :
    calCmdWrite (BitVec.ofNat 32 (256 * n.val + op)) s = calRun [] (calDo op n.val s) := by
  obtain ⟨hopField, hchField⟩ := wget_calWord (op := op) (c := n.val) (by omega) (by omega)
  have hvalid : ¬ (op = 0 ∨ op ≥ 6 ∨ (64 ≤ n.val ∧ n.val ≤ 126)) := by omega
  have hone : n.val ≠ 127 := by omega
  simp only [calCmdWrite, hopField, hchField, if_neg hvalid, hbusy, Bool.false_eq_true, if_false, if_neg hone,
    calRun_single_of_no_rota op hrota]

/-- The command of an access that arrives with none held acts at the AFE's sub-tick count. -/
theorem calCommand_arrives {i : Initiator} {op : Nat} {n : Fin 64} {s u : State} (sub : BitVec 16) (hop : 1 ≤ op ∧ op ≤ 5)
    (h : Arrives i AFE_CALCMD s u) (hbusy : flag u AFE_CALCMD_BUSY = false) (hrota : (afeCh u n.val).rota = none) :
    calCommand i op (BitVec.ofNat 7 n.val) sub s = calRun [] (calDo op n.val (atSub 8 sub u)) := by
  have hchan : (BitVec.ofNat 7 n.val).toNat = n.val :=
    (BitVec.toNat_ofNat ..).trans (Nat.mod_eq_of_lt (by omega))
  rw [calCommand, access_arrives _ h, hchan]
  exact calCmdWrite_of_free (s := atSub 8 sub u) hop hbusy hrota

theorem exec_stage (i : Initiator) (chan : BitVec 7) (sub : BitVec 16) (s : State) :
    exec (.stage i chan sub) s = .next (calCommand i 1 chan sub s) := rfl

theorem exec_commit (i : Initiator) (chan : BitVec 7) (sub : BitVec 16) (s : State) :
    exec (.commit i chan sub) s = .next (calCommand i 2 chan sub s) := rfl

theorem exec_abort (i : Initiator) (chan : BitVec 7) (sub : BitVec 16) (s : State) :
    exec (.abort i chan sub) s = .next (calCommand i 3 chan sub s) := rfl

theorem exec_calnow (i : Initiator) (chan : BitVec 7) (sub : BitVec 16) (s : State) :
    exec (.calnow i chan sub) s = .next (calCommand i 4 chan sub s) := rfl

theorem exec_impnow (i : Initiator) (chan : BitVec 7) (sub : BitVec 16) (s : State) :
    exec (.impnow i chan sub) s = .next (calCommand i 5 chan sub s) := rfl

/-! ### Stages and the impedance window (R129, R130, R133, R141, R142; that STGMAX and TAIL count the edges the AFE recognises is
assumption log 22) -/

/-- A STAGE that awaits its boundary takes effect there. -/
theorem exec_stageEffect_of_staged {n : Fin 64} {s u : State} (sub : BitVec 16) (hup : afeUp s = true) (hu : u = atSub 8 sub (stir 8 s))
    (hstaged : u.afe.staged.contains n.val = true) : exec (.stageEffect n sub) s = .next (beginStage n.val (unStage n.val u)) := by
  change execStageEffect n sub s = _
  rw [execStageEffect, afeEvent_of_up _ _ hup, ← hu, if_pos hstaged]

/-- A stage that has lasted STGMAX is aborted. -/
theorem exec_stageTimeout_of_lapsed {n : Fin 64} {e : Nat} {s u : State} (sub : BitVec 16) (hup : afeUp s = true)
    (hu : u = atSub 8 sub (stir 8 s)) (hstage : (afeCh u n.val).stage = some e)
    (hlapsed : max 1 (fget u AFE_CALCTL_STGMAX) ≤ edges u 8 - e) :
    exec (.stageTimeout n sub) s = .next (endStage n.val (setF u AFE_CALEVT_CALABORT)) := by
  change execStageTimeout n sub s = _
  rw [execStageTimeout, afeEvent_of_up _ _ hup, ← hu, hstage]
  exact congrArg _ (if_pos hlapsed)

theorem exec_impWindowClose_of_up {n : Fin 64} {s : State} (sub : BitVec 16) (hup : afeUp s = true) :
    exec (.impWindowClose n sub) s = .next (impClose n.val (atSub 8 sub (stir 8 s))) := congrArg _ (afeEvent_of_up _ _ hup)

theorem afeCh_setAfeCh_self (n : Nat) (x : AfeCh) (s : State) : afeCh (setAfeCh n x s) n = x := tabGet_set_self ..

/-- A window that closes lets go of the sets it kept for its samples, whether its check passed or failed. -/
theorem oldSets_impClose {n e : Nat} {s : State} (hoff : (afeCh s n).impOff = some e)
    (htail : fget s AFE_IMPCFG_TAIL ≤ edges s 8 - e) : (afeCh (impClose n s) n).oldSets = [] := by
  simp only [impClose, hoff, ge_iff_le, if_pos htail, afeCh_setAfeCh_self]

/-! ### Requests of the rota and CALDUE (R122, R123, R126) -/

/-- A rota channel without a request raises one at MINAGE. -/
theorem exec_calibrationRequest_of_due {n : Fin 64} {s : State} (hup : afeUp s = true) (hrota : inRota s n.val = true)
    (hreq : (afeCh s n.val).req = none) (hage : fget s AFE_CALLIM_MINAGE ≤ calAge s n.val) :
    exec (.calibrationRequest n) s = .next (setReq n.val
      (some ⟨agedLevel (calAge s n.val) (fget s AFE_CALCTL_LEVEL) (fget s AFE_CALLIM_LIMIT), fget s AFE_CALCTL_LEVEL,
        fget s AFE_CALLIM_LIMIT⟩) (stir 8 s)) := by
  have hdue : (afeUp s && inRota s n.val && (afeCh s n.val).req.isNone
      && decide (calAge s n.val ≥ fget s AFE_CALLIM_MINAGE)) = true := by
    rw [hup, hrota, hreq, decide_eq_true hage]
    rfl
  exact congrArg _ (if_pos hdue)

theorem exec_rotaAgePromotion_channel {n : Fin 64} {q : RotaReq} {s : State} (hup : afeUp s = true)
    (hreq : (afeCh s n.val).req = some q) : exec (.rotaAgePromotion (.channel n)) s = .next (setReq n.val
      (some ⟨min q.lvl (agedLevel (calAge s n.val) q.lev q.lim), q.lev, q.lim⟩) (stir 8 s)) := by
  change execRotaAgePromotion (.channel n) s = _
  simp only [execRotaAgePromotion, if_pos hup, hreq]

theorem exec_rotaAgePromotion_junction {s : State} (g : Fin 16) (hup : afeUp s = true) :
    exec (.rotaAgePromotion (.junction g)) s = .next (setAfeGrp g.val { afeGrp s g.val with
      cjLvl := min (afeGrp s g.val).cjLvl (agedLevel (cjAge s g.val) (afeGrp s g.val).cjLev (afeGrp s g.val).cjLim) } (stir 8 s)) :=
  congrArg _ (if_pos hup)

/-- A channel whose rota is not enabled sets CALDUE at twice LIMIT. -/
theorem exec_caldue_of_due {n : Fin 64} {s : State} (hup : afeUp s = true) (hout : getBit s AFE_CALCTL_ROTA (n.val / 16) = false)
    (hage : 2 * fget s AFE_CALLIM_LIMIT ≤ calAge s n.val) : exec (.caldue n) s = .next (setF (stir 8 s) AFE_CALEVT_CALDUE) := by
  have hdue : (afeUp s && !getBit s AFE_CALCTL_ROTA (n.val / 16)
      && decide (calAge s n.val ≥ 2 * fget s AFE_CALLIM_LIMIT)) = true := by
    rw [hup, hout, decide_eq_true hage]
    rfl
  exact congrArg _ (if_pos hdue)

/-- Settles O9, command by command: one of AFE_CALCMD comes down to what it does to its channel, and each event to the case of its
operation whose conditions are given. -/
theorem calibrationCommandsTakeEffect : Obligations.CalibrationCommandsTakeEffect := by
  unfold Obligations.CalibrationCommandsTakeEffect
  refine ⟨fun i n sub s u h hbusy hrota => ?_,
    fun n sub s u hup hu hstaged _ => exec_stageEffect_of_staged sub hup hu hstaged,
    fun n sub e s u hup hu hstage hlapsed => exec_stageTimeout_of_lapsed sub hup hu hstage hlapsed,
    fun n sub e s u hup hu hoff htail => ⟨?_, oldSets_impClose hoff htail⟩,
    fun n s => exec_calibrationRequest_of_due,
    fun n g q s hup => ⟨exec_rotaAgePromotion_channel hup, exec_rotaAgePromotion_junction g hup⟩,
    fun n s => exec_caldue_of_due⟩
  · have hcommand := fun op hop => calCommand_arrives (op := op) sub hop h hbusy hrota
    refine ⟨fun hstate => ?_, ?_, fun hstate => ?_, ?_, fun hpossible => ?_, fun himpossible => ?_⟩
    · rw [exec_stage, hcommand 1 (by decide), calDo_stage (s := atSub 8 sub u) hstate]
      rfl
    · rw [exec_commit, hcommand 2 (by decide)]
      rfl
    · rw [exec_abort, hcommand 3 (by decide), calDo_abort (s := atSub 8 sub u) hstate]
    · rw [exec_calnow, hcommand 4 (by decide)]
      rfl
    · rw [exec_impnow, hcommand 5 (by decide), calDo_impnow_possible (s := atSub 8 sub u) hpossible]
      rfl
    · rw [exec_impnow, hcommand 5 (by decide), calDo_impnow_impossible (s := atSub 8 sub u) himpossible]
  · rw [exec_impWindowClose_of_up sub hup, hu]

end Sys2Proof.Machine
end

section
/-! PROOFS. The vibration front end (05_vibration_front_end, R145 to R160): the channels beside their registers, a channel's state, its
settings, samples and segments, and the blanking pins. -/

namespace Sys2Proof.Machine

/-! ### The channels beside their registers -/

@[simp] theorem vibCh_setVibCh_self (n : Nat) (x : VibCh) (s : State) : vibCh (setVibCh n x s) n = x := tabGet_set_self ..

theorem vibCh_of_vib {s t : State} (n : Nat) (h : t.vib = s.vib) : vibCh t n = vibCh s n := by rw [vibCh, h, vibCh]

theorem clrBit_vib (s : State) (F : Fld) (i : Nat) : (clrBit s F i).vib = s.vib := by
  unfold clrBit
  split <;> rfl

theorem vibState_vib (n st : Nat) (s : State) : (vibState n st s).vib = s.vib := by
  unfold vibState
  split
  · rfl
  · exact clrBit_vib ..

theorem vibSource_vib (n : Nat) (s : State) : (vibSource n s).vib = s.vib := by
  unfold vibSource
  split
  · rfl
  · exact clrBit_vib ..

theorem setVibCh_regs (n : Nat) (x : VibCh) (s : State) : (setVibCh n x s).regs = s.regs := rfl

theorem vibNewSegment_regs (n : Nat) (s : State) : (vibNewSegment n s).regs = s.regs := rfl

/-! ### A channel's state (R149, R160) -/

theorem fget_clrBit_addr (s : State) (F G : Fld) (i : Nat) (h : G.addr ≠ F.addr) : fget (clrBit s F i) G = fget s G := by
  unfold clrBit
  split
  · exact fget_fset_addr s F G _ h
  · rfl

/-- Outside VIB_STAT a change of state writes the channel's STATE alone. -/
theorem fget_vibState (n st : Nat) (s : State) {F : Fld} (h : F.addr ≠ VIB_STAT) :
    fget (vibState n st s) F = fget (fset s (VIB_CHSTAT_STATE n) st) F := by
  unfold vibState
  split
  · exact fget_fset_addr _ VIB_STAT_RUN F _ h
  · exact fget_clrBit_addr _ VIB_STAT_RUN F n h

/-- The registers of the channels lie behind VIB_STAT. -/
theorem chstat_ne_stat (n : Nat) : VIB_CHSTAT n ≠ VIB_STAT := by
  unfold VIB_CHSTAT VIB_STAT
  omega

theorem chseq_ne_stat (n : Nat) : VIB_CHSEQ n ≠ VIB_STAT := by
  unfold VIB_CHSEQ VIB_STAT
  omega

/-- STATE shows the state that the channel takes. -/
theorem state_vibState {st : Nat} (n : Nat) (s : State) (h : st < 4) : fget (vibState n st s) (VIB_CHSTAT_STATE n) = st := by
  rw [fget_vibState n st s (chstat_ne_stat n), fget_fset s (VIB_CHSTAT_STATE n) st (by simp) (by simp)]
  exact Nat.mod_eq_of_lt h

/-! ### Settings (R148, R149) -/

/-- The mask of VIB_CHCFGn keeps bit 0, which is EN. -/
theorem wget_chcfg_en_set (v : Word) : wget ((v ||| 1) &&& 0xFF1FF737) 0 0 = 1 := by
  rw [wget_bit]
  simp

theorem wget_chcfg_en_clear (v : Word) : wget ((v &&& ~~~1) &&& 0xFF1FF737) 0 0 = 0 := by
  rw [wget_bit]
  simp

/-- A write that sets EN of a channel without it enables the channel. -/
theorem vibCfgWrite_enables {n : Nat} {v : Word} {s : State} (hold : wget (rd s (VIB_CHCFG n)) 0 0 = 0)
    (hnew : wget (v &&& 0xFF1FF737) 0 0 = 1) : vibCfgWrite n v s = vibEnable n (wr s (VIB_CHCFG n) (v &&& 0xFF1FF737)) := by
  simp only [vibCfgWrite, hold, hnew]

/-- A write that clears EN of a channel with it disables the channel. -/
theorem vibCfgWrite_disables {n : Nat} {v : Word} {s : State} (hold : wget (rd s (VIB_CHCFG n)) 0 0 = 1)
    (hnew : wget (v &&& 0xFF1FF737) 0 0 = 0) : vibCfgWrite n v s = vibDisable n (wr s (VIB_CHCFG n) (v &&& 0xFF1FF737)) := by
  simp only [vibCfgWrite, hold, hnew]

/-- Bias thresholds that are written as they stand take no channel back to SETTLING. -/
theorem vibBiasWrite_of_same {n : Nat} {v : Word} {s : State} (hlock : flag s VIB_CTL_LOCK = false) (hsame : rd s (VIB_CHBIAS n) = v) :
    vibBiasWrite n v s = wr s (VIB_CHBIAS n) v :=
  (if_neg (Bool.eq_false_iff.mp hlock)).trans (if_neg fun h => h.1 hsame)

theorem vibBiasWrite_of_locked {s : State} (n : Nat) (v : Word) (h : flag s VIB_CTL_LOCK = true) : vibBiasWrite n v s = s := if_pos h

/-! ### A sample joins its segment (R147, R148) -/

/-- While its segment is open, a channel that is not OFF takes the sample and its bias, whether or not it returns to SETTLING. -/
theorem vibSample_joins {n : Nat} {s : State} (sample : Int) (mv : Nat) (hon : fget s (VIB_CHSTAT_STATE n) ≠ 0)
    (hopen : (vibCh s n).samples.length < vibSegLen (vibCh s n).seg) :
    (vibCh (vibSample n sample mv s) n).samples = (vibCh s n).samples ++ [sample] ∧
      (vibCh (vibSample n sample mv s) n).bias = (vibCh s n).bias + mv := by
  have htakes : ¬ (fget s (VIB_CHSTAT_STATE n) = 0 ∨ (vibCh s n).samples.length ≥ vibSegLen (vibCh s n).seg) := by
    rintro (hoff | hfull)
    · exact hon hoff
    · exact absurd hopen (not_lt.mpr hfull)
  simp only [vibSample, if_neg htakes]
  split
  · rw [vibCh_of_vib n ((vibSource_vib ..).trans (vibState_vib ..)), vibCh_setVibCh_self]
    exact ⟨rfl, rfl⟩
  · rw [vibCh_setVibCh_self]
    exact ⟨rfl, rfl⟩

/-! ### A segment ends (R149 to R158) -/

/-- The registers show the number and the quality of the segment that ends, and whether its bias is outside the warning window. -/
def vibReported (n : Nat) (s : State) : State :=
  fset (fset (onlyIf (vibBiasWarns s n) (setF · (VIB_CHEVT_BIASW n)) s) (VIB_CHSEQ_SEQ n) (vibCh s n).seq) (VIB_CHSTAT_LASTQ n)
    (vibQual s n)

/-- The packet `p` of channel `c` enters the buffer if it fits, and is dropped and counted if not. -/
def vibStored (n : Nat) (c : VibCh) (p : FrontPacket) (s : State) : State :=
  if (c.buf.map (·.bytes.length)).sum + p.bytes.length ≤ 1024 then
    setVibCh n { c with seq := (c.seq + 1) % 65536, buf := c.buf ++ [p], gap := false } s
  else bump (setF (setVibCh n { c with seq := (c.seq + 1) % 65536, gap := true } s) (VIB_CHEVT_DROP n)) (VIB_CHCNT_DROPCNT n)

/-- At the boundary a SETTLING channel that is ready enters RUN. -/
def vibRunEntered (n : Nat) (ready : Bool) (s : State) : State :=
  if ready ∧ fget s (VIB_CHSTAT_STATE n) = 1 then setF (vibState n 2 s) (VIB_CHEVT_RUN n) else s

/-- The state at the boundary, before the next segment begins. -/
def vibBoundary (n : Nat) (s : State) : State :=
  vibRunEntered n (vibCh s n).ready (vibStored n (vibCh s n) (vibPacket s n (vibQual s n)) (vibReported n s))

/-- The end of a full segment: its report, its packet, the boundary, and then a new segment. -/
theorem vibSegmentEnd_of_full {n : Nat} {s : State} (hon : fget s (VIB_CHSTAT_STATE n) ≠ 0)
    (hfull : vibSegLen (vibCh s n).seg ≤ (vibCh s n).samples.length) :
    vibSegmentEnd n s = vibNewSegment n (setVibCh n { vibCh (vibBoundary n s) n with ready := false } (vibBoundary n s)) :=
  if_pos ⟨hon, hfull⟩

theorem vibQual_lt (s : State) (n : Nat) : vibQual s n < 16 := by
  unfold vibQual
  dsimp only
  split_ifs <;> decide

theorem fget_vibStored (n : Nat) (c : VibCh) (p : FrontPacket) (s : State) {F : Fld} (hevt : F.addr ≠ VIB_CHEVT n)
    (hcnt : F.addr ≠ VIB_CHCNT n) : fget (vibStored n c p s) F = fget s F := by
  unfold vibStored
  split
  · rfl
  · exact (fget_fset_addr _ (VIB_CHCNT_DROPCNT n) F _ hcnt).trans (fget_fset_addr _ (VIB_CHEVT_DROP n) F 1 hevt)

theorem fget_vibRunEntered (n : Nat) (ready : Bool) (s : State) {F : Fld} (hF : F.hi < 32) (hevt : F.addr ≠ VIB_CHEVT n)
    (hstat : F.addr ≠ VIB_STAT) (hstate : F.addr ≠ VIB_CHSTAT n ∨ 1 < F.lo) : fget (vibRunEntered n ready s) F = fget s F := by
  unfold vibRunEntered
  split
  · have hapart : F.addr ≠ VIB_CHSTAT n ∨ F.hi < 0 ∨ 1 < F.lo := hstate.imp_right .inr
    rw [setF, fget_fset_addr _ (VIB_CHEVT_RUN n) F 1 hevt, fget_vibState n 2 s hstat]
    exact fget_fset_of_apart s (VIB_CHSTAT_STATE n) F 2 (by simp) (by simp) hF hapart
  · rfl

/-- What the end of a full segment leaves of its report: every field of neither CHEVT, CHCNT nor VIB_STAT, and of CHSTAT above STATE. -/
theorem fget_vibSegmentEnd {n : Nat} {s : State} {F : Fld} (hon : fget s (VIB_CHSTAT_STATE n) ≠ 0)
    (hfull : vibSegLen (vibCh s n).seg ≤ (vibCh s n).samples.length) (hF : F.hi < 32) (hevt : F.addr ≠ VIB_CHEVT n)
    (hcnt : F.addr ≠ VIB_CHCNT n) (hstat : F.addr ≠ VIB_STAT) (hstate : F.addr ≠ VIB_CHSTAT n ∨ 1 < F.lo) :
    fget (vibSegmentEnd n s) F = fget (vibReported n s) F := by
  rw [vibSegmentEnd_of_full hon hfull]
  rw [fget_of_regs _ _ F (vibNewSegment_regs ..), fget_of_regs _ _ F (setVibCh_regs ..)]
  exact (fget_vibRunEntered n _ _ hF hevt hstat hstate).trans (fget_vibStored n _ _ _ hevt hcnt)

theorem seq_vibReported (n : Nat) (s : State) : fget (vibReported n s) (VIB_CHSEQ_SEQ n) = (vibCh s n).seq % 65536 := by
  have hother : (VIB_CHSEQ_SEQ n).addr ≠ (VIB_CHSTAT_LASTQ n).addr := by simp
  rw [vibReported, fget_fset_addr _ _ _ _ hother]
  exact fget_fset _ (VIB_CHSEQ_SEQ n) _ (by simp) (by simp)

theorem lastq_vibReported (n : Nat) (s : State) : fget (vibReported n s) (VIB_CHSTAT_LASTQ n) = vibQual s n := by
  rw [vibReported, fget_fset _ (VIB_CHSTAT_LASTQ n) _ (by simp) (by simp)]
  exact Nat.mod_eq_of_lt (vibQual_lt s n)

/-- A new segment has no samples and leaves the buffer alone. -/
theorem vibNewSegment_begins (n : Nat) (s : State) :
    (vibCh (vibNewSegment n s) n).samples = [] ∧ (vibCh (vibNewSegment n s) n).buf = (vibCh s n).buf := by
  simp only [vibNewSegment, vibCh_setVibCh_self, and_self]

theorem vibRunEntered_vib (n : Nat) (ready : Bool) (s : State) : (vibRunEntered n ready s).vib = s.vib := by
  unfold vibRunEntered
  split
  · exact vibState_vib n 2 s
  · rfl

theorem vibStored_buf {c : VibCh} {p : FrontPacket} (n : Nat) (s : State)
    (hfits : (c.buf.map (·.bytes.length)).sum + p.bytes.length ≤ 1024) : (vibCh (vibStored n c p s) n).buf = c.buf ++ [p] := by
  rw [vibStored, if_pos hfits, vibCh_setVibCh_self]

/-- The next segment begins empty. -/
theorem vibSegmentEnd_samples {n : Nat} {s : State} (hon : fget s (VIB_CHSTAT_STATE n) ≠ 0)
    (hfull : vibSegLen (vibCh s n).seg ≤ (vibCh s n).samples.length) : (vibCh (vibSegmentEnd n s) n).samples = [] := by
  rw [vibSegmentEnd_of_full hon hfull]
  exact (vibNewSegment_begins n _).1

/-- A packet that fits is the last of the buffer. -/
theorem vibSegmentEnd_buf {n : Nat} {s : State} (hon : fget s (VIB_CHSTAT_STATE n) ≠ 0)
    (hfull : vibSegLen (vibCh s n).seg ≤ (vibCh s n).samples.length)
    (hfits : ((vibCh s n).buf.map (·.bytes.length)).sum + (vibPacket s n (vibQual s n)).bytes.length ≤ 1024) :
    (vibCh (vibSegmentEnd n s) n).buf = (vibCh s n).buf ++ [vibPacket s n (vibQual s n)] := by
  rw [vibSegmentEnd_of_full hon hfull, (vibNewSegment_begins n _).2, vibCh_setVibCh_self, vibBoundary,
    vibCh_of_vib n (vibRunEntered_vib ..), vibStored_buf n _ hfits]

/-! ### Blanking pins (R155; that the pin command says which level has qualified, and the hold counts the edges VIB recognises, is
assumption log 162) -/

/-- The level that POL names asserts a pin. -/
theorem vibPin_asserts {pin : Nat} {high : Bool} {s : State} (h : high ≠ getBit s VIB_BLKCFG_POL pin) : vibPin pin high s =
    vibMark { s with vib := { s.vib with pins := s.vib.pins ||| 2 ^ pin, rel := tabSet (fun _ => 0) s.vib.rel pin 0 } } :=
  if_pos (bne_iff_ne.mpr h)

/-- The other level releases a pin that is asserted, and its hold begins. -/
theorem vibPin_releases {pin : Nat} {high : Bool} {s : State} (h : high = getBit s VIB_BLKCFG_POL pin)
    (hpin : s.vib.pins.testBit pin = true) : vibPin pin high s =
      { s with vib := { s.vib with pins := s.vib.pins - 2 ^ pin, rel := tabSet (fun _ => 0) s.vib.rel pin (1 + edges s 9) } } :=
  (if_neg (mt bne_iff_ne.mp (not_not.mpr h))).trans (if_pos hpin)

theorem vibPin_of_released {pin : Nat} {high : Bool} {s : State} (h : high = getBit s VIB_BLKCFG_POL pin)
    (hpin : s.vib.pins.testBit pin = false) : vibPin pin high s = s :=
  (if_neg (mt bne_iff_ne.mp (not_not.mpr h))).trans (if_neg (Bool.eq_false_iff.mp hpin))

/-! ### The commands (that 1 ms is 52 sample periods, and a unit of SETTLE 1,600, is assumption log 34) -/

theorem exec_vibChannelEnable (i : Initiator) (n : Fin 8) (v : Word) (s : State) :
    exec (.vibChannelEnable i n v) s = .next (access i (VIB_CHCFG n.val) (vibCfgWrite n.val (v ||| 1)) s) := rfl

theorem exec_vibChannelDisable (i : Initiator) (n : Fin 8) (v : Word) (s : State) :
    exec (.vibChannelDisable i n v) s = .next (access i (VIB_CHCFG n.val) (vibCfgWrite n.val (v &&& ~~~1)) s) := rfl

theorem exec_vibConfigWrite_cfg (i : Initiator) (n : Fin 8) (v : Word) (s : State) :
    exec (.vibConfigWrite i n false v) s = .next (access i (VIB_CHCFG n.val) (vibCfgWrite n.val v) s) := rfl

theorem exec_vibConfigWrite_bias (i : Initiator) (n : Fin 8) (v : Word) (s : State) :
    exec (.vibConfigWrite i n true v) s = .next (access i (VIB_CHBIAS n.val) (vibBiasWrite n.val v) s) := rfl

theorem exec_vibSamplePeriod_of_up {s : State} (n : Fin 8) (sub : BitVec 16) (sample : BitVec 24) (mv : BitVec 16) (h : vibUp s = true) :
    exec (.vibSamplePeriod n sub sample mv) s = .next (vibSample n.val sample.toInt mv.toNat (atSub 9 sub (stir 9 s))) :=
  congrArg _ (if_pos h)

theorem exec_segmentEnd (n : Fin 8) (s : State) : exec (.segmentEnd n) s = .next (vibSegmentEnd n.val s) := rfl

/-- A settling time that is complete makes the channel ready for RUN. -/
theorem exec_vibSettleComplete_of_due {n : Fin 8} {s : State} (hstate : fget s (VIB_CHSTAT_STATE n.val) = 1)
    (hrun : (vibCh s n.val).inRun ≥ if wget (vibCh s n.val).sig 1 1 = 1 then max 1 (1600 * fget s (VIB_CHCFG_SETTLE n.val)) else 1)
    (hback : (vibCh s n.val).back = false) :
    exec (.vibSettleComplete n) s = .next (setVibCh n.val { vibCh s n.val with ready := true } s) :=
  congrArg _ (if_pos ⟨hstate, hrun, hback⟩)

/-- A bias outside for 1 ms is a fault of a channel that settles or runs. -/
theorem exec_vibFaultEntry_of_due {n : Fin 8} {s : State}
    (hstate : fget s (VIB_CHSTAT_STATE n.val) = 1 ∨ fget s (VIB_CHSTAT_STATE n.val) = 2) (hrun : (vibCh s n.val).outRun ≥ vibMs) :
    exec (.vibFaultEntry n) s =
      .next (bump (setF (vibState n.val 3 (setVibCh n.val { vibCh s n.val with inRun := 0, ready := false } s))
        (if (vibCh s n.val).short_ then VIB_CHEVT_SHORT n.val else VIB_CHEVT_OPEN n.val)) (VIB_CHCNT_FLTCNT n.val)) :=
  congrArg _ (if_pos ⟨hstate, hrun⟩)

/-- A bias inside for 1 ms takes a channel from FAULT to SETTLING. -/
theorem exec_vibFaultExit_of_due {n : Fin 8} {s : State} (hstate : fget s (VIB_CHSTAT_STATE n.val) = 3)
    (hrun : (vibCh s n.val).inRun ≥ vibMs) : exec (.vibFaultExit n) s = .next (vibState n.val 1 (setVibCh n.val { vibCh s n.val with
      inRun := 0, outRun := 0, ready := false, mSettle := (vibCh s n.val).mSettle || vibOpenSeg (vibCh s n.val) } s)) :=
  congrArg _ (if_pos ⟨hstate, hrun⟩)

/-- A packet of the buffer that is not yet on its way joins those that are. -/
theorem exec_vibPacketSend_of_waiting {n : Fin 8} {s : State} (hup : vibUp s = true)
    (hwaiting : (stir 9 s).vib.out.count n.val < (vibCh (stir 9 s) n.val).buf.length) : exec (.vibPacketSend n) s =
      .next { stir 9 s with vib := { (stir 9 s).vib with out := (stir 9 s).vib.out ++ [n.val] } } :=
  congrArg _ ((if_pos hup).trans (if_pos hwaiting))

/-- A tracking stage that loses its headroom sets the flag and the event, and marks the segment of a channel that is not OFF. -/
theorem exec_vibStageFault_on {n : Fin 8} {s : State} (hup : vibUp s = true) (hnew : flag s (VIB_CHSTAT_STAGEFLT n.val) = false) :
    exec (.vibStageFault n true) s = .next (setF (setVibCh n.val { vibCh s n.val with
      mStage := fget s (VIB_CHSTAT_STATE n.val) != 0 } (setF s (VIB_CHSTAT_STAGEFLT n.val))) (VIB_CHEVT_STAGE n.val)) := by
  change execVibStageFault n true s = _
  rw [execVibStageFault, if_pos hup, hnew]
  rfl

theorem exec_vibStageFault_off {s : State} (n : Fin 8) (hup : vibUp s = true) :
    exec (.vibStageFault n false) s = .next (clrF s (VIB_CHSTAT_STAGEFLT n.val)) := congrArg _ (if_pos hup)

theorem exec_vibBlankAssert_of_up {s : State} (pin : Fin 4) (high : Bool) (h : islUp s 9 = true) :
    exec (.vibBlankAssert ⟨pin, high⟩) s = .next (vibPin pin.val high (rouse 9 s)) := congrArg _ (if_pos h)

/-- A hold that has lasted its length marks what it blanked and ends. -/
theorem exec_vibBlankEnd_of_lapsed {pin : Fin 4} {s u : State} (hup : vibUp s = true) (hu : u = stir 9 s)
    (hrun : tabGet (fun _ => 0) u.vib.rel pin.val ≠ 0)
    (hlapsed : edges u 9 + 1 - tabGet (fun _ => 0) u.vib.rel pin.val ≥ fget u VIB_BLKCFG_HOLD) : exec (.vibBlankEnd pin) s =
      .next { vibMark u with vib := { (vibMark u).vib with rel := tabSet (fun _ => 0) (vibMark u).vib.rel pin.val 0 } } := by
  subst hu
  exact congrArg _ ((if_pos hup).trans (if_pos ⟨hrun, hlapsed⟩))

/-- Settles O17, command by command: settings by the bits of EN and by the lock, samples and segments by what they leave of their
channel, and the other events by the case of their operation whose conditions are given. -/
theorem vibrationChannelsProceed : Obligations.VibrationChannelsProceed := by
  unfold Obligations.VibrationChannelsProceed
  refine ⟨fun i n v s u => ⟨fun h hold => ?_, fun h hold => ?_, fun h => ?_, fun h hlock hsame => ?_, fun h hlock => ?_⟩,
    fun n s => ⟨state_vibState n s (by decide), state_vibState n s (by decide), state_vibState n s (by decide),
      state_vibState n s (by decide)⟩,
    fun n sub sample mv s u hup hu hon hopen => ⟨?_, vibSample_joins sample.toInt mv.toNat hon hopen⟩,
    fun n s => ⟨exec_vibSettleComplete_of_due, exec_vibFaultEntry_of_due, exec_vibFaultExit_of_due⟩,
    fun n s hon hfull => ⟨exec_segmentEnd n s, ?_, ?_, vibSegmentEnd_samples hon hfull, vibSegmentEnd_buf hon hfull⟩,
    fun n s u hup hu hwaiting => ?_,
    fun n s hup => ⟨exec_vibStageFault_on hup, exec_vibStageFault_off n hup⟩,
    fun pin high s u hup hu => ?_,
    fun pin s u => exec_vibBlankEnd_of_lapsed⟩
  · rw [exec_vibChannelEnable, access_arrives _ h, vibCfgWrite_enables hold (wget_chcfg_en_set v)]
  · rw [exec_vibChannelDisable, access_arrives _ h, vibCfgWrite_disables hold (wget_chcfg_en_clear v)]
  · rw [exec_vibConfigWrite_cfg, access_arrives _ h]
  · rw [exec_vibConfigWrite_bias, access_arrives _ h, vibBiasWrite_of_same hlock hsame]
  · rw [exec_vibConfigWrite_bias, access_arrives _ h, vibBiasWrite_of_locked _ _ hlock]
  · rw [exec_vibSamplePeriod_of_up n sub sample mv hup, ← hu]
  · rw [fget_vibSegmentEnd hon hfull (by simp) (by simp) (by simp) (chseq_ne_stat _) (.inl (by simp)), seq_vibReported]
  · rw [fget_vibSegmentEnd hon hfull (by simp) (by simp) (by simp) (chstat_ne_stat _) (.inr (by simp)), lastq_vibReported]
  · subst hu
    exact exec_vibPacketSend_of_waiting hup hwaiting
  · rw [exec_vibBlankAssert_of_up pin high hup, ← hu]
    exact ⟨fun h => congrArg _ (vibPin_asserts h), fun h hpin => congrArg _ (vibPin_releases h hpin),
      fun h hpin => congrArg _ (vibPin_of_released h hpin)⟩

end Sys2Proof.Machine
end

section
/-! PROOFS. The instruction words of Frambeth (06_frambeth_instruction_set, R162, R170 to R173): what a word's fields are, and that an
instruction and its word give each other. -/

namespace Sys2Proof.Machine

/-! ### The fields of a word of each format -/

section
variable {op fn d a b imm : Nat}

theorem toNat_encR (hop : op < 64) (hfn : fn < 2048) (hd : d < 32) (ha : a < 32) (hb : b < 32) :
    (encR op fn d a b).toNat = fn * 2 ^ 21 + b * 2 ^ 16 + a * 2 ^ 11 + d * 2 ^ 6 + op := by
  simp only [encR, BitVec.toNat_ofNat]; omega

theorem toNat_encI (hop : op < 64) (hd : d < 32) (ha : a < 32) (himm : imm < 2 ^ 16) :
    (encI op d a imm).toNat = imm * 2 ^ 16 + a * 2 ^ 11 + d * 2 ^ 6 + op := by
  simp only [encI, BitVec.toNat_ofNat]; omega

theorem toNat_encJ (hop : op < 64) (himm : imm < 2 ^ 26) : (encJ op imm).toNat = imm * 2 ^ 6 + op := by
  simp only [encJ, BitVec.toNat_ofNat]; omega

theorem fields_encR (hop : op < 64) (hfn : fn < 2048) (hd : d < 32) (ha : a < 32) (hb : b < 32) :
    wordOp (encR op fn d a b) = op ∧ wordFn (encR op fn d a b) = fn ∧ wordD (encR op fn d a b) = Fin.ofNat 32 d ∧
      wordA (encR op fn d a b) = Fin.ofNat 32 a ∧ wordB (encR op fn d a b) = Fin.ofNat 32 b := by
  simp only [wordOp, wordFn, wordD, wordA, wordB, toNat_encR hop hfn hd ha hb, Fin.ext_iff, Fin.val_ofNat]
  omega

theorem fields_encI (imm : BitVec 16) (hop : op < 64) (hd : d < 32) (ha : a < 32) :
    wordOp (encI op d a imm.toNat) = op ∧ wordD (encI op d a imm.toNat) = Fin.ofNat 32 d ∧
      wordA (encI op d a imm.toNat) = Fin.ofNat 32 a ∧ wordImm (encI op d a imm.toNat) = imm := by
  simp only [wordOp, wordD, wordA, wordImm, toNat_encI hop hd ha imm.isLt, Fin.ext_iff, Fin.val_ofNat, ← BitVec.toNat_inj,
    BitVec.toNat_ofNat]
  omega

/-- A word of the S format is one of the R format: its immediate stands in the places of FN and D (R170). -/
theorem encS_eq_encR (op a b imm : Nat) : encS op a b imm = encR op (imm / 32) (imm % 32) a b := rfl

theorem fields_encS (imm : BitVec 16) (hop : op < 64) (ha : a < 32) (hb : b < 32) :
    wordOp (encS op a b imm.toNat) = op ∧ wordA (encS op a b imm.toNat) = Fin.ofNat 32 a ∧
      wordB (encS op a b imm.toNat) = Fin.ofNat 32 b ∧ wordImmS (encS op a b imm.toNat) = imm := by
  have hhigh : imm.toNat / 32 < 2048 := by omega
  have hlow : imm.toNat % 32 < 32 := by omega
  obtain ⟨hop', hfn', hd', ha', hb'⟩ := fields_encR hop hhigh hlow ha hb
  refine ⟨hop', ha', hb', ?_⟩
  rw [wordImmS, encS_eq_encR, hfn', hd', Fin.val_ofNat, Nat.mod_mod, Nat.div_add_mod', BitVec.ofNat_toNat, BitVec.setWidth_eq]

theorem fields_encJ (imm : BitVec 26) (hop : op < 64) : wordOp (encJ op imm.toNat) = op ∧ wordImmJ (encJ op imm.toNat) = imm := by
  simp only [wordOp, wordImmJ, toNat_encJ hop imm.isLt, ← BitVec.toNat_inj, BitVec.toNat_ofNat]
  omega

end

/-! ### A word made of its own fields -/

section
variable (w : Word)

theorem encR_fields : encR (wordOp w) (wordFn w) (wordD w).val (wordA w).val (wordB w).val = w := by
  have h := w.isLt
  simp only [encR, wordOp, wordFn, wordD, wordA, wordB, Fin.val_ofNat, ← BitVec.toNat_inj, BitVec.toNat_ofNat]
  omega

theorem encI_fields : encI (wordOp w) (wordD w).val (wordA w).val (wordImm w).toNat = w := by
  have h := w.isLt
  simp only [encI, wordOp, wordD, wordA, wordImm, Fin.val_ofNat, ← BitVec.toNat_inj, BitVec.toNat_ofNat]
  omega

theorem encS_fields : encS (wordOp w) (wordA w).val (wordB w).val (wordImmS w).toNat = w := by
  have hfn : wordFn w < 2048 := by simp only [wordFn]; omega
  have himm : (wordImmS w).toNat = wordFn w * 32 + (wordD w).val := by
    simp only [wordImmS, BitVec.toNat_ofNat]; omega
  have hfn' : (wordFn w * 32 + (wordD w).val) / 32 = wordFn w := by omega
  have hd' : (wordFn w * 32 + (wordD w).val) % 32 = (wordD w).val := by omega
  rw [encS_eq_encR, himm, hfn', hd', encR_fields]

theorem encJ_fields : encJ (wordOp w) (wordImmJ w).toNat = w := by
  have h := w.isLt
  simp only [encJ, wordOp, wordImmJ, ← BitVec.toNat_inj, BitVec.toNat_ofNat]
  omega

end

/-! ### From an instruction to its word and back -/

/-- A load as a word spells it: one whose check of the codes finds nothing. -/
def uncheckedLoad : Instr → Instr
  | .lb e d a n _ => .lb e d a n .clean
  | .lbu e d a n _ => .lbu e d a n .clean
  | .lh e d a n _ => .lh e d a n .clean
  | .lhu e d a n _ => .lhu e d a n .clean
  | .lw e d a n _ => .lw e d a n .clean
  | i => i

theorem uncheckedLoad_of_clean {i : Instr} {e : Engine} {w : Word} (hi : frambethWord i = some (e, w))
    (hclean : ∀ (d a : Fin 32) (n : BitVec 16) (x : Ecc),
      (i = .lb e d a n x ∨ i = .lbu e d a n x ∨ i = .lh e d a n x ∨ i = .lhu e d a n x ∨ i = .lw e d a n x) → x = .clean) :
    uncheckedLoad i = i := by
  unfold uncheckedLoad
  split
  case h_6 => rfl
  all_goals
    obtain ⟨rfl, -⟩ := Prod.mk.inj (Option.some.inj hi)
    simp_all

@[simp] theorem unused_zero (i : Option Instr) : unused 0 i = i := rfl

@[simp] theorem unused_eq_some {r : Fin 32} {i : Option Instr} {j : Instr} : unused r i = some j ↔ r.val = 0 ∧ i = some j := by
  unfold unused; split <;> simp [*]

/-- A shift's selection and its amount are its immediate (R172). -/
theorem decodeOp_shift (e : Engine) (d a : Fin 32) (n : BitVec 5) (k : Nat) (hk : k < 3) :
    decodeOp e (encI 7 d.val a.val (32 * k + n.toNat)) =
      some (if k = 0 then .slli e d a n else if k = 1 then .srli e d a n else .srai e d a n) := by
  have himm : 32 * k + n.toNat = (BitVec.ofNat 16 (32 * k + n.toNat)).toNat := by rw [BitVec.toNat_ofNat]; omega
  have hsel : (32 * k + n.toNat) / 32 = k := by omega
  have hn : BitVec.ofNat 5 (32 * k + n.toNat) = n := by rw [← BitVec.toNat_inj, BitVec.toNat_ofNat]; omega
  rw [himm]
  simp only [decodeOp, decodeShift, fields_encI, d.isLt, a.isLt, Nat.reduceLT, Fin.ofNat_val_eq_self]
  rw [← himm, hn, hsel]
  interval_cases k <;> rfl

/-- Reading the word of an instruction gives the instruction, a load as one whose check of the codes finds nothing. -/
theorem decodeOp_of_frambethWord {i : Instr} {e : Engine} {w : Word} (h : frambethWord i = some (e, w)) :
    decodeOp e w = some (uncheckedLoad i) := by
  unfold frambethWord at h
  split at h <;> simp only [Option.some.injEq, Prod.mk.injEq, reduceCtorEq] at h <;> obtain ⟨rfl, rfl⟩ := h
  case h_27 => exact decodeOp_shift _ _ _ _ 0 (by decide)
  case h_28 => exact decodeOp_shift _ _ _ _ 1 (by decide)
  case h_29 => exact decodeOp_shift _ _ _ _ 2 (by decide)
  all_goals simp [decodeOp, decodeInt, decodeSystem, decodeFloat, decodeShuttle, decodeScan, uncheckedLoad, fields_encR,
    fields_encI, fields_encS, fields_encJ]

section
variable {e : Engine} {w : Word} {i : Instr}

/-- An instruction whose word has the opcode, the function code and the registers of a word has that word. -/
theorem frambethWord_of_encR {op fn : Nat} (hop : wordOp w = op) (hfn : wordFn w = fn)
    (h : frambethWord i = some (e, encR op fn (wordD w).val (wordA w).val (wordB w).val)) : frambethWord i = some (e, w) := by
  rw [h, ← hop, ← hfn, encR_fields]

theorem frambethWord_of_decodeInt (hop : wordOp w = 0) (h : decodeInt e w = some i) : frambethWord i = some (e, w) := by
  simp only [decodeInt] at h
  split at h <;> simp only [Option.some.injEq, reduceCtorEq, eq_comm (b := i)] at h
  all_goals
    rename_i hfn
    exact frambethWord_of_encR hop hfn (by simp only [h, frambethWord])

theorem frambethWord_of_decodeSystem (hop : wordOp w = 0x30) (h : decodeSystem e w = some i) : frambethWord i = some (e, w) := by
  simp only [decodeSystem] at h
  split at h <;> simp only [unused_eq_some, Option.some.injEq, reduceCtorEq, and_false, eq_comm (b := i)] at h
  all_goals
    rename_i hfn
    exact frambethWord_of_encR hop hfn (by simp only [h, frambethWord])

theorem frambethWord_of_decodeFloat (hop : wordOp w = 0x38) (h : decodeFloat e w = some i) : frambethWord i = some (e, w) := by
  simp only [decodeFloat] at h
  split at h <;> simp only [unused_eq_some, Option.some.injEq, reduceCtorEq, eq_comm (b := i)] at h
  all_goals
    rename_i hfn
    exact frambethWord_of_encR hop hfn (by simp only [h, frambethWord])

theorem frambethWord_of_decodeShuttle (hop : wordOp w = 0x3C) (h : decodeShuttle e w = some i) : frambethWord i = some (e, w) := by
  simp only [decodeShuttle] at h
  split at h <;> simp only [unused_eq_some, Option.some.injEq, reduceCtorEq, eq_comm (b := i)] at h
  all_goals
    rename_i hfn
    exact frambethWord_of_encR hop hfn (by simp only [h, frambethWord])

theorem frambethWord_of_decodeScan (hop : wordOp w = 0x3E) (h : decodeScan e w = some i) : frambethWord i = some (e, w) := by
  simp only [decodeScan] at h
  split at h <;> simp only [unused_eq_some, Option.some.injEq, reduceCtorEq, eq_comm (b := i)] at h
  all_goals
    rename_i hfn
    exact frambethWord_of_encR hop hfn (by simp only [h, frambethWord])

theorem frambethWord_of_decodeShift (hop : wordOp w = 7) (h : decodeShift e w = some i) : frambethWord i = some (e, w) := by
  have hw := encI_fields w
  have himm : 32 * ((wordImm w).toNat / 32) + (BitVec.ofNat 5 (wordImm w).toNat).toNat = (wordImm w).toNat := by
    rw [BitVec.toNat_ofNat]; omega
  simp only [decodeShift] at h
  split at h <;> cases h
  all_goals
    rename_i hsel
    rw [hop, ← himm, hsel] at hw
    exact congrArg (fun v => some (e, v)) hw

/-- A word read as an instruction is the word of that instruction. -/
theorem frambethWord_of_decodeOp (h : decodeOp e w = some i) : frambethWord i = some (e, w) := by
  have hI := encI_fields w
  have hS := encS_fields w
  have hJ := encJ_fields w
  simp only [decodeOp] at h
  split at h
  case h_34 => cases h
  all_goals rename_i hop; rw [hop] at hI hS hJ
  case h_1 => exact frambethWord_of_decodeInt hop h
  case h_8 => exact frambethWord_of_decodeShift hop h
  case h_30 => exact frambethWord_of_decodeSystem hop h
  case h_31 => exact frambethWord_of_decodeFloat hop h
  case h_32 => exact frambethWord_of_decodeShuttle hop h
  case h_33 => exact frambethWord_of_decodeScan hop h
  all_goals simp only [unused_eq_some, Option.some.injEq, eq_comm (b := i)] at h
  all_goals simp_all only [frambethWord]

end

/-- Settles O27: a word is made of its fields, and reading an instruction's word takes them apart again. -/
theorem frambethWordsAgree : Obligations.FrambethWordsAgree := by
  unfold Obligations.FrambethWordsAgree
  refine ⟨fun i e w hword hav hclean => ?_, fun i e w hread => ?_⟩
  · rw [decodeFrambeth, if_pos hav, decodeOp_of_frambethWord hword, uncheckedLoad_of_clean hword hclean]
  · rw [decodeFrambeth] at hread
    split at hread
    · exact frambethWord_of_decodeOp hread
    · cases hread

/-- Settles O28, word by word: each is a literal, which the reader of words evaluates. -/
theorem frambethWordsSpelled : Obligations.FrambethWordsSpelled := by
  unfold Obligations.FrambethWordsSpelled
  refine ⟨?_, ?_, ?_, ?_, ?_, ?_, ?_, ?_, ?_, ?_, ?_, ?_⟩ <;> decide

end Sys2Proof.Machine
end

section
/-! PROOFS. Integer, branch and binary32 instructions (06_frambeth_instruction_set, R174, R175, R177 to R181): what each shared form does on an
engine that executes it, and the values of R174 as the words that the model computes. -/

namespace Sys2Proof.Machine

/-! ### The shared forms on an engine that executes them -/

section
variable {e : Engine} {av : Avail} {s u : State} {d a b : Fin 32}

theorem aluR_answers {fn : Nat} {f : Word → Word → Word} {v : Word} (h : Runs e av s u) (hv : f (regOf u e a) (regOf u e b) = v) :
    (.next (aluR e av fn f d a b s) : Host.Outcome State Fault Refusal) = .next (advance e (setReg e d v u)) := by
  rw [← hv]; exact congrArg _ (runOn_runs _ _ h)

theorem aluI_answers {op : Nat} {f : Word → BitVec 16 → Word} {i : BitVec 16} {v : Word} (h : Runs e avAll s u)
    (hv : f (regOf u e a) i = v) : (.next (aluI e op f d a i s) : Host.Outcome State Fault Refusal) = .next (advance e (setReg e d v u)) := by
  rw [← hv]; exact congrArg _ (runOn_runs _ _ h)

theorem aluShift_answers {k : Nat} {f : Word → Nat → Word} {n : BitVec 5} {v : Word} (h : Runs e avAll s u)
    (hv : f (regOf u e a) n.toNat = v) :
    (.next (aluShift e k f d a n s) : Host.Outcome State Fault Refusal) = .next (advance e (setReg e d v u)) := by
  rw [← hv]; exact congrArg _ (runOn_runs _ _ h)

theorem branch_answers {op : Nat} {c : Word → Word → Bool} {i : BitVec 16} {taken : Bool} (h : Runs e avAll s u)
    (hc : c (regOf u e a) (regOf u e b) = taken) :
    (.next (branch e op c a b i s) : Host.Outcome State Fault Refusal) =
      .next (jump e (if taken then pcOf u e + (i.signExtend 32 <<< 2) else pcOf u e + 4) u) := by
  rw [← hc]; exact congrArg _ (runOn_runs _ _ h)

theorem fpu2_answers {fn : Nat} {f : Nat → Nat → Nat × Nat} {p : Nat × Nat} (h : Runs e avHS s u)
    (hp : f (regOf u e a).toNat (regOf u e b).toNat = p) :
    (.next (fpu2 e fn f d a b s) : Host.Outcome State Fault Refusal) =
      .next (advance e (setReg e d (BitVec.ofNat 32 p.1) (addFlags e p.2 u))) := by
  rw [← hp]; exact congrArg _ (runOn_runs _ _ h)

theorem fpu1_answers {fn : Nat} {f : Nat → Nat × Nat} {p : Nat × Nat} (h : Runs e avHS s u) (hp : f (regOf u e a).toNat = p) :
    (.next (fpu1 e fn f d a s) : Host.Outcome State Fault Refusal) =
      .next (advance e (setReg e d (BitVec.ofNat 32 p.1) (addFlags e p.2 u))) := by
  rw [← hp]; exact congrArg _ (runOn_runs _ _ h)

end

/-! ### The values of R174 -/

section
variable (x y : Word)

theorem shiftLeft_eq_mul (n : Nat) : x <<< n = BitVec.ofNat 32 (x.toNat * 2 ^ n) := by
  rw [← BitVec.toNat_inj, BitVec.toNat_shiftLeft, BitVec.toNat_ofNat, Nat.shiftLeft_eq]

theorem ushiftRight_eq_div (n : Nat) : x >>> n = BitVec.ofNat 32 (x.toNat / 2 ^ n) := by
  rw [← Nat.shiftRight_eq_div_pow, ← BitVec.toNat_ushiftRight, BitVec.ofNat_toNat, BitVec.setWidth_eq]

theorem sshiftRight_eq_div (n : Nat) : x.sshiftRight n = BitVec.ofInt 32 (x.toInt / 2 ^ n) := by
  rw [BitVec.sshiftRight, Int.shiftRight_eq_div_pow]; rfl

/-- A register's shift amount is its five low bits (R174). -/
theorem toNat_and_31 : (y &&& 31).toNat = y.toNat % 32 := Nat.and_two_pow_sub_one_eq_mod _ 5

theorem sll_eq_mul : x <<< (y &&& 31) = BitVec.ofNat 32 (x.toNat * 2 ^ (y.toNat % 32)) := by
  rw [BitVec.shiftLeft_eq', toNat_and_31, shiftLeft_eq_mul]

theorem srl_eq_div : x >>> (y &&& 31) = BitVec.ofNat 32 (x.toNat / 2 ^ (y.toNat % 32)) := by
  rw [BitVec.ushiftRight_eq', toNat_and_31, ushiftRight_eq_div]

theorem ofBool_slt : ofBool (x.slt y) = if x.toInt < y.toInt then 1 else 0 := by
  simp only [ofBool, BitVec.slt, decide_eq_true_eq]

theorem ofBool_ult : ofBool (x.ult y) = if x.toNat < y.toNat then 1 else 0 := by
  simp only [ofBool, BitVec.ult, decide_eq_true_eq]

theorem ite_slt (v w : Word) : (if x.slt y then v else w) = if x.toInt < y.toInt then v else w := by
  simp only [BitVec.slt, decide_eq_true_eq]

theorem mulh_eq_div : BitVec.ofInt 32 (x.toInt * y.toInt / 4294967296) = BitVec.ofInt 32 (x.toInt * y.toInt / 2 ^ 32) := by norm_num

theorem mulhu_eq_div : BitVec.ofNat 32 (x.toNat * y.toNat / 4294967296) = BitVec.ofNat 32 (x.toNat * y.toNat / 2 ^ 32) := by norm_num

theorem mul_eq_ofNat : x * y = BitVec.ofNat 32 (x.toNat * y.toNat) := rfl

/-- The one quotient that overflows wraps to itself (R174). -/
theorem divS_eq : divS x y =
    if y = 0 then 0 else if x = 0x80000000 ∧ y = 0xFFFFFFFF then 0x80000000 else BitVec.ofInt 32 (x.toInt.tdiv y.toInt) := by
  unfold divS
  congr 1
  split
  · next h => rw [h.1, h.2]; decide
  · rfl

/-- The remainder of the one quotient that overflows is zero (R174). -/
theorem remS_eq : remS x y =
    if y = 0 then x else if x = 0x80000000 ∧ y = 0xFFFFFFFF then 0 else BitVec.ofInt 32 (x.toInt.tmod y.toInt) := by
  unfold remS
  congr 1
  split
  · next h => rw [h.1, h.2]; decide
  · rfl

/-- fneg changes the sign bit alone (R178). -/
theorem fpNeg_f32 : fpNeg f32 x.toNat = if x.toNat < 2 ^ 31 then x.toNat + 2 ^ 31 else x.toNat - 2 ^ 31 := by
  have hhigh : (x.toNat ^^^ 2 ^ 31) / 2 ^ 31 = x.toNat / 2 ^ 31 ^^^ 1 := Nat.xor_div_two_pow
  have hlow : (x.toNat ^^^ 2 ^ 31) % 2 ^ 31 = x.toNat % 2 ^ 31 := Nat.xor_mod_two_pow.trans (Nat.xor_zero _)
  have hbit : x.toNat / 2 ^ 31 = 0 ∨ x.toNat / 2 ^ 31 = 1 := by omega
  change x.toNat ^^^ 2 ^ 31 = _
  generalize x.toNat ^^^ 2 ^ 31 = z at hhigh hlow ⊢
  rcases hbit with h | h
  · have hone : z / 2 ^ 31 = 1 := by rw [hhigh, h]; rfl
    rw [if_pos (by omega)]; omega
  · have hzero : z / 2 ^ 31 = 0 := by rw [hhigh, h]; rfl
    rw [if_neg (by omega)]; omega

end

/-- Settles O18: each instruction is one of three shared forms, with its value of R174. -/
theorem integerInstructionsCompute : Obligations.IntegerInstructionsCompute := by
  unfold Obligations.IntegerInstructionsCompute
  refine ⟨?_, ?_, ?_⟩
  · rintro e d a b s u x y r h rfl rfl rfl
    exact ⟨aluR_answers h rfl, aluR_answers h rfl, aluR_answers h rfl, aluR_answers h rfl,
      aluR_answers h rfl, aluR_answers h rfl, aluR_answers h (sll_eq_mul _ _),
      aluR_answers h (srl_eq_div _ _), aluR_answers h (sshiftRight_eq_div _ _),
      aluR_answers h (ofBool_slt _ _), aluR_answers h (ofBool_ult _ _)⟩
  · rintro e d a b s u x y r h rfl rfl rfl
    exact ⟨aluR_answers h (ite_slt _ _ _ _), aluR_answers h (ite_slt _ _ _ _), aluR_answers h (mul_eq_ofNat _ _),
      aluR_answers h (mulh_eq_div _ _), aluR_answers h (mulhu_eq_div _ _), aluR_answers h (divS_eq _ _),
      aluR_answers h (remS_eq _ _), aluR_answers h rfl, aluR_answers h rfl⟩
  · rintro e d a i n s u x r h rfl rfl
    exact ⟨aluI_answers h rfl, aluI_answers h rfl, aluI_answers h rfl, aluI_answers h rfl,
      aluI_answers h (ofBool_slt _ _), aluI_answers h (ofBool_ult _ _),
      aluShift_answers h (shiftLeft_eq_mul _ _), aluShift_answers h (ushiftRight_eq_div _ _),
      aluShift_answers h (sshiftRight_eq_div _ _), aluI_answers (a := 0) h rfl⟩

/-- Settles O20: a branch is one shared form with its comparison; each jump links and then goes to its target. -/
theorem branchesAndJumpsComplete : Obligations.BranchesAndJumpsComplete := by
  unfold Obligations.BranchesAndJumpsComplete
  refine ⟨?_, fun e d a i j s u h => ⟨congrArg Host.Outcome.next (runOn_runs _ _ h), congrArg Host.Outcome.next (runOn_runs _ _ h)⟩⟩
  rintro e a b i s u x y p h rfl rfl rfl go rfl
  exact ⟨branch_answers h rfl, branch_answers h (by simp only [bne, beq_eq_decide, decide_not, ne_eq]), branch_answers h rfl,
    branch_answers h (by rw [BitVec.slt, ← decide_not]; simp only [not_lt, ge_iff_le]), branch_answers h rfl,
    branch_answers h (by rw [BitVec.ult, ← decide_not]; simp only [not_lt, ge_iff_le])⟩

/-- Settles O25: each instruction is one of two shared forms, with its operation on binary32 values. -/
theorem binaryInstructionsComplete : Obligations.BinaryInstructionsComplete := by
  unfold Obligations.BinaryInstructionsComplete
  refine ⟨?_, ?_⟩
  · rintro e d a b s u x y r h rfl rfl rfl
    refine ⟨?_, ?_, ?_, ?_, ?_, ?_, ?_, ?_, ?_⟩ <;> exact fpu2_answers h rfl
  · rintro e d a s u w x r h rfl rfl rfl
    exact ⟨fpu1_answers h rfl, fpu1_answers h rfl, fpu1_answers h (by rw [fpNeg_f32]),
      fpu1_answers h rfl, fpu1_answers h (by rw [BitVec.ofNat_toNat, BitVec.setWidth_eq]),
      fpu1_answers h rfl, fpu1_answers h rfl, fpu1_answers h rfl⟩

end Sys2Proof.Machine
end

section
/-! PROOFS. The engines' registers, the host's control words, exceptions and protection (06_frambeth_instruction_set, R162, R164, R168,
R176, R182 to R187, R192). -/

namespace Sys2Proof.Machine

/-! ### The registers of one engine (R164, R192) -/

theorem Core.get_zero (c : Core) : c.get 0 = 0 := rfl

theorem Core.get_set_self {n : Nat} (c : Core) (v : Word) (h : n ≠ 0) : (c.set n v).get n = v := by
  simp [Core.get, Core.set, h]

theorem Core.get_set_ne {m n : Nat} (c : Core) (v : Word) (h : m ≠ n) : (c.set n v).get m = c.get m := by
  unfold Core.get Core.set
  split
  · rfl
  · split
    · rfl
    · exact tabGet_set_ne _ _ _ _ _ h

@[simp] theorem Core.set_pc (c : Core) (n : Nat) (v : Word) : (c.set n v).pc = c.pc := by unfold Core.set; split <;> rfl

@[simp] theorem Core.set_fflags (c : Core) (n : Nat) (v : Word) : (c.set n v).fflags = c.fflags := by unfold Core.set; split <;> rfl

@[simp] theorem Shuttle.setReg_core (x : Shuttle) (n : Nat) (v : Word) : (x.setReg n v).core = x.core.set n v := by
  unfold Shuttle.setReg Core.set; split <;> rfl

@[simp] theorem Shuttle.issue_core (x : Shuttle) : x.issue.core = x.core := by unfold Shuttle.issue; split <;> rfl

@[simp] theorem shuttle_setShuttle_self (n : Nat) (x : Shuttle) (s : State) : shuttle (setShuttle n x s) n = x :=
  tabGet_set_self _ _ _ _

theorem shuttle_setShuttle_ne {m n : Nat} (x : Shuttle) (s : State) (h : m ≠ n) : shuttle (setShuttle n x s) m = shuttle s m :=
  tabGet_set_ne _ _ _ _ _ h

/-! ### What an engine holds -/

@[simp] theorem coreOf_setCore_self (e : Engine) (c : Core) (s : State) : coreOf (setCore e c s) e = c := by
  cases e with
  | host => rfl
  | shuttle n => exact congrArg Shuttle.core (shuttle_setShuttle_self _ _ _)
  | seq k => exact tabGet_set_self (fun _ => {}) s.seq k.val c

/-- A shuttle's state replaced is that of no other engine. -/
theorem coreOf_setShuttle_ne {f : Engine} {n : Fin 16} (x : Shuttle) (s : State) (h : f ≠ .shuttle n) :
    coreOf (setShuttle n.val x s) f = coreOf s f := by
  cases f with
  | host => rfl
  | shuttle m => exact congrArg Shuttle.core (shuttle_setShuttle_ne _ _ fun he => h (congrArg _ (Fin.ext he)))
  | seq k => rfl

theorem coreOf_setCore_ne {e f : Engine} (c : Core) (s : State) (h : f ≠ e) : coreOf (setCore e c s) f = coreOf s f := by
  cases e with
  | host => cases f with
    | host => exact absurd rfl h
    | shuttle m => rfl
    | seq k => rfl
  | shuttle n => exact coreOf_setShuttle_ne _ _ h
  | seq k => cases f with
    | host => rfl
    | shuttle m => rfl
    | seq j => exact tabGet_set_ne (fun _ => {}) s.seq _ _ c fun he => h (congrArg _ (Fin.ext he))

@[simp] theorem coreOf_setReg_self (e : Engine) (n : Fin 32) (v : Word) (s : State) :
    coreOf (setReg e n v s) e = (coreOf s e).set n.val v := by
  cases e with
  | host => exact coreOf_setCore_self .host _ s
  | shuttle k => exact (congrArg Shuttle.core (shuttle_setShuttle_self _ _ _)).trans (Shuttle.setReg_core _ _ _)
  | seq k => exact coreOf_setCore_self (.seq k) _ s

theorem coreOf_setReg_ne {e f : Engine} (n : Fin 32) (v : Word) (s : State) (h : f ≠ e) : coreOf (setReg e n v s) f = coreOf s f := by
  cases e with
  | host => exact coreOf_setCore_ne _ _ h
  | shuttle k => exact coreOf_setShuttle_ne _ _ h
  | seq k => exact coreOf_setCore_ne _ _ h

@[simp] theorem coreOf_countIssue (e f : Engine) (s : State) : coreOf (countIssue e s) f = coreOf s f := by
  cases e with
  | host => cases f <;> rfl
  | shuttle n =>
    by_cases h : f = .shuttle n
    · subst h
      exact (congrArg Shuttle.core (shuttle_setShuttle_self _ _ _)).trans (Shuttle.issue_core _)
    · exact coreOf_setShuttle_ne _ _ h
  | seq k => rfl

@[simp] theorem coreOf_jump_self (e : Engine) (a : Word) (s : State) : coreOf (jump e a s) e = (coreOf s e).setPc a := by
  rw [jump, coreOf_countIssue, coreOf_setCore_self]

theorem coreOf_jump_ne {e f : Engine} (a : Word) (s : State) (h : f ≠ e) : coreOf (jump e a s) f = coreOf s f := by
  rw [jump, coreOf_countIssue, coreOf_setCore_ne _ _ h]

@[simp] theorem pcOf_advance (e : Engine) (s : State) : pcOf (advance e s) e = pcOf s e + 4 :=
  congrArg Core.pc (coreOf_jump_self e (pcOf s e + 4) s)

/-- Settles O19: the registers are those of the engine's core, which a write and a step of the pc replace in that engine alone. -/
theorem registersOfEnginesHold : Obligations.RegistersOfEnginesHold := by
  unfold Obligations.RegistersOfEnginesHold
  intro e d n v s
  have hwrite := coreOf_setReg_self e d v s
  have hstep : coreOf (advance e s) e = (coreOf s e).setPc (pcOf s e + 4) := coreOf_jump_self e (pcOf s e + 4) s
  refine ⟨Core.get_zero _, ?_, fun hd => ?_, fun hn => ?_, ?_, ?_, pcOf_advance e s, ?_, ?_, ?_, ?_, ?_, ?_, fun f hf =>
    ⟨coreOf_setReg_ne d v s hf, coreOf_jump_ne _ s hf⟩⟩
  · exact congrArg (Core.get · n.val) (coreOf_setReg_self e 0 v s)
  · rw [regOf, hwrite, Core.get_set_self _ _ hd]
  · rw [regOf, hwrite, Core.get_set_ne _ _ fun he => hn (Fin.ext he), regOf]
  · rw [pcOf, hwrite, Core.set_pc, pcOf]
  · rw [hwrite, Core.set_fflags]
  · rw [regOf, hstep]; rfl
  · rw [hstep]; rfl
  all_goals cases e <;> rfl

/-! ### The host's control words (R168, R176, R184) -/

theorem cwGet_cwPut (m n : Nat) (v : Word) (s : State) : cwGet (cwPut n v s) m = if m = n then v else cwGet s m := tabGet_set _ _ _ _ _

/-- Only the four words of an exception change at its entry (R184). -/
theorem cwGet_hostEnter (epc cause tval : Word) (n : Nat) (s : State) : cwGet (hostEnter epc cause tval s) n =
    if n = 0x100 then statusEnter (cwGet s 0x100) else if n = 0x103 then tval else if n = 0x102 then cause else if n = 0x101 then epc
    else cwGet s n := by
  let t := cwPut 0x103 tval (cwPut 0x102 cause (cwPut 0x101 epc s))
  change cwGet (cwPut 0x100 (statusEnter (cwGet t 0x100)) t) n = _
  simp only [t, cwGet_cwPut, Nat.reduceEqDiff, if_false]

@[simp] theorem coreOf_hostCount (evt : Nat) (e : Engine) (s : State) : coreOf (hostCount evt s) e = coreOf s e := by cases e <;> rfl

@[simp] theorem coreOf_cwPut (n : Nat) (v : Word) (e : Engine) (s : State) : coreOf (cwPut n v s) e = coreOf s e := by cases e <;> rfl

/-- The host goes to the vector base, its registers as they were (R184). -/
theorem coreOf_hostEnter (epc cause tval : Word) (s : State) :
    coreOf (hostEnter epc cause tval s) .host = (coreOf s .host).setPc (cwGet s 0x104) := by
  have hbase (t : State) : cwGet (wfiAgain t) 0x104 = cwGet t 0x104 := rfl
  have hcore (t : State) : coreOf (wfiAgain t) .host = coreOf t .host := rfl
  change coreOf (hostCount _ (setCore .host ((coreOf (wfiAgain _) .host).setPc (cwGet (wfiAgain _) 0x104)) _)) .host = _
  rw [coreOf_hostCount, coreOf_setCore_self, hbase, hcore]
  simp only [coreOf_cwPut, cwGet_cwPut, Nat.reduceEqDiff, if_false]

theorem wget_bit_le (w : Word) (j : Nat) : wget w j j ≤ 1 := by rw [wget_bit]; exact Bool.toNat_le _

/-- The status at the entry: IE and MODE are stacked, IE is 0 and MODE is 1 (R184). -/
theorem wget_statusEnter (w : Word) : wget (statusEnter w) 0 0 = 0 ∧ wget (statusEnter w) 1 1 = wget w 0 0 ∧
    wget (statusEnter w) 2 2 = 1 ∧ wget (statusEnter w) 3 3 = wget w 2 2 := by
  simp [statusEnter, wget_wset, wget_wset_ne, wget_bit_le]

/-- The status after a return: IE and MODE are those that were stacked (R176). -/
theorem wget_statusReturn (w : Word) : wget (statusReturn w) 0 0 = wget w 1 1 ∧ wget (statusReturn w) 2 2 = wget w 3 3 := by
  simp [statusReturn, wget_wset, wget_wset_ne, wget_bit_le]

/-- A fetch that the host may not make is its exception (R183). -/
theorem runOn_host_of_fetchFault {a : Nat} {av : Avail} {s : State} (w : Word) (f : State → State) (hex : executes s .host = true)
    (hfetch : fetchFault .host (useStep .host s) = some (a, 0, 0)) :
    runOn .host av w f s = hostRaise a (pcOf (useStep .host s) .host) (useStep .host s) := by
  simp only [runOn, hex, hfetch, if_true, engineFault]

section
variable {av : Avail} {s : State} (w : Word) (f : State → State) (hex : executes s .host = true)
  (hfetch : fetchFault .host (useStep .host s) = none)
include hex hfetch

/-- A stored word that is no instruction is the host's exception (R162): its memory carries no check that the fetch could fail. -/
theorem runOn_host_of_illegal {v : Word} (hill : illegalStored .host (useStep .host s) = some v) :
    runOn .host av w f s = hostRaise 1 v (useStep .host s) := by
  have hclean : fetchBad .host (useStep .host s) = .clean := rfl
  simp only [runOn, hex, hfetch, hclean, if_true, reduceCtorEq, if_false, fetchMend_clean _ _ hclean, hill, engineFault]

/-- An instruction that the host lacks is its exception (R162). -/
theorem runOn_host_of_legal (hill : illegalStored .host (useStep .host s) = none) :
    runOn .host av w f s = if av.host then f (useStep .host s) else hostRaise 1 w (useStep .host s) := by
  have hclean : fetchBad .host (useStep .host s) = .clean := rfl
  simp only [runOn, hex, hfetch, hclean, if_true, reduceCtorEq, if_false, fetchMend_clean _ _ hclean, hill, engineFault, Avail.has]

end

/-- Settles O23: an entry stores four control words and goes to the vector base; a fetch that fails, a word that is no instruction and an
instruction that the host lacks are exceptions at the pc. -/
theorem hostEntersExceptions : Obligations.HostEntersExceptions := by
  unfold Obligations.HostEntersExceptions
  refine ⟨?_, fun code tval s => ⟨rfl, fun a w av f hex hfetch => ?_, fun w av f v hex hfetch hill => ?_,
    fun w av f hex hfetch hill hav => ?_⟩⟩
  · rintro epc cause tval s t rfl
    have hcw := cwGet_hostEnter epc cause tval (s := s)
    have hstatus : cwGet (hostEnter epc cause tval s) 0x100 = statusEnter (cwGet s 0x100) := by rw [hcw, if_pos rfl]
    obtain ⟨hie, hpie, hmode, hpmode⟩ := wget_statusEnter (cwGet s 0x100)
    refine ⟨?_, ?_, ?_, ?_, ?_, ?_, ?_, ?_, ?_, fun n h0 h1 h2 h3 => ?_,
      (congrArg Core.g (coreOf_hostEnter epc cause tval s) :), ?_, ?_⟩
    · rw [hcw]; rfl
    · rw [hcw]; rfl
    · rw [hcw]; rfl
    · rw [hstatus, hpie]
    · rw [hstatus, hie]
    · rw [hstatus, hpmode]
    · rw [hstatus, hmode]
    · rw [hostPriv, hstatus, hmode]; rfl
    · rw [pcOf, coreOf_hostEnter]; rfl
    · rw [hcw, if_neg h0, if_neg h3, if_neg h2, if_neg h1]
    · simp only [hostEnter, hostCount, setCore, cwPut]
    · simp only [hostEnter, hostCount, setCore, cwPut]
  · exact runOn_host_of_fetchFault w f hex hfetch
  · exact runOn_host_of_illegal w f hex hfetch hill
  · rw [runOn_host_of_legal w f hex hfetch hill, hav]; rfl

/-! ### The protection unit (R187) -/

/-- Region `n` is enabled and holds an address (R187). -/
def regionHolds (s : State) (a n : Nat) : Prop :=
  wget (cwGet s (0x120 + 2 * n)) 3 3 = 1 ∧ wget (cwGet s (0x120 + 2 * n)) 31 12 * 4096 ≤ a ∧
    a ≤ wget (cwGet s (0x121 + 2 * n)) 31 12 * 4096 + 4095

theorem mpuRegion_eq_some_iff {s : State} {a n : Nat} :
    mpuRegion s a = some n ↔ n < 8 ∧ regionHolds s a n ∧ ∀ m, m < n → ¬ regionHolds s a m := by
  have hblock (m : Nat) : regionHolds s a m ↔ wget (cwGet s (0x120 + 2 * m)) 3 3 = 1 ∧
      wget (cwGet s (0x120 + 2 * m)) 31 12 ≤ a / 4096 ∧ a / 4096 ≤ wget (cwGet s (0x121 + 2 * m)) 31 12 := by
    rw [regionHolds, Nat.le_div_iff_mul_le (by decide), ← Nat.lt_succ_iff (n := wget _ _ _), Nat.div_lt_iff_lt_mul (by decide)]
    omega
  simp only [mpuRegion, List.find?_range_eq_some, hblock, Bool.and_eq_true, beq_iff_eq, decide_eq_true_eq, List.mem_range,
    Bool.not_eq_true', Bool.and_eq_false_imp, decide_eq_false_iff_not, not_and, and_imp, and_assoc, and_left_comm]

theorem mpuAllows_user_iff {s : State} {a kind : Nat} (h : hostPriv s = false) : mpuAllows s a kind = true ↔
    ∃ n, mpuRegion s a = some n ∧ wget (cwGet s (0x120 + 2 * n)) kind kind = 1 := by
  rw [mpuAllows, h, Bool.false_or]
  cases mpuRegion s a <;> simp

/-- Settles O24: the deciding region is the first that holds the address, and after reset none is enabled. -/
theorem protectionUnitDecides : Obligations.ProtectionUnitDecides := by
  unfold Obligations.ProtectionUnitDecides
  rintro s a kind holds rfl
  refine ⟨fun h => by rw [mpuAllows, h, Bool.true_or], fun h => ?_, fun t ht => ?_⟩
  · simp only [mpuAllows_user_iff h, mpuRegion_eq_some_iff, and_assoc, regionHolds]
  · have hreset (n : Nat) (hn : n ≠ 0x100) : cwGet t n = cwReset n := by
      simp [cwGet, ht, tabGet, tabFind, hn.symm]
    have huser : hostPriv t = false := by simp [hostPriv, cwGet, ht, tabGet, tabFind, wget]
    refine ⟨huser, Bool.eq_false_iff.mpr fun hallow => ?_⟩
    obtain ⟨n, hregion, -⟩ := (mpuAllows_user_iff huser).mp hallow
    obtain ⟨hn, ⟨hen, -⟩, -⟩ := mpuRegion_eq_some_iff.mp hregion
    rw [hreset _ (by omega), cwReset, if_neg (by omega), if_neg (by omega)] at hen
    exact absurd hen (by decide)

/-! ### Control words and system instructions (R168, R176, R182; that eret clears the two low bits of cw.epc is assumption log 38, that a
wfi that waits completes before an interrupt is taken log 42) -/

section
variable {e : Engine} {av : Avail} {d a : Fin 32} {n : BitVec 16} {s u v : State} {w m : Word} 

theorem cwInstr_reads {c : Word} (h : Runs e av s u) (hread : cwRead e n.toNat u = some (w, v))
    (hmay : e ≠ .host ∨ hostPriv u = true ∨ cwUser n.toNat false = true) :
    cwInstr e c av d n none s = advance e (setReg e d w v) := by
  have hperm : ¬ (e = .host ∧ hostPriv u = false ∧ cwUser n.toNat false = false) := by
    rintro ⟨h1, h2, h3⟩
    rw [h2, h3] at hmay
    simp_all
  rw [cwInstr, runOn_runs _ _ h]
  simp only [hread, if_neg hperm]

theorem cwInstr_writes {c : Word} {f : Word → Word → Word} (h : Runs e av s u) (hread : cwRead e n.toNat u = some (w, v))
    (hmask : cwMask e n.toNat = some m) (hmay : e ≠ .host ∨ hostPriv u = true ∨ cwUser n.toNat true = true) :
    cwInstr e c av d n (some (a, f)) s =
      advance e (setReg e d w (cwWrite e n.toNat ((w &&& ~~~m) ||| (f w (regOf u e a) &&& m)) u)) := by
  have hperm : ¬ (e = .host ∧ hostPriv u = false ∧ cwUser n.toNat true = false) := by
    rintro ⟨h1, h2, h3⟩
    rw [h2, h3] at hmay
    simp_all
  rw [cwInstr, runOn_runs _ _ h]
  simp only [hread, hmask, if_neg hperm]

end

theorem executes_of_runs {e : Engine} {av : Avail} {s u : State} (h : Runs e av s u) : executes s e = true := by
  have hex := h.1
  simp only [executable, Bool.and_eq_true] at hex
  obtain ⟨⟨⟨⟨hex, -⟩, -⟩, -⟩, -⟩ := hex
  exact hex

theorem exec_ecall_of_runs {s u : State} (h : Runs .host avHost s u) :
    exec (.ecall .host) s = .next (hostRaise (if hostPriv u then 12 else 11) 0 u) := congrArg Host.Outcome.next (runOn_runs _ _ h)

theorem exec_ebreak_shuttle_of_armed {n : Fin 16} {s u : State} (h : Runs (.shuttle n) avAll s u)
    (harmed : (coreOf u (.shuttle n)).armed = true) : exec (.ebreak (.shuttle n)) s = .next (shuttleFault n.val 10 u) :=
  congrArg Host.Outcome.next ((runOn_runs _ _ h).trans (if_pos harmed))

theorem exec_ebreak_of_armed {e : Engine} {s u : State} (h : Runs e avAll s u) (harmed : (coreOf u e).armed = true)
    (he : ∀ n, e ≠ .shuttle n) : exec (.ebreak e) s = .next (setCore e { coreOf u e with halted := true } u) := by
  cases e with
  | host => exact congrArg Host.Outcome.next ((runOn_runs _ _ h).trans (if_pos harmed))
  | shuttle n => exact absurd rfl (he n)
  | seq k => exact congrArg Host.Outcome.next ((runOn_runs _ _ h).trans (if_pos harmed))

theorem exec_eret_of_privileged {s u : State} (h : Runs .host avHost s u) (hpriv : hostPriv u = true) :
    exec (.eret .host) s = .next (hostReturn u) :=
  congrArg Host.Outcome.next ((runOn_runs _ _ h).trans (if_pos hpriv))

theorem exec_wfi_of_privileged {s u : State} (h : Runs .host avHost (wfiAgain s) u) (hpriv : hostPriv u = true) :
    exec (.wfi .host) s = .next (if (claimLine u).isSome then advance .host u else { u with cpu := { u.cpu with wfi := true } }) := by
  have hex : executes (wfiAgain s) .host = true := executes_of_runs h
  have hmode : ¬ hostPriv u = false := by rw [hpriv]; decide
  exact congrArg Host.Outcome.next ((if_pos hex).trans ((runOn_runs _ _ h).trans (if_neg hmode)))

theorem cwGet_hostReturn (n : Nat) (s : State) :
    cwGet (hostReturn s) n = if n = 0x100 then statusReturn (cwGet s 0x100) else cwGet s n := cwGet_cwPut n 0x100 _ s

theorem pcOf_hostReturn (s : State) : pcOf (hostReturn s) .host = cwGet s 0x101 &&& 0xFFFFFFFC := by
  rw [hostReturn, pcOf, coreOf_jump_self, cwGet_cwPut]; rfl

/-- An interrupt for the claimed line; a wfi that waits completes first (R176, R186). -/
theorem exec_hostInterrupt_of_claimed {s : State} {j : Nat} (hat : hostAtBoundary s = true) (hie : wget (cwGet s 0x100) 0 0 = 1)
    (hline : claimLine s = some j) {v : State} (hv : v = if s.cpu.wfi then advance .host (stir 2 s) else stir 2 s) :
    exec .hostInterrupt s = .next (hostEnter (pcOf v .host) (BitVec.ofNat 32 (0x80000000 + j)) 0 v) := by
  change execHostInterrupt s = _
  rw [execHostInterrupt, if_pos ⟨hat, hie⟩, hline, hv]

theorem exec_postedStoreBusError_of_posted {s : State} {a : Word} (hat : hostAtBoundary s = true) (hposted : s.cpu.posted = some a) :
    exec .postedStoreBusError s = .next (hostEnter (pcOf s .host) 7 a { stir 2 s with cpu := { s.cpu with posted := none } }) := by
  change execPostedStoreBusError s = _
  rw [execPostedStoreBusError, hposted]
  exact congrArg _ (if_pos hat)

/-- Settles O22, instruction by instruction, each by the permission that it tests. -/
theorem controlWordsAndSystemComplete : Obligations.ControlWordsAndSystemComplete := by
  unfold Obligations.ControlWordsAndSystemComplete
  refine ⟨fun e d n s u v w h hread hmay => congrArg Host.Outcome.next (cwInstr_reads h hread hmay), ?_,
    fun s u h => ⟨fun hp => ?_, fun hp => ?_⟩,
    fun e s u h harmed he => exec_ebreak_of_armed h harmed he,
    fun n s u h harmed => exec_ebreak_shuttle_of_armed h harmed,
    fun s u h hp => ⟨_, exec_eret_of_privileged h hp, pcOf_hostReturn u, ?_, ?_, rfl⟩,
    fun s u h hp => ⟨fun hl => ?_, fun hl => ?_⟩, ?_, ?_⟩
  · rintro e d a n s u v w m x h hread hmask hmay rfl
    exact ⟨congrArg Host.Outcome.next (cwInstr_writes h hread hmask hmay), congrArg Host.Outcome.next (cwInstr_writes h hread hmask hmay),
      congrArg Host.Outcome.next (cwInstr_writes h hread hmask hmay)⟩
  · rw [exec_ecall_of_runs h, hp]; rfl
  · rw [exec_ecall_of_runs h, hp]; rfl
  · rw [cwGet_hostReturn, if_pos rfl]; exact (wget_statusReturn _).2
  · rw [cwGet_hostReturn, if_pos rfl]; exact (wget_statusReturn _).1
  · rw [exec_wfi_of_privileged h hp, if_pos hl]
  · rw [exec_wfi_of_privileged h hp, hl]; rfl
  · rintro s u j hat rfl hie hline
    refine ⟨fun hw => ?_, fun hw => ?_⟩
    · exact exec_hostInterrupt_of_claimed hat hie hline (by rw [hw]; rfl)
    · rw [exec_hostInterrupt_of_claimed hat hie hline (v := advance .host (stir 2 s)) (by rw [hw]; rfl), pcOf_advance]
  · rintro s u a hat rfl hposted
    exact exec_postedStoreBusError_of_posted hat hposted

end Sys2Proof.Machine
end

section
/-! PROOFS. Loads and stores in the three profiles (06_frambeth_instruction_set, R166, R167, R175, R194, R208, R227; the load operand that
carries an ECC error is assumption log 157; a load from TICK waits for its edge by R381). -/

namespace Sys2Proof.Machine

/-- An instruction of every profile is one of the engine's own profile. -/
theorem runs_of_runs_avAll {e : Engine} {av : Avail} {s u : State} (h : Runs e avAll s u) (hav : av.has e = true) : Runs e av s u := by
  obtain ⟨hex, hu⟩ := h
  refine ⟨?_, hu⟩
  simp only [executable, Bool.and_eq_true] at hex ⊢
  exact ⟨hex.1, hav⟩

/-- The window of REC_WIN is none of TICK's (R36). -/
theorem inRecWin_of_tick {x : Nat} (h : region x = .block 9) : inRecWin x = false := by
  unfold region at h
  split_ifs at h
  have hblock : (x - 0x20000000) / 0x100000 = 9 := Region.block.inj h
  have hend : ¬ x < 0x20800900 := by omega
  rw [inRecWin, decide_eq_false hend, Bool.and_false]

/-! ### Loads of the host (R175, R227, R381) -/

section
variable {z : Size} {ext : Word → Word} {c : Ecc} {d : Fin 32} {x : Nat} {u t : State}

/-- What the ECC check finds on a load from warp memory changes the memory, not the value, unless it cannot be corrected (R227). -/
theorem hostEcc_of_correctable (hc : region x = .warp → c ≠ .uncorrectable) : hostEcc (if region x = .warp then c else .clean) x t =
    (t.hostBus.data, if region x = .warp ∧ c = .corrected then warpCorrected (x - 0x10000000) t else t) := by
  by_cases hw : region x = .warp
  · cases c with
    | clean => simp [hw, hostEcc]
    | corrected => simp [hw, hostEcc]
    | uncorrectable => exact absurd rfl (hc hw)
  · simp [hw, hostEcc]

theorem hostLoad_of_reached (halign : x % z.bytes = 0) (hmpu : mpuAllows u x 0 = true) (hrec : inRecWin x = false)
    (hwait : waitsBank .host false x u = false) (htick : z = .word → region x ≠ .block 9) (ht : t = busRead .host z x u)
    (herr : t.hostBus.err = none) (hc : region x = .warp → c ≠ .uncorrectable) : hostLoad z ext c d x u =
      advance .host (setReg .host d (ext t.hostBus.data)
        (if region x = .warp ∧ c = .corrected then warpCorrected (x - 0x10000000) t else t)) := by
  have htick' : ¬ (region x = .block 9 ∧ z = .word ∧ x % 4 = 0 ∧ busFault .host false u x = none) := fun h => htick h.2.1 h.1
  subst ht
  simp only [hostLoad, halign, hmpu, hrec, hwait, herr, ne_eq, not_true_eq_false, false_and, if_false, Bool.true_eq_false, Bool.false_and,
    Bool.false_eq_true, if_neg htick', Option.isSome_none, hostEcc_of_correctable hc]

theorem hostLoad_of_tick (halign : x % 4 = 0) (hmpu : mpuAllows u x 0 = true) (htick : region x = .block 9)
    (hfault : busFault .host false u x = none) : hostLoad .word ext c d x u = hostTickLoad ext d x u := by
  have hwait : waitsBank .host false x u = false := by simp only [waitsBank, htick]; rfl
  have hrec := inRecWin_of_tick htick
  simp only [hostLoad, Size.bytes, halign, hmpu, hrec, hwait, htick, hfault, ne_eq, not_true_eq_false, false_and, if_false,
    Bool.true_eq_false, Bool.false_and, Bool.false_eq_true, and_self, if_true]

theorem hostTickLoad_asks (h : u.cpu.await ≠ some x) :
    hostTickLoad ext d x u = { tickRead .host x u with cpu := { (tickRead .host x u).cpu with await := some x } } := if_neg h

theorem hostTickLoad_answered (h : u.cpu.await = some x) (hread : u.tick.reads.any (fun r => r.1 == .host) = false) :
    hostTickLoad ext d x u = advance .host (setReg .host d (ext u.hostBus.data) { u with cpu := { u.cpu with await := none } }) := by
  rw [hostTickLoad, if_pos h, hread]; rfl

end

/-! ### Stores of the host (R175, R185) -/

theorem hostStore_of_reached {z : Size} {x : Nat} {v : Word} {u : State} (halign : x % z.bytes = 0) (hmpu : mpuAllows u x 1 = true)
    (hwait : waitsBank .host true x u = false) (hup : islUp (busWrite .host z x v u) 2 = true) :
    hostStore z x v u = advance .host (busWrite .host z x v u) := by
  simp only [hostStore, halign, hmpu, hwait, hup, ne_eq, not_true_eq_false, false_and, if_false, Bool.true_eq_false, Bool.false_and,
    Bool.false_eq_true, if_true]

/-! ### Loads and stores of a shuttle (R194, R201, R208, R227) -/

section
variable {n : Fin 16} {z : Size} {ext : Word → Word} {c : Ecc} {d : Fin 32} {x : Nat} {v : Word} {u t : State}

theorem shuttleLoad_of_own {p : ShPlace} (halign : x % z.bytes = 0) (hplace : shPlace x = p) (hsome : p ≠ .none)
    (hown : p.isWarp = false) (hc : c.join (shBad u n.val p) = .clean) :
    shuttleLoad n z ext c d x u = advance (.shuttle n) (setReg (.shuttle n) d (ext (shLoad u n.val p z.bytes)) u) := by
  rw [shuttleLoad, if_neg (not_not.mpr halign), hplace]
  cases p with
  | none => exact absurd rfl hsome
  | warp o => cases hown
  | imem o => simp only [hc]
  | local_ o => simp only [hc]

theorem shuttleLoad_of_granted {o r : Nat} (halign : x % z.bytes = 0) (hplace : shPlace x = .warp o) (hr : r = 4 + n.val / 4)
    (hbusy : sluiceBusy u n.val = false) (hgrant : bankGrants (bankAsk (bankOf o) r (rouse 3 u)) (bankOf o) r = true)
    (ht : t = bankDone (bankOf o) r (bankAsk (bankOf o) r (rouse 3 u))) (hc : c.join (warpBad t o) = .clean) :
    shuttleLoad n z ext c d x u = advance (.shuttle n) (setReg (.shuttle n) d (ext (shLoad t n.val (.warp o) z.bytes)) t) := by
  subst hr ht
  rw [shuttleLoad, if_neg (not_not.mpr halign)]
  simp only [hplace, warpLoad, hbusy, hgrant, warpCheck, hc, Bool.false_eq_true, if_false, if_true]

theorem shuttleStore_of_local {o : Nat} (halign : x % z.bytes = 0) (hplace : shPlace x = .local_ o)
    (hstore : shStore n.val (shPlace x) z.bytes v u = some t) : shuttleStore n z x v u = advance (.shuttle n) t := by
  rw [shuttleStore, if_neg (not_not.mpr halign)]
  simp only [hstore]
  simp only [hplace, ShPlace.isWarp, Bool.false_and, Bool.false_eq_true, if_false]

theorem shuttleStore_of_warp {o : Nat} (halign : x % z.bytes = 0) (hplace : shPlace x = .warp o) (hpub : inPublished u o = false)
    (hfree : (shuttle u n.val).prov = true ∨ sluiceBusy u n.val = false) (hstore : shStore n.val (shPlace x) z.bytes v u = some t) :
    shuttleStore n z x v u = advance (.shuttle n) t := by
  have hgo : (!(shuttle u n.val).prov && sluiceBusy u n.val) = false := by rcases hfree with h | h <;> simp [h]
  rw [shuttleStore, if_neg (not_not.mpr halign)]
  simp only [hstore]
  simp only [hplace, ShPlace.isWarp, hpub, Bool.true_and, hgo, Bool.false_eq_true, if_false]

end

/-! ### Loads and stores of a sequencer (R167) -/

theorem seqWord_of_data {k x : Nat} (hlo : 0x10000 ≤ x) (hhi : x < 0x10800) (halign : x % 4 = 0) :
    seqWord k x = some (0x20320000 + 0x1000 * k + (x - 0x10000)) := if_pos ⟨hlo, hhi, halign⟩

theorem seqLoad_of_data {k : Fin 4} {d : Fin 32} {x : Nat} {u : State} (hlo : 0x10000 ≤ x) (hhi : x < 0x10800) (halign : x % 4 = 0) :
    seqLoad k d x u = advance (.seq k) (setReg (.seq k) d (rd u (0x20320000 + 0x1000 * k.val + (x - 0x10000))) u) := by
  simp only [seqLoad, seqWord_of_data hlo hhi halign]

theorem seqStore_of_data {k : Fin 4} {x : Nat} {v : Word} {u : State} (hlo : 0x10000 ≤ x) (hhi : x < 0x10800) (halign : x % 4 = 0) :
    seqStore k x v u = advance (.seq k) (wr u (0x20320000 + 0x1000 * k.val + (x - 0x10000)) v) := by
  simp only [seqStore, seqWord_of_data hlo hhi halign]

/-! ### The instructions -/

section
variable {av : Avail} {s u : State} {d a b : Fin 32} {i : BitVec 16} {c : Ecc} {z : Size} {ext : Word → Word} {op : Nat}

theorem load_host_answers {r : State} (h : Runs .host av s u) (hr : hostLoad z ext c d (regOf u .host a + i.signExtend 32).toNat u = r) :
    (.next (load .host av op z ext c d a i s) : Host.Outcome State Fault Refusal) = .next r := by
  rw [← hr]; exact congrArg _ (runOn_runs _ _ h)

theorem store_host_answers {r : State} (h : Runs .host av s u)
    (hr : hostStore z (regOf u .host a + i.signExtend 32).toNat (regOf u .host b) u = r) :
    (.next (store .host av op z a b i s) : Host.Outcome State Fault Refusal) = .next r := by
  rw [← hr]; exact congrArg _ (runOn_runs _ _ h)

theorem load_shuttle_answers {n : Fin 16} {r : State} (h : Runs (.shuttle n) av s u)
    (hr : shuttleLoad n z ext c d (regOf u (.shuttle n) a + i.signExtend 32).toNat u = r) :
    (.next (load (.shuttle n) av op z ext c d a i s) : Host.Outcome State Fault Refusal) = .next r := by
  rw [← hr]; exact congrArg _ (runOn_runs _ _ h)

theorem store_shuttle_answers {n : Fin 16} {r : State} (h : Runs (.shuttle n) av s u)
    (hr : shuttleStore n z (regOf u (.shuttle n) a + i.signExtend 32).toNat (regOf u (.shuttle n) b) u = r) :
    (.next (store (.shuttle n) av op z a b i s) : Host.Outcome State Fault Refusal) = .next r := by
  rw [← hr]; exact congrArg _ (runOn_runs _ _ h)

end

/-- Settles O21, profile by profile. -/
theorem loadsAndStoresComplete : Obligations.LoadsAndStoresComplete := by
  unfold Obligations.LoadsAndStoresComplete
  refine ⟨?_, ?_, ?_, ?_, ?_, ?_⟩
  · rintro d a i c s u x h rfl hmpu hrec hwait hc z t v halign htick ht herr rfl
    have hload {ext : Word → Word} := hostLoad_of_reached (ext := ext) (d := d) halign hmpu hrec hwait htick ht herr hc
    have hHS : Runs .host avHS s u := runs_of_runs_avAll h rfl
    refine ⟨?_, ?_, ?_⟩ <;> rintro rfl
    · exact ⟨load_host_answers hHS hload, load_host_answers hHS hload⟩
    · exact ⟨load_host_answers hHS hload, load_host_answers hHS hload⟩
    · exact load_host_answers h hload
  · rintro d a i c s u x h rfl hmpu htick halign hfault
    have hload {ext : Word → Word} := hostLoad_of_tick (ext := ext) (c := c) (d := d) halign hmpu htick hfault
    exact ⟨fun hnew => load_host_answers h (hload.trans (hostTickLoad_asks hnew)),
      fun hold hread => load_host_answers h (hload.trans (hostTickLoad_answered hold hread))⟩
  · rintro n d a i c s u v x r p h rfl hp hplace hr hwarp hown hv m w rfl halign
    have hHS : Runs (.shuttle n) avHS s u := runs_of_runs_avAll h rfl
    have hload {z : Size} {ext : Word → Word} (hm : m = z.bytes) :
        shuttleLoad n z ext c d (regOf u (.shuttle n) a + i.signExtend 32).toNat u =
          advance (.shuttle n) (setReg (.shuttle n) d (ext (shLoad v n.val p m)) v) := by
      subst hm
      cases p with
      | none => exact absurd rfl hplace
      | warp o =>
        obtain ⟨hbusy, hgrant, hclean⟩ := hwarp o rfl
        subst hv
        exact shuttleLoad_of_granted halign hp.symm hr hbusy hgrant rfl hclean
      | imem o | local_ o =>
        subst hv
        exact shuttleLoad_of_own halign hp.symm hplace rfl (hown rfl)
    exact ⟨fun hm => ⟨load_shuttle_answers hHS (hload hm), load_shuttle_answers hHS (hload hm)⟩,
      fun hm => ⟨load_shuttle_answers hHS (hload hm), load_shuttle_answers hHS (hload hm)⟩, fun hm => load_shuttle_answers h (hload hm)⟩
  · rintro a b i s u x v h rfl rfl hmpu hwait z t halign rfl hup
    have hstore := hostStore_of_reached halign hmpu hwait hup
    have hHS : Runs .host avHS s u := runs_of_runs_avAll h rfl
    refine ⟨?_, ?_, ?_⟩ <;> rintro rfl
    · exact store_host_answers hHS hstore
    · exact store_host_answers hHS hstore
    · exact store_host_answers h hstore
  · rintro n a b i s u x v p h rfl rfl rfl z t halign hcase
    have hHS : Runs (.shuttle n) avHS s u := runs_of_runs_avAll h rfl
    have hstore : shuttleStore n z (regOf u (.shuttle n) a + i.signExtend 32).toNat (regOf u (.shuttle n) b) u = advance (.shuttle n) t := by
      rcases hcase with ⟨o, hp, hcur, rfl⟩ | ⟨o, hp, hcur, hpub, hfree, rfl⟩ |
        ⟨o, e, hp, hcur, hpub, hfree, ht⟩ | ⟨o, e, hp, hcur, ht⟩
      · exact shuttleStore_of_local halign hp (by rw [hp, shStore]; simp only [hcur])
      · exact shuttleStore_of_warp halign hp hpub hfree (by rw [hp, shStore]; simp only [hcur])
      · exact shuttleStore_of_warp halign hp hpub hfree ht
      · exact shuttleStore_of_local halign hp ht
    refine ⟨?_, ?_, ?_⟩ <;> rintro rfl
    · exact store_shuttle_answers hHS hstore
    · exact store_shuttle_answers hHS hstore
    · exact store_shuttle_answers h hstore
  · rintro k d a b i c s u x h rfl hlo hhi halign
    refine ⟨congrArg Host.Outcome.next ((runOn_runs _ _ h).trans ?_), congrArg Host.Outcome.next ((runOn_runs _ _ h).trans ?_)⟩
    · exact seqLoad_of_data hlo hhi halign
    · exact seqStore_of_data hlo hhi halign

end Sys2Proof.Machine
end

section
/-! PROOFS. Shuttle instructions (06_frambeth_instruction_set, 07_the_loom, R190, R192, R193, R196, R201, R202, R301). -/

namespace Sys2Proof.Machine

/-- A shuttle instruction that a shuttle executes is performed for it. -/
theorem shuttleOp_answers {n : Fin 16} {s u r : State} {fn : Nat} {d a b : Fin 32} {f : Nat → State → State}
    (h : Runs (.shuttle n) avShuttle s u) (hr : f n.val u = r) :
    (.next (shuttleOp (.shuttle n) fn d a b f s) : Host.Outcome State Fault Refusal) = .next r := by
  rw [← hr]; exact congrArg _ (runOn_runs _ _ h)

/-! ### Gated instructions (R193) -/

/-- The state after a gated instruction with room for it: issued at once, or queued with its tag and pick (R193). -/
def afterGated (n : Fin 16) (op : GateOp) (u : State) : State :=
  let x := shuttle u n.val
  advance (.shuttle n) (if x.prov = false ∧ x.gate = [] then issueOp n.val op u
    else setShuttle n.val (Shuttle.count 0x2B 1 { x with gate := x.gate ++ [⟨op, x.tagNow, x.pick⟩] }) u)

theorem gatedOp_of_room {n : Fin 16} {u : State} (op : GateOp)
    (hroom : (shuttle u n.val).prov = false ∧ (shuttle u n.val).gate = [] ∨ (shuttle u n.val).gate.length < 16) :
    gatedOp (.shuttle n) n.val op u = afterGated n op u := by
  unfold gatedOp gated afterGated
  by_cases hnow : (shuttle u n.val).prov = false ∧ (shuttle u n.val).gate = []
  · simp [hnow]
  · have hlater : (shuttle u n.val).prov = true ∨ (shuttle u n.val).gate ≠ [] := by
      rw [← Bool.not_eq_false]; exact not_and_or.mp hnow
    have hlen : ¬ (shuttle u n.val).gate.length ≥ 16 := not_le.mpr (hroom.resolve_left hnow)
    simp only [if_neg hnow, if_pos hlater, if_neg hlen]

theorem queueOp_of_writer {n : Fin 16} {q : Nat} {u : State} (op : GateOp) (hsrc : fget u (QUEUE_CFG_WSRC q) = 0)
    (hsh : fget u (QUEUE_CFG_WSH q) = n.val) : queueOp (.shuttle n) n.val q op u = gatedOp (.shuttle n) n.val op u :=
  if_neg (not_or.mpr ⟨not_not.mpr hsrc, not_not.mpr hsh⟩)

/-! ### sget (R190, R201, R245) -/

/-- A slot that no evaluation uses is found (R201). -/
theorem freeSlot_of_free {x : Shuttle} {n id : Nat} (h : ∃ k, k < 8 ∧ k ∉ x.slots) :
    ∃ k, x.freeSlot n id = some k ∧ k < 8 ∧ k ∉ x.slots := by
  obtain ⟨k, hk, hfree⟩ := h
  let free := (List.range 8).filter (fun k => !x.slots.contains k)
  let mask := ((List.range 8).map (fun k => if x.slots.contains k then 2 ^ k else 0)).sum
  have hmem (j : Nat) : j ∈ free ↔ j < 8 ∧ j ∉ x.slots := by simp [free]
  have hpos : 0 < free.length := List.length_pos_of_mem ((hmem k).mpr ⟨hk, hfree⟩)
  have hidx : Config.pickSlot n mask id % free.length < free.length := Nat.mod_lt _ hpos
  exact ⟨_, List.getElem?_eq_getElem hidx, (hmem _).mp (List.getElem_mem hidx)⟩

section
variable {n : Fin 16} {d : Nat} {h : Held} {u v : State} (hv : v = skipDrops n.val (endEvaluation n.val u))
  (hnext : (heldOf v n.val).find? Held.waits = some h) (hpick : (recIsPick h.w0 && h.pick == rd v LOOM_PICKNUM && pickAwaits v) = false)
include hv hnext hpick

theorem sget_of_confirmed (hpend : recPend h.w0 = 0) (hevals : (shuttle v n.val).evals = []) :
    sget (.shuttle n) n.val d u = takeRecord (.shuttle n) n.val d h none v := by
  subst hv
  simp only [sget, hnext, hpick, hpend, hevals, Bool.false_eq_true, if_false, ne_eq, not_true_eq_false, or_self]

theorem sget_of_provisional {k : Nat} (hprov : recPend h.w0 ≠ 0 ∨ (shuttle v n.val).evals ≠ [])
    (hslot : (shuttle v n.val).freeSlot n.val h.id = some k) : sget (.shuttle n) n.val d u = takeRecord (.shuttle n) n.val d h (some k) v := by
  subst hv
  simp only [sget, hnext, hpick, Bool.false_eq_true, if_false, if_pos hprov, hslot]

end

@[simp] theorem Shuttle.setReg_cur (x : Shuttle) (n : Nat) (v : Word) : (x.setReg n v).cur = x.cur := by
  unfold Shuttle.setReg; split <;> rfl

@[simp] theorem Shuttle.setReg_pick (x : Shuttle) (n : Nat) (v : Word) : (x.setReg n v).pick = x.pick := by
  unfold Shuttle.setReg; split <;> rfl

@[simp] theorem Shuttle.setReg_stamp (x : Shuttle) (n : Nat) (v : Word) : (x.setReg n v).stamp = x.stamp := by
  unfold Shuttle.setReg; split <;> rfl

@[simp] theorem Shuttle.issue_cur (x : Shuttle) : x.issue.cur = x.cur := by
  unfold Shuttle.issue; split <;> rfl

@[simp] theorem Shuttle.issue_pick (x : Shuttle) : x.issue.pick = x.pick := by
  unfold Shuttle.issue; split <;> rfl

@[simp] theorem Shuttle.issue_stamp (x : Shuttle) : x.issue.stamp = x.stamp := by
  unfold Shuttle.issue; split <;> rfl

/-- A step of a shuttle's pc counts an instruction issued (R517). -/
theorem shuttle_advance (n : Fin 16) (s : State) : shuttle (advance (.shuttle n) s) n.val =
    Shuttle.issue { shuttle s n.val with core := (shuttle s n.val).core.setPc (pcOf s (.shuttle n) + 4) } := by
  simp only [advance, jump, countIssue, setCore, coreOf, shuttle_setShuttle_self]

theorem regs_advance_shuttle (n : Fin 16) (s : State) : (advance (.shuttle n) s).regs = s.regs := rfl

/-- A shuttle that evaluates a record which sget took (R190). -/
def Shuttle.evaluating (h : Held) (x : Shuttle) : Shuttle :=
  { x with
    cur := some h.id, pick := h.pick, stamp := h.w1
    lst := { x.lst with begun := false, worked := false, hook := none, outer := [], base := none, ret := none, words := none } }

/-- A shuttle with the record that sget took: four registers hold the record's two words (R202). -/
def withRecord (d : Nat) (h : Held) (x : Shuttle) : Shuttle :=
  ((((x.evaluating h).setReg d (h.w0.truncate 32)).setReg (d + 1) ((h.w0 >>> 32).truncate 32)).setReg (d + 2)
    (h.w1.truncate 32)).setReg (d + 3) ((h.w1 >>> 32).truncate 32)

theorem takeRecord_none (n : Fin 16) (d : Nat) (h : Held) (s : State) : takeRecord (.shuttle n) n.val d h none s =
    advance (.shuttle n) (setShuttle n.val (withRecord d h (shuttle s n.val))
      (heldSet n.val { h with taken := true, again := false, reject := none } s)) := rfl

theorem get_withRecord {d : Nat} (h : Held) (x : Shuttle) (hd : 1 ≤ d) :
    (withRecord d h x).core.get d = h.w0.truncate 32 ∧ (withRecord d h x).core.get (d + 1) = (h.w0 >>> 32).truncate 32 ∧
      (withRecord d h x).core.get (d + 2) = h.w1.truncate 32 ∧ (withRecord d h x).core.get (d + 3) = (h.w1 >>> 32).truncate 32 := by
  simp only [withRecord, Shuttle.setReg_core]
  refine ⟨?_, ?_, ?_, ?_⟩
  · rw [Core.get_set_ne _ _ (by omega), Core.get_set_ne _ _ (by omega), Core.get_set_ne _ _ (by omega), Core.get_set_self _ _ (by omega)]
  · rw [Core.get_set_ne _ _ (by omega), Core.get_set_ne _ _ (by omega), Core.get_set_self _ _ (by omega)]
  · rw [Core.get_set_ne _ _ (by omega), Core.get_set_self _ _ (by omega)]
  · rw [Core.get_set_self _ _ (by omega)]

theorem withRecord_pc (d : Nat) (h : Held) (x : Shuttle) : (withRecord d h x).core.pc = x.core.pc := by
  simp only [withRecord, Shuttle.setReg_core, Core.set_pc, Shuttle.evaluating]

/-- The shuttle after sget took a record that is not provisional: its pc has gone on (R202). -/
theorem shuttle_takeRecord (n : Fin 16) (d : Nat) (h : Held) (s : State) : shuttle (takeRecord (.shuttle n) n.val d h none s) n.val =
    Shuttle.issue { withRecord d h (shuttle s n.val) with
      core := (withRecord d h (shuttle s n.val)).core.setPc (pcOf s (.shuttle n) + 4) } := by
  have hpc (t : State) : pcOf (setShuttle n.val (withRecord d h (shuttle s n.val)) t) (.shuttle n) = pcOf s (.shuttle n) := by
    simp only [pcOf, coreOf, shuttle_setShuttle_self, withRecord_pc]
  rw [takeRecord_none, shuttle_advance, shuttle_setShuttle_self, hpc]

/-- Settles O29, instruction by instruction: each comes down to its operation, whose conditions are those given. -/
theorem shuttleInstructionsComplete : Obligations.ShuttleInstructionsComplete := by
  unfold Obligations.ShuttleInstructionsComplete
  refine ⟨?_, ?_, ?_, ?_, ?_⟩
  · rintro n a b s u x p v w g h rfl rfl rfl rfl hroom rfl
    have hgate (op : GateOp) := gatedOp_of_room op hroom
    refine ⟨fun hsrc hsh => ?_, fun hout => ?_, shuttleOp_answers h (hgate _), shuttleOp_answers h (hgate _), shuttleOp_answers h (hgate _),
      shuttleOp_answers h (hgate _)⟩
    · have hqueue (op : GateOp) := (queueOp_of_writer op hsrc hsh).trans (hgate op)
      exact ⟨shuttleOp_answers h (hqueue _), shuttleOp_answers h (hqueue _), shuttleOp_answers h (hqueue _)⟩
    · exact shuttleOp_answers h ((if_neg (not_le.mpr hout)).trans (hgate _))
  · rintro n d a q s u t w h hlo hhi rfl hhost hsh ht
    have hreader : ¬ (flag u (QUEUE_CFG_RHOST ((regOf u (.shuttle n) a).toNat % 32)) = true ∨
        fget u (QUEUE_CFG_RSH ((regOf u (.shuttle n) a).toNat % 32)) ≠ n.val) := by simp [hhost, hsh]
    refine shuttleOp_answers h ((if_neg (by omega)).trans ?_)
    rw [qrd, if_neg hreader, ← ht]
  · rintro n d h s u v hrun hlo hhi hv hnext hpick
    have hsget {r : State} (hr : sget (.shuttle n) n.val d.val u = r) : exec (.sget (.shuttle n) d) s = .next r :=
      shuttleOp_answers hrun ((if_neg (by omega)).trans hr)
    refine ⟨fun hpend hevals => hsget (sget_of_confirmed hv hnext hpick hpend hevals), fun hprov hfree => ?_⟩
    obtain ⟨k, hslot, hk, hunused⟩ := freeSlot_of_free (n := n.val) (id := h.id) hfree
    exact ⟨k, hk, hunused, hsget (sget_of_provisional hv hnext hpick hprov hslot)⟩
  · rintro n d h s t hlo hhi rfl
    obtain ⟨h0, h1, h2, h3⟩ := get_withRecord h (shuttle s n.val) hlo
    have hget (m : Nat) : (shuttle (takeRecord (.shuttle n) n.val d h none s) n.val).core.get m =
        (withRecord d h (shuttle s n.val)).core.get m := by
      rw [shuttle_takeRecord, Shuttle.issue_core]; rfl
    refine ⟨?_, ?_, ?_, (hget _).trans h0, (hget _).trans h1, (hget _).trans h2, (hget _).trans h3, ?_, ?_⟩
    · rw [shuttle_takeRecord, Shuttle.issue_cur]; simp only [withRecord, Shuttle.setReg_cur, Shuttle.evaluating]
    · rw [shuttle_takeRecord, Shuttle.issue_pick]; simp only [withRecord, Shuttle.setReg_pick, Shuttle.evaluating]
    · rw [shuttle_takeRecord, Shuttle.issue_stamp]; simp only [withRecord, Shuttle.setReg_stamp, Shuttle.evaluating]
    · rw [pcOf, coreOf, shuttle_takeRecord, Shuttle.issue_core]; rfl
    · rw [takeRecord_none, regs_advance_shuttle]; rfl
  · rintro n d a b s u h
    refine ⟨fun hfew => shuttleOp_answers h (if_neg (not_lt.mpr hfew)), ?_, ?_⟩
    · refine shuttleOp_answers h ?_
      simp only [ofBool, Bool.and_eq_true, bne_iff_ne]
    · rintro hb r rfl
      exact shuttleOp_answers h (if_neg (not_lt.mpr hb))

end Sys2Proof.Machine
end

section
/-! PROOFS. Shuttle commands, windows, the pick scheduler and warp memory (07_the_loom, R193, R209 to R216, R227, R228, R230, R235). -/

namespace Sys2Proof.Machine

/-! ### Commands that reach their block, and events of WARP -/

theorem access_answers {i : Initiator} {a : Nat} {s u r : State} {f : State → State} (h : Arrives i a s u) (hr : f u = r) :
    (.next (access i a f s) : Host.Outcome State Fault Refusal) = .next r := by
  rw [← hr]; exact congrArg _ (access_arrives f h)

theorem inWarp_answers {s u r : State} {f : State → State} (hup : warpUp s = true) (hu : u = stir 3 s) (hr : f u = r) :
    inWarp f s = .next r := by
  rw [← hr, hu]; exact congrArg _ (if_pos hup)

/-! ### Shuttle commands (R211 to R213) -/

section
variable {n : Nat} {v : Word} {u : State} (hbusy : flag u (LOOM_SHCMD_BUSY n) = false)
include hbusy

theorem shCmdWrite_start (hcode : wget v 1 0 = 1) : shCmdWrite n v u =
    if (fget u (LOOM_SHSTAT_STATE n) = 0 ∨ fget u (LOOM_SHSTAT_STATE n) = 2) ∧ flag u LOOM_STAT_FATAL = false then shuttleStart n u
    else setF u LOOM_EVT_CMDLOST := by
  simp [shCmdWrite, hbusy, hcode, shStopped, shFaulted]

theorem shCmdWrite_stop (hcode : wget v 1 0 = 2) : shCmdWrite n v u =
    if fget u (LOOM_SHSTAT_STATE n) = 1 then completePicks (stopShuttle n 0 u) else setF u LOOM_EVT_CMDLOST := by
  simp only [shCmdWrite, hbusy, hcode, Bool.false_eq_true, if_false]
  rfl

theorem shCmdWrite_loadlib (hcode : wget v 1 0 = 3) : shCmdWrite n v u =
    if fget u (LOOM_SHSTAT_STATE n) = 0 ∨ fget u (LOOM_SHSTAT_STATE n) = 2 then setShState n 3 (setF u (LOOM_SHCMD_BUSY n))
    else setF u LOOM_EVT_CMDLOST := by
  simp [shCmdWrite, hbusy, hcode, shStopped, shFaulted, shLoading]

end

/-! ### Windows (R209, R210) -/

/-- The place that a window offset names, from the number of its word (R210). -/
theorem windowPlace_eq (k : Nat) :
    windowPlace (0x40000 + 4 * k) = if k < 16384 then .imem (4 * k) else .local_ (4 * k - 0x10000) := by
  by_cases hk : k < 16384
  · rw [windowPlace, if_pos (by omega), if_pos hk, Nat.add_sub_cancel_left]
  · have hoff : 0x40000 + 4 * k - 0x50000 = 4 * k - 0x10000 := by omega
    rw [windowPlace, if_neg (by omega), if_neg hk, hoff]

section
variable {k n : Nat} {p : ShPlace} {u v : State} (hn : n = fget u LOOM_SHSEL_SEL) (hv : v = rouse (4 + n / 4) u) (hopen : windowOpen v = true)
  (hp : p = windowPlace (0x40000 + 4 * k))
include hn hv hopen hp

theorem windowRead_clean (hbad : shBad v n p = .clean) : windowRead (0x40000 + 4 * k) u = (shLoad v n p 4, v) := by
  subst hn hv hp
  simp only [windowRead, hopen, if_true, hbad]

theorem windowRead_corrected (hbad : shBad v n p = .corrected) :
    windowRead (0x40000 + 4 * k) u = (shLoad v n p 4, shCorrected n p v) := by
  subst hn hv hp
  simp only [windowRead, hopen, if_true, hbad]

theorem windowWrite_imem {t : State} (w : Word) (ht : t = shMend n p v) (hk : k < 16384) : windowWrite (0x40000 + 4 * k) w u =
    setShuttle n { shuttle t n with
      imem := (List.range 4).foldl (fun m j => tabSet (imemDefault t n) m (4 * k + j) (BitVec.ofNat 8 (w.toNat / 256 ^ j)))
        (shuttle t n).imem } t := by
  subst hn hv hp ht
  have hlow : 0x40000 + 4 * k < 0x50000 := by omega
  simp only [windowWrite, hopen, if_true, if_pos hlow, Nat.add_sub_cancel_left]

theorem windowWrite_dmem {t : State} (w : Word) (ht : t = shMend n p v) (hk : 16384 ≤ k) : windowWrite (0x40000 + 4 * k) w u =
    setShuttle n { shuttle t n with
      dmem := (List.range 4).foldl (fun m j => tabSet (fun _ => 0) m (4 * k - 0x10000 + j) (BitVec.ofNat 8 (w.toNat / 256 ^ j)))
        (shuttle t n).dmem } t := by
  subst hn hv hp ht
  have hhigh : ¬ 0x40000 + 4 * k < 0x50000 := by omega
  have hoff : 0x40000 + 4 * k - 0x50000 = 4 * k - 0x10000 := by omega
  simp only [windowWrite, hopen, if_true, if_neg hhigh, hoff]

end

theorem exec_shuttleWindowAccess_read {i : Initiator} {k : Fin 24576} {s u v : State} {w : Word} (h : Fetches i (0x20240000 + 4 * k.val) s u)
    (hread : windowRead (0x40000 + 4 * k.val) u = (w, v)) : exec (.shuttleWindowAccess i k none) s = .next (setReply i ⟨w, none⟩ v) := by
  have haddr : 0x20240000 + 4 * k.val = 0x20200000 + (0x40000 + 4 * k.val) := by omega
  rw [haddr] at h
  refine congrArg Host.Outcome.next ((accessRead_fetches _ h).trans ?_)
  rw [hread]

theorem exec_shuttleWindowAccess_write {i : Initiator} {k : Fin 24576} {s u v : State} {w : Word} (h : Arrives i (0x20240000 + 4 * k.val) s u)
    (hwrite : windowWrite (0x40000 + 4 * k.val) w u = v) : exec (.shuttleWindowAccess i k (some w)) s = .next v := by
  have haddr : 0x20240000 + 4 * k.val = 0x20200000 + (0x40000 + 4 * k.val) := by omega
  rw [haddr] at h
  exact access_answers h hwrite

/-! ### The pick scheduler (R215) -/

theorem loomCtlWrite_starts {u : State} (hoff : flag u LOOM_CTL_PICKEN = false) : loomCtlWrite 1 u =
    { setF u LOOM_CTL_PICKEN with loom := { (setF u LOOM_CTL_PICKEN).loom with
      pickus := fget (setF u LOOM_CTL_PICKEN) LOOM_PICKCFG_PICKUS, acc := fget (setF u LOOM_CTL_PICKEN) LOOM_PICKCFG_PICKUS * 512 - 15625,
      sched := !flag (setF u LOOM_CTL_PICKEN) LOOM_STAT_FATAL, first := true, mark := true } } := by
  have hlock : (wget (1 : Word) 31 31 == 1) = false := by decide
  have hen : (wget (1 : Word) 0 0 == 1) = true := by decide
  simp only [loomCtlWrite, hlock, hen, hoff]
  rfl

theorem loomCtlWrite_stops (u : State) : loomCtlWrite 0 u = clrF u LOOM_CTL_PICKEN := by
  have hlock : (wget (0 : Word) 31 31 == 1) = false := by decide
  have hen : (wget (0 : Word) 0 0 == 1) = false := by decide
  simp only [loomCtlWrite, hlock, hen]
  rfl

theorem pickCfgWrite_of_taken {v : Word} {u : State} (hlock : flag u LOOM_CTL_LOCK = false) (hlo : 250 ≤ wget v 13 0)
    (hhi : wget v 13 0 ≤ 10000) : pickCfgWrite v u = pairUpdate (fset u LOOM_PICKCFG_PICKUS (wget v 13 0)) := by
  have htaken : ¬ (flag u LOOM_CTL_LOCK = true ∨ wget v 13 0 < 250 ∨ wget v 13 0 > 10000) := by
    simp only [hlock, Bool.false_eq_true, false_or]; omega
  exact if_neg htaken

/-! ### Warp memory (R227, R228, R230) -/

theorem warpPut_eq {i : Initiator} {o : BitVec 21} {z : Size} {u : State} (v : Word) (halign : o.toNat % z.bytes = 0) :
    warpPut i (0x10000000 + o.toNat) z v u =
      if warpRefused u o.toNat then writeError i .other (0x10000000 + o.toNat) (setF u LOOM_EVT_HWREJ)
      else if bankBlocks i (0x10000000 + o.toNat) u then bankAsk (bankOf o.toNat) (bankIni i) u
      else warpStore o.toNat (bytesOf z.bytes v.toNat) (bankDone (bankOf o.toNat) (bankIni i) u) := by
  have halign' : ¬ (0x10000000 + o.toNat) % z.bytes ≠ 0 := by cases z <;> simp only [Size.bytes] at halign ⊢ <;> omega
  rw [warpPut, if_neg halign', Nat.add_sub_cancel_left, bankWait, Nat.add_sub_cancel_left]

theorem warpStore_clean {o : Nat} {l : List Byte} {t : State} (h : warpBad t o = .clean) :
    warpStore o l t = { t with loom := { t.loom with warp := putBytes t.loom.warp o l } } := by
  simp only [warpStore, warpCheck, h, Ecc.join, if_true]

/-- Settles O31, command by command, each by the case of its operation whose conditions are given. -/
theorem loomCommandsComplete : Obligations.LoomCommandsComplete := by
  unfold Obligations.LoomCommandsComplete
  refine ⟨fun i n s u h hbusy => ⟨fun hidle hlive => ?_, fun hrun => ?_, fun hidle => ?_, fun hrun => ⟨?_, ?_⟩, fun hstopped => ?_⟩,
    fun n s u hup hu hload => ?_, ?_, fun i s u h => ⟨fun hoff => ?_, ?_⟩, fun i v s u h => ⟨fun hlock hlo hhi => ?_, fun hout => ?_⟩,
    ?_, fun n g l s u hup hu hgate hconf => ?_, ?_, ?_, ?_⟩
  · exact access_answers h ((shCmdWrite_start hbusy (by decide)).trans (if_pos ⟨hidle, hlive⟩))
  · exact access_answers h ((shCmdWrite_stop hbusy (by decide)).trans (if_pos hrun))
  · exact access_answers h ((shCmdWrite_loadlib hbusy (by decide)).trans (if_pos hidle))
  · exact access_answers h ((shCmdWrite_start hbusy (by decide)).trans (if_neg (by omega)))
  · exact access_answers h ((shCmdWrite_loadlib hbusy (by decide)).trans (if_neg (by omega)))
  · exact access_answers h ((shCmdWrite_stop hbusy (by decide)).trans (if_neg (by omega)))
  · exact inWarp_answers hup hu (if_pos hload)
  · rintro i k w a n s u v p rfl hn hv hopen hp
    rw [← windowPlace_eq] at hp
    exact ⟨fun h hbad => exec_shuttleWindowAccess_read h (windowRead_clean hn hv hopen hp hbad),
      fun h hbad => exec_shuttleWindowAccess_read h (windowRead_corrected hn hv hopen hp hbad),
      fun t ht h hk => exec_shuttleWindowAccess_write h (windowWrite_dmem hn hv hopen hp w ht hk),
      fun t ht h hk => exec_shuttleWindowAccess_write h (windowWrite_imem hn hv hopen hp w ht hk)⟩
  · exact ⟨_, rfl, access_answers h (loomCtlWrite_starts hoff)⟩
  · exact access_answers h (loomCtlWrite_stops u)
  · exact access_answers h (pickCfgWrite_of_taken hlock hlo hhi)
  · exact access_answers h (if_pos (.inr hout))
  · rintro s v u hup hv hsched hdue rfl
    exact ⟨fun hen => inWarp_answers hup hv ((if_pos ⟨hsched, hdue⟩).trans (if_pos hen)),
      fun hen => inWarp_answers hup hv ((if_pos ⟨hsched, hdue⟩).trans (if_neg (Bool.eq_false_iff.mp hen)))⟩
  · refine inWarp_answers hup hu ?_
    simp only [gateIssue, hgate, hconf]
    rfl
  · rintro s u hup rfl hen
    exact inWarp_answers hup rfl (if_pos hen)
  · rintro i o z v s u h halign
    refine ⟨fun hallow hfree t ht hclean => ?_, fun hallow hblock => ?_, fun hrefused => ?_⟩
    · refine access_answers h ((warpPut_eq v halign).trans ?_)
      rw [hallow, hfree, ← ht, warpStore_clean hclean]; rfl
    · refine access_answers h ((warpPut_eq v halign).trans ?_)
      rw [hallow, hblock]; rfl
    · exact access_answers h ((warpPut_eq v halign).trans (if_pos hrefused))
  · rintro s u hup hclr rfl
    exact ⟨fun hrel => congrArg Host.Outcome.next ((if_pos ⟨hup, hclr⟩).trans (if_pos hrel)),
      fun hrel => congrArg Host.Outcome.next ((if_pos ⟨hup, hclr⟩).trans (if_neg (by rw [hrel]; decide)))⟩

end Sys2Proof.Machine
end

section
/-! PROOFS. Held records, notices, reports, the publication's end, stores of warp memory and the lockstep's mismatch (07_the_loom,
08_provisional_evaluation, R218, R223, R229, R233, R237, R248, R249, R251, R254, R258). -/

namespace Sys2Proof.Machine

/-! ### The grants of a quadrant's outgoing sluice and of the banks (R206, R227, R228) -/

/-- A state with other grants, ages and requests at the quadrants' outgoing sluices and the banks. -/
def setGrants (turn ages : Tab Nat) (reqs : Tab BankReq) (s : State) : State :=
  { s with loom := { s.loom with turn := turn, shAge := ages, bankReq := reqs } }

theorem bankAsk_eq_setGrants (b r : Nat) (s : State) : ∃ reqs, bankAsk b r s = setGrants s.loom.turn s.loom.shAge reqs s := by
  unfold bankAsk
  split
  · exact ⟨s.loom.bankReq, rfl⟩
  · exact ⟨_, rfl⟩

theorem quadNext_eq_setGrants (q : Nat) (s : State) : ∃ turn ages reqs, quadNext q s = setGrants turn ages reqs s := by
  unfold quadNext
  split
  · exact ⟨_, _, _, rfl⟩
  · dsimp only
    split
    · obtain ⟨reqs, hask⟩ := bankAsk_eq_setGrants _ _ _
      exact ⟨_, _, reqs, hask⟩
    · exact ⟨_, _, _, rfl⟩

/-- A grant that passes on leaves all but the grants, the ages and the requests (R34). -/
theorem quadTook_eq_setGrants (q : Nat) (s : State) : ∃ turn ages reqs, quadTook q s = setGrants turn ages reqs s := by
  obtain ⟨turn, ages, reqs, hnext⟩ := quadNext_eq_setGrants q { s with loom := { s.loom with turn := tabSet (fun _ => 0) s.loom.turn q 0 } }
  exact ⟨turn, ages, reqs, hnext⟩

/-! ### Stores of a shuttle in warp memory (R229) -/

/-- Warp memory after a confirmed store, which is no longer on its way. -/
def storeApplied (w : WarpStore) (s : State) : State :=
  { s with loom := { s.loom with
    wstores := s.loom.wstores.erase w, warp := putBytes s.loom.warp w.addr (bytesOf w.size w.data.toNat) } }

theorem warpApply_of_granted {n : Nat} {w : WarpStore} {s : State} (hstore : firstStore s n = some w) (hturn : quadTurn s (n / 4) = some n)
    (hgrant : bankGrants s (bankOf w.addr) (4 + n / 4) = true) (hclean : warpBad s w.addr = .clean) :
    ∃ turn ages reqs, warpApply n s = setGrants turn ages reqs (storeApplied w s) := by
  obtain ⟨turn, ages, reqs, htook⟩ := quadTook_eq_setGrants (n / 4)
    (setBankReq (bankOf w.addr) (4 + n / 4) {} { s with loom := { s.loom with wstores := s.loom.wstores.erase w } })
  refine ⟨turn, ages, reqs, ?_⟩
  simp only [warpApply, hstore, hturn, hgrant, and_self, if_true, htook]
  exact warpStore_clean hclean

/-! ### The end of a publication (R233) -/

theorem forN_invariant {p : State → Prop} {n : Nat} {f : Nat → State → State} {s : State} (h : p s) (hf : ∀ k t, p t → p (f k t)) :
    p (forN n f s) :=
  List.foldlRecOn (motive := p) _ _ h fun t ht k _ => hf k t ht

theorem warpCheck_of_clean {o : Nat} {s : State} (f : State → State) (h : warpBad s o = .clean) : warpCheck .clean o f s = f s := by
  simp only [warpCheck, h, Ecc.join, if_true]

/-- The copy engine works without a fault: the loom is not ended, warp memory holds no error, and no publication waits. -/
structure CopyRuns (x : SysSt) (s : State) : Prop where
  live : flag s LOOM_STAT_FATAL = false
  clean : s.loom.bad = []
  alone : s.loom.pubNext = none
  sys : s.sys = x

section
variable {x : SysSt} {s : State} (h : CopyRuns x s)
include h

theorem CopyRuns.warpBad (o : Nat) : warpBad s o = .clean := by
  simp only [Machine.warpBad, h.clean, tabGet, tabFind, Option.getD_none]

theorem CopyRuns.bankDone (b : Nat) : CopyRuns x (bankDone b 3 s) := ⟨h.live, h.clean, h.alone, h.sys⟩

/-- An entry that is stored in the other table leaves the copy engine at work. -/
theorem CopyRuns.stored (m : Tab Byte) (o : Nat) : CopyRuns x (setWarpBad o .clean { s with loom := { s.loom with warp := m } }) where
  live := h.live
  clean := by simp only [setWarpBad, h.clean]; rfl
  alone := h.alone
  sys := h.sys

/-- The marks of an entry that changed are kept apart from the loom's state. -/
theorem CopyRuns.marked (k j : Nat) : CopyRuns x (setF (setBit s (LOOM_ATCHG_CHG k) j) LOOM_EVT_ALMCHG) where
  live := by
    have hchg : LOOM_STAT ≠ LOOM_ATCHG k := by unfold LOOM_STAT LOOM_ATCHG; omega
    rw [flag, setF, fget_fset_addr _ _ _ _ (by decide), setBit, fget_fset_addr _ _ _ _ hchg]
    exact h.live
  clean := h.clean
  alone := h.alone
  sys := h.sys

theorem CopyRuns.publishEntry (work dst cur i : Nat) : CopyRuns x (publishEntry work dst cur i s) := by
  simp only [Machine.publishEntry, h.live, Bool.false_eq_true, if_false, warpCheck_of_clean _ (h.warpBad _)]
  split
  · exact h.stored _ _
  · exact (h.stored _ _).marked _ _

end

/-- The tables have changed places for pick `k`, where `cur` was the current one (R233). -/
def tablesChanged (k : Word) (cur : Nat) (s : State) : State :=
  let t := wr (fset s LOOM_ATSTAT_CUR (1 - cur)) LOOM_ATPICK k
  clrF (fset t LOOM_ATSTAT_SEQ (fget t LOOM_ATSTAT_SEQ + 1)) LOOM_ATSTAT_BUSY

theorem rd_tablesChanged (k : Word) (cur : Nat) (s : State) : rd (tablesChanged k cur s) LOOM_ATPICK = k := by
  simp only [tablesChanged, clrF]
  rw [rd_fset_ne _ _ _ _ (by decide), rd_fset_ne _ _ _ _ (by decide), rd_wr_self]

theorem flag_tablesChanged (k : Word) (cur : Nat) (s : State) : flag (tablesChanged k cur s) LOOM_ATSTAT_BUSY = false :=
  flag_clrF _ _ rfl (by decide)

/-- The state after the publication of pick `k`, once its entries are copied and no other publication waits. -/
def published (k : Word) (cur : Nat) (s : State) : State :=
  { tablesChanged k cur s with loom := { (tablesChanged k cur s).loom with pub := none, pubNext := none } }

theorem published_regs (k : Word) (cur : Nat) (s : State) : (published k cur s).regs = (tablesChanged k cur s).regs := rfl

/-- The accesses of the copy engine at the banks are over (R228). -/
def banksFreed (cfg : Word) (s : State) : State := forN (min 8 (wget cfg 12 0)) (fun b => bankDone b 3) s

/-- Every entry of the working table is copied and compared, where `cur` is the current table (R233). -/
def tableCopied (cfg : Word) (cur : Nat) (s : State) : State :=
  let base := wget cfg 21 16 * 0x8000
  forN (wget cfg 12 0) (publishEntry base (base + 0x8000 * (2 - cur)) (base + 0x8000 * (1 + cur))) s

theorem CopyRuns.banksFreed {x : SysSt} {s : State} (h : CopyRuns x s) (cfg : Word) : CopyRuns x (banksFreed cfg s) :=
  forN_invariant h fun b _ ht => ht.bankDone b

theorem CopyRuns.tableCopied {x : SysSt} {s : State} (h : CopyRuns x s) (cfg : Word) (cur : Nat) : CopyRuns x (tableCopied cfg cur s) :=
  forN_invariant h fun i _ ht => ht.publishEntry _ _ _ i

theorem publicationDone_of_granted {k cfg : Word} {s : State} (hpub : s.loom.pub = some (k, cfg)) (h : CopyRuns s.sys s)
    (hgrant : ∀ b, b < 8 → bankGrants s b 3 = true) :
    ∃ cur t, CopyRuns s.sys t ∧ publicationDone s = published k cur t := by
  have hall : (List.range (min 8 (wget cfg 12 0))).all (fun b => bankGrants s b 3) = true :=
    List.all_eq_true.mpr fun b hb => hgrant b (lt_of_lt_of_le (List.mem_range.mp hb) (min_le_left _ _))
  have hcopied := (h.banksFreed cfg).tableCopied cfg (fget (banksFreed cfg s) LOOM_ATSTAT_CUR)
  refine ⟨fget (banksFreed cfg s) LOOM_ATSTAT_CUR, _, hcopied, ?_⟩
  unfold publicationDone
  rw [hpub]
  dsimp only
  rw [if_neg (by rw [h.live, hall]; decide), if_neg (by rw [Bool.not_eq_true]; exact hcopied.live)]
  have halone := hcopied.alone
  dsimp only [tableCopied, banksFreed] at halone
  simp only [fset_loom, wr_loom, clrF_loom]
  rw [halone]
  rfl

/-! ### Reports (R223) -/

/-- A shuttle's report of pick `k` taken down. -/
def reported (n : Nat) (k : Word) (s : State) : State :=
  { wr s (LOOM_SHDONE n) k with loom := { s.loom with rep := tabSet (fun _ => 0) s.loom.rep n k } }

theorem pickReport_of_new {n : Nat} {k : Word} {s : State} (hk : k = reportable s n) (hrec : receives s n = true)
    (hlive : flag s LOOM_STAT_FATAL = false) (hissued : s.loom.issued = []) (hstores : s.loom.wstores = [])
    (hnew : 0 < (k - repOf s n).toInt) : pickReport n s = completePicks (reported n k s) := by
  subst hk
  refine if_pos ⟨hrec, hlive, ?_, ?_, hnew⟩
  · rw [hissued]; rfl
  · rw [hstores]; rfl

/-! ### The lockstep's mismatch (R254, R258) -/

theorem lockstepMismatch_of_armed {s : State} (hhost : islUp s 2 = true) (harmed : (rvUp s && rvState s == 1) = true) :
    lockstepMismatch s = { s with rvTrig := s.rvTrig ++ [.lockstep], sys := { s.sys with lockWait := true } } := by
  have hup : rvUp s = true := (Bool.and_eq_true_iff.mp harmed).1
  refine (if_pos hhost).trans ((if_pos harmed).trans ?_)
  rw [onlyIf, if_pos hup]

theorem lockstepMismatch_of_down {s : State} (hhost : islUp s 2 = true) (hdown : rvUp s = false) :
    lockstepMismatch s = lockReset { s with sys := { s.sys with lockWait := true } } := by
  have hunarmed : ¬ (rvUp s && rvState s == 1) = true := by rw [hdown, Bool.false_and]; exact Bool.false_ne_true
  refine (if_pos hhost).trans ((if_neg hunarmed).trans ?_)
  rw [onlyIf, if_neg (Bool.eq_false_iff.mp hdown)]

/-- Settles O32, command by command, each by the case of its operation whose conditions are given. -/
theorem heldRecordsAndNoticesProceed : Obligations.HeldRecordsAndNoticesProceed := by
  unfold Obligations.HeldRecordsAndNoticesProceed
  refine ⟨fun s u hup hu => ⟨fun r l hout hrepl => ?_, fun w0 w1 l hout => ?_⟩,
    fun s u hup hu => ⟨fun r l hout => ?_, fun r l hout hrepl => ?_, fun n w l hagree => ?_⟩,
    fun n id l s => ⟨fun hnotice => ?_, fun hnotice => ?_⟩, fun n h s u hup hu hdue => ?_,
    fun n k s u hup hu hk hrec hlive hissued hstores hnew => ?_, fun k cfg s u hup hu hpub halone hlive hgrant hbad => ?_,
    fun n w s u hup hu hstore hturn hgrant hclean => ?_, fun s hhost => ⟨fun harmed => ?_, fun hdown => ?_⟩⟩
  · change execRecordAccept .afe s = _
    refine inWarp_answers hup hu ?_
    simp only [hout, hrepl, Bool.false_eq_true, if_false]
  · change execRecordAccept .diol s = _
    refine inWarp_answers hup hu ?_
    simp only [hout]
  · change execClearanceRecord s = _
    refine inWarp_answers hup hu ?_
    simp only [hout]
  · change execReplacementRecord s = _
    refine inWarp_answers hup hu ?_
    simp only [hout, hrepl, if_true]
  · change execDupAgreement s = _
    refine inWarp_answers hup hu ?_
    simp only [hagree, setSelv]
  · refine congrArg Host.Outcome.next ?_
    simp only [hnotice]
  · refine congrArg Host.Outcome.next ?_
    simp only [hnotice]
  · refine inWarp_answers hup hu ?_
    simp only [resolveDue, hdue]
  · refine ⟨reported n.val k u, inWarp_answers hup hu (pickReport_of_new hk hrec hlive hissued hstores hnew), ?_, ?_, rfl⟩
    · exact rd_wr_self _ _ _
    · exact tabGet_set_self _ _ _ _
  · obtain ⟨cur, t, ht, hdone⟩ := publicationDone_of_granted hpub ⟨hlive, hbad, halone, rfl⟩ hgrant
    exact ⟨published k cur t, inWarp_answers hup hu hdone, rfl,
      (rd_of_regs _ _ _ (published_regs _ _ _)).trans (rd_tablesChanged _ _ _),
      (flag_of_regs _ _ _ (published_regs _ _ _)).trans (flag_tablesChanged _ _ _), ht.sys⟩
  · obtain ⟨turn, ages, reqs, happly⟩ := warpApply_of_granted hstore hturn hgrant hclean
    exact ⟨_, inWarp_answers hup hu happly, rfl, rfl, rfl⟩
  · exact congrArg Host.Outcome.next (lockstepMismatch_of_armed hhost harmed)
  · exact congrArg Host.Outcome.next (lockstepMismatch_of_down hhost hdown)

end Sys2Proof.Machine
end

section
/-! PROOFS. The egress of WARP (09_alarm_patterns_and_duty_call, R206, R291 to R295). -/

namespace Sys2Proof.Machine

/-! ### The paths -/

@[simp] theorem egPath_setEgPath_self (p : Nat) (x : EgPath) (s : State) : egPath (setEgPath p x s) p = x := tabGet_set_self _ _ _ _

theorem egPath_setEgPath_ne {p q : Nat} (x : EgPath) (s : State) (h : q ≠ p) : egPath (setEgPath p x s) q = egPath s q :=
  tabGet_set_ne _ _ _ _ _ h

/-! ### Output commands (R292, R294) -/

/-- The outputs' shadow with one output set or cleared. -/
def outsAfter (o : Nat) (on : Bool) (m : Nat) : Nat := m - (if m.testBit o then 2 ^ o else 0) + (if on then 2 ^ o else 0)

theorem testBit_outsAfter (o : Nat) (on : Bool) (m : Nat) : (outsAfter o on m).testBit o = on := by
  have hclear : (m - (if m.testBit o then 2 ^ o else 0)).testBit o = false := by
    cases hbit : m.testBit o with
    | false => exact hbit
    | true =>
      have hflip := Nat.testBit_two_pow_add_eq (m - 2 ^ o) o
      rw [Nat.add_sub_cancel' (Nat.ge_two_pow_of_testBit hbit), hbit] at hflip
      simpa using hflip.symm
  cases on with
  | false => exact hclear
  | true =>
    rw [outsAfter, if_pos rfl, Nat.add_comm, Nat.testBit_two_pow_add_eq, hclear]
    rfl

theorem egOut_of_empty {s : State} (o : Nat) (on : Bool) (h : (egPath s 3).wait = []) :
    egOut o on s = egPlace 3 (.out o on) .out { s with loom := { s.loom with outsh := outsAfter o on s.loom.outsh } } := by
  refine if_neg ?_
  change ¬ ((egPath s 3).wait.any _ = true)
  rw [h]
  exact Bool.false_ne_true

/-! ### Acceptance (R206) -/

/-- The state without an issued operation, whose quadrant's sluice is granted on. -/
def leftSluice (n : Nat) (p : Nat × GateOp) (s : State) : State :=
  quadTook (n / 4) { s with loom := { s.loom with issued := s.loom.issued.erase p } }

theorem leftSluice_eq_setGrants (n : Nat) (p : Nat × GateOp) (s : State) : ∃ turn ages reqs,
    leftSluice n p s = setGrants turn ages reqs { s with loom := { s.loom with issued := s.loom.issued.erase p } } :=
  quadTook_eq_setGrants _ _

theorem egressAccept_of_turn {n : Nat} {p : Nat × GateOp} {s : State} (hop : s.loom.issued.find? (fun p => p.1 == n) = some p)
    (hturn : quadTurn s (n / 4) = some n) : egressAccept n s = egAccept p.2 (leftSluice n p s) := by
  simp only [egressAccept, hop, hturn, if_true, leftSluice]

theorem egressAccept_of_idle {n : Nat} {s : State} (hidle : s.loom.issued.find? (fun p => p.1 == n) = none) : egressAccept n s = s := by
  simp only [egressAccept, hidle]

theorem egressAccept_of_wait {n : Nat} {s : State} (hwait : quadTurn s (n / 4) ≠ some n) : egressAccept n s = s := by
  unfold egressAccept
  split
  · exact if_neg hwait
  · rfl

theorem exec_egressAccept {n : Fin 16} {sub : BitVec 16} {s u r : State} (hup : islUp s 3 = true) (hu : u = atSub 3 sub s)
    (hr : egressAccept n.val u = r) : exec (.egressAccept ⟨n, sub⟩) s = .next r := by
  rw [← hr, hu]; exact congrArg Host.Outcome.next (if_pos hup)

/-! ### Sending (R292, R293) -/

theorem egressSend_of_next {p : Nat} {x : EgEnt} {s : State} (hnext : egNext (egPath s p).wait = some x) : egressSend p s =
    if ((egPath s p).sent.map (fun y => egWords p y.item)).sum < 3
      then setEgPath p { egPath s p with wait := (egPath s p).wait.erase x, sent := (egPath s p).sent ++ [x] } s else s := by
  simp only [egressSend, hnext, egRoom, decide_eq_true_eq]

theorem exec_egressSend {p : Fin 4} {s r : State} (hup : islUp s 3 = true) (hr : egressSend p.val s = r) :
    exec (.egressSend p) s = .next r := by
  rw [← hr]; exact congrArg Host.Outcome.next (if_pos hup)

/-- Settles O33: an operation that is accepted leaves its quadrant's sluice for its paths, and a path that sends changes alone. -/
theorem egressPathsProceed : Obligations.EgressPathsProceed := by
  unfold Obligations.EgressPathsProceed
  refine ⟨fun n sub s u hup hu => ⟨fun o on hop hturn hempty => ?_, fun p hop hturn => ?_, fun hidle => ?_, fun hwait => ?_⟩,
    fun p x s hup hnext => ⟨fun hroom => ?_, fun hfull => ?_⟩, fun p x c s hfits => if_pos hfits⟩
  · obtain ⟨turn, ages, reqs, hleft⟩ := leftSluice_eq_setGrants n.val (n.val, .dout o on) u
    refine ⟨_, exec_egressAccept hup hu ((egressAccept_of_turn hop hturn).trans (egOut_of_empty o on ?_)), ?_⟩
    · rw [hleft]; exact hempty
    · rw [hleft]
      refine ⟨rfl, ?_, ?_, testBit_outsAfter _ _ _, rfl⟩
      · rw [egPlace, egPath_setEgPath_self]
        exact congrArg (· ++ [_]) hempty
      · rw [egPlace, egPath_setEgPath_self]; rfl
  · obtain ⟨turn, ages, reqs, hleft⟩ := leftSluice_eq_setGrants n.val p u
    exact ⟨leftSluice n.val p u, _, exec_egressAccept hup hu (egressAccept_of_turn hop hturn), rfl, by rw [hleft]; rfl, by rw [hleft]; rfl,
      by rw [hleft]; rfl⟩
  · exact exec_egressAccept hup hu (egressAccept_of_idle hidle)
  · exact exec_egressAccept hup hu (egressAccept_of_wait hwait)
  · refine ⟨_, exec_egressSend hup ((egressSend_of_next hnext).trans (if_pos hroom)), ?_⟩
    rw [egPath_setEgPath_self]
    exact ⟨rfl, rfl, rfl, fun q hq => egPath_setEgPath_ne _ _ hq, rfl⟩
  · exact exec_egressSend hup ((egressSend_of_next hnext).trans (if_neg (not_lt.mpr hfull)))

end Sys2Proof.Machine
end

section
/-! PROOFS. The stock library at its records: a part of a pick record's work, and the work of a whole record (09_alarm_patterns_and_duty_call, R264,
R268, R270, R279, R281 to R283, R285, R288 to R290). Parts may be done alone, before the rest of their pick record's work (log 53, DEDUCED); a step
that must wait waits as a whole (log 54, DEDUCED), so a part is settled where it answers a state. -/

namespace Sys2Proof.Machine

/-! ### A part of a pick record's work (R264) -/

/-- The library of a shuttle stands at a pick record and awaits no hook. -/
structure AtPick (s : State) (n : Nat) : Prop where
  ready : libReady s n = true
  pick : (libRec s n).pick = true
  noHook : (libSt s n).hook = none

theorem LibStep.when_of_true {c : Bool} (f : LibStep) (s : State) (hc : c = true) : LibStep.when c f s = f s := if_pos hc

theorem libPart_of_done {n : Nat} {f : LibRec → LibStep} {s t : State} (hat : AtPick s n)
    (hdone : f (libRec s n) (libBegin n s) = some t) : libPart n f s = t := by
  have hhook : (libSt s n).hook.isNone = true := by rw [hat.noHook]; rfl
  refine (if_pos ⟨hat.ready, hat.pick, hhook⟩).trans ?_
  rw [hdone, Option.getD_some]

/-- A part that only the duty shuttle does, or only where something is due. -/
theorem libPart_when_of_done {n : Nat} {c : State → Bool} {f : LibRec → State → LibStep} {s t : State} (hat : AtPick s n)
    (hc : c (libBegin n s) = true) (hdone : f (libRec s n) (libBegin n s) (libBegin n s) = some t) :
    libPart n (fun r u => LibStep.when (c u) (f r u) u) s = t :=
  libPart_of_done hat ((LibStep.when_of_true _ _ hc).trans hdone)

theorem blkPart_of_owned {n d : Nat} {f : List Word → LibRec → LibStep} {s t : State} (hat : AtPick s n)
    (howned : (ownDescs (libBegin n s) n).contains d = true)
    (hdone : f (libDesc (libBegin n s) n d) (libRec s n) (libBegin n s) = some t) : blkPart n d f s = t :=
  libPart_when_of_done (f := fun r u => f (libDesc u n d) r) hat howned hdone

/-! ### The command ring (R283) -/

/-- TAIL has advanced past one more entry. -/
def tailAdvanced (n : Nat) (s : State) : State :=
  setLib n { libSt s n with tail := (libSt s n).tail + 1, cmds := (libSt s n).cmds + 1 } s

theorem libCommand_of_next {n : Nat} {e arg : Word} {s : State} (r : LibRec) (hnext : nextCommand s n = some (e, arg)) :
    libCommand n (some (wget e 31 24)) r s = applyCommand n e arg r (tailAdvanced n s) := by
  simp only [libCommand, hnext, or_true, if_true, tailAdvanced]

theorem libPart_ring {n op : Nat} {e arg : Word} {s t : State} (hat : AtPick s n) (hnext : nextCommand (libBegin n s) n = some (e, arg))
    (hdone : applyCommand n e arg (libRec s n) (tailAdvanced n (libBegin n s)) = some t) (hop : wget e 31 24 = op) :
    libPart n (libCommand n (some op)) s = t := by
  subst hop
  exact libPart_of_done hat ((libCommand_of_next _ hnext).trans hdone)

/-! ### Delays and shelving (R279, R282) -/

theorem delayEnd_of_due {n d : Nat} {k : Word} {s : State} (dw : List Word) (r : LibRec) (hdly : (libBlk s n d).dly = some k)
    (hrun : (libBlk s n d).held = false) (hdue : 0 ≤ ((shuttle s n).pick - k).toInt) :
    delayEnd n d dw r (some (libBlk s n d).c) s = libNext n d dw r (setBlk n d { libBlk s n d with a := (libBlk s n d).c, dly := none } s) := by
  simp only [delayEnd, hdly, hrun]
  exact if_pos ⟨rfl, hdue, Or.inr trivial⟩

theorem shelfEnd_of_due {n d : Nat} {s : State} (dw : List Word) (r : LibRec) (hdue : 0 ≤ ((shuttle s n).pick - (libBlk s n d).shelf).toInt) :
    shelfEnd n d dw r s = unshelve n d dw r s := if_pos hdue

/-! ### Whole records (R264, R270) -/

theorem libStep_of_dispatch {n : Nat} {ks : List Nat} {f : LibRec → State → State} {s : State} (hready : libReady s n = true)
    (hdispatch : libRoutine s n = none) : libStep n ks (libRec s n).pick f s = f (libRec s n) s := by
  simp only [libStep, hdispatch, hready, Bool.true_eq_false, ne_eq, not_true, or_false, if_false]

/-- A record that does not come from a queue is evaluated along the chain of its source. -/
theorem evalRecord_of_source {n : Nat} {r : LibRec} {s : State} (hpick : r.pick = false) (hqueue : lget r.w0 63 62 ≠ 3) :
    evalRecord n r s = (runChain n ((recSrc r.w0).getD 0) r s).elim s (libWorked n) := by
  simp only [evalRecord, hpick, hqueue, false_and, if_false, Bool.false_eq_true, false_imp_iff, implies_true]
  cases runChain n ((recSrc r.w0).getD 0) r s <;> rfl

theorem pickWork_of_done {n : Nat} {r : LibRec} {s t u : State} (hfirst : (libSt s n).hook = none)
    (hchain : (pickFirst n r (libBegin n s)).bind (runChain n 144 r) = some t) (hhook : (libSt t n).hook = none)
    (hrest : LibStep.then_ (dutyWork n r) (statusWork n) t = some u) : pickWork n r s = libWorked n u := by
  simp only [pickWork, hfirst, Option.isSome_none, Bool.false_eq_true, if_false, hchain, Option.bind_some, hhook, hrest]

/-- Settles O34: a part answers what its step answers, and a whole record what its chain and the work behind it answer. -/
theorem libraryWorkProceeds : Obligations.LibraryWorkProceeds := by
  unfold Obligations.LibraryWorkProceeds
  refine ⟨?ring, ?blocks, ?duty, ?records⟩
  case ring =>
    rintro n e arg s _ t hready hpick hhook rfl hnext hdone
    have hring : ∀ {op}, wget e 31 24 = op →
        (.next (libPart n.val (libCommand n.val (some op)) s) : Host.Outcome State Fault Refusal) = .next t :=
      fun hop => congrArg Host.Outcome.next (libPart_ring ⟨hready, hpick, hhook⟩ hnext hdone hop)
    exact ⟨hring, hring, hring, hring, hring, hring, hring, hring, hring⟩
  case blocks =>
    rintro n d s _ t hready hpick hhook rfl howned
    have hat : AtPick s n.val := ⟨hready, hpick, hhook⟩
    refine ⟨fun k hdly hrun hdue hdone => ?_, fun hdone => ?_, fun hdue hdone => ?_⟩
    · have hdelay := (delayEnd_of_due _ _ hdly hrun hdue).trans hdone
      exact ⟨fun hc => congrArg Host.Outcome.next (blkPart_of_owned hat howned (hc ▸ hdelay)),
        fun hc => congrArg Host.Outcome.next (blkPart_of_owned hat howned (hc ▸ hdelay))⟩
    · exact congrArg Host.Outcome.next (blkPart_of_owned hat howned hdone)
    · exact congrArg Host.Outcome.next (blkPart_of_owned hat howned ((shelfEnd_of_due _ _ hdue).trans hdone))
  case duty =>
    rintro n s _ t hready hpick hhook rfl hduty
    have hat : AtPick s n.val := ⟨hready, hpick, hhook⟩
    refine ⟨fun hesc hsum hdone => ?_, fun _ hdone => ?_, fun _ hdone => ?_⟩
    · have hdue : (isDuty (libBegin n.val s) n.val && escalates (libBegin n.val s) n.val && statusSum (libBegin n.val s) n.val 0 15 0 != 0) = true := by
        rw [hduty, hesc, Bool.true_and, Bool.true_and, bne_iff_ne]; exact hsum
      exact congrArg Host.Outcome.next (libPart_when_of_done hat hdue hdone)
    · exact congrArg Host.Outcome.next (libPart_when_of_done hat hduty hdone)
    · exact congrArg Host.Outcome.next (libPart_when_of_done hat hduty hdone)
  case records =>
    intro n s hready hdispatch
    refine ⟨fun hpick hqueue => ?_, fun hpick hhook t u hchain hawaits hrest => ?_⟩
    · have heval : libEvaluate n.val s = (runChain n.val ((recSrc (libRec s n.val).w0).getD 0) (libRec s n.val) s).elim s (libWorked n.val) := by
        rw [← evalRecord_of_source hpick hqueue, libEvaluate, ← hpick, libStep_of_dispatch hready hdispatch]
      exact ⟨fun t hchain => congrArg Host.Outcome.next (heval.trans (by rw [hchain]; rfl)),
        fun hchain => congrArg Host.Outcome.next (heval.trans (by rw [hchain]; rfl))⟩
    · have hwork : libPick n.val s = pickWork n.val (libRec s n.val) s := by
        rw [libPick, ← hpick, libStep_of_dispatch hready hdispatch]
      exact congrArg Host.Outcome.next (hwork.trans (pickWork_of_done hhook hchain hawaits hrest))

end Sys2Proof.Machine
end

section
/-! PROOFS. The queue fabric: configuration, writes, commits, writes of VIB and COMMS, visibility, takes, flush and disable (10_queue_fabric, R300 to
R311). -/

namespace Sys2Proof.Machine

/-! ### The queues' own state -/

@[simp] theorem que_setQue_self (q : Nat) (x : Queue) (s : State) : que (setQue q x s) q = x := tabGet_set_self _ _ _ _

theorem que_setQue_ne {q r : Nat} (x : Queue) (s : State) (h : r ≠ q) : que (setQue q x s) r = que s r := tabGet_set_ne _ _ _ _ _ h

theorem que_queueCommitted_self (q : Nat) (l : List Byte) (s : State) :
    que (queueCommitted q l s) q = { que s q with open_ := none, commits := (que s q).commits ++ [packWords true 64 l] } := que_setQue_self _ _ _

theorem que_queueCommitted_ne {q r : Nat} (l : List Byte) (s : State) (h : r ≠ q) : que (queueCommitted q l s) r = que s r := que_setQue_ne _ _ h

/-- The rewind of a bad packet counts it in registers, which leave the queues alone. -/
theorem que_queueBad_self (q : Nat) (more : Bool) (s : State) : que (queueBad q more s) q = { que s q with open_ := none, disc := more } :=
  que_setQue_self _ _ _

theorem que_queueBad_ne {q r : Nat} (more : Bool) (s : State) (h : r ≠ q) : que (queueBad q more s) r = que s r := que_setQue_ne _ _ h

theorem que_queueFlush (q : Nat) (s : State) : que (queueFlush q s) q =
    { que s q with visible := [], commits := [], open_ := none, disc := (que s q).disc || (que s q).open_.isSome, tent := [] } :=
  que_setQue_self _ _ _

/-! ### Configuration (R300) -/

theorem queueCfgWrite_of_unlocked {q : Nat} {v : Word} {u : State} (hlock : flag u QUEUE_CTLG_LOCK = false)
    (hoff : flag u (QUEUE_CTL_EN q) = false) : queueCfgWrite q v u =
      if wget v 6 0 < 8 ∨ wget v 6 0 > 64 ∨ queuePool u - fget u (QUEUE_CFG_DEPTH q) + wget v 6 0 > 1024 then setF u QUEUE_EVT_CFGERR
      else fset (wr u (QUEUE_CFG q) (v &&& 0xCF3F107F)) QUEUE_POOL_USED (queuePool (wr u (QUEUE_CFG q) (v &&& 0xCF3F107F))) := by
  rw [queueCfgWrite, hlock, hoff]; rfl

/-! ### Writes of the host (R302, R303) -/

/-- A byte stays in its packet where LEN, if the byte completes it, is in range. -/
theorem queueLenCheck_of_fits {q : Nat} {old new : List Byte} {s : State}
    (hfits : ∀ n, packetLen new = some n → 4 ≤ n ∧ n ≤ 8 * fget s (QUEUE_CFG_DEPTH q)) :
    queueLenCheck q old new s = setQue q { que s q with open_ := some new } s := by
  unfold queueLenCheck
  split
  · next n _ hnew =>
    obtain ⟨hlo, hhi⟩ := hfits n hnew
    rw [if_neg (not_lt.mpr hlo), if_neg (not_lt.mpr hhi)]
  · rfl

/-- A byte joins a packet whose LEN is not there yet, where a stage holds it and LEN stays in range. -/
theorem queueWrite_of_joins {q : Nat} {v : Word} {l : List Byte} {u : State} (hen : flag u (QUEUE_CTL_EN q) = true)
    (hwidth : flag u (QUEUE_CFG_WIDTH q) = false) (hdisc : (que u q).disc = false) (hopen : (que u q).open_.getD [] = l)
    (hlen : packetLen l = none)
    (hroom : l.length % 8 = 0 → queueUsed { que u q with offPkt := false } < fget u (QUEUE_CFG_DEPTH q))
    (hfits : ∀ n, packetLen (l ++ [v.truncate 8]) = some n → 4 ≤ n ∧ n ≤ 8 * fget u (QUEUE_CFG_DEPTH q)) :
    queueWrite q v u = setQue q { que u q with offPkt := false, open_ := some (l ++ [v.truncate 8]) }
      (setQue q { que u q with offPkt := false } u) := by
  have hfull : queueFull (setQue q { que u q with offPkt := false } u) q l = false := by
    rw [queueFull, que_setQue_self, Bool.and_eq_false_imp, beq_iff_eq]
    exact fun hstage => decide_eq_false (not_le.mpr (hroom hstage))
  have hcheck := queueLenCheck_of_fits (s := setQue q { que u q with offPkt := false } u) (old := l) hfits
  rw [que_setQue_self] at hcheck
  have hincomplete : (packetLen l).any (fun n => l.length ≥ n) = false := by rw [hlen]; rfl
  subst hopen
  rw [queueWrite, hen, hwidth]
  exact (if_neg Bool.false_ne_true).trans <| (if_neg (ne_true_of_eq_false hdisc)).trans <|
    (if_neg (ne_true_of_eq_false hincomplete)).trans <| (if_neg (ne_true_of_eq_false hfull)).trans hcheck

theorem queueWrWrite_of_host {q : Nat} {v : Word} {u : State} (hsrc : fget u (QUEUE_CFG_WSRC q) = 1) (hdata : wget v 31 16 = 0) :
    queueWrWrite q v u = queueWrite q v u := if_pos ⟨hsrc, hdata⟩

/-! ### Commit and abort (R304, R305) -/

theorem queueCommit_of_dropped {q : Nat} {u : State} (h : (que u q).disc = true ∨ (que u q).offPkt = true) :
    queueCommit q u = setQue q { que u q with disc := false, offPkt := false } u := if_pos h

theorem queueAbort_of_dropped {q : Nat} {u : State} (h : (que u q).disc = true ∨ (que u q).offPkt = true) :
    queueAbort q u = setQue q { que u q with disc := false, offPkt := false } u := if_pos h

section
variable {q : Nat} {l : List Byte} {u : State} (hdisc : (que u q).disc = false) (hoff : (que u q).offPkt = false)
  (hopen : (que u q).open_ = some l)
include hdisc hoff hopen

theorem queueCommit_of_open {n : Nat} (hlen : packetLen l = some n) :
    queueCommit q u = if l.length < n then queueBad q false u else queueCommitted q (l.take n) u := by
  simp only [queueCommit, hdisc, hoff, hopen, hlen, Bool.false_eq_true, or_self, if_false]

theorem queueAbort_of_open : queueAbort q u = queueBad q false u := by
  simp only [queueAbort, hdisc, hoff, hopen, Bool.false_eq_true, or_self, if_false]

end

theorem queueWcmdWrite_commit {q : Nat} {u : State} (hsrc : fget u (QUEUE_CFG_WSRC q) = 1) : queueWcmdWrite q 1 u = queueCommit q u :=
  if_pos ⟨hsrc, rfl⟩

theorem queueWcmdWrite_abort {q : Nat} {u : State} (hsrc : fget u (QUEUE_CFG_WSRC q) = 1) : queueWcmdWrite q 2 u = queueAbort q u :=
  if_pos ⟨hsrc, rfl⟩

section
variable {i : Initiator} {q : Fin 32} {s u r : State} (h : Arrives i (QUEUE_WCMD q.val) s u) (hsrc : fget u (QUEUE_CFG_WSRC q.val) = 1)
include h hsrc

theorem exec_queueCommit (hr : queueCommit q.val u = r) : exec (.queueCommit i q) s = .next r :=
  access_answers h ((queueWcmdWrite_commit hsrc).trans hr)

theorem exec_queueAbort (hr : queueAbort q.val u = r) : exec (.queueAbort i q) s = .next r :=
  access_answers h ((queueWcmdWrite_abort hsrc).trans hr)

end

/-! ### Writes of VIB and COMMS (R302, R306) -/

theorem frontWrite_of_taken {src : Nat} {p : FrontPacket} {l : List FrontPacket} {s : State}
    (htaken : (queueFront p.queue src (p.sent == 0) (nextWrite p) s).2 = true) : frontWrite src (p :: l) s =
      (if p.sent + 2 ≥ p.bytes.length then l else { p with sent := p.sent + 2 } :: l,
        (queueFront p.queue src (p.sent == 0) (nextWrite p) s).1) := if_pos htaken

theorem exec_queueFrontendWrite (src : FrontSrc) (s : State) :
    exec (.queueFrontendWrite src) s = execQueueFrontendWrite src s := rfl

theorem exec_queueFrontendWrite_vib {n : Nat} {p : FrontPacket} {s u : State} (hup : warpUp s = true) (hu : u = stir 3 s)
    (hnext : vibNext u = some (n, p)) :
    exec (.queueFrontendWrite .vib) s = .next (vibLeft n (frontWrite 2 [p] u).1 (frontWrite 2 [p] u).2) :=
  (exec_queueFrontendWrite .vib s).trans (inWarp_answers hup hu (by simp only [hnext]))

theorem exec_queueFrontendWrite_comms {k : Nat} {m : List Nat} {p : FrontPacket} {l : List FrontPacket} {s u t : State}
    (hup : warpUp s = true) (hu : u = stir 3 s) (hcomms : u.comms = k :: m) (hheld : (can u k).held = p :: l)
    (ht : t = setCan k { can (frontWrite 3 [p] u).2 k with held := (frontWrite 3 [p] u).1 ++ l } (frontWrite 3 [p] u).2) :
    exec (.queueFrontendWrite .comms) s = .next (if (frontWrite 3 [p] u).1 = [] then { t with comms := [] } else t) :=
  (exec_queueFrontendWrite .comms s).trans (inWarp_answers hup hu (by simp only [hcomms, hheld, ht, List.isEmpty_iff]))

/-! ### Visibility (R307, R310) and takes (R308) -/

theorem packetVisible_of_committed {q : Nat} {p : List QWord} {l : List (List QWord)} {u : State} (hcommits : (que u q).commits = p :: l) :
    packetVisible q u =
      let t := setQue q { que u q with commits := l, visible := (que u q).visible ++ p } u
      if flag u (QUEUE_CFG_NOTIFY q) && !flag u (QUEUE_CFG_RHOST q) then queueRecord q (p.map (·.bytes)).sum t else t := by
  simp only [packetVisible, hcommits]
  rfl

theorem exec_packetVisible {q : Fin 32} {sub : BitVec 16} {s u r : State} (hup : warpUp s = true) (hu : u = atSub 3 sub (stir 3 s))
    (hr : packetVisible q.val u = r) : exec (.packetVisible ⟨q, sub⟩) s = .next r := by
  rw [← hr, hu]; exact congrArg Host.Outcome.next (if_pos hup)

theorem queueTake_of_visible {q : Nat} {w : QWord} {l : List QWord} {u : State} (hvisible : (que u q).visible = w :: l) :
    queueTake q none u = (setQue q { que u q with visible := l } u, some w) := by
  simp only [queueTake, hvisible]

theorem queueRdtag_host_of_visible {q : Nat} {w : QWord} {l : List QWord} {u : State} (hreader : flag u (QUEUE_CFG_RHOST q) = true)
    (hvisible : (que u q).visible = w :: l) : queueRdtag .host q u = (queueTag w,
      wr (wr (setQue q { que u q with visible := l } u) (QUEUE_RDLO q) (w.data.truncate 32)) (QUEUE_RDHI q) ((w.data >>> 32).truncate 32)) := by
  simp only [queueRdtag, hreader, if_true, queueTake_of_visible hvisible]

/-! ### Flush and disable (R311) -/

/-- The value a flush writes keeps EN. -/
theorem queueCtlWrite_flush {q : Nat} {u : State} (hen : flag u (QUEUE_CTL_EN q) = true) :
    queueCtlWrite q (BitVec.ofNat 32 (2 + fget u (QUEUE_CTL_EN q))) u = setF (queueFlush q u) (QUEUE_CTL_EN q) := by
  rw [of_decide_eq_true hen]; rfl

theorem queueCtlWrite_disable {q : Nat} {u : State} (hen : flag u (QUEUE_CTL_EN q) = true) :
    queueCtlWrite q 0 u = clrF (queueFlush q u) (QUEUE_CTL_EN q) := by
  rw [queueCtlWrite, hen]; rfl

/-- Settles O35: each command answers what its block does on the state it reaches, and a queue's own state follows from the write of it. -/
theorem queueCommandsTakeEffect : Obligations.QueueCommandsTakeEffect := by
  unfold Obligations.QueueCommandsTakeEffect
  refine ⟨fun i q v s u h hlock hoff => ⟨fun hlo hhi hpool => ?fits, fun hbad => ?refused⟩,
    fun i q v s u h hsrc hdata hen hwidth hdisc => ⟨fun hopen hroom => ?first, fun b0 b1 b2 hopen hlo hhi => ?fourth⟩,
    fun i q s u h hsrc => ⟨fun hdrop => ?dropped, fun l n hdisc hoff hopen hlen => ?open_⟩,
    fun q l s => ⟨que_queueCommitted_self _ _ _, fun r hr => que_queueCommitted_ne _ _ hr, rfl, fun more => que_queueBad_self _ _ _,
      fun more r hr => que_queueBad_ne _ _ hr⟩,
    fun p l s u hup hu => ⟨fun n hnext => exec_queueFrontendWrite_vib hup hu hnext,
      fun k m t hcomms hheld ht => exec_queueFrontendWrite_comms hup hu hcomms hheld ht,
      fun src htaken hmore => ?more, fun src htaken hlast => ?last⟩,
    fun q sub p l s u hup hu hcommits => ⟨fun hquiet => ?quiet, fun hnotify hshuttle => ?notified⟩,
    fun q w l s u h hreader hvisible => ?take,
    fun i q s u h hen => ⟨access_answers h (queueCtlWrite_flush hen), access_answers h (queueCtlWrite_disable hen)⟩, fun q s => ?flushed⟩
  case fits => exact access_answers h ((queueCfgWrite_of_unlocked hlock hoff).trans (if_neg (by omega)))
  case refused => exact access_answers h ((queueCfgWrite_of_unlocked hlock hoff).trans (if_pos hbad))
  case first =>
    exact access_answers h ((queueWrWrite_of_host hsrc hdata).trans
      (queueWrite_of_joins (l := []) hen hwidth hdisc (by rw [hopen]; rfl) rfl (fun _ => hroom) (fun n hn => by simp [packetLen] at hn)))
  case fourth =>
    refine access_answers h ((queueWrWrite_of_host hsrc hdata).trans
      (queueWrite_of_joins (l := [b0, b1, b2]) hen hwidth hdisc (by rw [hopen]; rfl) rfl (fun hstage => by simp at hstage) (fun n hn => ?_)))
    obtain rfl := Option.some.inj hn
    exact ⟨hlo, hhi⟩
  case dropped => exact ⟨exec_queueCommit h hsrc (queueCommit_of_dropped hdrop), exec_queueAbort h hsrc (queueAbort_of_dropped hdrop)⟩
  case open_ =>
    have hcommit := queueCommit_of_open hdisc hoff hopen hlen
    exact ⟨fun hwhole => exec_queueCommit h hsrc (hcommit.trans (if_neg (not_lt.mpr hwhole))),
      fun hshort => exec_queueCommit h hsrc (hcommit.trans (if_pos hshort)), exec_queueAbort h hsrc (queueAbort_of_open hdisc hoff hopen)⟩
  case more => rw [frontWrite_of_taken htaken, if_neg (not_le.mpr hmore)]
  case last => rw [frontWrite_of_taken htaken, if_pos hlast]
  case quiet =>
    refine exec_packetVisible hup hu ((packetVisible_of_committed hcommits).trans (if_neg ?_))
    rcases hquiet with hnone | hhost
    · simp only [hnone, Bool.false_and, Bool.false_eq_true, not_false_eq_true]
    · simp only [hhost, Bool.not_true, Bool.and_false, Bool.false_eq_true, not_false_eq_true]
  case notified =>
    refine exec_packetVisible hup hu ((packetVisible_of_committed hcommits).trans (if_pos ?_))
    rw [hnotify, hshuttle]; rfl
  case take =>
    refine congrArg Host.Outcome.next ((accessRead_fetches _ h).trans ?_)
    rw [queueRdtag_host_of_visible hreader hvisible]
  case flushed =>
    dsimp only
    rw [que_queueFlush]
    exact ⟨rfl, rfl, rfl, rfl, rfl⟩

end Sys2Proof.Machine
end

section
/-! PROOFS. The field side of the isolated digital I/O: banks and inputs (11_isolated_digital_io, R314 to R325, R335, R336). -/

namespace Sys2Proof.Machine

/-! ### Banks and inputs after a store -/

@[simp] theorem dioBank_setBank_self (k : Nat) (b : DioBank) (s : State) : dioBank (setBank k b s) k = b := tabGet_set_self _ _ _ _

@[simp] theorem dioIn_setIn_self (n : Nat) (x : DioIn) (s : State) : dioIn (setIn n x s) n = x := tabGet_set_self _ _ _ _

@[simp] theorem dioIn_bankFlag (k mask n : Nat) (s : State) : dioIn (bankFlag k mask s) n = dioIn s n := rfl

/-- A record is on its way to WARP outside the bank: its input keeps its state. -/
@[simp] theorem dioIn_sendInput (m kind qual : Nat) (v : Word) (stamp : BitVec 64) (s : State) (n : Nat) :
    dioIn (sendInput m kind qual v stamp s) n = dioIn s n := by
  unfold sendInput
  split <;> rfl

/-! ### Events of DIOL (R53) -/

theorem inDiol_answers {s u r : State} {f : State → State} (hup : dioUp s = true) (hu : u = stir 10 s) (hr : f u = r) :
    inDiol f s = .next r := by
  rw [← hr, hu]; exact congrArg _ (if_pos hup)

theorem exec_bankDown (k : Fin 9) (s : State) : exec (.bankDown k) s =
    inDiol (fun s => if bankUp s k.val ∧ edges s 10 ≥ (dioBank s k.val).last + 16 then markDown k.val s else s) s := rfl

/-! ### Status words and supplies (R314, R316, R317, R320) -/

/-- A status word that is received takes the bank's flags (R317). -/
theorem dioBank_statusWord_evt {k v : Nat} {s : State} (hup : dioUp s = true) (hon : (dioBank s k).on = true) :
    (dioBank (statusWord k v s) k).evt = 0 := by
  rw [statusWord, if_pos ⟨hup, hon⟩]
  exact congrArg DioBank.evt (dioBank_setBank_self _ _ _)

/-- A reading below 15.0 V suppresses the wire-break detection of an input bank, and flags where that begins (R320). -/
theorem bankReading_of_low {k v : Nat} {s : State} (hk : k < 6) (hlow : v < 1500) : bankReading k v s = setBank k { dioBank s k with
    vsup := v, wbsup := true, evt := if (dioBank s k).wbsup then (dioBank s k).evt else (dioBank s k).evt ||| 2 } s := by
  cases hsup : (dioBank s k).wbsup <;> simp [bankReading, hk, hlow, hsup]

theorem bankReading_of_good {k v : Nat} {s : State} (hk : k < 6) (hgood : 1500 ≤ v) : bankReading k v s =
    setBank k { dioBank s k with vsup := v, wbsup := false } s := by
  simp [bankReading, hk, not_lt.mpr hgood]

/-- An island that starts afresh keeps nothing of its bank but when its latest status word came (R19, R314, R316). -/
theorem dioBank_bankFresh (on : Bool) (k : Nat) (s : State) :
    dioBank (bankFresh on k s) k = { on := on, last := (dioBank s k).last } := by
  rw [← dioBank_setBank_self k { on := on, last := (dioBank s k).last } s]
  unfold bankFresh
  split <;> rfl

/-- Each output supply feeds its bank's island alone (R314). -/
theorem supplyBanks_of_output {v : Nat} (h : v ≠ 0) : supplyBanks v = [5 + v] := if_neg h

/-- A supply that comes up starts an output bank that did not run. -/
theorem fieldSupplyRelease_of_off {v : Fin 4} {s : State} (hoff : (dioBank s (5 + v.val)).on = false) (hv : v.val ≠ 0) :
    exec (.fieldSupplyRelease v) s = .next (bankFresh true (5 + v.val) s) := by
  refine congrArg Host.Outcome.next ?_
  rw [supplyBanks_of_output hv]
  exact if_neg (ne_true_of_eq_false hoff)

/-! ### The states of outputs in HOLD and FAILED (R329, R335, R336) -/

theorem outTarget_of_off {m : Nat} {s : State} (h : (dioBank s (6 + m / 8)).state = 0) : outTarget s m = false := by
  simp only [outTarget, h]

theorem outTarget_of_hold {m : Nat} {s : State} (h : (dioBank s (6 + m / 8)).state = 2) :
    outTarget s m = (dioBank s (6 + m / 8)).held.testBit (m % 8) := by
  simp only [outTarget, h]

section
variable {m : Nat} {s : State} (h : (dioBank s (6 + m / 8)).state = 3)
include h

/-- A paralleled output whose bank has failed is off, whatever FAIL says. -/
theorem outTarget_of_failed_parallel (hpar : outPar s m = true) : outTarget s m = false := by
  simp only [outTarget, h, hpar, Bool.not_true, Bool.false_and]

theorem outTarget_of_failed_off (hpar : outPar s m = false) (hfail : outFail s m = 0) : outTarget s m = false := by
  simp only [outTarget, h, hpar, hfail, Bool.and_false]

theorem outTarget_of_failed_on (hpar : outPar s m = false) (hfail : outFail s m = 1) : outTarget s m = true := by
  simp only [outTarget, h, hpar, hfail, Bool.not_false, Bool.and_true]

theorem outTarget_of_failed_held (hpar : outPar s m = false) (hfail : outFail s m = 2) :
    outTarget s m = (dioBank s (6 + m / 8)).held.testBit (m % 8) := by
  simp only [outTarget, h, hpar, hfail, Bool.not_false, Bool.true_and]

end

/-- An output that is on belongs to a bank that runs without undervoltage and gives it the state on. -/
theorem target_of_outActual {m : Nat} {s : State} (h : outActual s m = true) :
    (dioBank s (6 + m / 8)).on = true ∧ (dioBank s (6 + m / 8)).uv = false ∧ outTarget s m = true := by
  simp only [outActual, Bool.and_eq_true, Bool.not_eq_true'] at h
  obtain ⟨⟨⟨⟨hon, huv⟩, -⟩, -⟩, htarget⟩ := h
  exact ⟨hon, huv, htarget⟩

/-! ### Inputs (R319, R321 to R324) -/

section
variable {n : Nat} {s t : State} (stamp : BitVec 64) (hmeas : inMeasured s n = true)
  (ht : t = countEdge n (setIn n { dioIn s n with level := !(dioIn s n).level } s))
include hmeas ht

/-- Under a wire-break the level changes the counter's view alone. -/
theorem inputChange_of_broken (hwb : (dioIn s n).wb = true) : inputChange n stamp s = t := by
  rw [ht]; exact (if_pos hmeas).trans (if_pos hwb)

theorem inputChange_of_whole (hwb : (dioIn s n).wb = false) : inputChange n stamp s = tellInput n (stateRecord n stamp t) := by
  rw [ht]; exact (if_pos hmeas).trans (if_neg (ne_true_of_eq_false hwb))

end

theorem exec_inputChange_of_passed {n : Fin 48} {back sub : BitVec 16} {s r : State} (hpass : filterPassed s n.val back.toNat = true)
    (hr : inputChange n.val (dioStamp s (n.val / 8) back.toNat sub) s = r) : exec (.inputChange n back sub) s = .next r := by
  rw [← hr]; exact congrArg Host.Outcome.next (if_pos hpass)

theorem sendCount_of_due {n : Nat} {v : BitVec 32} {wb : Bool} {t : BitVec 64} {s : State} (hdue : (dioIn s n).due = some (v, wb, t)) :
    sendCount n s = sendInput n 1 (if wb then 5 else 0) v t (setIn n { dioIn s n with due := none } s) := by
  simp only [sendCount, hdue]

/-- A gate's frequency is taken unless a wire-break was seen in it, and the next gate begins with the wire-break there is (R323; that
the frequency is kept under a wire-break is assumption log 73). -/
theorem dioIn_gateEnd {n cnt iv cyc ticks : Nat} {sub : BitVec 16} {s : State} (hmeas : inMeasured s n = true)
    (hgate : wget (inCfg s n) 3 3 = 1) (hfits : gateFits (wget (inCfg s n) 15 12) ticks = true) (hedges : cnt < 2 ∨ 0 < iv) :
    ∃ high, dioIn (gateEnd n cnt iv cyc ticks sub s) n = { dioIn (sendCount n s) n with
      freq := if (dioIn (sendCount n s) n).gwb || (dioIn (sendCount n s) n).wb then (dioIn (sendCount n s) n).freq
        else gateFreq cnt iv cyc ticks
      fovr := high, gwb := (dioIn (sendCount n s) n).wb } := by
  rw [gateEnd, if_pos ⟨hmeas, hgate, hfits, hedges⟩]
  extract_lets sent x bad f lim high latched flagged
  have hleft : dioIn flagged n = dioIn latched n := onlyIf_keeps (dioIn · n) _ _ _ fun _ => dioIn_bankFlag _ _ _ _
  refine ⟨high, Eq.trans ?record (hleft.trans (dioIn_setIn_self _ _ _))⟩
  split
  · exact dioIn_sendInput _ _ _ _ _ _ _
  · rfl

/-- Fewer than two edges give no interval. -/
theorem gateFreq_of_few {cnt : Nat} (iv cyc ticks : Nat) (h : cnt < 2) : gateFreq cnt iv cyc ticks = 0 := if_pos h

/-- Settles O36, command by command: each comes down to its operation's case; a gate's end by what it leaves of its input. -/
theorem fieldBanksAndInputsProceed : Obligations.FieldBanksAndInputsProceed := by
  unfold Obligations.FieldBanksAndInputsProceed
  refine ⟨fun k v s hup => ⟨fun hon => ⟨rfl, dioBank_statusWord_evt hup hon⟩,
      fun u hu hbank hlate => (exec_bankDown k s).trans (inDiol_answers hup hu (if_pos ⟨hbank, hlate⟩))⟩,
    fun b s hon => ⟨fun hrun => congrArg Host.Outcome.next (if_pos ⟨hon, hrun⟩), fun hhold => congrArg Host.Outcome.next (if_pos ⟨hon, hhold⟩)⟩,
    fun m s => ⟨outTarget_of_off, outTarget_of_hold, outTarget_of_failed_parallel, outTarget_of_failed_off, outTarget_of_failed_on,
      outTarget_of_failed_held, target_of_outActual⟩,
    fun v s => ⟨fieldSupplyRelease_of_off, rfl, rfl, fun k on => ?fresh⟩,
    fun n back sub s t hmeas hpass ht => ⟨fun hwb => exec_inputChange_of_passed hpass (inputChange_of_broken _ hmeas ht hwb),
      fun hwb => exec_inputChange_of_passed hpass (inputChange_of_whole _ hmeas ht hwb)⟩,
    fun n sub s hmeas => ⟨fun hen hsup => congrArg Host.Outcome.next (if_pos ⟨hmeas, hen, hsup⟩), congrArg Host.Outcome.next (if_pos hmeas)⟩,
    fun k v s hon => ⟨fun hlow => congrArg Host.Outcome.next ((if_pos ⟨hon, hlow⟩).trans (bankReading_of_low k.isLt hlow)),
      fun hgood => congrArg Host.Outcome.next ((if_pos ⟨hon, hgood⟩).trans (bankReading_of_good k.isLt hgood))⟩,
    fun n v wb t s u hup hu hdue => inDiol_answers hup hu (sendCount_of_due hdue),
    fun n cnt iv cyc ticks sub s u hmeas hgate hfits hedges hu => ?gate,
    fun i n s u h => ⟨fun hbank => access_answers h (if_pos hbank), fun hdown => access_answers h (if_neg (ne_true_of_eq_false hdown))⟩⟩
  case fresh =>
    rw [dioBank_bankFresh]
    exact ⟨rfl, rfl, rfl, rfl, rfl, rfl⟩
  case gate =>
    obtain ⟨high, hleft⟩ := dioIn_gateEnd (cyc := cyc.toNat) (sub := sub) hmeas hgate hfits hedges
    refine ⟨_, rfl, ?_⟩
    rw [hleft, hu]
    exact ⟨fun hwhole => if_neg (ne_true_of_eq_false hwhole), fun hbroken => if_pos hbroken, rfl, rfl,
      gateFreq_of_few _ _ _ Nat.zero_lt_two, gateFreq_of_few _ _ _ Nat.one_lt_two⟩

end Sys2Proof.Machine
end

section
/-! PROOFS. The field outputs of the isolated digital I/O: commands, supplies, switches, foreign drive, release and marker
(11_isolated_digital_io, R328 to R333, R337 to R342). -/

namespace Sys2Proof.Machine

/-! ### Items of path 3 (R292) -/

/-- DIOL does what the next item of path 3 asks of it, on the state without that item. -/
theorem fromPath3_answers {x : EgEnt} {e : EgItem} {s u t : State} {f : EgItem → Option (State → State)} {g : State → State}
    (hup : dioUp s = true) (hu : u = stir 10 s) (htake : egTake 3 u = (some x, t)) (hitem : x.item = e) (hf : f e = some g) :
    fromPath3 f s = .next (g t) :=
  inDiol_answers hup hu (by simp only [htake, hitem, hf])

section
variable {x : EgEnt} {s u t : State} (hup : dioUp s = true) (hu : u = stir 10 s) (htake : egTake 3 u = (some x, t))
include hup hu htake

/-- An output command of the loom is for an output whose source is the loom, while DIOL accepts commands (R328, R338). -/
theorem exec_outputCommand {o : Nat} {on : Bool} (hitem : x.item = .out o on) : exec .outputCommand s =
    .next (if o < 24 ∧ outHost t o = false ∧ accepting t then outCommand o on t else t) := by
  change execOutputCommand s = _
  rw [execOutputCommand, fromPath3_answers hup hu htake hitem rfl]

theorem exec_releaseOrder (hitem : x.item = .release) : exec .releaseOrder s = .next (setRelease true t) := by
  change execReleaseOrder s = _
  exact fromPath3_answers hup hu htake hitem rfl

theorem exec_assumeOrder (hitem : x.item = .assume) : exec .assumeOrder s = .next (setRelease false t) := by
  change execAssumeOrder s = _
  exact fromPath3_answers hup hu htake hitem rfl

theorem exec_firstPickMarker (hitem : x.item = .marker) : exec .firstPickMarker s = .next (firstPick t) := by
  change execFirstPickMarker s = _
  exact fromPath3_answers hup hu htake hitem rfl

end

/-! ### Commands of the host (R328, R330, R332, R342) -/

theorem ocmdWrite_of_output {v : Word} {u : State} (hres : wget v 31 16 = 0) (hout : wget v 12 8 < 24) : ocmdWrite v u =
    if outHost u (wget v 12 8) = false then setF u DIO_EVT_OCMDREJ
    else onlyIf (accepting u) (outCommand (wget v 12 8) (wget v 0 0 == 1)) u :=
  if_neg (by omega)

section
variable {v : Word} {u : State} (hres : wget v 31 16 = 0) (hout : wget v 12 8 < 24)
include hres hout

theorem ocmdWrite_of_loom (hsrc : outHost u (wget v 12 8) = false) : ocmdWrite v u = setF u DIO_EVT_OCMDREJ :=
  (ocmdWrite_of_output hres hout).trans (if_pos hsrc)

theorem ocmdWrite_of_host (hsrc : outHost u (wget v 12 8) = true) :
    ocmdWrite v u = onlyIf (accepting u) (outCommand (wget v 12 8) (wget v 0 0 == 1)) u :=
  (ocmdWrite_of_output hres hout).trans (if_neg (ne_false_of_eq_true hsrc))

end

section
variable {b : Nat} {u : State} (hup : bankUp u (6 + b) = true) (hon : (dioBank u (6 + b)).on = true)
include hup hon

theorem oxcmdWrite_of_up {v : Word} (hres : wget v 31 2 = 0) : oxcmdWrite b v u =
    onlyIf (wget v 0 0 == 1 && (dioBank u (6 + b)).uv && (dioBank u (6 + b)).ready) (bankRestore b)
      (onlyIf (wget v 1 1 == 1) (forN 8 (fun j => outUnlatch (8 * b + j))) u) :=
  if_neg (by rw [hup, hon, hres]; decide)

/-- RESTORE ends the undervoltage of a bank whose supply has been good for long enough (R330). -/
theorem oxcmdWrite_restore (huv : (dioBank u (6 + b)).uv = true) (hready : (dioBank u (6 + b)).ready = true) :
    oxcmdWrite b 1 u = bankRestore b u := by
  rw [oxcmdWrite_of_up hup hon rfl, huv, hready]; rfl

theorem oxcmdWrite_clrlatch : oxcmdWrite b 2 u = forN 8 (fun j => outUnlatch (8 * b + j)) u :=
  oxcmdWrite_of_up hup hon rfl

end

/-! ### Switches and foreign drive (R332, R333; that the reset of the retry count ends a limit and that the thermal event says whether the
switch is hot are assumption log 67 and 72) -/

theorem exec_outputRetry_of_thermal {m : Fin 24} {s : State} (h : (dioOut s m.val).fault = .thermal) : exec (.outputRetry m) s =
    .next (outSettle m.val (setOut m.val { dioOut s m.val with fault := .none, hot := false } s)) := by
  change execOutputRetry m s = _
  simp only [execOutputRetry, h]

/-- A switch that is not shut down has nothing to retry. -/
theorem exec_outputRetry_of_other {m : Fin 24} {s : State} (h : (dioOut s m.val).fault ≠ .thermal) : exec (.outputRetry m) s =
    .next (setOut m.val { dioOut s m.val with hot := false } s) := by
  change execOutputRetry m s = _
  unfold execOutputRetry
  dsimp only
  split
  · next hthermal => exact absurd hthermal h
  · rfl

/-- Foreign drive is flagged by FDRV, and by FLT too where the output is not paralleled (R333). -/
theorem exec_foreignDrive_of_off {m : Fin 24} {s : State} (hon : (dioBank s (6 + m.val / 8)).on = true)
    (hoff : outActual s m.val = false) (hnew : (dioOut s m.val).fdrv = false) : exec (.foreignDrive m) s =
      .next (setOut m.val { dioOut s m.val with fdrv := true }
        (bankFlag (6 + m.val / 8) (2 ^ (8 + m.val % 8) + (if outPar s m.val then 0 else 2 ^ (m.val % 8))) s)) :=
  congrArg Host.Outcome.next (if_pos ⟨hon, hoff, hnew⟩)

/-- Settles O37, command by command: each comes down to its operation's case, those of the loom by the item taken from path 3 and those of
the host by the write that arrives. -/
theorem fieldOutputsProceed : Obligations.FieldOutputsProceed := by
  unfold Obligations.FieldOutputsProceed
  refine ⟨fun x o on s u t hup hu htake hitem => ⟨fun hout hsrc hacc => ?loom, fun hignored => ?ignored⟩,
    fun i v s u h hres hout => ⟨fun hsrc => access_answers h (ocmdWrite_of_loom hres hout hsrc),
      fun hsrc hacc => access_answers h ((ocmdWrite_of_host hres hout hsrc).trans (if_pos hacc)),
      fun hsrc hrefused => access_answers h ((ocmdWrite_of_host hres hout hsrc).trans (if_neg (ne_true_of_eq_false hrefused)))⟩,
    fun b v s => ?supply,
    fun i b s u h hbank hon => ⟨fun huv hready => access_answers h (oxcmdWrite_restore hbank hon huv hready),
      access_answers h (oxcmdWrite_clrlatch hbank hon)⟩,
    fun m hot s => ?switch, fun m s => ⟨fun hon hoff hnew => ⟨fun hpar => ?parallel, fun hpar => ?single⟩, rfl⟩,
    fun x s u t hup hu htake => ⟨exec_releaseOrder hup hu htake, exec_assumeOrder hup hu htake, exec_firstPickMarker hup hu htake⟩⟩
  case loom => rw [exec_outputCommand hup hu htake hitem, if_pos ⟨hout, hsrc, hacc⟩]
  case ignored =>
    refine (exec_outputCommand hup hu htake hitem).trans (congrArg Host.Outcome.next (if_neg ?_))
    rintro ⟨-, hsrc, hacc⟩
    rcases hignored with hhost | hrefused
    · exact absurd hhost (ne_true_of_eq_false hsrc)
    · exact absurd hacc (ne_true_of_eq_false hrefused)
  case supply =>
    intro k hon
    exact ⟨fun hwarn => congrArg Host.Outcome.next (if_pos ⟨hon, hwarn⟩), fun hunder => congrArg Host.Outcome.next (if_pos ⟨hon, hunder⟩),
      fun huv hauto => congrArg Host.Outcome.next ((if_pos ⟨hon, huv⟩).trans (if_pos hauto)),
      fun huv hmanual => congrArg Host.Outcome.next ((if_pos ⟨hon, huv⟩).trans (if_neg hmanual))⟩
  case switch =>
    exact ⟨fun hact hnone => congrArg Host.Outcome.next (if_pos ⟨hact, hnone⟩), fun hact => congrArg Host.Outcome.next (if_pos hact),
      fun hact hlimit => congrArg Host.Outcome.next (if_pos ⟨hact, hlimit⟩), exec_outputRetry_of_thermal, exec_outputRetry_of_other⟩
  case parallel | single => rw [exec_foreignDrive_of_off hon hoff hnew, hpar]; rfl

end Sys2Proof.Machine
end

section
/-! PROOFS. Every command answers a next state, and no step undoes a fuse (00_scope, 01_islands_and_sluices, 21_lifecycle_and_custody, R527,
R530, R531, R535; that a command out of place changes nothing, and what the empty queue does, are assumption log 1 and 84). -/

namespace Sys2Proof.Machine

/-! ### Outcomes that are next states -/

/-- The outcome is a next state, neither a fault nor a refusal. -/
def Proceeds (o : Host.Outcome State Fault Refusal) : Prop := ∃ t, o = .next t

@[simp] theorem proceeds_next (s : State) : Proceeds (.next s) := ⟨s, rfl⟩

theorem proceeds_ite {p : Prop} [Decidable p] {a b : Host.Outcome State Fault Refusal} (ha : Proceeds a) (hb : Proceeds b) :
    Proceeds (if p then a else b) := by
  split
  · exact ha
  · exact hb

/-- A recovery request is answered, refused or left alone (R533). -/
theorem recTake_proceeds (op : Nat) (ok : Lifecycle → Bool) (f : State → Nat × List Byte × State) (s : State) :
    Proceeds (recTake op ok f s) :=
  proceeds_ite (proceeds_ite (proceeds_next _) (proceeds_next _)) (proceeds_next _)

/-- The boot ROM starts an image, or turns to recovery (R529). -/
theorem execBootImageVerify_proceeds (bad0 bad1 : Bool) (s : State) : Proceeds (execBootImageVerify bad0 bad1 s) :=
  proceeds_ite (proceeds_ite (proceeds_next _) (proceeds_ite (proceeds_next _) (proceeds_next _))) (proceeds_next _)

/-- An edge of MAINSREF opens, counts within or closes a window (R395). -/
theorem execMainsrefEdge_proceeds (s : State) : Proceeds (execMainsrefEdge s) :=
  proceeds_ite (proceeds_ite (proceeds_next _) (proceeds_ite (proceeds_ite (proceeds_next _) (proceeds_next _)) (proceeds_next _)))
    (proceeds_next _)

/-- The common edge resumes, or captures for the command in progress, if one is (R519, R520). -/
theorem execPerfCommonEdge_proceeds (counts : List Word) (s : State) : Proceeds (execPerfCommonEdge counts s) := by
  unfold execPerfCommonEdge
  refine proceeds_ite ?_ (proceeds_next _)
  split <;> exact proceeds_next _

/-- The gathered values are stored for the command in progress, if one is (R519). -/
theorem execPerfGatherComplete_proceeds (s : State) : Proceeds (execPerfGatherComplete s) := by
  unfold execPerfGatherComplete
  refine proceeds_ite ?_ (proceeds_next _)
  split <;> exact proceeds_next _

/-- No command stops the block: most meanings are a next state as written, and the others are one in each of their cases. -/
theorem exec_proceeds (c : Instr) (s : State) : Proceeds (exec c s) := by
  cases c
  case recoveryStatus | recoveryKeyprog | recoveryAdvance | erasecopy | recoveryWrite | recoveryRead | recoveryPolder =>
    simp only [exec, execRecoveryStatus, execRecoveryKeyprog, execRecoveryAdvance, execErasecopy, execRecoveryWrite, execRecoveryRead,
      execRecoveryPolder, recTake_proceeds]
  case bootImageVerify bad0 bad1 => exact execBootImageVerify_proceeds bad0 bad1 s
  case mainsrefEdge => exact execMainsrefEdge_proceeds s
  case perfCommonEdge counts => exact execPerfCommonEdge_proceeds counts s
  case perfGatherComplete => exact execPerfGatherComplete_proceeds s
  case sluiceAckSeen | sluiceAckLow | islandIdle | watchdogWarning | watchdogReset | tickAlarmFire | mainsrefLoss | sysTickLoss |
      perfCounterWrap | bandwidthWindowEnd | customerKeyRead | recoveryReset =>
    exact proceeds_ite (proceeds_next _) (proceeds_next _)
  all_goals exact proceeds_next _

/-! ### What a command leaves of the fuses and of the queue -/

/-- Three commands complete lifecycle operations, which undo no fuse; every other command leaves the fuses alone. All leave the queue. -/
theorem exec_movedO (c : Instr) (s : State) : MovedO s (exec c s) := by
  cases c
  case lifeCommandComplete ok => exact execLifeCommandComplete_movedO ok s
  case recoveryKeyprog ok => exact execRecoveryKeyprog_movedO ok s
  case recoveryAdvance ok => exact execRecoveryAdvance_movedO ok s
  all_goals
    refine movedO_of ?_
    dsimp only [exec]
    simp

theorem exec_moved {c : Instr} {s t : State} (h : exec c s = .next t) : Moved s t := exec_movedO c s t h

theorem step_cons {c : Instr} {l : List Instr} {s : State} (h : s.pending = c :: l) : step s = exec c { s with pending := l } := by
  simp only [step, h]

theorem step_nil {s : State} (h : s.pending = []) : step s = .next (uartDrain s) := by
  simp only [step, h]

/-- A step follows the state without its first command. -/
theorem step_moved {s t : State} (h : step s = .next t) : Moved { s with pending := s.pending.tail } t := by
  cases hq : s.pending with
  | nil =>
    obtain rfl : uartDrain s = t := Host.Outcome.next.inj ((step_nil hq).symm.trans h)
    have hs : ({ s with pending := [] } : State) = s := by rw [← hq]
    rw [List.tail_nil, hs]
    exact moved_of (uartDrain_rest s)
  | cons c l => exact exec_moved ((step_cons hq).symm.trans h)

theorem step_proceeds (s : State) : Proceeds (step s) := by
  cases hq : s.pending with
  | nil => exact ⟨_, step_nil hq⟩
  | cons c l => exact step_cons hq ▸ exec_proceeds c _

/-- Settles O50: a step follows the state without its first command, which has the same fuses. -/
theorem lifecycleFusesOnlyAdvance : Obligations.LifecycleFusesOnlyAdvance := by
  unfold Obligations.LifecycleFusesOnlyAdvance
  intro f s t hf h
  obtain ⟨-, -, hfuses⟩ := step_moved h
  exact hfuses f hf

/-- Settles O56: every command answers a next state, and what follows a state has its queue. -/
theorem everyCommandProceeds : Obligations.EveryCommandProceeds := by
  unfold Obligations.EveryCommandProceeds
  refine ⟨fun c s => ?_, fun s => ?_⟩
  · obtain ⟨t, ht⟩ := exec_proceeds c s
    exact ⟨t, ht, (exec_moved ht).1⟩
  · obtain ⟨t, ht⟩ := step_proceeds s
    exact ⟨t, ht, (step_moved ht).1⟩

/-- Settles O1, by the queue's two forms. -/
theorem stepRunsFrontCommand : Obligations.StepRunsFrontCommand := by
  unfold Obligations.StepRunsFrontCommand
  exact ⟨fun c l s h => step_cons h, fun s h => step_nil h⟩

end Sys2Proof.Machine
end

section
/-! PROOFS. The CAN FD controllers (12_can_fd_controllers, R343, R345, R349 to R352, R354 to R358; the steps of the error counters are
assumption log 74, the selection's operand and its modes 163 and 76). -/

namespace Sys2Proof.Machine

/-! ### Events of COMMS (R53) -/

theorem inComms_answers {s u r : State} {f : State → State} (hup : commsUp s = true) (hu : u = stir 11 s) (hr : f u = r) :
    inComms f s = .next r := by
  rw [← hr, hu]; exact congrArg _ (if_pos hup)

/-! ### Enabling, disabling and recovering (R345, R356, R358) -/

/-- A write of CAN_CTLk leaves STATE. -/
theorem fget_canState_codeWrite (k : Fin 3) (v : Word) (u : State) :
    fget (codeWrite (CAN_CTL k.val) v u) (CAN_STAT_STATE k.val) = fget u (CAN_STAT_STATE k.val) := by
  fin_cases k <;> exact codeWrite_fget _ _ v u (by decide)

section
variable {k : Fin 3} {v : Word} {u c : State}

/-- A write that sets EN of a controller that is off starts it where the timing in force is valid. -/
theorem canCtlWrite_enable (hen : flag u (CAN_CTL_EN k.val) = false) (hst : fget u (CAN_STAT_STATE k.val) = canOff)
    (hclosing : (can u k.val).closing = false) (hon : wget v 0 0 = 1)
    (hc : c = codeWrite (CAN_CTL k.val) (wset (v &&& 0xFFFFFFBF) 0 0 0) u) :
    canCtlWrite k.val v u = canSync k.val (if canTimingOk c k.val then setCanState k.val canIntegrating (setF c (CAN_CTL_EN k.val))
      else setF c (CAN_EVT_CFGERR k.val)) := by
  have hstc : fget c (CAN_STAT_STATE k.val) = canOff := by rw [hc, fget_canState_codeWrite, hst]
  have hcan : (can (setF c (CAN_CTL_EN k.val)) k.val).closing = false := by
    rw [hc]; exact (congrArg CanSt.closing (codeWrite_can' _ _ u _)).trans hclosing
  simp only [canCtlWrite, hen, hon, Bool.toNat_false, ← hc]
  simp [onlyIf, hstc, hcan, canOff, canBusOff]

/-- A write that clears EN of a running controller closes it, at the end of the frame on the bus where there is one. -/
theorem canCtlWrite_disable (hen : flag u (CAN_CTL_EN k.val) = true) (hrec : wget v 6 6 = 0) (hoff : wget v 0 0 = 0)
    (hc : c = clrF (codeWrite (CAN_CTL k.val) (wset (v &&& 0xFFFFFFBF) 0 0 1) u) (CAN_CTL_EN k.val)) :
    canCtlWrite k.val v u = canSync k.val (if (can u k.val).bus.isSome || (can u k.val).rxing
      then setCan k.val { can u k.val with closing := true } c else canClose k.val c) := by
  have hcan : can c k.val = can u k.val := by rw [hc]; exact codeWrite_can' _ _ u _
  simp only [canCtlWrite, hen, hrec, hoff, Bool.toNat_true]
  simp [onlyIf, ← hcan, hc]

/-- A write of RECOVER in BUS_OFF starts the recovery of a controller that stays enabled. -/
theorem canCtlWrite_recover (hen : flag u (CAN_CTL_EN k.val) = true) (hst : fget u (CAN_STAT_STATE k.val) = canBusOff)
    (hrec : wget v 6 6 = 1) (hon : wget v 0 0 = 1) :
    canCtlWrite k.val v u = canSync k.val (setCanState k.val canRecovering
      (codeWrite (CAN_CTL k.val) (wset (v &&& 0xFFFFFFBF) 0 0 1) u)) := by
  simp only [canCtlWrite, hen, hrec, hon, Bool.toNat_true, fget_canState_codeWrite, hst, onlyIf]
  rfl

end

/-! ### Frames (R343, R349 to R351, R355) -/

/-- A frame from the bus that is valid is offered to the mailboxes; an FD frame meets a form error while FDEN is clear. -/
theorem canReceive_of_online {k : Nat} {f : CanFrame} {s u : State} (hon : canOnline s k = true) (hmode : fget s (CAN_CTL_MODE k) ≠ 3)
    (hbus : (can s k).bus = none) (hu : u = stir 11 s) : canReceive k f s =
      if f.fdf ∧ flag u (CAN_CTL_FDEN k) = false then canIdle k (canCount k (can u k).tec ((can u k).rxe + 1) (canError k 2 false u))
      else canIdle k (canCount k (can (canAccept k f u) k).tec (recGood (can (canAccept k f u) k).rxe) (canAccept k f u)) := by
  rw [hu]
  exact if_pos ⟨hon, hmode, by rw [hbus]; rfl⟩

section
variable {k : Nat} {sof : Bool} {s u : State} (hon : canOnline s k = true) (hbus : (can s k).bus = none) (hrx : (can s k).rxing = false)
  (hen : flag s (CAN_CTL_EN k) = true) (hu : u = stir 11 s)
include hon hbus hrx hen hu

/-- The controller sends the pending frame that wins. -/
theorem canSelect_of_winner {w : CanWho} {f : CanFrame} (hmode : fget s (CAN_CTL_MODE k) = 0 ∨ fget s (CAN_CTL_MODE k) = 3)
    (hwin : canWinner (canPending s k) = some (w, f)) :
    canSelect k sof s = canSync k (setCan k { can s k with bus := some { who := w, frame := withEsi s k f } } u) := by
  simp [canSelect, hon, hbus, hrx, hen, hmode, hwin, hu]

/-- With nothing to send it receives the frame that another node starts. -/
theorem canSelect_of_none (hmode : fget s (CAN_CTL_MODE k) ≠ 3)
    (hnone : fget s (CAN_CTL_MODE k) ≠ 0 ∨ canWinner (canPending s k) = none) (hsof : sof = true) :
    canSelect k sof s = canSync k (setCan k { can s k with rxing := true } u) := by
  have hwin : (if fget s (CAN_CTL_MODE k) = 0 ∨ fget s (CAN_CTL_MODE k) = 3 then canWinner (canPending s k) else none) = none := by
    rcases hnone with h | h
    · exact if_neg (by simp [h, hmode])
    · rw [h, ite_self]
  refine (if_pos ⟨hon, by rw [hbus]; rfl, hrx, hen⟩).trans ?_
  simp only [hwin, hu]
  exact if_pos ⟨hsof, hmode⟩

end

/-- What ends a host frame leaves MODE. -/
theorem fget_canMode_hostSent {k j : Nat} (u : State) :
    fget (setF (setF (clrF u (CAN_MBSTAT_REQ k j)) (CAN_MBSTAT_DONE k j)) (CAN_EVT_TXDONE k)) (CAN_CTL_MODE k) =
      fget u (CAN_CTL_MODE k) := by
  have hstat : CAN_CTL k ≠ CAN_MBSTAT k j := by simp only [CAN_CTL, CAN_MBSTAT]; omega
  have hevt : CAN_CTL k ≠ CAN_EVT k := by simp only [CAN_CTL, CAN_EVT]; omega
  exact (fget_fset_addr _ _ _ _ hevt).trans ((fget_fset_addr _ _ _ _ hstat).trans (fget_fset_addr _ _ _ _ hstat))

section
variable {k j : Nat} {t : CanTx} {u : State} (hbus : (can u k).bus = some t) (hwho : t.who = .host j)
include hbus hwho

/-- A host frame without a switched bit rate that ends without error has no delay measured. -/
theorem canSent_of_host (delay : Nat) (hmode : fget u (CAN_CTL_MODE k) ≠ 3) (hrate : t.frame.fdf = false ∨ t.frame.brs = false) :
    canSent k delay u = canIdle k (canCount k ((can u k).tec - 1) (can u k).rxe
      (setF (setF (clrF u (CAN_MBSTAT_REQ k j)) (CAN_MBSTAT_DONE k j)) (CAN_EVT_TXDONE k))) := by
  have hmeasure : canMeasure k t.frame delay u = u := if_neg fun ⟨hfdf, hbrs, _⟩ => by rcases hrate with h | h <;> simp_all
  simp only [canSent, hbus, hwho, hmeasure, fget_canMode_hostSent u, if_neg hmode]
  rfl

/-- A host frame that loses arbitration ends where it is aborted or one-shot. -/
theorem canYield_of_ended {v : State} (hv : v = canAborted k j u) (hend : t.abort = true ∨ flag u (CAN_MBCFG_ONESHOT k j) = true) :
    canYield k u = canSync k (setCan k { can v k with bus := none, rxing := true } v) := by
  have hdrop : canDrop k t u = v := by simp only [canDrop, hwho, hv, if_pos hend]
  simp only [canYield, hbus, hdrop]

theorem canYield_of_kept (habort : t.abort = false) (hshot : flag u (CAN_MBCFG_ONESHOT k j) = false) :
    canYield k u = canSync k (setCan k { can u k with bus := none, rxing := true } u) := by
  have hdrop : canDrop k t u = u := by simp [canDrop, hwho, habort, hshot]
  simp only [canYield, hbus, hdrop]

end

/-! ### Errors (R343, R357) -/

section
variable {k : Fin 3} {code : Fin 7} {data exc : Bool} {s u : State} (hon : canOnline s k.val = true) (hu : u = stir 11 s)
include hon hu

/-- A recessive res bit of an FD frame under PXE is counted, and the controller integrates again unless it closes. -/
theorem exec_canBusError_protocol {v : State} (hcode : code.val = 0) (hpxe : flag u (CAN_CTL_PXE k.val) = true)
    (hv : v = setF (bump (if (can u k.val).bus.isSome = true then canFailed k.val u else canIdle k.val u) (CAN_ERRCNT_PXCNT k.val))
      (CAN_EVT_PX k.val)) : exec (.canBusError k code data exc) s =
      .next (if (can u k.val).closing then v else canSync k.val (setCanState k.val canIntegrating v)) := by
  subst hu hv
  exact congrArg Host.Outcome.next ((if_pos hon).trans (if_pos ⟨hcode, hpxe⟩))

/-- Any other error is recorded and counted, for a transmitter or for a receiver. -/
theorem exec_canBusError_counted (hcode : code.val ≠ 0 ∨ flag u (CAN_CTL_PXE k.val) = false) : exec (.canBusError k code data exc) s =
    .next (if (can u k.val).bus.isSome then canFailed k.val (canCount k.val (if exc then (can u k.val).tec else (can u k.val).tec + 8)
        (can u k.val).rxe (canError k.val (if code.val = 0 then 2 else code.val) data u))
      else canIdle k.val (canCount k.val (can u k.val).tec ((can u k.val).rxe + if exc then 8 else 1)
        (canError k.val (if code.val = 0 then 2 else code.val) data u))) := by
  subst hu
  refine congrArg Host.Outcome.next ((if_pos hon).trans (if_neg ?_))
  rintro ⟨hzero, hpxe⟩
  rcases hcode with h | h
  · exact h hzero
  · exact absurd hpxe (ne_true_of_eq_false h)

end

/-! ### Requests and aborts (R351) -/

section
variable {k j : Nat} {u c : State} (hc : c = codeWrite (CAN_MBSTAT k j) 0 u) (hrole : fget c (CAN_MBCFG_ROLE k j) = 2)
include hc hrole

theorem mbstatWrite_request : mbstatWrite k j 0x80000000 u = setF c (CAN_MBSTAT_REQ k j) := by
  have hword : (0x80000000 &&& 0x3FFFFFFF &&& 0xBFFFFFFF : Word) = 0 := rfl
  simp only [mbstatWrite, hword, ← hc, hrole]
  rfl

/-- An abort ends a request at once, unless its frame is on the bus. -/
theorem mbstatWrite_abort : mbstatWrite k j 0x40000000 u =
    if (can c k).bus.map (·.who) = some (.host j) then setCan k { can c k with bus := (can c k).bus.map (fun t => { t with abort := true }) } c
    else if flag c (CAN_MBSTAT_REQ k j) then canAborted k j c else c := by
  have hword : (0x40000000 &&& 0x3FFFFFFF &&& 0xBFFFFFFF : Word) = 0 := rfl
  have habort : wget 0x40000000 30 30 = 1 := rfl
  have hreq : (wget 0x40000000 31 31 == 1) = false := rfl
  simp only [mbstatWrite, hword, ← hc, hrole, habort, hreq, ne_eq, not_true_eq_false, if_false, if_true, Bool.false_eq_true, false_or]

end

/-! ### Alarm items and FLOOD entries (R352, R354, R358) -/

/-- The controllers do what the next item of path 1 asks of them. -/
theorem fromPath1_answers {x : EgEnt} {s u t : State} {f : EgEnt → Option (State → State)} {g : State → State} (hup : commsUp s = true)
    (hu : u = stir 11 s) (htake : egTake 1 u = (some x, t)) (hf : f x = some g) : fromPath1 f s = .next (g t) :=
  inComms_answers hup hu (by simp only [htake, hf])

theorem canItem_of_elsewhere {k mbox : Nat} {s : State} (id : Nat) (st : Word) (first last : BitVec 64) (n q : Nat)
    (h : fget s (CAN_MBCFG_ROLE k mbox) ≠ 3) :
    canItem k id mbox st first last n q s = setF (bump s (CAN_ALMCNT_FANLOST k)) (CAN_EVT_FANLOST k) := if_pos h

/-- An item of an alarm that the memory does not hold takes a place of its own. -/
theorem canItem_of_new {k id mbox : Nat} {s : State} (st : Word) (first last : BitVec 64) (n q : Nat)
    (hrole : fget s (CAN_MBCFG_ROLE k mbox) = 3) (hnew : (tabGet (fun _ => {}) (can s k).alarms id).rep = 0)
    (hbus : (can s k).bus = none) : canItem k id mbox st first last n q s = canSync k (setCan k { can s k with
      alarms := tabSet (fun _ => {}) (can s k).alarms id
        { st := st, rep := n, first := first, last := last, mbox := mbox, seq := q, fresh := false } } s) := by
  refine (if_neg (not_not.mpr hrole)).trans ?_
  simp only [hbus]
  exact congrArg (canSync k) (if_pos (Or.inl hnew))

/-- FLUSH empties the alarm memory, where no frame of it is on the bus. -/
theorem canAlmWrite_flush {k : Nat} {v : Word} {u c : State} (hc : c = codeWrite (CAN_ALMCTL k) (v &&& 0xBFFFFFFF) u)
    (hflush : wget v 30 30 = 1) (hbus : (can c k).bus = none) :
    canAlmWrite k v u = canSync k (setCan k { can c k with alarms := [], flood := none, late := none } c) := by
  have hnone : ∀ l : Tab CanAlarm, l.filter (fun e => some e.1 == (none : Option Nat)) = [] := fun l =>
    List.filter_eq_nil_iff.mpr fun e _ => Bool.false_ne_true
  simp only [canAlmWrite, ← hc, if_pos hflush, hbus, hnone]

/-- Settles O38, command by command: each comes down to its operation's case, in the state its event or its write finds. -/
theorem canControllersProceed : Obligations.CanControllersProceed := by
  unfold Obligations.CanControllersProceed
  refine ⟨fun i k s u c h hen hst hclosing hc => ?enable, fun i k s u c h hen hrec hc => ?disable, fun i k s u h hen hst => ?recover,
    fun k s u hup hu => ⟨fun hst => ?integrated, fun hst => ?recovered⟩,
    fun k id ide rtr fdf brs esi dlc data s u f hon hmode hbus hu hf => ?receive,
    fun k s u hup hu hheld hfree => ?packet,
    fun k sof s u hon hbus hrx hen hu => ⟨fun w f hmode hwin => congrArg _ (canSelect_of_winner hon hbus hrx hen hu hmode hwin),
      fun hmode hnone hsof => congrArg _ (canSelect_of_none hon hbus hrx hen hu hmode hnone hsof)⟩,
    fun k delay j t s u hup hu hbus hwho => ⟨fun hmode _ hrate => inComms_answers hup hu (canSent_of_host hbus hwho _ hmode hrate),
      fun v hv hend => inComms_answers hup hu (canYield_of_ended hbus hwho hv hend),
      fun habort hshot => inComms_answers hup hu (canYield_of_kept hbus hwho habort hshot)⟩,
    fun k code data exc s u hon hu => ?error,
    fun i k j s u c h hc hrole => ⟨access_answers h (mbstatWrite_request hc hrole), fun hown => ?abortOnBus, fun hother hreq => ?abortWaiting⟩,
    fun x s u t hup hu htake => ⟨fun id st first last n fan hitem => fromPath1_answers hup hu htake (by simp only [hitem]),
      fun f hitem => fromPath1_answers hup hu htake (by simp only [hitem])⟩,
    fun k id mbox st first last n q s => ⟨canItem_of_elsewhere id st first last n q, canItem_of_new st first last n q⟩,
    fun i k s u c h hc hbus => access_answers h (canAlmWrite_flush hc ?_ hbus)⟩
  case enable =>
    have hon : wget (rd u (CAN_CTL k.val) ||| 1) 0 0 = 1 := by rw [wget_bit]; simp
    have hwrite := canCtlWrite_enable hen hst hclosing hon hc
    exact ⟨fun hok => access_answers h (by rw [hwrite, if_pos hok]), fun hbad => access_answers h (by rw [hwrite, hbad]; rfl)⟩
  case disable =>
    have hoff : wget (rd u (CAN_CTL k.val) &&& 0xFFFFFFFE) 0 0 = 0 := by rw [wget_bit]; simp
    have hrec' : wget (rd u (CAN_CTL k.val) &&& 0xFFFFFFFE) 6 6 = 0 := by
      rw [wget_bit] at hrec ⊢
      simpa using hrec
    have hwrite := canCtlWrite_disable hen hrec' hoff hc
    exact ⟨fun hbusy => access_answers h (by rw [hwrite, if_pos (by simpa using hbusy)]),
      fun hbus hrx => access_answers h (by rw [hwrite, hbus, hrx]; rfl)⟩
  case recover =>
    have hon : wget (rd u (CAN_CTL k.val) ||| 0x40) 0 0 = 1 := by
      rw [flag_bit u _ rfl] at hen
      rw [wget_bit]
      simp [hen]
    have hrec : wget (rd u (CAN_CTL k.val) ||| 0x40) 6 6 = 1 := by rw [wget_bit]; simp
    exact access_answers h (canCtlWrite_recover hen hst hrec hon)
  case integrated | recovered =>
    subst hu
    exact inComms_answers hup rfl (if_pos hst)
  case receive =>
    have hexec : exec (.canFrameReceived k id ide rtr fdf brs esi dlc data) s = .next (canReceive k.val f s) := by rw [hf]; rfl
    have hfdf : f.fdf = fdf := by rw [hf]
    rw [hexec, canReceive_of_online hon hmode hbus hu, hfdf]
    refine ⟨fun hfd hfden => congrArg _ (if_pos ⟨hfd, hfden⟩), fun hvalid => congrArg _ (if_neg ?_)⟩
    rintro ⟨hfd, hfden⟩
    rcases hvalid with h | h
    · exact absurd hfd (ne_true_of_eq_false h)
    · exact absurd h (ne_true_of_eq_false hfden)
  case packet =>
    subst hu
    refine inComms_answers hup rfl (if_pos ?_)
    simp [hfree, hheld]
  case error =>
    refine ⟨fun v hcode hpxe hv => ?_, fun hcode hbus => ?_, fun hcode hbus => ?_⟩
    · have herror := exec_canBusError_protocol (data := data) (exc := exc) hon hu hcode hpxe hv
      exact ⟨fun hopen => herror.trans (by rw [hopen]; rfl), fun hclosing => herror.trans (by rw [hclosing]; rfl)⟩
    · exact (exec_canBusError_counted hon hu hcode).trans (by rw [hbus]; rfl)
    · exact (exec_canBusError_counted hon hu hcode).trans (by rw [if_pos hbus])
  case abortOnBus => exact access_answers h ((mbstatWrite_abort hc hrole).trans (if_pos hown))
  case abortWaiting => exact access_answers h ((mbstatWrite_abort hc hrole).trans ((if_neg hother).trans (if_pos hreq)))
  · rw [wget_bit]
    simp

end Sys2Proof.Machine
end

section
/-! PROOFS. The Ethernet ports, the SPI target and the UART (13_ethernet_and_host_links, R363 to R367, R370 to R372, R378, R379; that a port
disabled takes its link down, and what a frame's CRC and a PAUSE frame are, is assumption log 82 and 80). -/

namespace Sys2Proof.Machine

/-! ### Frames received (R363 to R367) -/

section
variable {p back : Nat} {f : List Byte} {t : Stamp} {u v : State} (hv : v = setPort p { ethPort u p with offAt := none } u)
include hv

theorem ethReceive_of_deaf (bad : Bool) (hdeaf : ethListens u p back = false) : ethReceive p f bad back t u = v := by
  rw [hv]; exact if_pos hdeaf

/-- A frame with an error or of a wrong length is counted. -/
theorem ethReceive_of_bad {bad : Bool} (hlisten : ethListens u p back = true) (hbad : bad = true ∨ f.length < 60 ∨ 1518 < f.length) :
    ethReceive p f bad back t u = bump v (ETH_CNT_RXBAD p) := by
  rw [hv]; exact (if_neg (Bool.not_eq_false _ ▸ hlisten)).trans (if_pos hbad)

section
variable (hlisten : ethListens u p back = true) (hmin : 60 ≤ f.length) (hmax : f.length ≤ 1518)
include hlisten hmin hmax

/-- A valid frame that is PAUSE, or whose destination no filter accepts, is counted. -/
theorem ethReceive_of_filtered (hfilter : isPause f = true ∨ ethAccepts v p (f.take 6) = false) :
    ethReceive p f false back t u = bump v (ETH_FCNT_FILTERED p) := by
  have hwhole : ¬(false = true ∨ f.length < 60 ∨ 1518 < f.length) := by simp; omega
  have hfilter' : isPause f = true ∨ (!ethAccepts v p (f.take 6)) = true := by simpa using hfilter
  rw [hv] at hfilter' ⊢
  exact (if_neg (Bool.not_eq_false _ ▸ hlisten)).trans ((if_neg hwhole).trans (if_pos hfilter'))

/-- A valid frame that is accepted is stored with its flags. -/
theorem ethReceive_of_accepted (hpause : isPause f = false) (haccept : ethAccepts v p (f.take 6) = true) :
    ethReceive p f false back t u = ethStore p (f.length + (isMulticast (f.take 6)).toNat * 2 ^ 16 + (isBroadcast (f.take 6)).toNat * 2 ^ 17
      + (exactEntry v p (f.take 6)).getD 0 * 2 ^ 18 + (exactEntry v p (f.take 6)).isSome.toNat * 2 ^ 21
      + (ptpCapture p f t v).2.toNat * 2 ^ 22) f (ptpCapture p f t v).1 := by
  have hwhole : ¬(false = true ∨ f.length < 60 ∨ 1518 < f.length) := by simp; omega
  have hpass : ¬(isPause f = true ∨ (!ethAccepts v p (f.take 6)) = true) := by simp [hpause, haccept]
  rw [hv] at hpass ⊢
  exact (if_neg (Bool.not_eq_false _ ▸ hlisten)).trans ((if_neg hwhole).trans (if_neg hpass))

end

end

/-! ### Transmission and the link (R366, R378, R379) -/

section
variable {p : Nat} {v : Word} {u : State} (hlen : wget v 10 0 ≤ 1518)
  (hfree : (ethPort u p).cmds.any (fun c => c.1 == wget v 17 16) = false)
include hlen hfree

/-- A command of a slot that has none is queued; one of length 0 is done at once. -/
theorem txcmdWrite_of_free : txcmdWrite p v u = if wget v 10 0 = 0 then setBit u (ETH_TXSTAT_DONE p) (wget v 17 16)
    else setBit (setPort p { ethPort u p with cmds := (ethPort u p).cmds ++ [(wget v 17 16, wget v 10 0)] } u) (ETH_STAT_TXREQ p)
      (wget v 17 16) := by
  refine if_neg ?_
  rintro (hlong | hown)
  · omega
  · exact absurd hown (ne_true_of_eq_false hfree)

end

section
variable {p k n : Nat} {l : List (Nat × Nat)} {u : State} (hcmds : (ethPort u p).cmds = (k, n) :: l) (hen : flag u (ETH_CTL_EN p) = true)
  (hlink : flag u (ETH_STAT_LINK p) = true)
include hcmds hen hlink

/-- A frame that ends without error leaves on the wire with its padding and its FCS. -/
theorem ethSent_ok {f : List Byte} (hf : f = bytesAt u.links.mem (txSlot p k) n ++ List.replicate (60 - n) 0) :
    ethSent p true u = setF (setBit (clrBit (setPort p { ethPort u p with cmds := l, finish := false, wire := f ++ bytesOf 4 (crc32 f) } u)
      (ETH_STAT_TXREQ p) k) (ETH_TXSTAT_DONE p) k) (ETH_EVT_TXDONE p) := by
  simp [ethSent, hcmds, hen, hlink, hf]

/-- In half duplex a frame can end in error. -/
theorem ethSent_failed (hhalf : flag u (ETH_STAT_DUPLEX p) = false) :
    ethSent p false u = setF (bump (setBit (clrBit (setPort p { ethPort u p with cmds := l, finish := false } u) (ETH_STAT_TXREQ p) k)
      (ETH_TXSTAT_ERR p) k) (ETH_FCNT_TXERRCNT p)) (ETH_EVT_TXERR p) := by
  simp [ethSent, hcmds, hen, hlink, hhalf]

end

theorem ptpRead_of_capture {p : Nat} {c : PtpCap} {l : List PtpCap} {u : State} (hcaps : (ethPort u p).caps = c :: l) :
    ptpRead p u = (BitVec.ofNat 32 (2 ^ 31 + c.seq % 65536),
      wr (wr (setPort p { ethPort u p with caps := l } u) (ETH_PTPTLO p) (BitVec.ofNat 32 c.stamp.tick.toNat)) (ETH_PTPTHI p)
        (BitVec.ofNat 32 (c.stamp.sub.toNat * 65536 + c.stamp.tick.toNat / 2 ^ 32))) := by
  simp only [ptpRead, hcaps]

section
variable {p : Nat} {v : Word} {u c : State} (hc : c = codeWrite (ETH_CTL p) v u)
include hc

theorem ethCtlWrite_enable (hwas : flag u (ETH_CTL_EN p) = false) (hon : flag c (ETH_CTL_EN p) = true) :
    ethCtlWrite p v u = setPort p { ethPort c p with enAt := edges c 11, offAt := none } c := by
  simp only [ethCtlWrite, ← hc, hwas, hon]
  rfl

/-- A port that is disabled takes its link down and completes the frames in progress. -/
theorem ethCtlWrite_disable (hwas : flag u (ETH_CTL_EN p) = true) (hoff : flag c (ETH_CTL_EN p) = false) :
    ethCtlWrite p v u = ethLinkDown p (setPort p { ethPort c p with
      finish := flag c (ETH_STAT_LINK p) && !(ethPort c p).cmds.isEmpty
      offAt := if flag c (ETH_STAT_LINK p) then some (edges c 11) else none } c) := by
  simp only [ethCtlWrite, ← hc, hwas, hoff]
  rfl

end

theorem ethLinkUp_of_ready {p : Nat} {u : State} (fdx : Bool) (hen : flag u (ETH_CTL_EN p) = true)
    (hdown : flag u (ETH_STAT_LINK p) = false) (hwait : flag u (ETH_CTL_ANEN p) = true → (ethPort u p).enAt + 49152 ≤ edges u 11) :
    ethLinkUp p fdx u = setF (putF (setF u (ETH_STAT_LINK p)) (ETH_STAT_DUPLEX p)
      (if flag u (ETH_CTL_ANEN p) then fdx else flag u (ETH_CTL_FDX p))) (ETH_EVT_LINKUP p) := if_pos ⟨hen, hdown, hwait⟩

/-! ### SPI transactions (R370, R371, R378) -/

/-- The state in which a transaction of a kind has begun at a place. -/
def spiBegun (k : SpiKind) (a : Nat) (u : State) : State :=
  { u with links := { u.links with spi := some k, spiErr := false, spiPos := a, snap := [], miso := [] } }

section
variable {k : SpiKind} {a n : Nat} {f : State → State} {u : State}

/-- A transaction that begins within the mailbox is performed. -/
theorem spiRun_begins (hfree : u.links.spi = none) (hen : flag u SPI_CTL_EN = true) (ha : a < 4096) (hk : k ≠ .other) :
    spiRun k a n f u = f (spiBegun k a u) := by
  simp [spiRun, hfree, hen, onlyIf, hk, spiBegun, Nat.not_le.mpr ha]

/-- A transaction that begins beyond the mailbox, or with an opcode that R370 does not list, is counted once and returns zeros. -/
theorem spiRun_fails (hfree : u.links.spi = none) (hen : flag u SPI_CTL_EN = true) (hbad : 4096 ≤ a ∨ k = .other) :
    spiRun k a n f u = spiZeros n (spiError (spiBegun k a u)) := by
  have herr : (spiError (spiBegun k a u)).links.spiErr = true := rfl
  have hfail : onlyIf (decide (a ≥ 4096 ∨ k = .other)) spiError (spiBegun k a u) = spiError (spiBegun k a u) :=
    if_pos (decide_eq_true hbad)
  rw [spiBegun] at hfail
  simp only [spiRun, hfree, hen, Option.isSome_none, Bool.false_eq_true, false_and, Bool.true_eq_false, if_false, hfail]
  exact if_pos herr

/-- The open transaction of the same kind goes on. -/
theorem spiRun_continues (hopen : u.links.spi = some k) (hen : flag u SPI_CTL_EN = true) (hok : u.links.spiErr = false) :
    spiRun k a n f u = f u := by
  simp [spiRun, hopen, hen, hok]

/-- A disabled target returns zeros. -/
theorem spiRun_disabled (hfree : u.links.spi = none) (hen : flag u SPI_CTL_EN = false) : spiRun k a n f u = spiZeros n u := by
  simp [spiRun, hfree, hen]

end

section
variable {s u : State} (hup : commsUp s = true) (hu : u = stir 11 s)
include hup hu

theorem exec_spiStatus_05 (m : BitVec 8) : exec (.spiStatus ⟨0x05, m⟩) s =
    .next (spiRun .status 0 m.toNat (fun s => setMiso (List.replicate m.toNat (spiStatusByte s)) s) u) := by
  subst hu
  exact congrArg Host.Outcome.next (if_pos hup)

/-- An opcode that R370 does not list begins a transaction of no kind. -/
theorem exec_spiStatus_other {op : Byte} (m : BitVec 8) (h05 : op ≠ 0x05) (h0B : op ≠ 0x0B) (h02 : op ≠ 0x02) :
    exec (.spiStatus ⟨op, m⟩) s = .next (spiRun .other 0 m.toNat id u) := by
  subst hu
  exact congrArg Host.Outcome.next ((if_pos hup).trans ((if_neg h05).trans (if_neg (not_or.mpr ⟨h0B, h02⟩))))

theorem exec_spiRead (a : BitVec 16) (n : BitVec 13) : exec (.spiRead a n) s =
    .next (spiRun .read a.toNat n.toNat (fun s => setMiso (spiShifts n.toNat s).1 (spiShifts n.toNat s).2) u) := by
  subst hu
  exact congrArg Host.Outcome.next (if_pos hup)

theorem exec_spiWrite (a : BitVec 16) (data : List Byte) :
    exec (.spiWrite a data) s = .next (spiRun .write a.toNat 0 (spiPut data) u) := by
  subst hu
  exact congrArg Host.Outcome.next (if_pos hup)

theorem exec_spiTransactionError_read {a : BitVec 16} (ha : 4096 ≤ a.toNat) :
    exec (.spiTransactionError 0x0B a) s = .next (spiRun .read a.toNat 1 id u) := by
  subst hu
  exact congrArg Host.Outcome.next ((if_pos hup).trans (if_pos ha))

theorem exec_spiTransactionError_write {a : BitVec 16} (ha : 4096 ≤ a.toNat) :
    exec (.spiTransactionError 0x02 a) s = .next (spiRun .write a.toNat 1 id u) := by
  subst hu
  exact congrArg Host.Outcome.next ((if_pos hup).trans (if_pos ha))

/-- A write below 0x800 is discarded and counted byte by byte. -/
theorem exec_spiTransactionError_low {a : BitVec 16} (ha : a.toNat < 0x800) :
    exec (.spiTransactionError 0x02 a) s = .next (spiRun .write a.toNat 1 (spiPut [0]) u) := by
  subst hu
  exact congrArg Host.Outcome.next ((if_pos hup).trans ((if_neg (show ¬4096 ≤ a.toNat by omega)).trans (if_pos ha)))

theorem exec_spiTransactionError_other {op : Byte} (a : BitVec 16) (h05 : op ≠ 0x05) (h0B : op ≠ 0x0B) (h02 : op ≠ 0x02) :
    exec (.spiTransactionError op a) s = .next (spiRun .other 0 1 id u) := by
  subst hu
  exact congrArg Host.Outcome.next ((if_pos hup).trans ((if_neg h05).trans ((if_neg h0B).trans (if_neg h02))))

end

theorem spiEnd_of_open {k : SpiKind} {u : State} (hopen : u.links.spi = some k) : spiEnd u =
    (let t := bump (setF { u with links := { u.links with spi := none, spiErr := false } } SPI_EVT_CSEND) SPI_CNT_XFERCNT
     if k = .write then setF t SPI_EVT_SWR else t) := by
  simp only [spiEnd, hopen]

theorem spiEnd_of_none {u : State} (hfree : u.links.spi = none) (hen : flag u SPI_CTL_EN = true) : spiEnd u = setF u SPI_EVT_CSEND := by
  simp only [spiEnd, hfree, hen]
  rfl

/-! ### UART (R372) -/

theorem uartTake_of_byte {b : Byte} {fe : Bool} {l : List (Byte × Bool)} {u : State} (hrx : u.links.rx = (b, fe) :: l) :
    uartTake u = (BitVec.ofNat 32 (2 ^ 31 + fe.toNat * 256 + b.toNat), { u with links := { u.links with rx := l } }) := by
  simp only [uartTake, hrx]

theorem uartTake_of_empty {u : State} (hrx : u.links.rx = []) : uartTake u = (0, u) := by
  simp only [uartTake, hrx]

/-- A byte that finds room joins the FIFO, with its framing error. -/
theorem uartByte_of_room {u : State} (b : Byte) (fe : Bool) (hen : flag u UART_CTL_EN = true) (hroom : u.links.rx.length < 64) :
    uartByte b fe u = onlyIf fe (setF · UART_EVT_FRAMERR) { u with links := { u.links with rx := u.links.rx ++ [(b, fe)] } } :=
  (if_neg (ne_false_of_eq_true hen)).trans (if_neg (Nat.not_le.mpr hroom))

/-- A read that reaches its block answers its word there. -/
theorem accessRead_answers {i : Initiator} {a : Nat} {s u t : State} {w : Word} {f : State → Word × State} (h : Fetches i a s u)
    (hr : f u = (w, t)) : (.next (accessRead i a f s) : Host.Outcome State Fault Refusal) = .next (setReply i ⟨w, none⟩ t) := by
  rw [accessRead_fetches f h, hr]

/-- Settles O39, command by command: each comes down to its operation's case; an SPI command to the transaction that it begins or goes on
with. -/
theorem linksProceed : Obligations.LinksProceed := by
  unfold Obligations.LinksProceed
  refine ⟨fun p f back sub s u v hup hu hv => ?frames,
    fun i p v s u h => ⟨fun halign => access_answers h (if_neg (not_not.mpr halign)), fun hodd => access_answers h (if_pos hodd)⟩,
    fun i p v s u h hlen hfree => ⟨fun hn => access_answers h ((txcmdWrite_of_free hlen hfree).trans (if_neg hn)),
      fun hzero => access_answers h ((txcmdWrite_of_free hlen hfree).trans (if_pos hzero))⟩,
    fun p k n l f s u hup hu hcmds hen hlink hf => ⟨inComms_answers hup hu (ethSent_ok hcmds hen hlink hf),
      fun hhalf => inComms_answers hup hu (ethSent_failed hcmds hen hlink hhalf)⟩,
    fun i p c l s u h hcaps => accessRead_answers h (ptpRead_of_capture hcaps),
    fun i p s u c h => ⟨fun hwas hc hon => access_answers h (ethCtlWrite_enable hc hwas hon),
      fun hwas hc hoff => access_answers h (ethCtlWrite_disable hc hwas hoff)⟩,
    fun p fdx s u hup hu => ⟨fun hen hlink hwait => inComms_answers hup hu (ethLinkUp_of_ready fdx hen hlink hwait),
      fun hlink => inComms_answers hup hu (if_pos hlink)⟩,
    fun a m n data op k s u hup hu => ⟨fun hfree hen => ?begins, fun hen hok => ?goesOn, fun hfree hoff => ?disabled,
      fun hopen => inComms_answers hup hu (spiEnd_of_open hopen), fun hfree hen => inComms_answers hup hu (spiEnd_of_none hfree hen)⟩,
    fun i v s u => ⟨fun h hroom => access_answers h (if_neg (Nat.not_le.mpr hroom)), fun h hfull => access_answers h (if_pos hfull),
      fun b fe l h hrx => accessRead_answers h (uartTake_of_byte hrx), fun h hrx => accessRead_answers h (uartTake_of_empty hrx)⟩,
    fun b s u hup hu hen hroom => ⟨inComms_answers hup hu (uartByte_of_room b false hen hroom),
      inComms_answers hup hu (uartByte_of_room b true hen hroom)⟩⟩
  case frames =>
    have hexec : ∀ bad, exec (.ethFrameReceived p f bad back sub) s =
        .next (ethReceive p.val f bad back.toNat ⟨commsShadow u back.toNat, sub⟩ u) := fun bad => by
      subst hu
      exact congrArg Host.Outcome.next (if_pos hup)
    simp only [hexec]
    exact ⟨fun hdeaf bad => congrArg _ (ethReceive_of_deaf hv bad hdeaf),
      fun hlisten => ⟨congrArg _ (ethReceive_of_bad hv hlisten (Or.inl rfl)),
        fun hlen => congrArg _ (ethReceive_of_bad hv hlisten (Or.inr hlen)),
        fun hmin hmax hfilter => congrArg _ (ethReceive_of_filtered hv hlisten hmin hmax hfilter),
        fun hmin hmax hpause haccept => congrArg _ (ethReceive_of_accepted hv hlisten hmin hmax hpause haccept)⟩⟩
  case begins =>
    refine ⟨?_, fun ha => ⟨?_, ?_⟩, fun ha => ?_, fun ha => ⟨?_, ?_, ?_, ?_⟩, fun h05 h0B h02 => ⟨?_, ?_⟩⟩
    · rw [exec_spiStatus_05 hup hu, spiRun_begins hfree hen (by decide) (by decide)]; rfl
    · rw [exec_spiRead hup hu, spiRun_begins hfree hen ha (by decide)]; rfl
    · rw [exec_spiWrite hup hu, spiRun_begins hfree hen ha (by decide)]; rfl
    · rw [exec_spiTransactionError_low hup hu ha, spiRun_begins hfree hen (by omega) (by decide)]; rfl
    · rw [exec_spiRead hup hu, spiRun_fails hfree hen (Or.inl ha)]; rfl
    · rw [exec_spiWrite hup hu, spiRun_fails hfree hen (Or.inl ha)]; rfl
    · rw [exec_spiTransactionError_read hup hu ha, spiRun_fails hfree hen (Or.inl ha)]; rfl
    · rw [exec_spiTransactionError_write hup hu ha, spiRun_fails hfree hen (Or.inl ha)]; rfl
    · rw [exec_spiTransactionError_other hup hu a h05 h0B h02, spiRun_fails hfree hen (Or.inr rfl)]; rfl
    · rw [exec_spiStatus_other hup hu m h05 h0B h02, spiRun_fails hfree hen (Or.inr rfl)]; rfl
  case goesOn =>
    refine ⟨fun hopen => ?_, fun hopen => ?_, fun hopen => ?_⟩
    · rw [exec_spiStatus_05 hup hu, spiRun_continues hopen hen hok]
    · rw [exec_spiRead hup hu, spiRun_continues hopen hen hok]
    · rw [exec_spiWrite hup hu, spiRun_continues hopen hen hok]
  case disabled =>
    rw [exec_spiStatus_05 hup hu, exec_spiRead hup hu, spiRun_disabled hfree hoff, spiRun_disabled hfree hoff]
    exact ⟨rfl, rfl⟩

end Sys2Proof.Machine
end

section
/-! PROOFS. An edge of the tick oscillator (14_tick_counter_and_calendar, R381 to R383, R387, R388, R394, R397, R399). -/

namespace Sys2Proof.Machine

/-! ### The increment (R383, R394) -/

/-- Settles O41, by the three ranges of the accumulator. -/
theorem tickStepOfAccumulator : Obligations.TickStepOfAccumulator := by
  unfold Obligations.TickStepOfAccumulator
  intro acc trim
  refine ⟨if_pos rfl, fun hhigh => ?_, fun hlow => ?_, fun hmin hmax => ?_⟩
  · simp only [tickInc, Bool.false_eq_true, if_false, if_pos hhigh]
  · have hhigh : ¬acc + trim ≥ 1048576 := by omega
    simp only [tickInc, Bool.false_eq_true, if_false, if_neg hhigh, if_pos hlow]
  · simp only [tickInc, Bool.false_eq_true, if_false, if_neg (not_le.mpr hmax), if_neg (not_le.mpr hmin)]

/-! ### Fields that lie apart -/

/-- A store in the field `F` cannot meet the field `G`. -/
abbrev Fld.apart (F G : Fld) : Prop := F.lo ≤ F.hi ∧ F.hi < 32 ∧ G.hi < 32 ∧ (G.addr ≠ F.addr ∨ G.hi < F.lo ∨ F.hi < G.lo)

theorem fget_fset_apart (s : State) (v : Nat) {F G : Fld} (h : F.apart G) : fget (fset s F v) G = fget s G := by
  obtain ⟨hlo, hhi, hg, haddr | hbits⟩ := h
  · exact fget_fset_addr s F G v haddr
  · exact fget_fset_bits s F G v hlo hhi hg hbits

theorem flag_fset_apart (s : State) (v : Nat) {F G : Fld} (h : F.apart G) : flag (fset s F v) G = flag s G := by
  simp only [flag, fget_fset_apart s v h]

theorem flag_setF_apart (s : State) {F G : Fld} (h : F.apart G) : flag (setF s F) G = flag s G := flag_fset_apart s 1 h

theorem flag_clrF_apart (s : State) {F G : Fld} (h : F.apart G) : flag (clrF s F) G = flag s G := flag_fset_apart s 0 h

/-- What each change below a bound keeps, all of them keep. -/
theorem forN_keeps_below {β : Type} (g : State → β) (n : Nat) (f : Nat → State → State) (s : State)
    (hf : ∀ k, k < n → ∀ t, g (f k t) = g t) : g (forN n f s) = g s :=
  List.foldlRecOn (motive := fun t => g t = g s) _ _ rfl fun t ht k hk => (hf k (List.mem_range.mp hk) t).trans ht

/-! ### The parts of an edge (R383) -/

/-- Step 1: an edge of a halt is missed. -/
def edgeMissed (s : State) : State := onlyIf (edgeHalt s) (bump · TICK_MISSED_MISSED) s

/-- The count that a load puts in force. -/
def loadedCount (s : State) : Tick := BitVec.ofNat 48 (fget s TICK_SETHI_SETCNT * 2 ^ 32 + fget s TICK_SETLO_SETCNT)

/-- Step 3: the count that an edge comes to. -/
def edgeCount (halt : Bool) (s : State) : Tick :=
  if flag s TICK_CMD_LOADCNT then
    loadedCount s + BitVec.ofNat 48 (if flag s TICK_CTL_ADDMISS && halt then fget s TICK_MISSED_MISSED else 0)
  else s.tick.count + BitVec.ofNat 48 (tickInc halt s.tick.acc s.tick.trim).1.val

/-- Step 4: the calendar that an edge comes to, and whether it wraps. -/
def edgeCal (halt : Bool) (s : State) : Cal × Bool :=
  if flag s TICK_CMD_LOADCAL then
    (if flag s TICK_CMD_LOADCNT && flag s TICK_CTL_ADDMISS && crosses (loadedCount s) (edgeCount halt s)
      then nextSecond (calOfWords (rd s TICK_SETTIME) (rd s TICK_SETDATE)) else (calOfWords (rd s TICK_SETTIME) (rd s TICK_SETDATE), false))
  else if !flag s TICK_CMD_LOADCNT && crosses s.tick.count (edgeCount halt s) then nextSecond s.tick.cal else (s.tick.cal, false)

/-- The count, the calendar and the accumulator take their new values. -/
def edgeClocked (halt : Bool) (s : State) : State :=
  onlyIf (edgeCal halt s).2 (setF · TICK_EVT_CALWRAP) { s with tick := { s.tick with
    acc := (tickInc halt s.tick.acc s.tick.trim).2, count := edgeCount halt s, cal := (edgeCal halt s).1 } }

/-- A count load ends a halt that was set before the edge, and sets SETSEEN (R387, R388, R399). -/
def edgeLoaded (loadcnt : Bool) (s : State) : State :=
  onlyIf loadcnt (fun s => setF (if s.tick.haltNext then s else clrF s TICK_CTL_HALT) TICK_STAT_SETSEEN) s

/-- An OSF clear of the host takes effect where SETSEEN is set (R397, R399). -/
def edgeOsf (s : State) : State := onlyIf (s.tick.osfClr && flag s TICK_STAT_SETSEEN) osfClear s

/-- A load is done (R387). -/
def edgeDone (load : Bool) (s : State) : State :=
  onlyIf load (fun s => setF (clrF (clrF (clrF s TICK_CMD_LOADCNT) TICK_CMD_LOADCAL) TICK_STAT_LOADPEND) TICK_EVT_LOADDONE) s

/-- The edge up to its alarms and captures: what its loads leave of `s`. -/
def edgeFront (s : State) : State :=
  edgeDone (flag (edgeMissed s) TICK_CMD_LOADCNT || flag (edgeMissed s) TICK_CMD_LOADCAL)
    (edgeOsf (edgeLoaded (flag (edgeMissed s) TICK_CMD_LOADCNT) (edgeClocked (edgeHalt s) (edgeMissed s))))

/-- The captures of an edge (R389, R390): slot 1 takes what the edge before, at `old`, left, and every other slot what this one leaves. -/
def edgeSlots (old : State) (count : Tick) (cal : Cal) (osf halt : Bool) (s : State) : State :=
  forN 4 (fun slot s =>
    let n := tabGet (fun _ => 0) s.tick.capReq slot
    if n = 0 then s
    else if slot = 1 then capture 1 old.tick.count old.tick.cal old.tick.lastOsf old.tick.lastHalt (n - 1) s
    else capture slot count cal osf halt (n - 1) s) s

/-- CAP0 is clear once slot 0 has taken its capture (R389). -/
def cap0Done (s : State) : State := onlyIf (tabGet (fun _ => 0) s.tick.capReq 0 ≠ 0) (clrF · TICK_CMD_CAP0) s

def edgeCaptured (old : State) (count : Tick) (cal : Cal) (osf halt : Bool) (s : State) : State :=
  cap0Done (edgeSlots old count cal osf halt s)

/-- What TICK keeps for its next edge, and MAINSREF's sample (R395). -/
def edgeKept (osf halt : Bool) (s : State) : State :=
  mrefSample { s with tick := { s.tick with
    capReq := [], haltNext := false, haltEnd := false, osfClr := false, lastOsf := osf, lastHalt := halt, trim := trimValue s } }

/-- What follows the loads in the edge of `old`: alarms, captures, messages to the islands, and the answers to reads. -/
def edgeRest (old : State) (msg : TickMsg) (load : Bool) (count : Tick) (cal : Cal) (osf halt : Bool) (s : State) : State :=
  tickAnswers (forL edgeIslands (sendEdge msg)
    (edgeKept osf halt (edgeCaptured old count cal osf halt (forN 4 (alarmCheck old.tick.count load) s))))

/-- An edge is its parts in order. -/
theorem tickEdge_eq (s : State) : tickEdge s =
    (let u := edgeMissed s
     let halt := edgeHalt s
     let load := flag u TICK_CMD_LOADCNT
     let e := edgeFront s
     edgeRest u (if load then .load (edgeCount halt u) else .inc (tickInc halt u.tick.acc u.tick.trim).1) load (edgeCount halt u)
       (edgeCal halt u).1 (flag e TICK_STAT_OSF) (flag e TICK_CTL_HALT && !(load && e.tick.haltNext)) e) := by
  unfold tickEdge
  extract_lets halt u p old oldCal oldOsf oldHalt load loadcal addmiss setcnt new setcal q tk clocked wrapped loaded cleared e osf halted
    checked captured served tk' kept
  have hu : u = edgeMissed s := rfl
  clear_value u
  have hnew : new = edgeCount halt u := rfl
  have hq : q = edgeCal halt u := rfl
  have hwrapped : wrapped = edgeClocked halt u := rfl
  clear_value wrapped
  have hloaded : loaded = edgeLoaded load wrapped := rfl
  clear_value loaded
  have hcleared : cleared = edgeOsf loaded := rfl
  clear_value cleared
  have he : e = edgeDone (load || loadcal) cleared := rfl
  clear_value e
  have hcaptured : captured = edgeSlots u new q.1 osf halted checked := rfl
  clear_value captured
  have hserved : served = cap0Done captured := rfl
  clear_value served
  have hkept : kept = edgeKept osf halted served := rfl
  rw [hkept, hserved, hcaptured]
  subst he hcleared hloaded hwrapped hu
  rfl

/-! ### What the parts leave alone -/

/-- A capture changes the registers of its slot alone. -/
theorem rd_capture {slot a : Nat} (count : Tick) (cal : Cal) (osf halt : Bool) (tag : Nat) (s : State) (hslot : slot < 4)
    (ha : a / 0x100000 ≠ 0x209 ∨ a < 0x20900100) : rd (capture slot count cal osf halt tag s) a = rd s a := by
  have hT : a ≠ TICK_CAPT slot := by unfold TICK_CAPT; omega
  have hThi : a ≠ TICK_CAPTHI slot := by unfold TICK_CAPTHI; omega
  have hTime : a ≠ TICK_CAPTIME slot := by unfold TICK_CAPTIME; omega
  have hDate : a ≠ TICK_CAPDATE slot := by unfold TICK_CAPDATE; omega
  have hStat : a ≠ TICK_CAPSTAT slot := by unfold TICK_CAPSTAT; omega
  simp only [capture, rd_wr_ne _ _ _ _ hT, rd_wr_ne _ _ _ _ hThi, rd_wr_ne _ _ _ _ hTime, rd_wr_ne _ _ _ _ hDate, rd_wr_ne _ _ _ _ hStat]

theorem alarmCheck_regs (old : Tick) (load : Bool) (n : Nat) (s : State) : (alarmCheck old load n s).regs = s.regs := by
  unfold alarmCheck
  dsimp only
  split <;> rfl

theorem sendEdge_regs (m : TickMsg) (i : Nat) (s : State) : (sendEdge m i s).regs = s.regs := by
  unfold sendEdge
  split
  · rfl
  · split <;> rfl

theorem setReply_regs (i : Initiator) (r : BusReply) (s : State) : (setReply i r s).regs = s.regs := by cases i <;> rfl

theorem tickAnswers_regs (s : State) : (tickAnswers s).regs = s.regs :=
  forL_keeps State.regs _ _ _ fun _ _ => setReply_regs ..

/-- What the rest of an edge leaves of the clock and of the state around it. -/
def clockOf (s : State) : Tick × Int × LifeSt × Tab Power := (s.tick.count, s.tick.acc, s.life, s.sys.power)

theorem clockOf_alarmCheck (old : Tick) (load : Bool) (n : Nat) (s : State) : clockOf (alarmCheck old load n s) = clockOf s := by
  unfold alarmCheck
  dsimp only
  split <;> rfl

theorem clockOf_wr (s : State) (a : Nat) (v : Word) : clockOf (wr s a v) = clockOf s := rfl

theorem clockOf_fset (s : State) (F : Fld) (v : Nat) : clockOf (fset s F v) = clockOf s := rfl

theorem clockOf_capture (slot : Nat) (count : Tick) (cal : Cal) (osf halt : Bool) (tag : Nat) (s : State) :
    clockOf (capture slot count cal osf halt tag s) = clockOf s := by
  unfold capture
  dsimp only
  rw [clockOf_wr, clockOf_wr, clockOf_wr, clockOf_wr, clockOf_wr]

theorem clockOf_edgeCaptured (old : State) (count : Tick) (cal : Cal) (osf halt : Bool) (s : State) :
    clockOf (edgeCaptured old count cal osf halt s) = clockOf s := by
  rw [edgeCaptured, cap0Done, onlyIf_keeps clockOf _ (clrF · TICK_CMD_CAP0) _ fun t => clockOf_fset t _ 0, edgeSlots, forN_keeps clockOf]
  intro slot t
  dsimp only
  split
  · rfl
  · split <;> exact clockOf_capture ..

theorem clockOf_sendEdge (m : TickMsg) (i : Nat) (s : State) : clockOf (sendEdge m i s) = clockOf s := by
  unfold sendEdge
  split
  · rfl
  · split <;> rfl

theorem tick_sendEdge (m : TickMsg) (i : Nat) (s : State) : (sendEdge m i s).tick = s.tick := by
  unfold sendEdge
  split
  · rfl
  · split <;> rfl

theorem clockOf_tickAnswers (s : State) : clockOf (tickAnswers s) = clockOf s :=
  forL_keeps clockOf s.tick.reads _ s fun x _ => by cases x with | mk i a => cases i <;> rfl

theorem trim_tickAnswers (s : State) : (tickAnswers s).tick.trim = s.tick.trim :=
  forL_keeps (fun s => s.tick.trim) s.tick.reads _ s fun x _ => by cases x with | mk i a => cases i <;> rfl

section
variable (old : State) (msg : TickMsg) (load : Bool) (count : Tick) (cal : Cal) (osf halt : Bool) (s : State)

theorem edgeKept_regs : (edgeKept osf halt s).regs = s.regs := rfl

theorem trim_edgeKept : (edgeKept osf halt s).tick.trim = trimValue s := rfl

theorem clockOf_edgeKept : clockOf (edgeKept osf halt s) = clockOf s := rfl

theorem clockOf_edgeRest : clockOf (edgeRest old msg load count cal osf halt s) = clockOf s := by
  rw [edgeRest, clockOf_tickAnswers, forL_keeps clockOf _ _ _ (clockOf_sendEdge msg), clockOf_edgeKept, clockOf_edgeCaptured,
    forN_keeps clockOf _ _ _ (clockOf_alarmCheck old.tick.count load)]

theorem edgeRest_regs : (edgeRest old msg load count cal osf halt s).regs =
    (edgeCaptured old count cal osf halt (forN 4 (alarmCheck old.tick.count load) s)).regs := by
  rw [edgeRest, tickAnswers_regs, forL_keeps State.regs _ _ _ (sendEdge_regs msg), edgeKept_regs]

/-- The captures change their own registers and CAP0. -/
theorem rd_edgeCaptured {a : Nat} (ha : a / 0x100000 ≠ 0x209 ∨ a < 0x20900100) (hcmd : a ≠ TICK_CMD) :
    rd (edgeCaptured old count cal osf halt s) a = rd s a := by
  rw [edgeCaptured, cap0Done, onlyIf_keeps (rd · a) _ (clrF · TICK_CMD_CAP0) _ fun t => rd_fset_ne t _ 0 a hcmd, edgeSlots,
    forN_keeps_below (rd · a)]
  intro slot hslot t
  dsimp only
  split
  · rfl
  · split
    · exact rd_capture _ _ _ _ _ t (by decide) ha
    · exact rd_capture _ _ _ _ _ t hslot ha

/-- The captures leave the load bits of TICK_CMD. -/
theorem fget_edgeCaptured_cmd {hi lo : Nat} (hhi : hi < 2) :
    fget (edgeCaptured old count cal osf halt s) ⟨TICK_CMD, hi, lo⟩ = fget s ⟨TICK_CMD, hi, lo⟩ := by
  have hapart : TICK_CMD_CAP0.apart ⟨TICK_CMD, hi, lo⟩ := ⟨by decide, by decide, show hi < 32 by omega, Or.inr (Or.inl hhi)⟩
  have hcmd : TICK_CMD / 0x100000 ≠ 0x209 ∨ TICK_CMD < 0x20900100 := by decide
  rw [edgeCaptured, cap0Done, onlyIf_keeps (fget · ⟨TICK_CMD, hi, lo⟩) _ (clrF · TICK_CMD_CAP0) _ fun t => fget_fset_apart t 0 hapart,
    edgeSlots, forN_keeps_below (fget · ⟨TICK_CMD, hi, lo⟩)]
  intro slot hslot t
  dsimp only [fget]
  split
  · rfl
  · split
    · rw [rd_capture _ _ _ _ _ t (by decide) hcmd]
    · rw [rd_capture _ _ _ _ _ t hslot hcmd]

theorem rd_forN_alarmCheck (a : Nat) : rd (forN 4 (alarmCheck old.tick.count load) s) a = rd s a :=
  rd_of_regs _ _ a (forN_keeps State.regs _ _ _ fun _ _ => alarmCheck_regs ..)

theorem rd_edgeRest {a : Nat} (ha : a / 0x100000 ≠ 0x209 ∨ a < 0x20900100) (hcmd : a ≠ TICK_CMD) :
    rd (edgeRest old msg load count cal osf halt s) a = rd s a :=
  (rd_of_regs _ _ a (edgeRest_regs ..)).trans ((rd_edgeCaptured _ _ _ _ _ _ ha hcmd).trans (rd_forN_alarmCheck ..))

/-- A field of a register below the captures, other than TICK_CMD, is as the loads left it. -/
theorem fget_edgeRest {F : Fld} (ha : F.addr / 0x100000 ≠ 0x209 ∨ F.addr < 0x20900100) (hcmd : F.addr ≠ TICK_CMD) :
    fget (edgeRest old msg load count cal osf halt s) F = fget s F := by
  simp only [fget, rd_edgeRest _ _ _ _ _ _ _ _ ha hcmd]

theorem fget_edgeRest_cmd {hi lo : Nat} (hhi : hi < 2) :
    fget (edgeRest old msg load count cal osf halt s) ⟨TICK_CMD, hi, lo⟩ = fget s ⟨TICK_CMD, hi, lo⟩ :=
  (fget_of_regs _ _ _ (edgeRest_regs ..)).trans ((fget_edgeCaptured_cmd _ _ _ _ _ _ hhi).trans
    (fget_of_regs _ _ _ (forN_keeps State.regs _ _ _ fun _ _ => alarmCheck_regs ..)))

/-- TRIM comes in force at the next edge (R394). -/
theorem trim_edgeRest : (edgeRest old msg load count cal osf halt s).tick.trim = trimValue s := by
  have hreg : fget (edgeCaptured old count cal osf halt (forN 4 (alarmCheck old.tick.count load) s)) TICK_TRIM_TRIM =
      fget s TICK_TRIM_TRIM := by
    simp only [fget, rd_edgeCaptured old count cal osf halt _ (a := TICK_TRIM) (by decide) (by decide), rd_forN_alarmCheck]
  rw [edgeRest, trim_tickAnswers, forL_keeps State.tick _ _ _ (tick_sendEdge msg), trim_edgeKept, trimValue, hreg]
  rfl

end

/-! ### What the loads leave (R383, R387, R388, R397, R399) -/

/-- A missed edge changes MISSED alone. -/
theorem fget_edgeMissed (s : State) {F : Fld} (h : F.addr ≠ TICK_MISSED) : fget (edgeMissed s) F = fget s F :=
  onlyIf_keeps (fget · F) _ _ s fun t => fget_fset_addr t _ _ _ h

theorem flag_edgeMissed (s : State) {F : Fld} (h : F.addr ≠ TICK_MISSED) : flag (edgeMissed s) F = flag s F := by
  simp only [flag, fget_edgeMissed s h]

theorem missed_edgeMissed {s : State} (hhalt : edgeHalt s = true) :
    fget (edgeMissed s) TICK_MISSED_MISSED = min (fget s TICK_MISSED_MISSED + 1) (2 ^ 32 - 1) := by
  rw [edgeMissed, onlyIf, if_pos hhalt, bump, bumpBy, fget_fset _ _ _ (by decide) (by decide)]
  exact Nat.mod_eq_of_lt (lt_of_le_of_lt (min_le_right _ _) (by decide))

theorem edgeMissed_tick (s : State) : (edgeMissed s).tick = s.tick := onlyIf_keeps State.tick _ _ s fun _ => rfl

theorem edgeMissed_life (s : State) : (edgeMissed s).life = s.life := onlyIf_keeps State.life _ _ s fun _ => rfl

theorem edgeMissed_sys (s : State) : (edgeMissed s).sys = s.sys := onlyIf_keeps State.sys _ _ s fun _ => rfl

theorem edgeLoaded_tick (load : Bool) (s : State) : (edgeLoaded load s).tick = s.tick :=
  onlyIf_keeps State.tick _ _ s fun t => by rw [setF_tick]; split <;> rfl

theorem clockOf_edgeLoaded (load : Bool) (s : State) : clockOf (edgeLoaded load s) = clockOf s :=
  onlyIf_keeps clockOf _ _ s fun t => by unfold clockOf; split <;> rfl

theorem clockOf_edgeOsf (s : State) : clockOf (edgeOsf s) = clockOf s := onlyIf_keeps clockOf _ _ s fun _ => rfl

theorem clockOf_edgeDone (load : Bool) (s : State) : clockOf (edgeDone load s) = clockOf s := onlyIf_keeps clockOf _ _ s fun _ => rfl

/-- The end of a load changes its command bits, LOADPEND and LOADDONE. -/
theorem fget_edgeDone (load : Bool) (s : State) {F : Fld} (hcnt : TICK_CMD_LOADCNT.apart F) (hcal : TICK_CMD_LOADCAL.apart F)
    (hpend : TICK_STAT_LOADPEND.apart F) (hdone : TICK_EVT_LOADDONE.apart F) : fget (edgeDone load s) F = fget s F :=
  onlyIf_keeps (fget · F) _ _ s fun t => by
    simp only [setF, clrF, fget_fset_apart _ _ hdone, fget_fset_apart _ _ hpend, fget_fset_apart _ _ hcal, fget_fset_apart _ _ hcnt]

theorem fget_edgeOsf (s : State) {F : Fld} (h : F.addr ≠ TICK_STAT) : fget (edgeOsf s) F = fget s F :=
  onlyIf_keeps (fget · F) _ _ s fun t => by
    simp only [osfClear, clrF, fget_fset_addr _ _ _ _ (show F.addr ≠ TICK_STAT_SETSEEN.addr from h),
      fget_fset_addr _ _ _ _ (show F.addr ≠ TICK_STAT_OSF.addr from h)]

theorem fget_edgeClocked (halt : Bool) (s : State) {F : Fld} (h : F.addr ≠ TICK_EVT) : fget (edgeClocked halt s) F = fget s F :=
  onlyIf_keeps (fget · F) _ _ _ fun t => fget_fset_addr t _ _ _ h

theorem edgeClocked_tick (halt : Bool) (s : State) : (edgeClocked halt s).tick = { s.tick with
    acc := (tickInc halt s.tick.acc s.tick.trim).2, count := edgeCount halt s, cal := (edgeCal halt s).1 } :=
  onlyIf_keeps State.tick _ _ _ fun _ => rfl

theorem clockOf_edgeClocked (halt : Bool) (s : State) : clockOf (edgeClocked halt s) =
    (edgeCount halt s, (tickInc halt s.tick.acc s.tick.trim).2, s.life, s.sys.power) := onlyIf_keeps clockOf _ _ _ fun _ => rfl

theorem fget_edgeLoaded (load : Bool) (s : State) {F : Fld} (hstat : F.addr ≠ TICK_STAT) (hctl : F.addr ≠ TICK_CTL) :
    fget (edgeLoaded load s) F = fget s F :=
  onlyIf_keeps (fget · F) _ _ s fun t => by
    rw [setF, fget_fset_addr _ _ _ _ (show F.addr ≠ TICK_STAT_SETSEEN.addr from hstat)]
    split
    · rfl
    · exact fget_fset_addr _ _ _ _ (show F.addr ≠ TICK_CTL_HALT.addr from hctl)

/-- The clock after the loads of an edge. -/
theorem clockOf_edgeFront (s : State) : clockOf (edgeFront s) =
    (edgeCount (edgeHalt s) (edgeMissed s), (tickInc (edgeHalt s) s.tick.acc s.tick.trim).2, s.life, s.sys.power) := by
  rw [edgeFront, clockOf_edgeDone, clockOf_edgeOsf, clockOf_edgeLoaded, clockOf_edgeClocked, edgeMissed_tick, edgeMissed_life,
    edgeMissed_sys]

/-- A field outside TICK_CTL, TICK_STAT, TICK_EVT and TICK_CMD is as the missed edge left it. -/
theorem fget_edgeFront (s : State) {F : Fld} (hF : F.lo ≤ F.hi ∧ F.hi < 32) (hctl : F.addr ≠ TICK_CTL) (hstat : F.addr ≠ TICK_STAT)
    (hevt : F.addr ≠ TICK_EVT) (hcmd : F.addr ≠ TICK_CMD) : fget (edgeFront s) F = fget (edgeMissed s) F := by
  have apart : ∀ G : Fld, G.lo ≤ G.hi → G.hi < 32 → F.addr ≠ G.addr → G.apart F := fun G hlo hhi h => ⟨hlo, hhi, hF.2, Or.inl h⟩
  rw [edgeFront, fget_edgeDone _ _ (apart _ (by decide) (by decide) hcmd) (apart _ (by decide) (by decide) hcmd)
    (apart _ (by decide) (by decide) hstat) (apart _ (by decide) (by decide) hevt), fget_edgeOsf _ hstat, fget_edgeLoaded _ _ hstat hctl,
    fget_edgeClocked _ _ hevt]

/-- Registers outside TICK's block are as they were. -/
theorem rd_fset_outside (s : State) (v : Nat) {a : Nat} {F : Fld} (ha : a / 0x100000 ≠ 0x209) (hF : F.addr / 0x100000 = 0x209) :
    rd (fset s F v) a = rd s a := rd_fset_ne s F v a fun h => ha (h ▸ hF)

theorem rd_edgeFront_outside (s : State) {a : Nat} (ha : a / 0x100000 ≠ 0x209) : rd (edgeFront s) a = rd s a := by
  have store : ∀ (t : State) (F : Fld) (v : Nat), F.addr / 0x100000 = 0x209 → rd (fset t F v) a = rd t a := fun t F v h =>
    rd_fset_outside t v ha h
  have hmissed : rd (edgeMissed s) a = rd s a := onlyIf_keeps (rd · a) _ _ s fun t => store t _ _ rfl
  have hclocked : ∀ halt t, rd (edgeClocked halt t) a = rd t a := fun halt t => onlyIf_keeps (rd · a) _ _ _ fun t => store t _ _ rfl
  have hloaded : ∀ load t, rd (edgeLoaded load t) a = rd t a := fun load t => onlyIf_keeps (rd · a) _ _ t fun t => by
    rw [setF, store _ TICK_STAT_SETSEEN _ rfl]
    split
    · rfl
    · exact store t _ _ rfl
  have hosf : ∀ t, rd (edgeOsf t) a = rd t a := fun t => onlyIf_keeps (rd · a) _ _ t fun t => by
    rw [osfClear, clrF, store _ TICK_STAT_SETSEEN _ rfl, clrF, store _ TICK_STAT_OSF _ rfl]
  have hdone : ∀ load t, rd (edgeDone load t) a = rd t a := fun load t => onlyIf_keeps (rd · a) _ _ t fun t => by
    rw [setF, store _ TICK_EVT_LOADDONE _ rfl, clrF, store _ TICK_STAT_LOADPEND _ rfl, clrF, store _ TICK_CMD_LOADCAL _ rfl, clrF,
      store _ TICK_CMD_LOADCNT _ rfl]
  rw [edgeFront, hdone, hosf, hloaded, hclocked, hmissed]

/-- A load that is done sets LOADDONE and clears its command bits and LOADPEND. -/
theorem flags_edgeDone (s : State) : flag (edgeDone true s) TICK_EVT_LOADDONE = true ∧ flag (edgeDone true s) TICK_CMD_LOADCNT = false ∧
    flag (edgeDone true s) TICK_CMD_LOADCAL = false ∧ flag (edgeDone true s) TICK_STAT_LOADPEND = false := by
  refine ⟨flag_setF _ _ rfl (by decide), ?_, ?_, ?_⟩
  · rw [edgeDone, onlyIf, if_pos rfl, flag_setF_apart _ (by decide), flag_clrF_apart _ (by decide), flag_clrF_apart _ (by decide)]
    exact flag_clrF _ _ rfl (by decide)
  · rw [edgeDone, onlyIf, if_pos rfl, flag_setF_apart _ (by decide), flag_clrF_apart _ (by decide)]
    exact flag_clrF _ _ rfl (by decide)
  · rw [edgeDone, onlyIf, if_pos rfl, flag_setF_apart _ (by decide)]
    exact flag_clrF _ _ rfl (by decide)

theorem flag_edgeDone (load : Bool) (s : State) {F : Fld} (hcnt : TICK_CMD_LOADCNT.apart F) (hcal : TICK_CMD_LOADCAL.apart F)
    (hpend : TICK_STAT_LOADPEND.apart F) (hdone : TICK_EVT_LOADDONE.apart F) : flag (edgeDone load s) F = flag s F := by
  simp only [flag, fget_edgeDone load s hcnt hcal hpend hdone]

/-- A count load leaves HALT set only where it was set since the edge before. -/
theorem halt_edgeLoaded (s : State) : flag (edgeLoaded true s) TICK_CTL_HALT = (flag s TICK_CTL_HALT && s.tick.haltNext) := by
  rw [edgeLoaded, onlyIf, if_pos rfl, flag_setF_apart _ (by decide)]
  cases s.tick.haltNext
  · rw [if_neg Bool.false_ne_true, flag_clrF _ _ rfl (by decide), Bool.and_false]
  · rw [if_pos rfl, Bool.and_true]

theorem setseen_edgeLoaded (s : State) : flag (edgeLoaded true s) TICK_STAT_SETSEEN = true := flag_setF _ _ rfl (by decide)

theorem setseen_edgeLoaded_of_set {load : Bool} {s : State} (h : flag s TICK_STAT_SETSEEN = true ∨ load = true) :
    flag (edgeLoaded load s) TICK_STAT_SETSEEN = true := by
  cases load with
  | true => exact setseen_edgeLoaded s
  | false => exact h.resolve_right Bool.false_ne_true

theorem edgeOsf_of_none {s : State} (h : s.tick.osfClr = false) : edgeOsf s = s := by rw [edgeOsf, h]; rfl

/-- OSF is cleared with SETSEEN. -/
theorem flags_edgeOsf {s : State} (hclr : s.tick.osfClr = true) (hseen : flag s TICK_STAT_SETSEEN = true) :
    flag (edgeOsf s) TICK_STAT_OSF = false ∧ flag (edgeOsf s) TICK_STAT_SETSEEN = false := by
  rw [edgeOsf, hclr, hseen]
  refine ⟨?_, flag_clrF _ _ rfl (by decide)⟩
  exact (flag_clrF_apart (clrF s TICK_STAT_OSF) (G := TICK_STAT_OSF) (by decide)).trans (flag_clrF _ _ rfl (by decide))

theorem flag_edgeClocked (halt : Bool) (s : State) {F : Fld} (h : F.addr ≠ TICK_EVT) : flag (edgeClocked halt s) F = flag s F := by
  simp only [flag, fget_edgeClocked halt s h]

theorem flag_edgeOsf (s : State) {F : Fld} (h : F.addr ≠ TICK_STAT) : flag (edgeOsf s) F = flag s F := by
  simp only [flag, fget_edgeOsf s h]

/-- A flag of the edge's end, below the captures and outside TICK_CMD, is as its loads left it. -/
theorem flag_tickEdge (s : State) {F : Fld} (ha : F.addr / 0x100000 ≠ 0x209 ∨ F.addr < 0x20900100) (hcmd : F.addr ≠ TICK_CMD) :
    flag (tickEdge s) F = flag (edgeFront s) F := by
  rw [tickEdge_eq]
  simp only [flag, fget_edgeRest _ _ _ _ _ _ _ _ ha hcmd]

theorem flag_tickEdge_cmd (s : State) {hi lo : Nat} (hhi : hi < 2) :
    flag (tickEdge s) ⟨TICK_CMD, hi, lo⟩ = flag (edgeFront s) ⟨TICK_CMD, hi, lo⟩ := by
  rw [tickEdge_eq]
  simp only [flag, fget_edgeRest_cmd _ _ _ _ _ _ _ _ hhi]

theorem clockOf_tickEdge (s : State) : clockOf (tickEdge s) =
    (edgeCount (edgeHalt s) (edgeMissed s), (tickInc (edgeHalt s) s.tick.acc s.tick.trim).2, s.life, s.sys.power) := by
  rw [tickEdge_eq]
  exact (clockOf_edgeRest ..).trans (clockOf_edgeFront s)

theorem trim_tickEdge (s : State) : (tickEdge s).tick.trim = trimValue s := by
  rw [tickEdge_eq]
  refine (trim_edgeRest ..).trans ?_
  simp only [trimValue, fget_edgeFront s (F := TICK_TRIM_TRIM) (by decide) (by decide) (by decide) (by decide) (by decide),
    fget_edgeMissed s (F := TICK_TRIM_TRIM) (by decide)]

theorem edgeHalt_of_no_load {s : State} (h : flag s TICK_CMD_LOADCNT = false) : edgeHalt s = flag s TICK_CTL_HALT := by
  rw [edgeHalt, h]; rfl

/-- Settles O40: the clock, then the flags, as the parts of the edge leave them. -/
theorem tickEdgeAdvancesCount : Obligations.TickEdgeAdvancesCount := by
  unfold Obligations.TickEdgeAdvancesCount
  intro s
  have hclock := clockOf_tickEdge s
  simp only [clockOf, Prod.mk.injEq] at hclock
  obtain ⟨hcount, hacc, hlife, hpower⟩ := hclock
  have hcnt : flag (edgeMissed s) TICK_CMD_LOADCNT = flag s TICK_CMD_LOADCNT := flag_edgeMissed s (by decide)
  have hcal : flag (edgeMissed s) TICK_CMD_LOADCAL = flag s TICK_CMD_LOADCAL := flag_edgeMissed s (by decide)
  refine ⟨tickEdge s, rfl, fun hno => ?_, rfl, fun hload => ?_, hacc, trim_tickEdge s, fun hany => ?_, fun hload => ⟨?_, fun hclr => ?_⟩,
    fun hclr hseen => ?_, fun hhalt => ?_, fun a ha => ?_, hlife, hpower, rfl⟩
  · rw [hcount, edgeCount, hcnt, hno, edgeMissed_tick, edgeHalt_of_no_load hno]
    rfl
  · rw [hcount, edgeCount, hcnt, hload, if_pos rfl, loadedCount, flag_edgeMissed s (by decide), fget_edgeMissed s (by decide),
      fget_edgeMissed s (by decide)]
    by_cases hhalt : edgeHalt s = true
    · simp only [hhalt, Bool.and_true, and_true, missed_edgeMissed hhalt]
    · simp only [hhalt, Bool.and_false, Bool.false_eq_true, and_false, if_false]
  · obtain ⟨hdone, hcntClear, hcalClear, hpend⟩ :=
      flags_edgeDone (edgeOsf (edgeLoaded (flag s TICK_CMD_LOADCNT) (edgeClocked (edgeHalt s) (edgeMissed s))))
    have hfront : edgeFront s = edgeDone true (edgeOsf (edgeLoaded (flag s TICK_CMD_LOADCNT) (edgeClocked (edgeHalt s) (edgeMissed s)))) := by
      rw [edgeFront, hcnt, hcal, (Bool.or_eq_true _ _).mpr hany]
    rw [← hfront] at hdone hcntClear hcalClear hpend
    exact ⟨(flag_tickEdge s (by decide) (by decide)).trans hdone, (flag_tickEdge_cmd s (by decide)).trans hcntClear,
      (flag_tickEdge_cmd s (by decide)).trans hcalClear, (flag_tickEdge s (by decide) (by decide)).trans hpend⟩
  · rw [flag_tickEdge s (by decide) (by decide), edgeFront, flag_edgeDone _ _ (by decide) (by decide) (by decide) (by decide),
      flag_edgeOsf _ (by decide), hcnt, hload, halt_edgeLoaded, flag_edgeClocked _ _ (by decide), flag_edgeMissed s (by decide),
      edgeClocked_tick, edgeMissed_tick]
  · have hnone : (edgeLoaded true (edgeClocked (edgeHalt s) (edgeMissed s))).tick.osfClr = false := by
      rw [edgeLoaded_tick, edgeClocked_tick, edgeMissed_tick]
      exact hclr
    rw [flag_tickEdge s (by decide) (by decide), edgeFront, flag_edgeDone _ _ (by decide) (by decide) (by decide) (by decide), hcnt,
      hload, edgeOsf_of_none hnone, setseen_edgeLoaded]
  · have hset : (edgeLoaded (flag s TICK_CMD_LOADCNT) (edgeClocked (edgeHalt s) (edgeMissed s))).tick.osfClr = true := by
      rw [edgeLoaded_tick, edgeClocked_tick, edgeMissed_tick]
      exact hclr
    have hseen' : flag (edgeLoaded (flag s TICK_CMD_LOADCNT) (edgeClocked (edgeHalt s) (edgeMissed s))) TICK_STAT_SETSEEN = true := by
      refine setseen_edgeLoaded_of_set ?_
      rw [flag_edgeClocked _ _ (by decide), flag_edgeMissed s (by decide)]
      exact hseen
    rw [flag_tickEdge s (by decide) (by decide), flag_tickEdge s (by decide) (by decide), edgeFront,
      flag_edgeDone _ _ (by decide) (by decide) (by decide) (by decide), flag_edgeDone _ _ (by decide) (by decide) (by decide) (by decide), hcnt]
    exact flags_edgeOsf hset hseen'
  · rw [tickEdge_eq]
    refine (fget_edgeRest _ _ _ _ _ _ _ _ (by decide) (by decide)).trans ?_
    rw [fget_edgeFront s (by decide) (by decide) (by decide) (by decide) (by decide), missed_edgeMissed hhalt]
  · have hcmd : a ≠ TICK_CMD := fun h => ha (h ▸ rfl)
    rw [tickEdge_eq]
    exact (rd_edgeRest _ _ _ _ _ _ _ _ (Or.inl ha) hcmd).trans (rd_edgeFront_outside s ha)

end Sys2Proof.Machine
end

section
/-! PROOFS. The commands of TICK (14_tick_counter_and_calendar, R387 to R389, R392 to R397, R399; that a write takes effect when it is made
and is undone or kept at its edge is assumption log 8). -/

namespace Sys2Proof.Machine

/-! ### Loads and captures (R387, R389) -/

theorem lor_one_of_le_one {n : Nat} (h : n ≤ 1) : n ||| 1 = 1 := by
  interval_cases n <;> rfl

/-- A count load is requested while no calendar load is. -/
theorem tickCmdWrite_loadcnt {u : State} (hcal : fget u TICK_CMD_LOADCAL = 0) (hcnt : fget u TICK_CMD_LOADCNT ≤ 1) :
    tickCmdWrite 1 u = setF (fset (setF u TICK_CMD_LOADCNT) TICK_CMD_LOADCAL 0) TICK_STAT_LOADPEND := by
  have hc : fget u TICK_CMD_LOADCNT ||| wget (1 : Word) 0 0 = 1 := lor_one_of_le_one hcnt
  have hd : fget u TICK_CMD_LOADCAL ||| wget (1 : Word) 1 1 = 0 := by rw [hcal]; rfl
  simp only [tickCmdWrite, hc, hd]
  rfl

/-- A calendar load is requested while no count load is. -/
theorem tickCmdWrite_loadcal {u : State} (hcnt : fget u TICK_CMD_LOADCNT = 0) (hcal : fget u TICK_CMD_LOADCAL ≤ 1) :
    tickCmdWrite 2 u = setF (setF (fset u TICK_CMD_LOADCNT 0) TICK_CMD_LOADCAL) TICK_STAT_LOADPEND := by
  have hc : fget u TICK_CMD_LOADCNT ||| wget (2 : Word) 0 0 = 0 := by rw [hcnt]; rfl
  have hd : fget u TICK_CMD_LOADCAL ||| wget (2 : Word) 1 1 = 1 := lor_one_of_le_one hcal
  simp only [tickCmdWrite, hc, hd]
  rfl

/-- A trigger of a slot stands with its tag until the edge that takes it. -/
theorem capReq_capTrigger (slot tag : Nat) (u : State) :
    tabGet (fun _ => 0) (capTrigger slot tag u).tick.capReq slot = 1 + tag % 65536 := tabGet_set_self (fun _ => 0) u.tick.capReq _ _

/-- A capture of slot 0 is requested, with tag 0, whatever becomes of the loads. -/
theorem tickCmdWrite_cap0 (u : State) : (tickCmdWrite 4 u).tick = (capTrigger 0 0 u).tick := by
  unfold tickCmdWrite
  dsimp only
  split <;> rfl

/-! ### HALT, TRIM and alarms (R388, R392 to R394) -/

theorem tickHalt_set {u : State} (h : flag u TICK_CTL_HALT = false) : tickHalt true u =
    { wr (setF u TICK_CTL_HALT) TICK_MISSED 0 with tick := { u.tick with haltNext := true, haltEnd := false } } := by
  simp only [tickHalt, h]

theorem tickHalt_clear {u : State} (h : flag u TICK_CTL_HALT = true) : tickHalt false u =
    { clrF u TICK_CTL_HALT with tick := { u.tick with haltNext := false, haltEnd := !u.tick.haltNext } } := by
  simp only [tickHalt, h]

theorem tickTrimWrite_in_range {v : Word} {u : State} (hlock : flag u TICK_CTL_LOCK = false) (hv : wget v 10 0 ≠ 0x400) :
    tickTrimWrite v u = fset u TICK_TRIM_TRIM (wget v 10 0) := by
  simp [tickTrimWrite, hlock, hv]

theorem tickTrimWrite_refused {v : Word} {u : State} (h : flag u TICK_CTL_LOCK = true ∨ wget v 10 0 = 0x400) : tickTrimWrite v u = u := by
  rcases h with h | h <;> simp [tickTrimWrite, h]

/-! ### MAINSREF (R395) -/

section
variable {s : State} (hen : flag s TICK_CTL_MREFEN = true) (haux : flag s SYS_SUPSTAT_VAUXOK = true)
include hen haux

/-- A qualified edge under a window length opens a window, is counted within it, or closes it and opens the next. -/
theorem execMainsrefEdge_of_qualified {k : TickSt} (hk : k = { s.tick with mrefQual := false, mrefGap := 0 })
    (hqual : s.tick.mrefQual = true) : execMainsrefEdge s =
      if fget s TICK_MREFCFG_CYC = 0 then
        .next { setF (setF (fset s TICK_MREFRES_TICKS 0) TICK_MREFRES_VALID) TICK_EVT_MREFDONE with
          tick := { k with mrefOpen := true, mrefCyc := 0, mrefTick := 0 } }
      else if s.tick.mrefOpen then
        if s.tick.mrefCyc + 1 ≥ fget s TICK_MREFCFG_CYC then
          .next { setF (setF (fset s TICK_MREFRES_TICKS s.tick.mrefTick) TICK_MREFRES_VALID) TICK_EVT_MREFDONE with
            tick := { k with mrefOpen := true, mrefCyc := 0, mrefTick := 0 } }
        else .next { s with tick := { k with mrefCyc := s.tick.mrefCyc + 1 } }
      else .next { s with tick := { k with mrefOpen := true, mrefCyc := 0, mrefTick := 0 } } := by
  subst hk
  exact if_pos (by rw [hen, haux, hqual]; rfl)

theorem execMainsrefLoss_of_open (hopen : s.tick.mrefOpen = true) (hgap : 3277 ≤ s.tick.mrefGap) : execMainsrefLoss s =
    .next { setF s TICK_EVT_MREFLOSS with tick := { s.tick with mrefOpen := false, mrefCyc := 0, mrefTick := 0 } } := by
  simp [execMainsrefLoss, hen, haux, hopen, mrefLimit, hgap]

end

/-- Settles O42, command by command: each comes down to its operation's case. -/
theorem tickCommandsComplete : Obligations.TickCommandsComplete := by
  unfold Obligations.TickCommandsComplete
  refine ⟨fun i s u h hcal hcnt => access_answers h (tickCmdWrite_loadcnt hcal hcnt),
    fun i s u h hcnt hcal => access_answers h (tickCmdWrite_loadcal hcnt hcal),
    fun i s u h => ⟨tickCmdWrite 4 u, access_answers h rfl, ?_, (congrArg TickSt.count (tickCmdWrite_cap0 u)).trans rfl⟩,
    fun i s u h hhalt => access_answers h (tickHalt_set hhalt), fun i s u h hhalt => access_answers h (tickHalt_clear hhalt),
    fun i v s u h => ⟨fun hlock hv => access_answers h (tickTrimWrite_in_range hlock hv),
      fun hrefused => access_answers h (tickTrimWrite_refused hrefused)⟩,
    fun i n v s u h => ⟨tickAlarmWrite n.val v u, access_answers h rfl, rfl, tabGet_set_self .., rfl⟩,
    fun n d s hd hdue harm => ?_, fun s n k hn hk hen haux hqual => ?_,
    fun s hen haux hopen hgap => execMainsrefLoss_of_open hen haux hopen hgap,
    fun s => ⟨setOsf s, rfl, rfl, rfl, fun hup => if_pos hup⟩, fun s u h => access_answers h (if_pos ⟨rfl, rfl⟩)⟩
  · rw [tickCmdWrite_cap0, capReq_capTrigger]
  · subst hd
    exact ⟨_, if_pos (by rw [hdue, harm]; rfl), rfl, rfl, rfl⟩
  · have hedge : exec .mainsrefEdge s = _ := execMainsrefEdge_of_qualified hen haux hk hqual
    rw [hedge, ← hn]
    refine ⟨fun hcyc hclosed => ?_, fun hopen hwithin => ?_, fun hcyc hopen hlast => ?_, fun hzero => ?_⟩
    · rw [if_neg hcyc, hclosed]; rfl
    · rw [if_neg (by omega), if_pos hopen, if_neg (by omega)]
    · rw [if_neg hcyc, if_pos hopen, if_pos hlast]
      exact ⟨_, rfl, rfl, rfl⟩
    · rw [if_pos hzero]
      exact ⟨_, rfl, rfl, rfl⟩

end Sys2Proof.Machine
end

section
/-! PROOFS. STORE: the recorder, its window, the page queue and the NAND (15_event_recorder_and_storage, R403 to R405, R407, R408, R411, R412,
R415, R422 to R424; that VALID is cleared when a NAND command starts, and a waiting erase ends with code 5 at suspension, is assumption log 95). -/

namespace Sys2Proof.Machine

/-! ### Events of STORE (R53) -/

theorem inStore_answers {s u r : State} {f : State → State} (hup : islUp s 12 = true) (hu : u = rouse 12 s) (hr : f u = r) :
    inStore f s = .next r := by
  rw [← hr, hu]; exact congrArg _ (if_pos hup)

/-! ### Items of path 0 (R403, R404, R428) -/

/-- An item of the kind wanted that the recorder takes leaves path 0. -/
theorem recorderTake_of_taken {s u t : State} {e : EgEnt} {want : EgItem → Bool} (hup : islUp s 12 = true)
    (hready : flag s STORE_STAT_READY = true) (htake : (egTake 0 s).1 = some e) (hu : u = rouse 12 s) (hwant : want e.item = true)
    (hitem : recItem e.item u = (t, true)) : recorderTake want s = (egTake 0 t).2 := by
  have hpair : egTake 0 s = (some e, (egTake 0 s).2) := Prod.ext htake rfl
  rw [hu] at hitem
  simp only [recorderTake, hup, hready, Bool.and_self, if_true]
  rw [hpair]
  simp only [hwant, hitem, if_true]

theorem recItem_of_frozen (x : EgItem) {u : State} (h : flag u REC_STAT_FROZEN = true) : recItem x u = (bump u REC_CNT_FROZDISC, true) :=
  if_pos h

section
variable {u : State} (hopen : flag u REC_STAT_FROZEN = false)
include hopen

theorem recItem_hist (k b : Nat) : recItem (.hist k b) u = (recHist (k % 4096) (b % 32) u, true) := if_neg (ne_true_of_eq_false hopen)

theorem recItem_extreme (k : Nat) (v : Word) (t : BitVec 64) : recItem (.extreme k v t) u = (recExtr (k % 4096) v t u, true) :=
  if_neg (ne_true_of_eq_false hopen)

theorem recItem_state {id n : Nat} {st fan : Word} {f l : BitVec 64} : recItem (.state id st f l n fan) u = recState id n st f l u :=
  if_neg (ne_true_of_eq_false hopen)

theorem recItem_flood (f : Flood) : recItem (.flood f) u = recAppend 4 (floodBody f) u := if_neg (ne_true_of_eq_false hopen)

end

/-! ### Series and closes (R405, R407, R408) -/

section
variable {k : Nat} {v : Word} {u : State} (hwas : getBit u ⟨REC_HDESC k, 31, 0⟩ 31 = false) (hnow : wget v 31 31 = 1)
include hwas hnow

theorem descWrite_opens_hist : descWrite false k v u = openHist k 0 1 (codeWrite (REC_HDESC k) v u) := by
  simp [descWrite, hwas, hnow]

end

section
variable {k : Nat} {v : Word} {u : State} (hwas : getBit u ⟨REC_XDESC k, 31, 0⟩ 31 = false) (hnow : wget v 31 31 = 1)
include hwas hnow

theorem descWrite_opens_extr : descWrite true k v u = openExtr k 0 1 (codeWrite (REC_XDESC k) v u) := by
  simp [descWrite, hwas, hnow]

end

/-- A series that is disabled leaves the closes under way and its open period. -/
theorem descWrite_closes_hist {k : Nat} {v : Word} {u c : State} (hwas : getBit u ⟨REC_HDESC k, 31, 0⟩ 31 = true)
    (hnow : wget v 31 31 = 0) (hc : c = dropFromClose false k 1 (dropFromClose false k 0 (codeWrite (REC_HDESC k) v u))) :
    descWrite false k v u = setHist k { gen := genUp (liveHist c k).gen } c := by
  simp [descWrite, hwas, hnow, hc]

theorem descWrite_closes_extr {k : Nat} {v : Word} {u c : State} (hwas : getBit u ⟨REC_XDESC k, 31, 0⟩ 31 = true)
    (hnow : wget v 31 31 = 0) (hc : c = dropFromClose true k 1 (dropFromClose true k 0 (codeWrite (REC_XDESC k) v u))) :
    descWrite true k v u = setExtr k { gen := genUp (liveExtr c k).gen } c := by
  simp [descWrite, hwas, hnow, hc]

/-- A write of REC_HDESCk or REC_XDESCk by a command sets EN or clears it. -/
theorem wget_en_set (v : Word) : wget (v ||| 0x80000000) 31 31 = 1 := by rw [wget_bit]; simp

theorem wget_en_clear (v : Word) : wget (v &&& 0x7FFFFFFF) 31 31 = 0 := by rw [wget_bit]; simp

section
variable {n k : Nat} {x : Bool} {l : List (Bool × Nat)} {u : State} (htodo : (closeJob u n).todo = (x, k) :: l)
include htodo

/-- A copy that finds room is one fewer for its close. -/
theorem seriesCopy_of_room (hroom : (copySeries n x k (closeJob u n).skip u).2 = true) : seriesCopy n u =
    setCloseJob n { closeJob u n with todo := l } (copySeries n x k (closeJob u n).skip u).1 := by
  simp only [seriesCopy, htodo, hroom, if_true]

theorem seriesCopy_of_full (hfull : (copySeries n x k (closeJob u n).skip u).2 = false) : seriesCopy n u =
    (copySeries n x k (closeJob u n).skip u).1 := by
  simp only [seriesCopy, htodo, hfull, Bool.false_eq_true, if_false]

end

/-! ### REC_CMD and the cursor (R407, R412, R415, R424) -/

@[simp] theorem onlyIf_true (f : State → State) (s : State) : onlyIf true f s = f s := if_pos rfl

@[simp] theorem onlyIf_false (f : State → State) (s : State) : onlyIf false f s = s := if_neg Bool.false_ne_true

/-- What a word of REC_CMD performs, from the values of its bits. -/
theorem recCmdWrite_of_bits {v : Word} {b0 b1 b2 b3 b4 : Bool} (u : State) (h0 : (wget v 0 0 == 1) = b0) (h1 : (wget v 1 1 == 1) = b1)
    (h2 : (wget v 2 2 == 1) = b2) (h3 : (wget v 3 3 == 1) = b3) (h4 : (wget v 4 4 == 1) = b4) : recCmdWrite v u =
      onlyIf b4 cursorNext (onlyIf b3 completePage (onlyIf b2 calLoad (onlyIf b1 (closeNow 1) (onlyIf b0 (closeNow 0) u)))) := by
  rw [recCmdWrite, h0, h1, h2, h3, h4]

theorem recCmdWrite_close0 (u : State) : recCmdWrite 1 u = closeNow 0 u := recCmdWrite_of_bits u rfl rfl rfl rfl rfl

theorem recCmdWrite_close1 (u : State) : recCmdWrite 2 u = closeNow 1 u := recCmdWrite_of_bits u rfl rfl rfl rfl rfl

theorem recCmdWrite_calload (u : State) : recCmdWrite 4 u = calLoad u := by
  rw [recCmdWrite_of_bits (b0 := false) (b1 := false) (b2 := true) (b3 := false) (b4 := false) u rfl rfl rfl rfl rfl]
  simp only [onlyIf_true, onlyIf_false]

theorem recCmdWrite_flush (u : State) : recCmdWrite 8 u = completePage u := recCmdWrite_of_bits u rfl rfl rfl rfl rfl

theorem recCmdWrite_next (u : State) : recCmdWrite 16 u = cursorNext u := recCmdWrite_of_bits u rfl rfl rfl rfl rfl

/-- A load whose outcome is known completes: STATUS, BUSY, and the reads that were held. -/
theorem loadComplete_of_status {c : CurLoad} {st : Nat} {u t : State} (hcur : u.store.cursor = some c)
    (hbusy : flag u REC_CURSTAT_BUSY = true) (hst : loadStatus u c = some st)
    (ht : t = setStore { u.store with cursor := some { c with status := some st } } (clrF (fset u REC_CURSTAT_STATUS st) REC_CURSTAT_BUSY)) :
    loadComplete u = setStore { (forL u.store.held (fun h s => setReply h.1 ⟨windowWord s h.2, none⟩ s) t).store with held := [] }
      (forL u.store.held (fun h s => setReply h.1 ⟨windowWord s h.2, none⟩ s) t) := by
  subst ht
  simp only [loadComplete, hcur, hbusy, if_true, hst]
  rfl

/-- A read of the window by the host is answered, or held while a load is under way. -/
theorem winRead_host {k : Nat} {s : State} (hacc : accError s (0x20800800 + 4 * k) = none) : winRead .host k s =
    if flag (rouse 12 s) REC_CURSTAT_BUSY then
      setStore { (rouse 12 s).store with held := (rouse 12 s).store.held ++ [(.host, k)] } (rouse 12 s)
    else setReply .host ⟨windowWord (rouse 12 s) k, none⟩ (rouse 12 s) := by
  simp only [winRead, if_true, hacc]

/-! ### NAND commands (R422, R425, R531) -/

/-- A write of STORE_NCMD by a command gives its operation and its partition. -/
theorem ncmdWrite_of_row (part : Fin 4) {op : Nat} (hop : op = 1 ∨ op = 2 ∨ op = 3) (u : State) :
    ncmdWrite (BitVec.ofNat 32 (16 * part.val + op)) u = nandCommand op part.val (fset u STORE_NCMD_PART part.val) := by
  have hpart : wget (BitVec.ofNat 32 (16 * part.val + op)) 5 4 = part.val := by
    rcases hop with rfl | rfl | rfl <;> revert part <;> decide
  have hcode : wget (BitVec.ofNat 32 (16 * part.val + op)) 3 0 = op := by
    rcases hop with rfl | rfl | rfl <;> revert part <;> decide
  rw [ncmdWrite, hpart, hcode]
  exact if_pos (by omega)

/-- A change of the recorder's partition is refused. -/
theorem nandCommand_of_recorder {op : Nat} {s : State} (hbusy : flag s STORE_NCMD_BUSY = false) (hop : op = 2 ∨ op = 3) :
    nandCommand op 1 s = nandEnd 4 s := by
  have hone : op ≠ 1 := by omega
  simp [nandCommand, hbusy, partition, hone]

section
variable {op part base n : Nat} {s : State} (hbusy : flag s STORE_NCMD_BUSY = false) (hpart : partition part = some (base, n))
  (hblk : fget s STORE_NADDR_BLOCK < n) (h126 : base + fget s STORE_NADDR_BLOCK ≠ 126) (h127 : base + fget s STORE_NADDR_BLOCK ≠ 127)
  (hgood : blockGood s (base + fget s STORE_NADDR_BLOCK) = true)
include hbusy hpart hblk h126 h127 hgood

/-- A READ of a good block waits for its grant. -/
theorem nandCommand_read : nandCommand 1 part s = setF (clrF (setStore { s.store with
    hostReq := some (.hostRead (32 * (base + fget s STORE_NADDR_BLOCK) + fget s STORE_NADDR_PAGE)) } s) STORE_NRES_VALID) STORE_NCMD_BUSY := by
  simp [nandCommand, hbusy, hpart, Nat.not_le.mpr hblk, h126, h127, hgood]

section
variable (hop : op = 2 ∨ op = 3) (hhost : part = 2) (hlife : s.life.state ≠ .custody)
include hop hhost hlife

/-- A change of the host's partition waits for its grant, unless programming is suspended. -/
theorem nandCommand_change : nandCommand op part s = if flag s STORE_STAT_SUSP then nandEnd 5 s else
    setF (clrF (setStore { s.store with hostReq := some (if op = 2 then
      .hostProgram (32 * (base + fget s STORE_NADDR_BLOCK) + fget s STORE_NADDR_PAGE) (bufPage s)
      else .hostErase (base + fget s STORE_NADDR_BLOCK)) } s) STORE_NRES_VALID) STORE_NCMD_BUSY := by
  subst hhost
  have hone : op ≠ 1 := by omega
  simp [nandCommand, hbusy, hpart, Nat.not_le.mpr hblk, h126, h127, hgood, hlife, hone]

end

end

/-! ### NAND operations (R419 to R423) -/

section
variable {l : Nat} {o : NandOp} {u : State}

/-- A grant begins the operation that waits at its level. -/
theorem nandGrant_of_waiting (hidle : u.store.op = none) (hpick : nandPick u = some l) (hwait : nandWaiting u l = some o)
    (herase : ∀ b, o ≠ .erase b) : nandGrant u = setStore { u.store with
      op := some o, ages := tabSet (fun _ => 0) u.store.ages l 0, hostReq := if l = 1 then none else u.store.hostReq } u := by
  simp only [nandGrant, hidle, hpick, hwait]
  split
  case h_1 b heq => exact absurd (Option.some.inj heq) (herase b)
  case h_2 => rfl

end

section
variable {b p : Nat} {ecc : EccBits} {u : State}

theorem nandComplete_erase (fail : Bool) (hop : u.store.op = some (.hostErase b)) : nandComplete fail ecc u =
    if fail then nandEnd 6 (retireBlock b (setStore { u.store with op := none } u))
    else nandEnd 0 (nandErase b (setStore { u.store with op := none } u)) := by
  simp only [nandComplete, hop]

theorem nandComplete_program (fail : Bool) (hop : u.store.op = some (.program p)) : nandComplete fail ecc u =
    recordEnd p fail (setStore { u.store with op := none } u) := by
  simp only [nandComplete, hop]

theorem nandComplete_read (fail : Bool) (hop : u.store.op = some (.hostRead p)) : nandComplete fail ecc u =
    hostReadEnd p ecc (setStore { u.store with op := none } u) := by
  simp only [nandComplete, hop]

end

/-! ### Suspension and start (R60, R411, R425, R430) -/

section
variable {t : BitVec 12} {s u : State} (hu : u = fset s STORE_STAT_NTEMP t.toNat)
include hu

/-- Above 125 °C programming is suspended, and a waiting erase ends. -/
theorem nandSuspend_of_hot (hhot : 500 < t.toInt) (hsusp : flag u STORE_STAT_SUSP = false) : nandSuspend t s =
    match u.store.hostReq with
    | some (.hostProgram _ _) => nandEnd 5 (setStore { u.store with hostReq := none } (setF (setF u STORE_STAT_SUSP) STORE_EVT_SUSP))
    | some (.hostErase _) => nandEnd 5 (setStore { u.store with hostReq := none } (setF (setF u STORE_STAT_SUSP) STORE_EVT_SUSP))
    | _ => setF (setF u STORE_STAT_SUSP) STORE_EVT_SUSP := by
  subst hu
  exact if_pos ⟨hhot, hsusp⟩

theorem nandSuspend_of_cool (hcool : t.toInt ≤ 500) : nandSuspend t s = u := by
  subst hu
  exact if_neg fun h => absurd h.1 (not_lt.mpr hcool)

theorem nandResume_of_cool (hcool : t.toInt < 480) (hsusp : flag u STORE_STAT_SUSP = true) : nandResume t s =
    setStore { u.store with drain := u.store.pages.length } (setF (clrF u STORE_STAT_SUSP) STORE_EVT_RESUME) := by
  subst hu
  exact if_pos ⟨hcool, hsusp⟩

theorem nandResume_of_warm (hwarm : 480 ≤ t.toInt) : nandResume t s = u := by
  subst hu
  exact if_neg fun h => absurd h.1 (not_lt.mpr hwarm)

end

section
variable {s : State} (hup : islUp s 12 = true) (hstart : flag s STORE_STAT_READY = false)
include hup hstart

theorem logLocated_of_empty (hscan : logScan s = none) : logLocated s = owe 1 (setF (setStore { s.store with
    hblk := if blockGood s 128 then 128 else nextGood s 1536 128, hpg := 0, seq := 1 } s) STORE_STAT_READY) := by
  simp [logLocated, hup, hstart, hscan]

theorem logLocated_of_found {hi pg lo : Nat} (hscan : logScan s = some (hi, pg, lo)) : logLocated s = owe 1 (setF (fset (fset (setStore
    { s.store with hblk := pg / 32, hpg := pg % 32 + 1, seq := (hi + 1) % 2 ^ 32 } s) REC_HEAD_SEQ hi) REC_TAIL_SEQ lo) STORE_STAT_READY) := by
  simp [logLocated, hup, hstart, hscan]

end

/-- Settles O43, command by command: each comes down to its operation's case. -/
theorem recorderAndStorageProceed : Obligations.RecorderAndStorageProceed := by
  unfold Obligations.RecorderAndStorageProceed
  refine ⟨fun s u x e hup hready htake hitem hu => ⟨fun hopen => ?items, fun hfrozen => ?frozen⟩,
    fun i k v s u c => ⟨fun h hwas => access_answers h (descWrite_opens_hist hwas (wget_en_set v)),
      fun h hwas => access_answers h (descWrite_opens_extr hwas (wget_en_set v)),
      fun h hwas hc => access_answers h (descWrite_closes_hist hwas (wget_en_clear v) hc),
      fun h hwas hc => access_answers h (descWrite_closes_extr hwas (wget_en_clear v) hc)⟩,
    fun n s u hup hu => ⟨fun hdue => ?period,
      fun x k l htodo hroom => inStore_answers hup hu (seriesCopy_of_room htodo hroom),
      fun x k l htodo hfull => inStore_answers hup hu (seriesCopy_of_full htodo hfull)⟩,
    fun i n v s u => ⟨fun h => ⟨?close, access_answers h (recCmdWrite_calload u), access_answers h (recCmdWrite_flush u),
      access_answers h (recCmdWrite_next u)⟩, fun h => access_answers h rfl⟩,
    fun c st s u t hup hu hcur hbusy hst ht => inStore_answers hup hu (loadComplete_of_status hcur hbusy hst ht),
    fun k s hacc => ?window, fun p s u hup hu hpage hdue hsusp => ?flush,
    fun i part s u h => ⟨access_answers h (ncmdWrite_of_row part (by decide) u), access_answers h (ncmdWrite_of_row part (by decide) u),
      access_answers h (ncmdWrite_of_row part (by decide) u)⟩,
    fun op part base n s hbusy hpart hblk h126 h127 hgood => ?command,
    fun l fail ecc s u hup hu => ⟨fun o hidle hpick hwait herase => inStore_answers hup hu (nandGrant_of_waiting hidle hpick hwait herase),
      fun b hop => ⟨inStore_answers hup hu (nandComplete_erase false hop), inStore_answers hup hu (nandComplete_erase true hop)⟩,
      fun p hop => inStore_answers hup hu (nandComplete_program fail hop), fun p hop => inStore_answers hup hu (nandComplete_read fail hop)⟩,
    fun s hup hstart => ⟨fun hscan => congrArg Host.Outcome.next (logLocated_of_empty hup hstart hscan),
      fun hi pg lo hscan => congrArg Host.Outcome.next (logLocated_of_found hup hstart hscan)⟩,
    fun t s u hup hu => ⟨fun hhot hsusp hnone => inStore_answers hup rfl ((nandSuspend_of_hot hu hhot hsusp).trans (by rw [hnone])),
      fun hhot hsusp b hwait => inStore_answers hup rfl ((nandSuspend_of_hot hu hhot hsusp).trans (by rw [hwait])),
      fun hcool => inStore_answers hup rfl (nandSuspend_of_cool hu hcool),
      fun hcool hsusp => inStore_answers hup rfl (nandResume_of_cool hu hcool hsusp),
      fun hwarm => inStore_answers hup rfl (nandResume_of_warm hu hwarm)⟩⟩
  case items =>
    have take : ∀ {t : State} {want : EgItem → Bool}, want x = true → recItem x u = (t, true) →
        recorderTake want s = (egTake 0 t).2 := fun hwant htaken => recorderTake_of_taken hup hready htake hu (hitem ▸ hwant) (hitem ▸ htaken)
    refine ⟨fun k b hx => ?_, fun k v t hx => ?_, fun id st f l n fan hx hroom => ?_, fun f hx hroom => ?_⟩ <;> subst hx
    · exact congrArg Host.Outcome.next (take rfl (recItem_hist hopen k b))
    · exact congrArg Host.Outcome.next (take rfl (recItem_extreme hopen k v t))
    · exact congrArg Host.Outcome.next (take rfl ((recItem_state hopen).trans (Prod.ext rfl hroom)))
    · exact congrArg Host.Outcome.next (take rfl ((recItem_flood hopen f).trans (Prod.ext rfl hroom)))
  case frozen =>
    have take : ∀ {want : EgItem → Bool}, want x = true → recorderTake want s = (egTake 0 (bump u REC_CNT_FROZDISC)).2 := fun hwant =>
      recorderTake_of_taken hup hready htake hu (hitem ▸ hwant) (recItem_of_frozen e.item hfrozen)
    refine ⟨fun k b hx => ?_, fun k v t hx => ?_, fun id st f l n fan hx => ?_, fun f hx => ?_⟩ <;> subst hx <;>
      exact congrArg Host.Outcome.next (take rfl)
  case period =>
    subst hu
    exact congrArg Host.Outcome.next ((if_pos hup).trans (if_pos hdue))
  case close =>
    fin_cases n
    · exact access_answers h (recCmdWrite_close0 u)
    · exact access_answers h (recCmdWrite_close1 u)
  case window =>
    have hread : exec (.recWindowRead .host k) s = _ := congrArg Host.Outcome.next (winRead_host hacc)
    rw [hread]
    exact ⟨fun hfree => by rw [hfree]; rfl, fun hbusy => by rw [hbusy]; rfl⟩
  case flush =>
    subst hu
    refine congrArg Host.Outcome.next ((if_pos hup).trans ?_)
    simp only [hpage]
    exact if_pos ⟨hdue, hsusp⟩
  case command =>
    refine ⟨fun hop => ?_, fun hop hhost hlife hrun => ?_, fun hop hhost hlife hsusp => ?_, fun hop hrec => ?_⟩
    · subst hop
      exact nandCommand_read hbusy hpart hblk h126 h127 hgood
    · rw [nandCommand_change hbusy hpart hblk h126 h127 hgood hop hhost hlife, hrun]; rfl
    · rw [nandCommand_change hbusy hpart hblk h126 h127 hgood hop hhost hlife, hsusp]; rfl
    · subst hrec
      exact nandCommand_of_recorder hbusy hop

end Sys2Proof.Machine
end

section
/-! PROOFS. DISP: the segment LCD, the annunciator, the glyph table and the Reeve's word (16_display_drivers, R432 to R436, R439 to R444; that
FLHOLD is counted in edges which DISP recognises is assumption log 106). -/

namespace Sys2Proof.Machine

theorem inDisp_answers {s u r : State} {f : State → State} (hup : dispUp s = true) (hu : u = stir 13 s) (hr : f u = r) :
    inDisp f s = .next r := by
  rw [← hr, hu]; exact congrArg _ (if_pos hup)

/-! ### The LCD (R432 to R436) -/

/-- A write of DISP_CTL that enables a stopped LCD begins its frame 0. -/
theorem dispCtlWrite_enable {v : Word} {u c : State} (hc : c = ladderShow (codeWrite DISP_CTL v u)) (hoff : flag u DISP_CTL_LCDEN = false)
    (hon : flag c DISP_CTL_LCDEN = true) (hstopped : flag c DISP_LCDSTAT_RUN = false) :
    dispCtlWrite v u = evenFrame (setDisp { c.disp with frame := 0, bad := 0 } c) := by
  simp only [dispCtlWrite, ← hc, hoff, hon, hstopped, Bool.not_false, Bool.and_self, if_true]

theorem dispCtlWrite_of_enabled (v : Word) {u : State} (hon : flag u DISP_CTL_LCDEN = true) :
    dispCtlWrite v u = ladderShow (codeWrite DISP_CTL v u) := by
  simp only [dispCtlWrite, hon, Bool.not_true, Bool.false_and, Bool.false_eq_true, if_false]

/-- What frame 0 waits for: an enabled LCD that stands still, and VLCD at its target or the ladder in use. -/
theorem pumpReady_guard {v : Nat} {u : State} (hon : flag u DISP_CTL_LCDEN = true) (hstopped : flag u DISP_LCDSTAT_RUN = false)
    (htarget : onLadder u = true ∨ vlcdOk u v = true) :
    (flag u DISP_CTL_LCDEN && !flag u DISP_LCDSTAT_RUN && (onLadder u || vlcdOk u v)) = true := by
  simp [hon, hstopped, htarget]

theorem frameEnd_of_open {v : Nat} {u : State} (hopen : flag u DISP_LCDSTAT_RUN = false ∨ frameOver u = false) : frameEnd v u = u := by
  refine if_neg fun h => ?_
  obtain ⟨hrun, hover⟩ := Bool.and_eq_true_iff.mp h
  exact hopen.elim (absurd hrun <| ne_true_of_eq_false ·) (absurd hover <| ne_true_of_eq_false ·)

/-! The levels (R433): a slot of an even sum of frame and common drives its own land at 4 quarters, one of an odd sum at 0. -/

theorem commonLevel_own (f c : Nat) : commonLevel f c c = if (f + c) % 2 = 0 then 4 else 0 := by
  rcases Nat.mod_two_eq_zero_or_one (f + c) with h | h <;> simp [commonLevel, h]

theorem commonLevel_other {c land : Nat} (f : Nat) (hne : land ≠ c) : commonLevel f c land = if (f + c) % 2 = 0 then 1 else 3 := by
  rcases Nat.mod_two_eq_zero_or_one (f + c) with h | h <;> simp [commonLevel, h, hne]

theorem segmentLevel_on (f c : Nat) : segmentLevel f c true = 4 - commonLevel f c c := by
  rw [commonLevel_own]
  rcases Nat.mod_two_eq_zero_or_one (f + c) with h | h <;> simp [segmentLevel, h]

/-- The frame that follows has the other parity. -/
theorem succ_frame_even (f c : Nat) : (f + 1 + c) % 2 = 0 ↔ ¬ (f + c) % 2 = 0 := by omega

theorem commonLevel_balanced (f c land : Nat) : commonLevel f c land + commonLevel (f + 1) c land = 4 := by
  by_cases hl : land = c
  · subst hl
    rw [commonLevel_own, commonLevel_own]
    simp only [succ_frame_even]
    split <;> rfl
  · rw [commonLevel_other f hl, commonLevel_other (f + 1) hl]
    simp only [succ_frame_even]
    split <;> rfl

theorem segmentLevel_balanced (f c : Nat) (on : Bool) : segmentLevel f c on + segmentLevel (f + 1) c on = 4 := by
  cases on with
  | false => rfl
  | true =>
    simp only [segmentLevel, succ_frame_even, if_true]
    split <;> rfl

/-! ### DISP_CMD (R436, R440, R442) -/

/-- What a word of DISP_CMD performs, from the values of its bits. -/
theorem dispCmdWrite_of_bits {v : Word} {b0 b1 b2 : Bool} {u x y : State} (h0 : (wget v 0 0 == 1) = b0) (h1 : (wget v 1 1 == 1) = b1)
    (h2 : (wget v 2 2 == 1) = b2) (hx : onlyIf (b0 && mainReady u) (engineStart false) u = x) (hy : onlyIf b1 clearAsk x = y) :
    dispCmdWrite v u = onlyIf (b2 && !flag y DISP_CTL_LADDER) (fun s => setDisp { s.disp with retry := true } s) y := by
  simp only [dispCmdWrite, h0, h1, h2, hx, hy]

theorem dispCmdWrite_update {u : State} (hready : mainReady u = true) : dispCmdWrite 1 u = engineStart false u :=
  dispCmdWrite_of_bits (b0 := true) (b1 := false) (b2 := false) rfl rfl rfl (by rw [hready]; rfl) rfl

theorem dispCmdWrite_clear (u : State) : dispCmdWrite 2 u = clearAsk u :=
  dispCmdWrite_of_bits (b0 := false) (b1 := true) (b2 := false) rfl rfl rfl rfl rfl

theorem dispCmdWrite_retry (u : State) :
    dispCmdWrite 4 u = onlyIf (!flag u DISP_CTL_LADDER) (fun s => setDisp { s.disp with retry := true } s) u :=
  dispCmdWrite_of_bits (b0 := false) (b1 := false) (b2 := true) rfl rfl rfl rfl rfl

/-! ### The annunciator (R440 to R442) -/

theorem antgtWrite_lo (v : Word) (u : State) :
    antgtWrite 0 v u = forN 16 (fun j => setTarget j (wget v (2 * j + 1) (2 * j))) u := by
  simp only [antgtWrite, Nat.mul_zero, Nat.zero_add, if_true]

theorem engineEnd_of_open {reeve : Bool} {u : State} (hopen : engineOver u (engine u reeve) = false) : engineEnd reeve u = u :=
  if_neg (ne_true_of_eq_false hopen)

theorem clearEnd_of_open {u : State} (hopen : clearOver u = false) : clearEnd u = u := if_neg (ne_true_of_eq_false hopen)

/-- The marker's acknowledgement starts what an engine that runs drives: at the edge if it waited, and it goes on if it did not. -/
theorem acked_markerAck {u : State} {reeve : Bool} (hrun : (engine u reeve).run = true) : (engine (markerAck u) reeve).acked = true := by
  have begun : ∀ e : DispEngine, e.run = true →
      (if e.run && !e.acked then { e with acked := true, first := edges u 13 } else e).acked = true := by
    intro e he
    cases hacked : e.acked <;> simp [he, hacked]
  cases reeve with
  | false => exact begun u.disp.main hrun
  | true => exact begun u.disp.reeve hrun

theorem marker_markerAck {u : State} (hrun : (engine u false).run = true) : (markerAck u).tick.marker = true := by
  have hmain : u.disp.main.run = true := hrun
  simp [markerAck, setDisp, hmain]

/-! ### Path 2 and the Reeve's word (R443, R444, R511) -/

theorem fromPath2_answers {x : EgEnt} {s t : State} {f : EgItem → Option (State → State)} {g : State → State} (hup : islUp s 13 = true)
    (htake : egTake 2 s = (some x, t)) (hf : f x.item = some g) : fromPath2 f s = .next (g (rouse 13 t)) := by
  refine congrArg Host.Outcome.next ((if_pos hup).trans ?_)
  simp only [htake, hf]

section
variable {x : EgEnt} {s t : State} (hup : islUp s 13 = true) (htake : egTake 2 s = (some x, t))
include hup htake

theorem glyphItem_applied {id n : Nat} {st fan : Word} {first last : BitVec 64} (hitem : x.item = .state id st first last n fan) :
    exec .glyphItem s = .next (glyphApply (wget fan 14 8) (wget st 3 0) (rouse 13 t)) := by
  change execGlyphItem s = _
  exact fromPath2_answers (g := glyphApply (wget fan 14 8) (wget st 3 0)) hup htake (by simp only [hitem])

theorem dispFloodItem_applied {f : Flood} (hitem : x.item = .flood f) : exec .dispFloodItem s = .next (floodApply (rouse 13 t)) := by
  change execDispFloodItem s = _
  exact fromPath2_answers (g := floodApply) hup htake (by simp only [hitem])

end

theorem reeveSegmentWord_taken {w : Nat} {l : List Nat} {s : State} (hup : islUp s 13 = true) (hclear : s.disp.clear = .none)
    (hsegs : s.rv.segs = w :: l) : exec .reeveSegmentWord s = .next (segmentWord w { rouse 13 s with rv := { s.rv with segs := l } }) := by
  refine congrArg Host.Outcome.next ?_
  simp [hsegs, hup, hclear]

/-- Settles O44, command by command: each comes down to its operation's case. -/
theorem displayDriversProceed : Obligations.DisplayDriversProceed := by
  unfold Obligations.DisplayDriversProceed
  refine ⟨fun i s u c h => ⟨fun hc hoff hon hstopped => access_answers h (dispCtlWrite_enable hc hoff hon hstopped),
      fun hc hon => access_answers h ((dispCtlWrite_of_enabled _ hon).trans hc.symm)⟩,
    fun v s u hup hu => ⟨fun hon hstopped htarget => inDisp_answers hup hu (if_pos (pumpReady_guard hon hstopped htarget)),
      fun _ _ => inDisp_answers hup hu rfl, fun hopen => inDisp_answers hup hu (frameEnd_of_open hopen)⟩,
    fun f c land => ⟨commonLevel_own f c, commonLevel_other f, rfl, segmentLevel_on f c,
      fun on => ⟨commonLevel_balanced f c land, segmentLevel_balanced f c on⟩⟩,
    fun i s u h => ⟨fun hladder => access_answers h (by rw [dispCmdWrite_retry, hladder]; rfl),
      fun hladder => access_answers h (by rw [dispCmdWrite_retry, hladder]; rfl),
      fun hready => access_answers h (dispCmdWrite_update hready),
      fun hnone => access_answers h ((dispCmdWrite_clear u).trans (if_pos hnone))⟩,
    fun t s u hup hu => inDisp_answers hup hu rfl,
    fun i v s u => ⟨fun h => access_answers h (antgtWrite_lo v u), fun h => access_answers h rfl, fun j => if_pos (le_refl 3)⟩,
    fun reeve s u hup hu => ⟨fun hover hready => ?start, inDisp_answers hup hu rfl, fun _ => inDisp_answers hup hu rfl,
      fun hopen => inDisp_answers hup hu (engineEnd_of_open hopen), fun _ => inDisp_answers hup hu rfl,
      fun hopen => inDisp_answers hup hu (clearEnd_of_open hopen), acked_markerAck, acked_markerAck, marker_markerAck⟩,
    fun s t e hup htake => ⟨fun id st first last n fan hitem => glyphItem_applied hup htake hitem,
      fun f hitem => dispFloodItem_applied hup htake hitem⟩,
    fun e s u hup hu hflood hheld => ?hold, fun w l s hup hclear hsegs => reeveSegmentWord_taken hup hclear hsegs⟩
  case start =>
    subst hu
    refine congrArg Host.Outcome.next ((if_pos hup).trans (if_pos ?_))
    simp [hover, hready]
  case hold =>
    subst hu
    refine congrArg Host.Outcome.next ((if_pos hup).trans ?_)
    simp only [hflood]
    exact if_pos hheld

end Sys2Proof.Machine
end

section
/-! PROOFS. The polder's own events: release, power-fail warning, reset, pulses, cycles, days, inputs and the seal (17_polder_metrology_island,
R451, R452, R454, R455, R462, R463, R466, R467, R469, R472, R474; the phase order of a pulse is assumption log 114, and a release while it runs
is assumption log 119). -/

namespace Sys2Proof.Machine

theorem inPolder_answers {s u r : State} {f : State → State} (hup : polUp s = true) (hu : u = stir 17 s) (hr : f u = r) :
    inPolder f s = .next r := by
  rw [← hr, hu]; exact congrArg _ (if_pos hup)

/-! ### What the operations of a cycle keep -/

/-- What meters, transactions, logs and days leave alone: the registers, SYS, and the rest of the polder. -/
def State.polStill (s : State) : Tab Word × SysSt × PolNor × PolSt :=
  (s.regs, s.sys, { s.nor with events := [], slots := [], unrec := 0, save := {}, used := 0, days := [] },
    { s.pol with meters := [], good := [], tot := [], tx := [], evts := 0, warned := false, warnTx := false })

/-- All of that is kept, and so are the totalisers while no parameters are in force and a save that holds no transaction. -/
structure PolKept (s t : State) : Prop where
  still : t.polStill = s.polStill
  tot   : s.pol.par = none → t.pol.tot = s.pol.tot
  save  : s.nor.save.tx = [] → t.nor.save = s.nor.save

namespace PolKept
variable {s t r : State}

theorem refl (s : State) : PolKept s s := ⟨rfl, fun _ => rfl, fun _ => rfl⟩

theorem regs (h : PolKept s t) : t.regs = s.regs := congrArg (·.1) h.still
theorem sys (h : PolKept s t) : t.sys = s.sys := congrArg (·.2.1) h.still
theorem copyA (h : PolKept s t) : t.nor.copyA = s.nor.copyA := congrArg (·.2.2.1.copyA) h.still
theorem audit (h : PolKept s t) : t.nor.audit = s.nor.audit := congrArg (·.2.2.1.audit) h.still
theorem par (h : PolKept s t) : t.pol.par = s.pol.par := congrArg (·.2.2.2.par) h.still
theorem count (h : PolKept s t) : t.pol.count = s.pol.count := congrArg (·.2.2.2.count) h.still
theorem acc (h : PolKept s t) : t.pol.acc = s.pol.acc := congrArg (·.2.2.2.acc) h.still
theorem hold (h : PolKept s t) : t.pol.hold = s.pol.hold := congrArg (·.2.2.2.hold) h.still
theorem cyc (h : PolKept s t) : t.pol.cyc = s.pol.cyc := congrArg (·.2.2.2.cyc) h.still
theorem unsync (h : PolKept s t) : t.pol.unsync = s.pol.unsync := congrArg (·.2.2.2.unsync) h.still
theorem parflt (h : PolKept s t) : t.pol.parflt = s.pol.parflt := congrArg (·.2.2.2.parflt) h.still
theorem warn (h : PolKept s t) : t.pol.warn = s.pol.warn := congrArg (·.2.2.2.warn) h.still
theorem staged (h : PolKept s t) : t.pol.staged = s.pol.staged := congrArg (·.2.2.2.staged) h.still
theorem seq (h : PolKept s t) : t.pol.seq = s.pol.seq := congrArg (·.2.2.2.seq) h.still
theorem snap (h : PolKept s t) : t.pol.snap = s.pol.snap := congrArg (·.2.2.2.snap) h.still
theorem out (h : PolKept s t) : t.pol.out = s.pol.out := congrArg (·.2.2.2.out) h.still

theorem trans (h : PolKept s t) (h' : PolKept t r) : PolKept s r where
  still := h'.still.trans h.still
  tot hpar := (h'.tot (h.par.trans hpar)).trans (h.tot hpar)
  save htx := (h'.save (by rw [h.save htx, htx])).trans (h.save htx)

end PolKept

/-- No pulse of meter `k` is counted in the cycle under way. -/
def NoPulses (k : Nat) (s : State) : Prop :=
  (polMeter s k).n1 = 0 ∧ (polMeter s k).n2 = 0 ∧ (polMeter s k).fwd = 0 ∧ (polMeter s k).rev = 0

/-! ### Meters, logs and transactions (R462 to R466) -/

theorem polMeter_setMeter (m k : Nat) (x : PolMeter) (s : State) : polMeter (setMeter m x s) k = if k = m then x else polMeter s k :=
  tabGet_set _ _ _ _ _

@[simp] theorem polMeter_setMeter_self (m : Nat) (x : PolMeter) (s : State) : polMeter (setMeter m x s) m = x := tabGet_set_self ..

theorem setMeter_kept (m : Nat) (x : PolMeter) (s : State) : PolKept s (setMeter m x s) := ⟨rfl, fun _ => rfl, fun _ => rfl⟩

theorem setTx_kept (m : Nat) (x : Option PolTx) (s : State) : PolKept s (setTx m x s) := ⟨rfl, fun _ => rfl, fun _ => rfl⟩

theorem polFlagEvt_kept (bit : Nat) (s : State) : PolKept s (polFlagEvt bit s) := ⟨rfl, fun _ => rfl, fun _ => rfl⟩

theorem polWarn_kept (s : State) : PolKept s (polWarn s) := by
  unfold polWarn
  split
  · exact ⟨rfl, fun _ => rfl, fun _ => rfl⟩
  · exact .refl s

theorem setLogs_kept (unrec : Nat) (events : List PolEvent) (slots : List (List Byte)) (s : State) :
    PolKept s (setNor { s.nor with unrec := unrec, events := events, slots := slots } s) := ⟨rfl, fun _ => rfl, fun _ => rfl⟩

@[simp] theorem polWarn_nor (s : State) : (polWarn s).nor = s.nor := by unfold polWarn; split <;> rfl

@[simp] theorem polWarn_meters (s : State) : (polWarn s).pol.meters = s.pol.meters := by unfold polWarn; split <;> rfl

@[simp] theorem polWarn_tot (s : State) : (polWarn s).pol.tot = s.pol.tot := by unfold polWarn; split <;> rfl

@[simp] theorem polWarn_tx (s : State) : (polWarn s).pol.tx = s.pol.tx := by unfold polWarn; split <;> rfl

section
variable (k : PolKind) (count : Tick) (ops : List Word) {s : State}

theorem polEvent_of_room (h : s.nor.events.length < 32768) :
    polEvent k count ops s = polWarn (setNor { s.nor with events := s.nor.events ++ [⟨k, count, s.nor.audit, ops⟩] } s) :=
  if_pos (decide_eq_true (by omega))

theorem polEvent_of_full (h : 32768 ≤ s.nor.events.length) :
    polEvent k count ops s = setNor { s.nor with unrec := s.nor.unrec + 1 } s :=
  if_neg (by simp only [polRoom, decide_eq_true_eq]; omega)

/-- An event is recorded or counted. -/
theorem polEvent_cases (s : State) : polEvent k count ops s = setNor { s.nor with unrec := s.nor.unrec + 1 } s ∨
    polEvent k count ops s = polWarn (setNor { s.nor with events := s.nor.events ++ [⟨k, count, s.nor.audit, ops⟩] } s) :=
  (Nat.lt_or_ge s.nor.events.length 32768).elim (fun h => .inr (polEvent_of_room k count ops h))
    fun h => .inl (polEvent_of_full k count ops h)

theorem polEvent_kept (s : State) : PolKept s (polEvent k count ops s) := by
  rcases polEvent_cases k count ops s with h | h <;> rw [h]
  · exact setLogs_kept ..
  · exact (setLogs_kept s.nor.unrec _ s.nor.slots s).trans (polWarn_kept _)

@[simp] theorem polEvent_meters (s : State) : (polEvent k count ops s).pol.meters = s.pol.meters := by
  rcases polEvent_cases k count ops s with h | h <;> rw [h]
  · rfl
  · exact polWarn_meters _

@[simp] theorem polEvent_tot (s : State) : (polEvent k count ops s).pol.tot = s.pol.tot := by
  rcases polEvent_cases k count ops s with h | h <;> rw [h]
  · rfl
  · exact polWarn_tot _

@[simp] theorem polEvent_slots (s : State) : (polEvent k count ops s).nor.slots = s.nor.slots := by
  rcases polEvent_cases k count ops s with h | h <;> rw [h]
  · rfl
  · rw [polWarn_nor]; rfl

end

/-- A record leaves the room of the log, less the two slots that it takes. -/
theorem freeSlots_polAppend (r : List Byte) (s : State) : freeSlots (polAppend r s) = freeSlots s - 2 := by
  simp only [freeSlots, polAppend, polWarn_nor, polWarn_tx, setNor, List.length_append, List.length_cons, List.length_nil]
  omega

@[simp] theorem polAppend_audit (r : List Byte) (s : State) : (polAppend r s).nor.audit = s.nor.audit := by rw [polAppend, polWarn_nor]; rfl

theorem polAppend_kept (r : List Byte) (s : State) : PolKept s (polAppend r s) :=
  (setLogs_kept s.nor.unrec s.nor.events _ s).trans (polWarn_kept _)

@[simp] theorem polAppend_tot (r : List Byte) (s : State) : (polAppend r s).pol.tot = s.pol.tot := polWarn_tot _

@[simp] theorem polAppend_meters (r : List Byte) (s : State) : (polAppend r s).pol.meters = s.pol.meters := polWarn_meters _

section
variable (m : Nat) (x : PolTx) (stop : Tick) (extra : Nat) (s : State)

/-- No save holds a transaction that closes, so one that holds none stays as it is. -/
theorem txClose_kept : PolKept s (txClose m x stop extra s) := by
  have hdrop : s.nor.save.tx = [] → { s.nor.save with tx := tabDrop s.nor.save.tx m } = s.nor.save := fun htx => by
    rw [htx]
    exact congrArg (fun l => { s.nor.save with tx := l }) htx.symm
  have hsave : PolKept s (setNor { s.nor with save := { s.nor.save with tx := tabDrop s.nor.save.tx m } } s) := ⟨rfl, fun _ => rfl, hdrop⟩
  unfold txClose
  exact hsave.trans ((setTx_kept m none _).trans (polAppend_kept ..))

@[simp] theorem txClose_tot : (txClose m x stop extra s).pol.tot = s.pol.tot := by rw [txClose, polAppend_tot]; rfl

@[simp] theorem txClose_meters : (txClose m x stop extra s).pol.meters = s.pol.meters := by
  rw [txClose, polAppend_meters]; rfl

end

/-! ### A cycle (R454 to R463, R476, R477) -/

theorem NoPulses.of_meters {k : Nat} {s t : State} (hs : NoPulses k s) (h : t.pol.meters = s.pol.meters) : NoPulses k t := by
  rwa [NoPulses, polMeter, h]

theorem NoPulses.setMeter {k : Nat} {s : State} (hs : NoPulses k s) (m : Nat) {x : PolMeter}
    (hx : m = k → x.n1 = 0 ∧ x.n2 = 0 ∧ x.fwd = 0 ∧ x.rev = 0) : NoPulses k (setMeter m x s) := by
  rw [NoPulses, polMeter_setMeter]
  split
  next h => exact hx h.symm
  next => exact hs

section
variable (m : Nat) (bad : Bool) (count : Tick) (s : State)

theorem pulseFault_kept : PolKept s (pulseFault m bad count s) := by
  unfold pulseFault
  dsimp only
  split
  · exact (setMeter_kept ..).trans ((polEvent_kept ..).trans (polFlagEvt_kept ..))
  · exact setMeter_kept ..

theorem pulseFault_meters : (pulseFault m bad count s).pol.meters = (setMeter m { polMeter s m with pflt := bad } s).pol.meters := by
  unfold pulseFault
  dsimp only
  split
  · exact polEvent_meters ..
  · rfl

end

section
variable (inp na : Nat) (count : Tick) (s : State)

theorem polInputFault_kept : PolKept s (polInputFault inp count s) := by
  have hflag : ∀ k ops t, PolKept t (polFlagEvt 21 (polEvent k count ops t)) := fun k ops t => (polEvent_kept ..).trans (polFlagEvt_kept ..)
  unfold polInputFault
  dsimp only
  split <;> split
  · exact .refl s
  · exact (setMeter_kept ..).trans (hflag ..)
  · exact .refl s
  · exact (setMeter_kept ..).trans (hflag ..)

theorem analogIn_kept : PolKept s (analogIn inp na count s).2 := by
  unfold analogIn
  split
  · have hgood : PolKept s (setPol { s.pol with good := tabPut s.pol.good inp (analogValue s inp na) } s) := ⟨rfl, fun _ => rfl, fun _ => rfl⟩
    exact hgood.trans (setMeter_kept ..)
  · exact polInputFault_kept ..

end

namespace NoPulses
variable {k : Nat} {s : State} (hs : NoPulses k s)
include hs

theorem pulseFault (m : Nat) (bad : Bool) (count : Tick) : NoPulses k (pulseFault m bad count s) :=
  (hs.setMeter m (x := { polMeter s m with pflt := bad }) fun h => h ▸ hs).of_meters (pulseFault_meters ..)

theorem inputFault (inp : Nat) (count : Tick) : NoPulses k (polInputFault inp count s) := by
  unfold polInputFault
  dsimp only
  split <;> split
  · exact hs
  · exact (hs.setMeter (inp / 2) (x := { polMeter s (inp / 2) with tflt := true }) fun h => h ▸ hs).of_meters (polEvent_meters ..)
  · exact hs
  · exact (hs.setMeter (inp / 2) (x := { polMeter s (inp / 2) with dflt := true }) fun h => h ▸ hs).of_meters (polEvent_meters ..)

theorem analogIn (inp na : Nat) (count : Tick) : NoPulses k (analogIn inp na count s).2 := by
  unfold Machine.analogIn
  split
  · refine NoPulses.setMeter (s := setPol _ s) hs (inp / 2) fun h => ?_
    subst h
    split <;> exact hs
  · exact hs.inputFault inp count

end NoPulses

/-- What an open transaction gathers from a cycle (R462). -/
def txGather (m : Nat) (f : PolAcc → PolAcc) (s : State) : State :=
  match polTx s m with
  | some y => if y.opened then setTx m (some { y with acc := f y.acc }) s else s
  | none => s

theorem txGather_kept (m : Nat) (f : PolAcc → PolAcc) (s : State) : PolKept s (txGather m f s) := by
  unfold txGather
  split
  · split
    · exact setTx_kept ..
    · exact .refl s
  · exact .refl s

theorem txGather_meters (m : Nat) (f : PolAcc → PolAcc) (s : State) : (txGather m f s).pol.meters = s.pol.meters := by
  unfold txGather
  split
  · split <;> rfl
  · rfl

section
variable (m iT iD : Nat) (count : Tick) {s : State}

/-- With parameters in force a cycle of a meter checks the pulse pair, reads both inputs, totalises, and gathers; its pulses are used up. -/
theorem meterCycle_of_par (h : s.pol.par.isNone = false) : ∃ x bad tot y f, y.n1 = 0 ∧ y.n2 = 0 ∧ y.fwd = 0 ∧ y.rev = 0 ∧
    meterCycle m iT iD count s = txGather m f (setMeter m y (setTot m tot (analogIn (2 * m + 1) iD count (analogIn (2 * m) iT count
      (pulseFault m bad count (setMeter m x s))).2).2)) := by
  unfold meterCycle
  rw [if_neg (ne_true_of_eq_false h)]
  extract_lets x x1 s1 one f b s2 pT pD s3 t dvt q rho v dv15 dm flow tt a c g s4 moving x2 stat x3 s5
  exact ⟨x1, _, _, x3, fun z => accAdd z stat dvt t rho (pulseDiff x3), rfl, rfl, rfl, rfl, rfl⟩

/-- Without parameters a cycle of a meter only drops its pulses. -/
theorem meterCycle_of_no_par (h : s.pol.par.isNone = true) : ∃ y, y.n1 = 0 ∧ y.n2 = 0 ∧ y.fwd = 0 ∧ y.rev = 0 ∧
    meterCycle m iT iD count s = setMeter m y s := by
  unfold meterCycle
  rw [if_pos h]
  exact ⟨_, rfl, rfl, rfl, rfl, rfl⟩

theorem meterCycle_kept (s : State) : PolKept s (meterCycle m iT iD count s) := by
  cases h : s.pol.par.isNone with
  | true =>
    obtain ⟨y, _, _, _, _, heq⟩ := meterCycle_of_no_par m iT iD count h
    exact heq ▸ setMeter_kept m y s
  | false =>
    obtain ⟨x, bad, tot, y, f, _, _, _, _, heq⟩ := meterCycle_of_par m iT iD count h
    have hread := (setMeter_kept m x s).trans ((pulseFault_kept m bad count _).trans
      ((analogIn_kept (2 * m) iT count _).trans (analogIn_kept (2 * m + 1) iD count _)))
    have htot : ∀ t : State, PolKept s t → PolKept s (setTot m tot t) := fun t ht =>
      ⟨ht.still, fun hnone => by simp [hnone] at h, ht.save⟩
    exact heq ▸ (htot _ hread).trans ((setMeter_kept m y _).trans (txGather_kept m f _))

theorem meterCycle_noPulses_self (s : State) : NoPulses m (meterCycle m iT iD count s) := by
  have hset : ∀ y t, y.n1 = 0 ∧ y.n2 = 0 ∧ y.fwd = 0 ∧ y.rev = 0 → NoPulses m (setMeter m y t) := fun y t hy => by
    rwa [NoPulses, polMeter_setMeter_self]
  cases h : s.pol.par.isNone with
  | true =>
    obtain ⟨y, h1, h2, h3, h4, heq⟩ := meterCycle_of_no_par m iT iD count h
    exact heq ▸ hset y s ⟨h1, h2, h3, h4⟩
  | false =>
    obtain ⟨x, bad, tot, y, f, h1, h2, h3, h4, heq⟩ := meterCycle_of_par m iT iD count h
    exact heq ▸ (hset y _ ⟨h1, h2, h3, h4⟩).of_meters (txGather_meters ..)

/-- A cycle of one meter counts no pulse of the other. -/
theorem meterCycle_noPulses {k : Nat} (hk : m ≠ k) (hs : NoPulses k s) : NoPulses k (meterCycle m iT iD count s) := by
  have hset : ∀ y t, NoPulses k t → NoPulses k (setMeter m y t) := fun y t ht => ht.setMeter m fun h => absurd h hk
  cases h : s.pol.par.isNone with
  | true =>
    obtain ⟨y, _, _, _, _, heq⟩ := meterCycle_of_no_par m iT iD count h
    exact heq ▸ hset y s hs
  | false =>
    obtain ⟨x, bad, tot, y, f, _, _, _, _, heq⟩ := meterCycle_of_par m iT iD count h
    have hread := (((hset x s hs).pulseFault m bad count).analogIn (2 * m) iT count).analogIn (2 * m + 1) iD count
    exact heq ▸ (hset y (setTot m tot _) (hread.of_meters rfl)).of_meters (txGather_meters ..)

end

theorem txBoundary_kept (m : Nat) (count : Tick) (s : State) : PolKept s (txBoundary m count s) := by
  unfold txBoundary
  split
  · split
    · exact (setMeter_kept ..).trans (setTx_kept ..)
    · split
      · exact txClose_kept ..
      · exact .refl s
  · exact .refl s

theorem NoPulses.txBoundary {k : Nat} {s : State} (hs : NoPulses k s) (m : Nat) (count : Tick) : NoPulses k (txBoundary m count s) := by
  unfold Machine.txBoundary
  split
  · split
    · exact (hs.setMeter m (x := { polMeter s m with s1 := 0, s2 := 0 }) fun h => h ▸ hs).of_meters rfl
    · split
      · exact hs.of_meters (txClose_meters ..)
      · exact hs
  · exact hs

theorem polCross_kept (a b : Tick) (s : State) : PolKept s (polCross a b s) := by
  unfold polCross
  split
  · exact ⟨rfl, fun _ => rfl, fun _ => rfl⟩
  · exact .refl s

theorem NoPulses.polCross {k : Nat} {s : State} (hs : NoPulses k s) (a b : Tick) : NoPulses k (polCross a b s) := by
  have fresh : ∀ (m : Nat) (t : State) (d : PolAcc), NoPulses k t → NoPulses k (Machine.setMeter m { polMeter t m with day := d } t) :=
    fun m t d ht => ht.setMeter m fun h => h ▸ ht
  unfold Machine.polCross
  split
  · exact fresh 1 _ _ (fresh 0 (setNor _ s) _ hs)
  · exact hs

/-- A cycle begins with the count moved on, with the ticks withheld and the accumulator. -/
def countMoved (p : Tick × Nat) (acc : Nat) (s : State) : State :=
  setPol { s.pol with count := p.1, hold := p.2, acc := acc, cyc := s.pol.cyc + 1 } s

/-- What has kept the state since the count moved, field by field. -/
theorem countMoved_kept {p : Tick × Nat} {acc : Nat} {s t : State} (h : PolKept (countMoved p acc s) t) :
    (t.pol.cyc = s.pol.cyc + 1 ∧ t.pol.count = p.1 ∧ t.pol.hold = p.2 ∧ t.pol.acc = acc) ∧
    (t.pol.seq = s.pol.seq ∧ t.pol.snap = s.pol.snap ∧ t.pol.out = s.pol.out ∧ (s.pol.par = none → t.pol.tot = s.pol.tot)) ∧
    (s.nor.save.tx = [] → t.nor.save = s.nor.save) ∧ t.nor.audit = s.nor.audit ∧ t.regs = s.regs :=
  ⟨⟨h.cyc, h.count, h.hold, h.acc⟩, ⟨h.seq, h.snap, h.out, h.tot⟩, h.save, h.audit, h.regs⟩

/-- What a cycle has done when it publishes. -/
def cycleDone (c : PolCur) (s : State) : State :=
  let p := (polAt s.pol 1200000).1
  polCross s.pol.count p (txBoundary 1 p (txBoundary 0 p (meterCycle 1 c.i2 c.i3 p (meterCycle 0 c.i0 c.i1 p
    (countMoved (polAt s.pol 1200000) (polTicks s.pol.acc 1200000).2 s)))))

/-- It publishes, takes a commit into force, and saves at a whole second. -/
def cycleEnd (p : Tick) (s : State) : State :=
  let s := polPublish s
  let s := setPol { s.pol with par := polCommitted s } s
  if s.pol.cyc % 10 = 0 then polSave p s else s

theorem polCycle_eq (c : PolCur) (s : State) : polCycle c s = cycleEnd (polAt s.pol 1200000).1 (cycleDone c s) := rfl

theorem cycleDone_kept (c : PolCur) (s : State) : PolKept (countMoved (polAt s.pol 1200000) (polTicks s.pol.acc 1200000).2 s) (cycleDone c s) :=
  (meterCycle_kept ..).trans ((meterCycle_kept ..).trans ((txBoundary_kept ..).trans ((txBoundary_kept ..).trans (polCross_kept ..))))

theorem cycleDone_noPulses (c : PolCur) (s : State) (m : Fin 2) : NoPulses m.val (cycleDone c s) := by
  refine NoPulses.polCross (NoPulses.txBoundary (NoPulses.txBoundary ?_ ..) ..) ..
  fin_cases m
  · exact meterCycle_noPulses 1 _ _ _ (by decide) (meterCycle_noPulses_self 0 _ _ _ _)
  · exact meterCycle_noPulses_self 1 _ _ _ _

theorem cycleEnd_of_second (p : Tick) {s : State} (h : s.pol.cyc % 10 = 0) : cycleEnd p s =
    let w := resultWords s ((s.pol.snap.map (·.toNat)).getD 0)
    let t := setPol { s.pol with out := s.pol.out ++ [.result w], seq := s.pol.seq + 1, snap := none } s
    polSave p (setPol { t.pol with par := polCommitted s } t) := by
  simp only [cycleEnd, polPublish, if_pos (Or.inl h : s.pol.cyc % 10 = 0 ∨ _)]
  exact if_pos h

/-! ### Release (R451, R452, R471, R479) -/

@[simp] theorem polEvent_nor_of_room {k : PolKind} {count : Tick} {ops : List Word} {s : State} (h : s.nor.events.length < 32768) :
    (polEvent k count ops s).nor = { s.nor with events := s.nor.events ++ [⟨k, count, s.nor.audit, ops⟩] } := by
  rw [polEvent_of_room k count ops h, polWarn_nor]; rfl

theorem txInterrupted_kept (m : Nat) (s : State) : PolKept s (txInterrupted m s) := by
  unfold txInterrupted
  split
  · split
    · exact txClose_kept ..
    · exact setTx_kept ..
  · exact .refl s

@[simp] theorem txInterrupted_tot (m : Nat) (s : State) : (txInterrupted m s).pol.tot = s.pol.tot := by
  unfold txInterrupted
  split
  · split
    · exact txClose_tot ..
    · rfl
  · rfl

theorem txInterrupted_of_none (m : Nat) {s : State} (h : s.pol.tx = []) : txInterrupted m s = s := by
  simp only [txInterrupted, polTx, h, tabFind]

/-- The polder released with the working copy of its parameters restored. -/
def polCopied (s : State) : State := setNor { s.nor with copyA := polCommitted (setPower s 17 .run) } (setPower s 17 .run)

@[simp] theorem polCommitted_copied (s : State) : polCommitted (polCopied s) = polCommitted s := by
  cases hA : s.nor.copyA <;> cases hB : s.nor.copyB <;> simp [polCommitted, polCopied, setNor, setPower, hA, hB]

/-- It takes up its save. -/
def polRestored (s : State) : State :=
  let c := polCopied s
  let v := s.nor.save
  setPol { count := v.count, tot := v.tot, tx := v.tx, unsync := true, parflt := (polCommitted c).isNone, par := polCommitted c } c

/-- What the polder day had gathered is gathered again. -/
def polDayAgain (s : State) : State :=
  let again := fun (m : Nat) (t : State) => setMeter m { polMeter t m with day := tabGet (fun _ => {}) s.nor.save.day m } t
  again 1 (again 0 (polRestored s))

/-- The events of a release. -/
def polStarted (bad : Bool) (count : Tick) (s : State) : State :=
  polWarn (polEvent .start count [] (if bad then polFlagEvt 21 (polEvent .parflt count [] s) else s))

theorem polRelease_of_off {s : State} (hm : s.sys.variantM = true) (hoff : polUp s = false) :
    polRelease s = polStarted (polCommitted s).isNone s.nor.save.count (txInterrupted 1 (txInterrupted 0 (polDayAgain s))) := by
  rw [← polCommitted_copied s]
  exact (if_neg (by simp [hm])).trans (if_neg (ne_true_of_eq_false hoff))

theorem polStarted_kept (bad : Bool) (count : Tick) (s : State) : PolKept s (polStarted bad count s) := by
  refine PolKept.trans ?_ ((polEvent_kept .start count [] _).trans (polWarn_kept _))
  split
  · exact (polEvent_kept ..).trans (polFlagEvt_kept ..)
  · exact .refl s

theorem polStarted_tot (bad : Bool) (count : Tick) (s : State) : (polStarted bad count s).pol.tot = s.pol.tot := by
  rw [polStarted, polWarn_tot, polEvent_tot]
  split
  · exact polEvent_tot ..
  · rfl

theorem polStarted_slots (bad : Bool) (count : Tick) (s : State) : (polStarted bad count s).nor.slots = s.nor.slots := by
  rw [polStarted, polWarn_nor, polEvent_slots]
  split
  · exact polEvent_slots ..
  · rfl

theorem polStarted_events (count : Tick) {s : State} (h : s.nor.events.length < 32768) :
    (polStarted false count s).nor.events = s.nor.events ++ [⟨.start, count, s.nor.audit, []⟩] := by
  rw [polStarted, polWarn_nor]
  exact congrArg PolNor.events (polEvent_nor_of_room h)

section
variable {s : State} (hm : s.sys.variantM = true) (hoff : polUp s = false)
include hm hoff

theorem polRelease_kept : PolKept (polRestored s) (polRelease s) := by
  rw [polRelease_of_off hm hoff]
  have hday : PolKept (polRestored s) (polDayAgain s) := (setMeter_kept 0 _ _).trans (setMeter_kept 1 _ _)
  exact hday.trans ((txInterrupted_kept ..).trans ((txInterrupted_kept ..).trans (polStarted_kept ..)))

theorem polRelease_tot : (polRelease s).pol.tot = s.nor.save.tot := by
  rw [polRelease_of_off hm hoff, polStarted_tot, txInterrupted_tot, txInterrupted_tot]
  rfl

/-- A save that holds no transaction leaves none to close. -/
theorem polRelease_of_no_tx (htx : s.nor.save.tx = []) :
    polRelease s = polStarted (polCommitted s).isNone s.nor.save.count (polDayAgain s) := by
  have hnone : (polDayAgain s).pol.tx = [] := htx
  rw [polRelease_of_off hm hoff, txInterrupted_of_none 0 hnone, txInterrupted_of_none 1 hnone]

end

/-! ### Reset (R53, R451) -/

theorem sluError_nor (kind src dst : Nat) (addr : Word) (s : State) : (sluError kind src dst addr s).nor = s.nor := by
  unfold sluError
  dsimp only
  split
  · exact wr_nor ..
  · exact (wr_nor ..).trans ((wr_nor ..).trans (wr_nor ..))

theorem busError_nor (i : Initiator) (e : BusErr) (a : Nat) (s : State) : (busError i e a s).nor = s.nor := by
  have hreply : (setReply i ⟨0, some e⟩ s).nor = s.nor := by cases i <;> rfl
  cases e with
  | timeout => exact (sluError_nor ..).trans hreply
  | other => exact hreply
  | offacc | unmapped | accerr => exact (sluError_nor ..).trans hreply

theorem abortOpen_nor (i : Nat) (s : State) : (abortOpen i s).nor = s.nor := by
  have hwrite : ∀ j e a s, (writeError j e a s).nor = s.nor := fun j e a s => by
    simp only [writeError, apply_ite State.nor, busError_nor, ite_self]
  have hword : ∀ e w s, (wordError e w s).nor = s.nor := fun e w s => by
    unfold wordError
    split
    · simp only [apply_ite State.nor, hwrite, busError_nor, ite_self]
    · rfl
  unfold abortOpen
  dsimp only
  rw [forL_keeps State.nor _ _ _ fun _ s => onlyIf_keeps State.nor _ _ s fun _ => busError_nor ..]
  refine forL_keeps State.nor _ _ s fun e s => ?_
  split
  · simp only [apply_ite State.nor, hword, ite_self]
  · rfl

theorem islUp_stir {i : Nat} {s : State} (h : islUp s i = true) : islUp (stir i s) i = true := by
  unfold stir
  split
  · simp [islUp, power, setPower]
  · exact h

@[simp] theorem stir_nor (i : Nat) (s : State) : (stir i s).nor = s.nor := by unfold stir; split <;> rfl

/-- The polder's state of its own as a reset leaves it: off, with nothing on its way. -/
def polResetState (s : State) : State := { setInbox (setPower (dropSluices 17 (abortOpen 17 s)) 17 .off) 17 [] with pol := {} }

theorem polResetState_pol (s : State) : (polResetState s).pol = {} := rfl

theorem polResetState_nor (s : State) : (polResetState s).nor = s.nor := abortOpen_nor 17 s

theorem power_polResetState (s : State) : power (polResetState s) 17 = .off := tabGet_set_self (fun _ => Power.off) _ 17 .off

theorem inbox_polResetState (s : State) : inbox (polResetState s) 17 = [] := tabGet_set_self (fun _ => []) _ 17 []

theorem perfIslandReset_sys (i : Nat) (s : State) : (perfIslandReset i s).sys = s.sys := rfl

theorem perfIslandReset_pol (i : Nat) (s : State) : (perfIslandReset i s).pol = s.pol := rfl

theorem perfIslandReset_nor (i : Nat) (s : State) : (perfIslandReset i s).nor = s.nor := rfl

theorem resetIsland_polder {s : State} (h : islUp s 17 = true) :
    resetIsland 17 s = setF (perfIslandReset 17 (polResetState s)) SYS_EVT_ISLDOWN := by
  unfold resetIsland
  exact if_pos (by rw [h]; rfl)

/-! ### The power-fail warning and pulses (R451, R454) -/

theorem polPowerFail_of_up {cyc : Nat} {s : State} (hwarn : s.pol.warn = false) : polPowerFail cyc s =
    polEvent .pwrfail (polAt s.pol cyc).1 [] (polSave (polAt s.pol cyc).1 (setPol { s.pol with warn := true } s)) :=
  if_neg (ne_true_of_eq_false hwarn)

/-- A polder without parameters, or one about to lose its supply, counts no pulse. -/
theorem polPulse_of_idle {inp cyc : Nat} (rev : Bool) {s : State} (h : s.pol.par = none ∨ s.pol.warn = true) : polPulse inp rev cyc s = s :=
  if_pos (by rcases h with h | h <;> simp [h])

section
variable {inp cyc : Nat} (rev : Bool) {s : State} (hpar : s.pol.par.isSome = true) (hwarn : s.pol.warn = false)
include hpar hwarn

theorem polPulse_first (hinp : inp % 2 = 0) (hapart : pulseApart (polMeter s (inp / 2)).at1 cyc = true) : polPulse inp rev cyc s =
    let x := polMeter s (inp / 2)
    setMeter (inp / 2) { x with n1 := x.n1 + 1, at1 := some cyc, fwd := x.fwd + (!rev).toNat, rev := x.rev + rev.toNat } s := by
  refine (if_neg ?_).trans ((if_pos hinp).trans (if_pos hapart))
  simp [Option.isNone_eq_false_iff.mpr hpar, hwarn]

theorem polPulse_second (hinp : inp % 2 = 1) (hapart : pulseApart (polMeter s (inp / 2)).at2 cyc = true) : polPulse inp rev cyc s =
    let x := polMeter s (inp / 2)
    setMeter (inp / 2) { x with n2 := x.n2 + 1, at2 := some cyc } s := by
  refine (if_neg ?_).trans ((if_neg (by omega)).trans (if_pos hapart))
  simp [Option.isNone_eq_false_iff.mpr hpar, hwarn]

end

/-! ### Days, inputs and the seal (R455, R463, R466, R467, R469) -/

/-- The record of a day for one meter, unless the log has no room for it. -/
def polDayRecord (d : PolDay) (m : Nat) (a : PolAcc) (t : PolTot) (s : State) : State :=
  if freeSlots s ≥ 2 then polAppend (polRecord 0x11 m d.day a d.stop t s.nor.audit) s else s

theorem exec_polderDailyRecord {d : PolDay} {l : List PolDay} {s u : State} (hup : polUp s = true) (hu : u = stir 17 s)
    (hdays : u.nor.days = d :: l) : exec .polderDailyRecord s =
      .next (polDayRecord d 1 d.b d.tb (polDayRecord d 0 d.a d.ta (setNor { u.nor with days := l } u))) := by
  subst hu
  refine congrArg Host.Outcome.next ((if_pos hup).trans ?_)
  simp only [hdays]
  rfl

theorem polDayRecord_of_full {d : PolDay} {m : Nat} {a : PolAcc} {t : PolTot} {s : State} (h : freeSlots s < 2) :
    polDayRecord d m a t s = s := if_neg (by omega)

theorem polDayRecord_of_room {d : PolDay} {m : Nat} {a : PolAcc} {t : PolTot} {s : State} (h : 2 ≤ freeSlots s) :
    polDayRecord d m a t s = polAppend (polRecord 0x11 m d.day a d.stop t s.nor.audit) s := if_pos h

section
variable {s : State} {inp m : Nat} {x : PolMeter} (hx : x = polMeter s m)
include hx

/-- A temperature input out of range is recorded once. -/
theorem polInputFault_temperature (t : Tick) (hinp : inp = 2 * m) : polInputFault inp t s =
    if x.tflt then s else polFlagEvt 21 (polEvent .tempflt t [BitVec.ofNat 32 m] (setMeter m { x with tflt := true } s)) := by
  have hm : inp / 2 = m := by omega
  unfold polInputFault
  rw [hm, hx]
  exact if_pos (by omega)

theorem polInputFault_density (t : Tick) (hinp : inp = 2 * m + 1) : polInputFault inp t s =
    if x.dflt then s else polFlagEvt 21 (polEvent .densflt t [BitVec.ofNat 32 m] (setMeter m { x with dflt := true } s)) := by
  have hm : inp / 2 = m := by omega
  unfold polInputFault
  rw [hm, hx]
  exact if_neg (by omega)

theorem polInputOk_temperature (hinp : inp = 2 * m) : polInputOk inp s = setMeter m { x with tflt := false } s := by
  have hm : inp / 2 = m := by omega
  unfold polInputOk
  rw [hm, hx]
  exact congrArg (setMeter m · s) (if_pos (by omega))

theorem polInputOk_density (hinp : inp = 2 * m + 1) : polInputOk inp s = setMeter m { x with dflt := false } s := by
  have hm : inp / 2 = m := by omega
  unfold polInputOk
  rw [hm, hx]
  exact congrArg (setMeter m · s) (if_neg (by omega))

end

theorem sealChange_of_same {b : Bool} (cyc : Nat) {s : State} (h : s.pol.unsealed = b) : sealChange b cyc s = s := if_pos h

theorem sealChange_opened (cyc : Nat) {s : State} (h : s.pol.unsealed = false) : sealChange true cyc s =
    polEvent .sealopen (polAt s.pol cyc).1 [] (polFlagEvt 17 (setPol { s.pol with unsealed := true } s)) :=
  if_neg (by simp [h])

/-- A seal that closes discards what is staged. -/
theorem sealChange_closed {cyc : Nat} {s t : State} (h : s.pol.unsealed = true)
    (ht : t = polEvent .sealclose (polAt s.pol cyc).1 [] (polFlagEvt 17 (setPol { s.pol with unsealed := false } s))) :
    sealChange false cyc s = if s.pol.staged.isEmpty then t else polEvent .discard (polAt s.pol cyc).1 [] (setPol { t.pol with staged := [] } t) := by
  have hstaged : t.pol.staged = s.pol.staged := ht ▸ (polEvent_kept ..).staged
  refine (if_neg (by simp [h])).trans ?_
  rw [← hstaged, ht]
  rfl

/-- What a cycle that ends a second publishes and saves. -/
theorem cycleEnd_second {p : Tick} {s t : State} (hp : s.pol.count = p) (h : s.pol.cyc % 10 = 0) (ht : t = cycleEnd p s) :
    t.pol.seq = s.pol.seq + 1 ∧ t.pol.snap = none ∧
      t.nor.save = ⟨t.pol.count, t.pol.tot, t.pol.tx, [(0, (polMeter t 0).day), (1, (polMeter t 1).day)]⟩ := by
  rw [ht, cycleEnd_of_second p h, ← hp]
  exact ⟨rfl, rfl, rfl⟩

theorem polPublish_shape (s : State) : ∃ out seq snap, polPublish s = setPol { s.pol with out := out, seq := seq, snap := snap } s := by
  unfold polPublish
  split
  · exact ⟨_, _, _, rfl⟩
  · exact ⟨s.pol.out, s.pol.seq, s.pol.snap, rfl⟩

/-- What the end of a cycle never changes, and the parameters of the next. -/
theorem cycleEnd_keeps (p : Tick) {s t : State} (ht : t = cycleEnd p s) :
    t.pol.cyc = s.pol.cyc ∧ t.pol.count = s.pol.count ∧ t.pol.hold = s.pol.hold ∧ t.pol.acc = s.pol.acc ∧ t.pol.meters = s.pol.meters ∧
      t.pol.tot = s.pol.tot ∧ t.pol.par = polCommitted t ∧ t.nor.audit = s.nor.audit ∧ t.regs = s.regs := by
  obtain ⟨out, seq, snap, hpub⟩ := polPublish_shape s
  rw [ht]
  unfold cycleEnd
  rw [hpub]
  dsimp only
  split <;> exact ⟨rfl, rfl, rfl, rfl, rfl, rfl, rfl, rfl, rfl⟩

/-- A cycle within a second that no snapshot asks for publishes and saves nothing. -/
theorem cycleEnd_quiet {p : Tick} {s t : State} (h : s.pol.cyc % 10 ≠ 0) (hsnap : s.pol.snap = none) (ht : t = cycleEnd p s) :
    t.pol.seq = s.pol.seq ∧ t.pol.out = s.pol.out ∧ t.nor.save = s.nor.save := by
  have hquiet : ¬ (s.pol.cyc % 10 = 0 ∨ s.pol.snap.isSome) := by simp [h, hsnap]
  have hpub : polPublish s = s := if_neg hquiet
  have hend : cycleEnd p s = setPol { s.pol with par := polCommitted s } s := by
    simp only [cycleEnd, hpub]
    exact if_neg h
  rw [ht, hend]
  exact ⟨rfl, rfl, rfl⟩

/-- Settles O45, event by event: each comes down to its operation's case, the release and the cycle to what they keep. -/
theorem polderProceeds : Obligations.PolderProceeds := by
  unfold Obligations.PolderProceeds
  refine ⟨fun s hm => ⟨fun hup => ?running, fun hoff => ?released⟩, fun s hup => ?reset,
    fun cyc s u c hup hu hc => ⟨fun hwarn => ?_, fun hwarn hroom => ?_, fun hwarn hfull => ?_⟩,
    fun inp rev cyc x s u hup hu hx => ⟨fun hidle => inPolder_answers hup hu (polPulse_of_idle rev hidle), fun hpar hwarn => ?pulse⟩,
    fun c m s u hup hu => ⟨polCycle c u, inPolder_answers hup hu rfl, ?cycle⟩, fun d l s u v hup hu hdays hv => ?days,
    fun m i j cyc x c s u hup hu hx hc hi hj => ?inputs, fun cyc c s u hup hu hc => ?sealed⟩
  case running => exact congrArg Host.Outcome.next ((if_neg (by simp [hm])).trans (if_pos hup))
  case released =>
    have hkept := polRelease_kept hm hoff
    have hquiet := fun htx => polRelease_of_no_tx hm hoff htx
    refine ⟨polRelease s, rfl, ?_, hkept.copyA, hkept.par.trans (polCommitted_copied s), hkept.count,
      polRelease_tot hm hoff, hkept.unsync, hkept.warn, hkept.staged, ?_, fun htx => ⟨hkept.save htx, ?_⟩,
      fun htx hsome hroom => ?_⟩
    · rw [power, hkept.sys]
      exact tabGet_set_self (fun _ => Power.off) _ 17 .run
    · rw [← polCommitted_copied s]
      exact hkept.parflt
    · rw [hquiet htx, polStarted_slots]
      rfl
    · rw [hquiet htx, Option.isNone_eq_false_iff.mpr hsome]
      exact polStarted_events _ hroom
  case reset =>
    refine ⟨resetIsland 17 (stir 17 s), inPolder_answers hup rfl rfl, ?_⟩
    rw [resetIsland_polder (islUp_stir hup)]
    refine ⟨?_, ?_, ?_, ?_, flag_setF _ _ rfl (by decide)⟩
    · rw [power, setF_sys, perfIslandReset_sys]
      exact power_polResetState _
    · rw [inbox, setF_sys, perfIslandReset_sys]
      exact inbox_polResetState _
    · rw [setF_pol, perfIslandReset_pol, polResetState_pol]
    · rw [setF_nor, perfIslandReset_nor, polResetState_nor, stir_nor]
  · exact inPolder_answers hup hu (if_pos hwarn)
  · exact inPolder_answers hup hu (by rw [polPowerFail_of_up hwarn, polEvent_of_room _ _ _ (by exact hroom), ← hc]; rfl)
  · exact inPolder_answers hup hu (by rw [polPowerFail_of_up hwarn, polEvent_of_full _ _ _ (by exact hfull), ← hc]; rfl)
  case pulse =>
    subst hx
    exact ⟨fun hinp hapart => inPolder_answers hup hu (polPulse_first rev hpar hwarn hinp hapart),
      fun hinp hapart => inPolder_answers hup hu (polPulse_second rev hpar hwarn hinp hapart)⟩
  case cycle =>
    obtain ⟨⟨hcyc, hcount, hhold, hacc⟩, ⟨hseq, hsnap, hout, htot⟩, hsave, haudit, hregs⟩ := countMoved_kept (cycleDone_kept c u)
    obtain ⟨ecyc, ecount, ehold, eacc, emeters, etot, epar, eaudit, eregs⟩ := cycleEnd_keeps (polAt u.pol 1200000).1 (polCycle_eq c u)
    obtain ⟨h1, h2, hfwd, hrev⟩ := (cycleDone_noPulses c u m).of_meters emeters
    refine ⟨ecyc.trans hcyc, ecount.trans hcount, ehold.trans hhold, eacc.trans hacc, h1, h2, hfwd, hrev,
      fun hnone => etot.trans (htot hnone), epar, fun hsec => ?_, fun hsec hnone => ?_, eaudit.trans haudit, eregs.trans hregs⟩
    · obtain ⟨eseq, esnap, esave⟩ := cycleEnd_second hcount (by rw [hcyc, hsec]) (polCycle_eq c u)
      exact ⟨by rw [eseq, hseq], esnap, esave⟩
    · obtain ⟨eseq, eout, esave⟩ := cycleEnd_quiet (by rwa [hcyc]) (hsnap.trans hnone) (polCycle_eq c u)
      exact ⟨eseq.trans hseq, eout.trans hout, fun htx => esave.trans (hsave htx)⟩
  case days =>
    have hfree : freeSlots v = freeSlots u := by rw [hv]; rfl
    have haudit : v.nor.audit = u.nor.audit := by rw [hv]; rfl
    rw [exec_polderDailyRecord hup hu hdays, ← hv]
    refine ⟨fun hfull => ?_, fun hroom => ?_⟩
    · rw [polDayRecord_of_full (m := 0) (by omega), polDayRecord_of_full (by omega)]
    · have hsecond := freeSlots_polAppend (polRecord 0x11 0 d.day d.a d.stop d.ta v.nor.audit) v
      rw [polDayRecord_of_room (m := 0) (by omega), polDayRecord_of_room (by omega), polAppend_audit, haudit]
  case inputs =>
    subst hu hc
    exact ⟨fun hok => inPolder_answers hup rfl ((polInputFault_temperature hx _ hi).trans (if_neg (ne_true_of_eq_false hok))),
      fun hok => inPolder_answers hup rfl ((polInputFault_density hx _ hj).trans (if_neg (ne_true_of_eq_false hok))),
      fun hbad => inPolder_answers hup rfl ((polInputFault_temperature hx _ hi).trans (if_pos hbad)),
      fun hbad => inPolder_answers hup rfl ((polInputFault_density hx _ hj).trans (if_pos hbad)),
      inPolder_answers hup rfl (polInputOk_temperature hx hi), inPolder_answers hup rfl (polInputOk_density hx hj)⟩
  case sealed =>
    subst hc
    refine ⟨fun hsealed => inPolder_answers hup hu (sealChange_opened _ hsealed), fun hopen hnone => ?_, fun hopen hsome t ht => ?_,
      fun b hsame => inPolder_answers hup hu (sealChange_of_same _ hsame)⟩
    · exact inPolder_answers hup hu ((sealChange_closed hopen rfl).trans (if_pos (List.isEmpty_iff.mpr hnone)))
    · exact inPolder_answers hup hu ((sealChange_closed hopen ht).trans (if_neg (mt List.isEmpty_iff.mp hsome)))

end Sys2Proof.Machine
end

section
/-! PROOFS. Requests to the polder and the mailbox at SYS (17_polder_metrology_island, R462, R466, R469, R472, R474 to R477, R479; that TXSTART
answers PARFLT before it checks the meter, and that a request is sent only while the link is up, is assumption log 116). -/

namespace Sys2Proof.Machine

theorem inSys_answers {s u r : State} {f : State → State} (hup : islUp s 0 = true) (hu : u = stir 0 s) (hr : f u = r) :
    inSys f s = .next r := by
  rw [← hr, hu]; exact congrArg _ (if_pos hup)

/-! ### Requests (R462, R469, R475, R479) -/

/-- The word of a request spells its operation. -/
theorem wget_request_op {op a8 ix : Nat} (hop : op < 256) (ha : a8 < 256) (hx : ix < 65536) :
    wget (w32 (op * 2 ^ 24 + a8 * 2 ^ 16 + ix)) 31 24 = op := by
  simp only [wget, w32, BitVec.toNat_ofNat]
  omega

/-- SYS with a request of an operation sent and its answer awaited. -/
def polAwaited (op : Nat) (u : State) : State :=
  polClockAsked (setF (wr u POLD_RSPSTAT (w32 (0x40000000 + op * 65536))) POLD_STAT_BUSY)

theorem link_polAwaited (op : Nat) (u : State) : flag (polAwaited op u) POLD_STAT_LINK = flag u POLD_STAT_LINK := by
  have hreq : rd (wr u POLD_RSPSTAT (w32 (0x40000000 + op * 65536))) POLD_STAT = rd u POLD_STAT := rd_wr_ne _ _ _ _ (by decide)
  refine (flag_setF_apart _ (by decide)).trans ?_
  exact congrArg (fun w => wget w 31 31 == 1) hreq

/-- A request that finds no other busy and the link up is answered by the polder. -/
theorem polReqWrite_of_link {v : Word} {u b : State} (hb : b = polAwaited (wget v 31 24) u) (hfree : flag u POLD_STAT_BUSY = false)
    (hup : polUp u = true) (hlink : flag u POLD_STAT_LINK = true) : polReqWrite false v u =
      let r := polRequest (wget v 31 24) (wget v 23 16) (wget v 15 0) (rd b POLD_REQARG) b
      setPol { r.2.2.pol with out := r.2.2.pol.out ++ [.response r.1 r.2.1] } r.2.2 := by
  have hsent : (polUp b && flag b POLD_STAT_LINK && !false) = true := by
    rw [hb, link_polAwaited, hlink]
    simp only [Bool.not_false, Bool.and_true]
    exact hup
  subst hb
  exact (if_neg (ne_true_of_eq_false hfree)).trans (if_pos hsent)

section
variable (m : Nat) {s : State}

theorem txStart_of_parflt (h : s.pol.parflt = true) : txStart m s = (6, [], s) := if_pos h

theorem txStop_of_parflt (h : s.pol.parflt = true) : txStop m s = (6, [], s) := if_pos h

theorem txStart_of_no_meter (hpar : s.pol.parflt = false) (hm : 2 ≤ m) : txStart m s = (2, [], s) := by simp [txStart, hpar, hm]

theorem txStop_of_no_meter (hpar : s.pol.parflt = false) (hm : 2 ≤ m) : txStop m s = (2, [], s) := by simp [txStop, hpar, hm]

theorem txStart_of_started (hpar : s.pol.parflt = false) (hm : m < 2) (hseal : s.pol.unsealed = false) (htx : (polTx s m).isSome = true) :
    txStart m s = (4, [], s) := by
  have hmeter : ¬ m ≥ 2 := by omega
  simp [txStart, hpar, hmeter, hseal, htx]

theorem parWrite_of_index {i : Nat} {v : Word} (hopen : s.pol.unsealed = true) (hi : parIndex i = true) (hv : parOk i v = true) :
    parWrite i v s = (0, [], setPol { s.pol with staged := tabPut s.pol.staged i v } s) := by simp [parWrite, hopen, hi, hv]

theorem parWrite_of_bad {i : Nat} {v : Word} (hopen : s.pol.unsealed = true) (hbad : parIndex i = false ∨ parOk i v = false) :
    parWrite i v s = (2, [], s) := by
  rcases hbad with h | h <;> simp [parWrite, hopen, h]

end

/-! ### Messages to SYS (R474, R475, R477) -/

section
variable {u t : State} {st : Nat} {w : List Word}

theorem polResponse_bad (htake : polTake isResponse u = (some (.response st w), t)) : polResponse true u = protErr t := by
  simp only [polResponse, htake, if_true]

theorem polResponse_good (htake : polTake isResponse u = (some (.response st w), t)) : polResponse false u =
    if flag (linkHeard t) POLD_STAT_BUSY then polEnd st w (linkHeard t) else linkHeard t := by
  simp only [polResponse, htake, Bool.false_eq_true, if_false]

theorem polResult_bad (htake : polTake (fun m => !isResponse m) u = (some (.result w), t)) : polResult true u = protErr t := by
  simp only [polResult, htake, if_true]

theorem polResult_good (htake : polTake (fun m => !isResponse m) u = (some (.result w), t)) : polResult false u =
    setF (forN 32 (fun i s => wr s (POLD_RES i) (w.getD i 0)) (linkHeard t)) POLD_EVT_RESNEW := by
  simp only [polResult, htake, Bool.false_eq_true, if_false]

end

/-! ### Time (R389, R472) -/

section
variable {u : State} (hsys : islUp u 0 = true) (hdue : timeDue u = true)
include hsys hdue

theorem polAsk_bad : polAsk true u = protErr (setPol { u.pol with rqCyc := some u.pol.cyc } u) := by
  have hup : islUp (setPol { u.pol with rqCyc := some u.pol.cyc } u) 0 = true := hsys
  simp only [polAsk, hdue, if_true, hup, onlyIf_true]

theorem polAsk_good : polAsk false u = capTrigger 2 0 (linkHeard (setPol { u.pol with rqCyc := some u.pol.cyc, timeRq := true } u)) := by
  have hup : islUp (setPol { u.pol with rqCyc := some u.pol.cyc } u) 0 = true := hsys
  simp only [polAsk, hdue, if_true, hup, Bool.false_eq_true, if_false]
  rfl

end

/-- Settles O46, message by message: each comes down to its operation's case. -/
theorem polderRequestsAndMailbox : Obligations.PolderRequestsAndMailbox := by
  unfold Obligations.PolderRequestsAndMailbox
  refine ⟨fun i arg idx s u h hfree hup hlink => ?requests,
    fun m i v s => ⟨fun hpar => ⟨txStart_of_parflt m hpar, txStop_of_parflt m hpar⟩,
      fun hpar hm => ⟨txStart_of_no_meter m hpar hm, txStop_of_no_meter m hpar hm⟩,
      fun hpar hm hseal htx => txStart_of_started m hpar hm hseal htx, fun hseal => if_pos hseal,
      fun hopen hi hv => parWrite_of_index hopen hi hv, fun hopen hbad => parWrite_of_bad hopen hbad, fun hseal => if_pos hseal⟩,
    fun st w s u hup hu => ⟨fun t htake => ⟨inSys_answers hup hu (polResponse_bad htake),
        fun hbusy => inSys_answers hup hu ((polResponse_good htake).trans (if_pos hbusy)),
        fun hfree => inSys_answers hup hu ((polResponse_good htake).trans (if_neg (ne_true_of_eq_false hfree)))⟩, fun hlong => ?noresp⟩,
    fun cyc s u hup hu hsys => ⟨fun hdue => ⟨inPolder_answers hup hu (polAsk_bad hsys hdue), inPolder_answers hup hu (polAsk_good hsys hdue)⟩,
      fun hnot b => inPolder_answers hup hu (if_neg (ne_true_of_eq_false hnot)), fun hasked hdone hvalid => ?time⟩,
    fun s u v hu hv => ⟨fun hup hsys => ?link, fun hup hsilent => ?down⟩,
    fun s u hup hu => ⟨fun k l hreq hm hpol => ?snapshot,
      fun w t htake => ⟨inSys_answers hup hu (polResult_bad htake), inSys_answers hup hu (polResult_good htake)⟩, fun hwarn => ?logwarn⟩⟩
  case requests =>
    have hanswer : ∀ {op a8 ix : Nat}, op < 256 → a8 < 256 → ix < 65536 → polRow i op a8 ix false s = _ := fun hop ha hx =>
      access_answers h ((polReqWrite_of_link rfl hfree hup hlink).trans (by rw [wget_request_op hop ha hx]))
    exact ⟨hanswer (by decide) (by decide) (by decide), hanswer (by decide) (by decide) (by decide),
      hanswer (by decide) arg.isLt (by decide), hanswer (by decide) arg.isLt (by decide), hanswer (by decide) arg.isLt (by decide),
      hanswer (by decide) (by decide) idx.isLt, hanswer (by decide) (by decide) idx.isLt, hanswer (by decide) (by decide) (by decide),
      hanswer (by decide) (by decide) (by decide)⟩
  case noresp =>
    subst hu
    exact congrArg Host.Outcome.next ((if_pos hup).trans (if_pos hlong))
  case time =>
    subst hu
    have hready : ((stir 17 s).pol.timeRq && islUp (stir 17 s) 0 && tabGet (fun _ => 0) (stir 17 s).tick.capReq 2 == 0 &&
        flag (stir 17 s) (TICK_CAPSTAT_VALID 2)) = true := by simp [hasked, hsys, hdone, hvalid]
    exact ⟨congrArg Host.Outcome.next ((if_pos hup).trans (if_pos hready)), congrArg Host.Outcome.next ((if_pos hup).trans (if_pos hready))⟩
  case link =>
    subst hu
    exact ⟨congrArg Host.Outcome.next ((if_pos hup).trans (if_pos hsys)), congrArg Host.Outcome.next ((if_pos hup).trans (if_pos hsys))⟩
  case down =>
    subst hv
    exact congrArg Host.Outcome.next ((if_pos hup).trans (if_pos hsilent))
  case snapshot =>
    subst hu
    have hrun : ((stir 0 s).sys.variantM && polUp (stir 0 s)) = true := by rw [hm, hpol]; rfl
    refine ⟨congrArg Host.Outcome.next ((if_pos hup).trans ?_), congrArg Host.Outcome.next ((if_pos hup).trans ?_)⟩
    · simp only [hreq]
      exact if_pos (Bool.and_eq_true_iff.mpr ⟨hrun, rfl⟩)
    · simp only [hreq]
      exact if_neg (by simp)
  case logwarn =>
    subst hu
    constructor <;> exact congrArg Host.Outcome.next ((if_pos hup).trans (if_pos hwarn))

end Sys2Proof.Machine
end

section
/-! PROOFS. The selvedge link: lanes, pairing, roles, heartbeats, takeover, handover, state copies and votes (18_selvedge_duplex, R483 to R493;
that a keepalive carries COPYOK, and SWITCH looks at it, is assumption log 125, and the expiry of a waiting vote is assumption log 128). -/

namespace Sys2Proof.Machine

theorem inSelv_answers {s u r : State} {f : State → State} (hup : selvUp s = true) (hu : u = stir 14 s) (hr : f u = r) :
    inSelv f s = .next r := by
  rw [← hr, hu]; exact congrArg _ (if_pos hup)

/-! ### SELV_CTL (R484, R491, R495) -/

section
variable {v : Word} {u c : State} (hlock : wget v 31 31 = 0) (hc : c = cdupUpdate (fset u SELV_CTL_CDUP (wget v 1 1)))
include hlock hc

/-- A write that sets EN and does not ask for SWITCH. -/
theorem selvCtlWrite_enable (hwas : flag u SELV_CTL_EN = false) (hen : wget v 0 0 = 1) (hswitch : wget v 2 2 = 0) :
    selvCtlWrite v u = selvEnable c := by
  simp [selvCtlWrite, hlock, hwas, hen, hswitch, hc]

theorem selvCtlWrite_disable (hwas : flag u SELV_CTL_EN = true) (hen : wget v 0 0 = 0) (hswitch : wget v 2 2 = 0) :
    selvCtlWrite v u = selvDisable c := by
  simp [selvCtlWrite, hlock, hwas, hen, hswitch, hc]

/-- A write that leaves EN as it is: only CDUP and SWITCH act. -/
theorem selvCtlWrite_of_same_en (hen : wget v 0 0 = (flag u SELV_CTL_EN).toNat) : selvCtlWrite v u =
    if wget v 2 2 = 1 ∧ selvRoleOf c = .active ∧ fget c SELV_STAT_PROLE = 1 ∧ (c.selv.peer.map (·.copyOk)).getD false then
      setSelv { c.selv with request := true } c
    else c := by
  cases hwas : flag u SELV_CTL_EN <;> simp [selvCtlWrite, hlock, hen, hwas, hc]

end

/-- The bits of SELV_CTL as `selvEnable`, `selvDisable` and `switch` write them. -/
theorem wget_or_one (w : Word) : wget (w ||| 1) 31 31 = wget w 31 31 ∧ wget (w ||| 1) 2 2 = wget w 2 2 ∧ wget (w ||| 1) 1 1 = wget w 1 1 ∧
    wget (w ||| 1) 0 0 = 1 := by
  simp only [wget_bit]; simp

theorem wget_and_not_one (w : Word) : wget (w &&& 0xFFFFFFFE) 31 31 = wget w 31 31 ∧ wget (w &&& 0xFFFFFFFE) 2 2 = wget w 2 2 ∧
    wget (w &&& 0xFFFFFFFE) 1 1 = wget w 1 1 ∧ wget (w &&& 0xFFFFFFFE) 0 0 = 0 := by
  simp only [wget_bit]; simp

theorem wget_or_four (w : Word) : wget (w ||| 4) 31 31 = wget w 31 31 ∧ wget (w ||| 4) 2 2 = 1 ∧ wget (w ||| 4) 1 1 = wget w 1 1 ∧
    wget (w ||| 4) 0 0 = wget w 0 0 := by
  simp only [wget_bit]; simp

/-- A flag is its bit. -/
theorem wget_of_flag (u : State) (a n : Nat) : wget (rd u a) n n = (flag u ⟨a, n, n⟩).toNat := by
  rw [flag_bit _ _ rfl, wget_bit]

/-! ### Boundaries, heartbeats and takeover (R486, R493 to R496) -/

section
variable (p : Word) {t : State} (hen : flag t SELV_CTL_EN = true)
include hen

theorem boundaryAt_none (hrole : selvRoleOf t = .none) (hpair : flag t SELV_STAT_PAIRED = false) :
    boundaryAt p t = setSelv { t.selv with alone := t.selv.alone + 1 } t := by
  simp only [boundaryAt, hen, hrole, hpair, if_true, Bool.false_eq_true, if_false]

theorem boundaryAt_active (hrole : selvRoleOf t = .active) :
    boundaryAt p t =
      let b := sendBeat p t.selv.request t
      setSelv { b.selv with request := false, giving := b.selv.giving || b.selv.request } b := by
  simp only [boundaryAt, hen, hrole, if_true]

theorem boundaryAt_standby (hrole : selvRoleOf t = .standby) : boundaryAt p t = standbyBoundary (sendBeat p false t) := by
  simp only [boundaryAt, hen, hrole, if_true]

end

section
variable {s : State} (hgrant : s.selv.granted = false) (hbeat : s.selv.beat = false)
include hgrant

theorem standbyBoundary_beat (hheard : s.selv.beat = true) : standbyBoundary s = fset s SELV_STAT_MISS 0 := by
  simp only [standbyBoundary, hgrant, hheard, Bool.false_eq_true, if_false, if_true]

include hbeat

theorem standbyBoundary_miss (hmiss : fget s SELV_STAT_MISS < 2) : standbyBoundary s = fset s SELV_STAT_MISS (fget s SELV_STAT_MISS + 1) := by
  simp only [standbyBoundary, hgrant, hbeat, hmiss, Bool.false_eq_true, if_false, if_true]

theorem standbyBoundary_third_miss (hmiss : 2 ≤ fget s SELV_STAT_MISS) :
    standbyBoundary s = if flag s SELV_CFG_FENCE && flag s SELV_STAT_ROLEI then setF s SELV_EVT_FENCED else takeover s := by
  simp only [standbyBoundary, hgrant, hbeat, Nat.not_lt.mpr hmiss, Bool.false_eq_true, if_false]

end

section
variable {u t : State} (htaking : u.selv.taking = true) (ht : t = setSelv { u.selv with taking := false } u)
include htaking ht

theorem takeoverDone_no_copy (hnone : u.selv.good = none) : takeoverDone u = relayDiol .assume (setF t SELV_EVT_NOCOPY) := by
  subst ht
  simp only [takeoverDone, htaking, if_true, setSelv, hnone]

theorem takeoverDone_copy {h : CopyHdr} (hgood : u.selv.good = some h) : takeoverDone u =
    let copy := bytesAt t.loom.warp ((fget t SELV_RXCFG_RXPAGE + 64 * fget t SELV_STAT_BUFNEW) * 4096) (1024 * h.len)
    relayDiol .assume (forN 24 (fun m u => if outPar u m then relayDiol (.out m (h.outsh.testBit m)) u else u)
      { t with loom := { t.loom with warp := putBytes t.loom.warp (fget t SELV_CPCFG_CPPAGE * 4096) copy } }) := by
  subst ht
  refine (if_pos htaking).trans ?_
  have hkept : (setSelv { u.selv with taking := false } u).selv.good = some h := hgood
  simp only [hkept]

end

section
variable {h : Heartbeat} {u t b : State} (ht : t = cdupUpdate (leaveNone (peerReport h.role h.epoch u)))
include ht

theorem heartbeatIn_of_passive (hrole : h.role ≠ .active) : heartbeatIn h u = t := by
  rw [ht]; exact if_neg hrole

variable (hrole : h.role = .active) (hb : b = setSelv { t.selv with beat := true } t)
include hrole hb

theorem heartbeatIn_standby (hown : selvRoleOf t = .standby) : heartbeatIn h u =
    fset (setSelv { b.selv with due := if h.handover then some h.done else b.selv.due } b) SELV_STAT_MISS 0 := by
  have hown' : selvRoleOf b = .standby := hb ▸ hown
  unfold heartbeatIn
  dsimp only
  rw [if_pos hrole, ← ht, ← hb, hown']

theorem heartbeatIn_active (hown : selvRoleOf t = .active) : heartbeatIn h u =
    if epochGreater h.epoch (selvEpoch b) || (h.epoch == selvEpoch b && fget b SELV_CFG_UNIT == 1) then
      onlyIf (!b.selv.giving) (setF · SELV_EVT_SPLIT) (selvRole .standby b)
    else b := by
  have hown' : selvRoleOf b = .active := hb ▸ hown
  unfold heartbeatIn
  dsimp only
  rw [if_pos hrole, ← ht, ← hb, hown']

/-- An ACTIVE module that hears a greater epoch steps back; it did not expect it unless it gives its role away. -/
theorem heartbeatIn_greater (hown : selvRoleOf t = .active) (hgreater : epochGreater h.epoch (selvEpoch t) = true) :
    heartbeatIn h u = onlyIf (!t.selv.giving) (setF · SELV_EVT_SPLIT) (selvRole .standby b) := by
  have hepoch : selvEpoch b = selvEpoch t := by rw [hb]; rfl
  have hgiving : b.selv.giving = t.selv.giving := by rw [hb]; rfl
  rw [heartbeatIn_active ht hrole hb hown, hepoch, hgreater, hgiving]
  rfl

theorem heartbeatIn_lesser (hown : selvRoleOf t = .active) (hless : epochGreater h.epoch (selvEpoch t) = false)
    (hne : h.epoch ≠ selvEpoch t) : heartbeatIn h u = b := by
  have hepoch : selvEpoch b = selvEpoch t := by rw [hb]; rfl
  rw [heartbeatIn_active ht hrole hb hown, hepoch, hless, beq_eq_false_iff_ne.mpr hne]
  rfl

end

/-! ### State copies (R487 to R490) -/

section
variable (k : Word) (o : Nat) {t : State} (hrole : selvRoleOf t = .active)
include hrole

theorem copyRequest_of_free (hfree : t.selv.sending = none) : copyRequest k o t = copyStart k o t := by
  simp only [copyRequest, hrole, if_true, hfree, Option.isNone_none]

theorem copyRequest_of_busy (hbusy : t.selv.sending ≠ none) : copyRequest k o t =
    let v := onlyIf t.selv.wait.isSome (fun s => setF (bump s SELV_CNT_COPYSKIP) SELV_EVT_COPYSKIP) t
    setSelv { v.selv with wait := some (k, o) } v := by
  refine (if_pos hrole).trans (if_neg ?_)
  simpa using hbusy

end

section
variable {r : CopyHdr} {u t : State} {d : List Byte} (hr : u.selv.sending = some r)
  (hd : d = bytesAt u.loom.warp (fget u SELV_CPCFG_CPPAGE * 4096) (1024 * r.len))
  (ht : t = setSelv { u.selv with sending := none, wait := none, sent := some ⟨r, d, copyCrcs r d⟩ } u)
include hr hd ht

theorem copySent_of_last (hlast : u.selv.wait = none) : copySent u = t := by
  subst hd ht
  simp only [copySent, hr, hlast]

theorem copySent_of_more {k : Word} {o : Nat} (hmore : u.selv.wait = some (k, o)) : copySent u = copyStart k o t := by
  subst hd ht
  simp only [copySent, hr, hmore]

end

/-- A copy starts with the module's epoch, which COPYTRUNC and TXSEQ leave alone. -/
theorem copyStart_eq {k : Word} {o n : Nat} {q : BitVec 32} {s u : State} (hn : n = copyLen s) (hq : q = s.selv.txSeq + 1)
    (hu : u = if n < fget s SELV_CPCFG_CPLEN then setF s SELV_EVT_COPYTRUNC else s) :
    copyStart k o s = setSelv { s.selv with txSeq := q, sending := some ⟨q, k, selvEpoch s, n, o⟩ } (fset u SELV_COPYSEQ_TXSEQ q.toNat) := by
  have htrunc : onlyIf (decide (n < fget s SELV_CPCFG_CPLEN)) (setF · SELV_EVT_COPYTRUNC) s = u := by
    rw [hu, onlyIf]
    simp only [decide_eq_true_eq]
  have hselv : u.selv = s.selv := by rw [hu]; split <;> rfl
  have hepoch : selvEpoch (fset u SELV_COPYSEQ_TXSEQ q.toNat) = selvEpoch s := by
    have hout : fget u SELV_EPOCH_EPOCH = fget s SELV_EPOCH_EPOCH := by
      rw [hu]
      split
      · exact fget_fset_apart _ _ (by decide)
      · rfl
    exact congrArg (BitVec.ofNat 16) ((fget_fset_apart _ _ (by decide)).trans hout)
  unfold copyStart
  dsimp only
  rw [← hn, ← hq, htrunc, hepoch]
  exact congrArg (fun x => setSelv { x with txSeq := q, sending := some ⟨q, k, selvEpoch s, n, o⟩ } _) hselv

section
variable {r : CopyHdr} {u t : State} {buf : Nat} (data : List Byte) (hrole : selvRoleOf u = .standby) (hen : flag u SELV_CTL_EN = true)
  (hbuf : buf = if flag u SELV_STAT_COPYOK then 1 - fget u SELV_STAT_BUFNEW else 0)
  (ht : t = { u with loom := { u.loom with
    warp := putBytes u.loom.warp ((fget u SELV_RXCFG_RXPAGE + 64 * buf) * 4096) (data.take (256 * 1024)) } })
include hrole hen hbuf ht

theorem copyReceived_bad : copyReceived r data false u = setF (bump t SELV_CNT_COPYERR) SELV_EVT_COPYERR := by
  subst hbuf ht
  exact if_pos ⟨hrole, hen⟩

/-- The first good copy, while no handover is due, only becomes the newest. -/
theorem copyReceived_first (hnone : t.selv.good = none) (hdue : t.selv.due = none) : copyReceived r data true u =
    setSelv { t.selv with good := some r } (setF (fset (fset t SELV_STAT_BUFNEW buf) SELV_COPYSEQ_RXSEQ r.seq.toNat) SELV_STAT_COPYOK) := by
  have hselv : t.selv = u.selv := by rw [ht]
  have hgood : u.selv.good = none := hselv ▸ hnone
  have hlate : u.selv.due = none := hselv ▸ hdue
  subst hbuf ht
  refine (if_pos ⟨hrole, hen⟩).trans ?_
  simp only [hgood, hlate, Bool.and_self, if_true, setF_selv, fset_selv, Bool.or_false]

end

/-! ### Votes (R492) -/

section
variable {v w : Vote} {u t : State} (hon : flag u SELV_STAT_CDUPON = true) (hw : w = { v with at_ := edges u 14 })
  (ht : t = setSelv { u.selv with pvotes := tabPut u.selv.pvotes v.src w, votes := u.selv.votes.filter (fun x => x.src != v.src) } u)
include hon hw ht

theorem partnerVote_eq : partnerVote v u = forL (u.selv.votes.filter (fun x => x.src == v.src))
    (fun x s => if w.at_ - x.at_ ≤ fget s SELV_AGRCFG_AGRWIN then compareVotes x w s else voteDisagreed s) t := by
  subst hw ht
  exact if_pos hon

theorem partnerVote_of_one {x : Vote} (hone : u.selv.votes.filter (fun y => y.src == v.src) = [x])
    (hnear : w.at_ - x.at_ ≤ fget u SELV_AGRCFG_AGRWIN) : partnerVote v u = compareVotes x w t := by
  have hwin : fget t SELV_AGRCFG_AGRWIN = fget u SELV_AGRCFG_AGRWIN := fget_of_regs _ _ _ (by rw [ht]; rfl)
  rw [partnerVote_eq hon hw ht, hone]
  exact if_pos (hwin ▸ hnear)

theorem partnerVote_of_none (hnone : u.selv.votes.filter (fun y => y.src == v.src) = []) : partnerVote v u = t := by
  rw [partnerVote_eq hon hw ht, hnone]
  rfl

end

/-! ### What the commands perform, from the state that SELV finds -/

section
variable {s u t : State} (hup : selvUp s = true) (hu : u = stir 14 s)
include hup hu

/-- A module that has heard no partner for ALONE boundaries starts alone, unless it is fenced. -/
theorem exec_selvLoneStart {rolei : Bool} (ht : t = putF u SELV_STAT_ROLEI rolei) (hen : flag t SELV_CTL_EN = true)
    (hrole : selvRoleOf t = .none) (hpair : flag t SELV_STAT_PAIRED = false) (halone : fget t SELV_CFG_ALONE ≤ u.selv.alone) :
    exec (.selvLoneStart rolei) s =
      .next (if flag t SELV_CFG_FENCE && rolei then setF t SELV_EVT_FENCED else relayDiol .assume (becomeActive t)) := by
  have hlone : (flag t SELV_CTL_EN && selvRoleOf t == .none && !flag t SELV_STAT_PAIRED &&
      decide (t.selv.alone ≥ fget t SELV_CFG_ALONE)) = true := by
    have hcount : t.selv.alone = u.selv.alone := by rw [ht]; rfl
    simp [hen, hrole, hpair, hcount, halone]
  subst ht hu
  exact congrArg Host.Outcome.next ((if_pos hup).trans (if_pos hlone))

theorem exec_selvHeartbeatSend {rolei : Bool} {p : Word} {l : List Word} (hbounds : u.selv.bounds = p :: l)
    (ht : t = putF (setSelv { u.selv with bounds := l } u) SELV_STAT_ROLEI rolei) :
    exec (.selvHeartbeatSend rolei) s = .next (noBeat (boundaryAt p t)) := by
  subst ht hu
  refine congrArg Host.Outcome.next ((if_pos hup).trans ?_)
  simp only [hbounds]

theorem exec_selvHeartbeatReceived {h : Heartbeat} (hen : flag u SELV_CTL_EN = true) :
    exec (.selvHeartbeatReceived h) s = .next (heartbeatIn h u) := by
  subst hu
  exact congrArg Host.Outcome.next ((if_pos hup).trans (if_pos hen))

theorem exec_stateCopyRequest {k : Word} {o : Nat} {l : List (Word × Nat)} (hreq : u.loom.copyReq = (k, o) :: l)
    (ht : t = { u with loom := { u.loom with copyReq := l } }) : exec .stateCopyRequest s = .next (copyRequest k o t) := by
  subst ht hu
  refine congrArg Host.Outcome.next ((if_pos hup).trans ?_)
  simp only [hreq]

theorem exec_selvKeepaliveSend : exec .selvKeepaliveSend s =
    .next (if keepDue u then sendKeepalive (setSelv { u.selv with keepAt := edges u 14 } u) else u) := by
  subst hu
  exact congrArg Host.Outcome.next (if_pos hup)

theorem exec_selvPairTimeout {e : Nat} (hheard : u.selv.heard = some e) (hlong : e + 96 ≤ edges u 14) :
    exec .selvPairTimeout s = .next (pairUpdate (setSelv { u.selv with heard := none } u)) := by
  subst hu
  refine congrArg Host.Outcome.next ((if_pos hup).trans ?_)
  simp only [hheard]
  exact if_pos hlong

end

/-- Settles O47, command by command: each comes down to its operation's case. -/
theorem selvedgeProceeds : Obligations.SelvedgeProceeds := by
  unfold Obligations.SelvedgeProceeds
  refine ⟨fun n s u hup hu => ⟨fun hdown => ?laneUp, fun hup' => ?laneDown⟩,
    fun i s u h hoff hlock hsw => ?enable, fun i s u h hon hlock hsw => ?disable,
    fun i s u c h hon hlock hc hrole hprole hcopy => ?switch, fun i on s u h hlock hsw => ?cdup,
    fun s u hup hu => ⟨fun hnot => by rw [exec_selvKeepaliveSend hup hu, hnot]; rfl,
      fun hdue => by rw [exec_selvKeepaliveSend hup hu, hdue]; rfl⟩,
    fun k s u hup hu hen => ?keepalive, fun e s u hup hu hheard hlong => exec_selvPairTimeout hup hu hheard hlong,
    fun rolei s u t hup hu ht hen hrole hpair halone => ?alone, fun rolei p l s u t hup hu hbounds ht hen => ?beat,
    fun s => ⟨fun hgrant => if_pos hgrant, standbyBoundary_beat, standbyBoundary_miss,
      fun hgrant hbeat hmiss hfence hrolei => ?fenced, fun hgrant hbeat hmiss hfree => ?taken, rfl⟩,
    fun s u t hup hu htaking ht => ⟨fun hnone => inSelv_answers hup hu (takeoverDone_no_copy htaking ht hnone),
      fun h hgood => inSelv_answers hup hu (takeoverDone_copy htaking ht hgood)⟩,
    fun h s u t hup hu hen ht => ?heartbeat, fun k o l s u t hup hu hreq ht hrole => ?request,
    fun r s u t hup hu hr ht => ?sent, fun k o s => copyStart_eq rfl rfl rfl,
    fun r data good s u t hup hu hrole hen ht => ⟨fun hbad => ?copyBad, fun hgood hnone hdue => ?copyGood⟩,
    fun v w s u t hup hu hon hw ht => ⟨fun x hone hnear => ⟨fun hyes => ?agree, fun hno => ?disagree⟩,
      fun hnone => inSelv_answers hup hu (partnerVote_of_none hon hw ht hnone)⟩,
    fun x s u hup hu hold => inSelv_answers hup hu (by simp only [voteExpiry, hold]; rfl)⟩
  case laneUp =>
    subst hu
    exact congrArg Host.Outcome.next ((if_pos hup).trans (if_neg (ne_true_of_eq_false hdown)))
  case laneDown =>
    subst hu
    exact congrArg Host.Outcome.next ((if_pos hup).trans (if_pos hup'))
  case enable =>
    obtain ⟨b31, b2, b1, b0⟩ := wget_or_one (rd u SELV_CTL)
    exact access_answers h (selvCtlWrite_enable (b31.trans hlock) (by rw [b1]; rfl) hoff b0 (b2.trans hsw))
  case disable =>
    obtain ⟨b31, b2, b1, b0⟩ := wget_and_not_one (rd u SELV_CTL)
    exact access_answers h (selvCtlWrite_disable (b31.trans hlock) (by rw [b1]; rfl) hon b0 (b2.trans hsw))
  case switch =>
    obtain ⟨b31, b2, b1, b0⟩ := wget_or_four (rd u SELV_CTL)
    have hwrite := selvCtlWrite_of_same_en (b31.trans hlock) (hc.trans (by rw [b1]; rfl)) (b0.trans (wget_of_flag u SELV_CTL 0))
    exact access_answers h (hwrite.trans (if_pos ⟨b2, hrole, hprole, hcopy⟩))
  case cdup =>
    have hbit : ∀ n, n < 32 → n < 1 ∨ 1 < n → wget (wset (rd u SELV_CTL) 1 1 on.toNat) n n = wget (rd u SELV_CTL) n n := fun n hn hne =>
      wget_wset_ne _ 1 1 _ n n (le_refl 1) (by decide) hn hne
    have hcdup : wget (wset (rd u SELV_CTL) 1 1 on.toNat) 1 1 = on.toNat := wget_wset_of_lt _ 1 1 _ (le_refl 1) (by decide) on.toNat_lt
    have hwrite := selvCtlWrite_of_same_en (c := cdupUpdate (fset u SELV_CTL_CDUP on.toNat)) ((hbit 31 (by decide) (by decide)).trans hlock)
      (by rw [hcdup]) ((hbit 0 (by decide) (by decide)).trans (wget_of_flag u SELV_CTL 0))
    refine access_answers h (hwrite.trans (if_neg fun hsel => ?_))
    rw [hbit 2 (by decide) (by decide), hsw] at hsel
    exact absurd hsel.1 (by decide)
  case keepalive =>
    subst hu
    exact congrArg Host.Outcome.next ((if_pos hup).trans (if_pos hen))
  case alone =>
    rw [exec_selvLoneStart hup hu ht hen hrole hpair halone]
    exact ⟨fun hfree => by rw [hfree]; rfl, fun hfence hin => by rw [hfence, hin]; rfl, fun hfence hin => by rw [hfence, hin]; rfl⟩
  case beat =>
    rw [exec_selvHeartbeatSend hup hu hbounds ht]
    refine ⟨fun hrole hpair => by rw [boundaryAt_none p hen hrole hpair]; rfl, fun hrole => ?_, fun hrole => ?_⟩
    · rw [boundaryAt_active p hen hrole, sendBeat, hrole]; rfl
    · rw [boundaryAt_standby p hen hrole, sendBeat, hrole]
  case fenced =>
    rw [standbyBoundary_third_miss hgrant hbeat hmiss, hfence, hrolei]
    rfl
  case taken =>
    rw [standbyBoundary_third_miss hgrant hbeat hmiss]
    refine if_neg fun h => ?_
    obtain ⟨hfence, hrolei⟩ := Bool.and_eq_true_iff.mp h
    exact hfree.elim (absurd hfence <| ne_true_of_eq_false ·) (absurd hrolei <| ne_true_of_eq_false ·)
  case heartbeat =>
    rw [exec_selvHeartbeatReceived hup hu hen]
    refine ⟨fun hrole => by rw [heartbeatIn_of_passive ht hrole], fun hrole hown => ?_, fun hrole hown hgreater hkeep => ?_,
      fun hrole hown hgreater hgive => ?_, fun hrole hown hless hne => ?_⟩
    · rw [heartbeatIn_standby ht hrole rfl hown]; rfl
    · rw [heartbeatIn_greater ht hrole rfl hown hgreater, hkeep]; rfl
    · rw [heartbeatIn_greater ht hrole rfl hown hgreater, hgive]; rfl
    · rw [heartbeatIn_lesser ht hrole rfl hown hless hne]
  case request =>
    rw [exec_stateCopyRequest hup hu hreq ht]
    refine ⟨fun hfree => by rw [copyRequest_of_free k o hrole hfree], fun hbusy hnone => ?_, fun hbusy hsome => ?_⟩
    · rw [copyRequest_of_busy k o hrole hbusy, hnone]; rfl
    · rw [copyRequest_of_busy k o hrole hbusy, Option.isSome_iff_ne_none.mpr hsome]; rfl
  case sent =>
    exact ⟨fun hlast => inSelv_answers hup hu (copySent_of_last hr rfl (ht _ rfl) hlast),
      fun k o hmore => inSelv_answers hup hu (copySent_of_more hr rfl (ht _ rfl) hmore)⟩
  case copyBad =>
    subst hbad
    exact inSelv_answers hup hu (copyReceived_bad data hrole hen rfl ht)
  case copyGood =>
    subst hgood
    exact inSelv_answers hup hu (copyReceived_first data hrole hen rfl ht hnone hdue)
  case agree => exact inSelv_answers hup hu ((partnerVote_of_one hon hw ht hone hnear).trans (if_pos hyes))
  case disagree => exact inSelv_answers hup hu ((partnerVote_of_one hon hw ht hone hnear).trans (if_neg (ne_true_of_eq_false hno)))

end Sys2Proof.Machine
end

section
/-! PROOFS. The Reeve: supply, triggers, commands, configuration, sources and markers (19_reeve_degraded_operation, R502 to R512; that ENGAGE is
a trigger in IDLE and ENGAGED, and ACKH acts in every state, is assumption log 107). -/

namespace Sys2Proof.Machine

theorem inReeve_answers {s u r : State} {f : State → State} (hup : rvUp s = true) (hu : u = stir 16 s) (hr : f u = r) :
    inReeve f s = .next r := by
  rw [← hr, hu]; exact congrArg _ (if_pos hup)

/-! ### Supply and triggers (R502 to R504) -/

theorem lockReset_of_none {s : State} (h : s.sys.lockWait = false) : lockReset s = s := if_neg (ne_true_of_eq_false h)

@[simp] theorem stir_lockWait (i : Nat) (s : State) : (stir i s).sys.lockWait = s.sys.lockWait := by unfold stir; split <;> rfl

theorem rvCauseSet_lockWait (b : Nat) (s : State) : (rvCauseSet b s).sys.lockWait = s.sys.lockWait := by
  unfold rvCauseSet
  dsimp only
  split <;> rfl

/-- A trigger is taken; the lockstep reset follows one of lockstep, if it waits. -/
theorem exec_reeveTrigger {c : RvCause} {l : List RvCause} {s : State} (htrig : s.rvTrig = c :: l) (hup : rvUp s = true) :
    exec .reeveTrigger s = .next (onlyIf (c == .lockstep) lockReset (rvTrigger c (stir 16 { s with rvTrig := l }))) := by
  refine congrArg Host.Outcome.next ?_
  simp only [htrig]
  exact if_pos hup

theorem exec_reeveTrigger_of_no_reset {c : RvCause} {l : List RvCause} {s r : State} (htrig : s.rvTrig = c :: l) (hup : rvUp s = true)
    (hc : c ≠ .lockstep ∨ s.sys.lockWait = false) (hr : rvTrigger c (stir 16 { s with rvTrig := l }) = r)
    (hwait : r.sys.lockWait = s.sys.lockWait) : exec .reeveTrigger s = .next r := by
  rw [exec_reeveTrigger htrig hup, hr]
  rcases hc with hc | hnone
  · rw [beq_eq_false_iff_ne.mpr hc, onlyIf_false]
  · exact congrArg Host.Outcome.next (ite_eq_right_iff.mpr fun _ => lockReset_of_none (hwait.trans hnone))

section
variable {c : RvCause} {s : State}

theorem rvTrigger_unarmed (h : rvState (rvCauseSet c.bit s) = 0) : rvTrigger c s = setF (rvCauseSet c.bit s) RV_EVT_UNARMED := by
  simp only [rvTrigger, h]

theorem rvTrigger_armed (h : rvState (rvCauseSet c.bit s) = 1) : rvTrigger c s = rvEngage (rvCauseSet c.bit s) := by
  simp only [rvTrigger, h]

theorem rvTrigger_engaged {t : State} (ht : t = rvCauseSet c.bit s) (h : rvState t = 2) :
    rvTrigger c s = setRv { t.rv with marks := 0 } (clrF t RV_STAT_MARKSEEN) := by
  subst ht
  simp only [rvTrigger, h]

end

/-! ### RV_CMD and the configuration (R502, R505, R510) -/

/-- A word of RV_CMD with its KEY performs its operation. -/
theorem rvCmdRow_answers {i : Initiator} {op : Nat} {s u r : State} (hop : op < 8) (h : Arrives i RV_CMD s u) (hr : rvCommand op u = r) :
    rvCmdRow i op s = .next r := by
  have hkey : wget (BitVec.ofNat 32 (op * 65536 + 0x5E7A)) 15 0 = 0x5E7A := by
    simp only [wget, BitVec.toNat_ofNat]; omega
  have hfield : wget (BitVec.ofNat 32 (op * 65536 + 0x5E7A)) 18 16 = op := by
    simp only [wget, BitVec.toNat_ofNat]; omega
  refine access_answers h ((if_pos hkey).trans ?_)
  rw [hfield, hr]

/-- RESUME leaves ENGAGED once the marker has been seen, and is refused otherwise. -/
theorem rvCommand_resume (u : State) : rvCommand 4 u = if rvState u = 2 ∧ flag u RV_STAT_MARKSEEN = true then
    rvShow (setF (clrF (fset u RV_STAT_STATE 1) RV_STAT_KH) RV_EVT_RESUMED) else rvRefuse u := by
  by_cases hst : rvState u = 2
  · simp only [rvCommand, hst, true_and]
  · rw [if_neg fun h => hst h.1]
    unfold rvCommand
    split <;> simp_all

section
variable {a : Nat} {v : Word} {u : State}

theorem rvConfigWrite_idle (h : rvState u = 0) : rvConfigWrite a v u = rvShow (codeWrite a v u) := by simp only [rvConfigWrite, h]

theorem rvConfigWrite_armed (h : rvState u = 1) : rvConfigWrite a v u =
    setF (setRv { u.rv with staged := tabPut u.rv.staged a (rd (codeWrite a v u) a) } u) RV_STAT_STAGED := by
  simp only [rvConfigWrite, h]

theorem rvConfigWrite_engaged (h : rvState u = 2) : rvConfigWrite a v u = rvRefuse u := by simp only [rvConfigWrite, h]

end

/-! ### Sources (R506 to R510) -/

section
variable {n : Nat} {code lo hi hys : Int} {need : Nat} {x : RvSrc} {s : State} (hx : x = rvSrc s n)
  (hlo : lo = rvLimit s (RV_ALO n)) (hhi : hi = rvLimit s (RV_AHI n)) (hneed : need = max 1 (fget s (RV_ACFG_DLY n)))
include hx hlo hhi hneed

/-- A source out of alarm counts the conversions outside its limits. -/
theorem rvCompare_outside (hquiet : getBit s RV_ALM_SRC n = false) (hout : hi < code ∨ code < lo) : rvCompare n code s =
    if x.cnt + 1 ≥ need then rvAlarmOn n (setRvSrc n { x with cnt := 0 } s) else setRvSrc n { x with cnt := x.cnt + 1 } s := by
  have hcount : (decide (hi < code) || decide (code < lo)) = true := by simpa using hout
  simp only [rvCompare, ← hlo, ← hhi, ← hx, ← hneed, hquiet, hcount, Bool.false_eq_true, if_false, if_true]

/-- A source in alarm counts the conversions well inside its limits. -/
theorem rvCompare_inside (hys_eq : hys = wget (rd s (RV_AHYS n)) 23 0) (halarm : getBit s RV_ALM_SRC n = true)
    (hin : lo + hys ≤ code ∧ code ≤ hi - hys) :
    rvCompare n code s =
      if x.cnt + 1 ≥ need then rvAlarmOff n (setRvSrc n { x with cnt := 0 } s) else setRvSrc n { x with cnt := x.cnt + 1 } s := by
  have hcount : (decide (lo + hys ≤ code) && decide (code ≤ hi - hys)) = true := by simpa using hin
  simp only [rvCompare, ← hlo, ← hhi, ← hx, ← hneed, ← hys_eq, halarm, hcount, if_true]

end

section
variable {n : Nat} {s t : State} (hfresh : getBit s RV_FLT_SRC n = false)
  (ht : t = setF (setBit (setRvSrc n { rvSrc s n with held := edges s 16 - (rvSrc s n).since } s) RV_FLT_SRC n) RV_EVT_FLT)
include hfresh ht

theorem rvFaultOn_eq : rvFaultOn n s = rvShow (onlyIf (wget (rvCfg t n) 8 8 == 1) (rvHorn n) t) := by
  subst ht
  exact if_neg (ne_true_of_eq_false hfresh)

end

/-- An input that has stood at its level long enough enters alarm or leaves it. -/
theorem rvInputDelay_of_stood {m n : Nat} {l : Bool} {u : State} (hn : n = 16 + m) (hlevel : (rvSrc u n).level = some l)
    (hvalid : rvValid u n = true) (hon : 0 < rvState u) (halarm : wget (rvCfg u n) 2 2 = 0) (hok : getBit u RV_FLT_SRC n = false)
    (hstood : (rvSrc u n).since + 32 * wget (rvCfg u n) 23 16 ≤ edges u 16) : rvInputDelay m u =
      if l = (wget (rvCfg u n) 0 0 == 1) then (if getBit u RV_ALM_SRC n then u else rvAlarmOn n u)
      else (if getBit u RV_ALM_SRC n then rvAlarmOff n u else u) := by
  subst hn
  have hstate : rvState u ≥ 1 := hon
  simp only [rvInputDelay, hlevel]
  refine if_pos ?_
  simp [hvalid, hstate, halarm, hok, hstood]

/-! ### What the commands perform, from the state that the Reeve finds -/

section
variable {s u t : State} (hup : rvUp s = true) (hu : u = stir 16 s)
include hup hu

theorem exec_reeveChannelCode {c : RvCode} {l : List RvCode} (hcode : u.afe.rvOut = c :: l) (ht : t = { u with afe := { u.afe with rvOut := l } }) :
    exec .reeveChannelCode s = .next (if rvState t ≥ 1 then
      forN 16 (fun n s => if rvValid s n && rvOf s n == c.chan then rvCode n c.code c.range s else s) t else t) := by
  subst ht hu
  refine congrArg Host.Outcome.next ((if_pos hup).trans ?_)
  simp only [hcode]

theorem exec_reeveInputWord {w : RvInput} {l : List RvInput} (hword : u.dio.rvOut = w :: l) (ht : t = { u with dio := { u.dio with rvOut := l } }) :
    exec .reeveInputWord s = .next (if rvState t ≥ 1 && rvValid t (16 + w.des) then rvInput w t else t) := by
  subst ht hu
  refine congrArg Host.Outcome.next ((if_pos hup).trans ?_)
  simp only [hword]

theorem exec_reeveMarker (hmarks : u.rv.marks ≠ 0) : exec .reeveMarker s =
    .next (onlyIf (rvState u == 2) (setF · RV_STAT_MARKSEEN) (setRv { u.rv with marks := u.rv.marks - 1 } u)) := by
  subst hu
  exact congrArg Host.Outcome.next ((if_pos hup).trans (if_neg hmarks))

end

/-- Settles O48, command by command: each comes down to its operation's case. -/
theorem reeveProceeds : Obligations.ReeveProceeds := by
  unfold Obligations.ReeveProceeds
  refine ⟨fun s hoff => congrArg Host.Outcome.next (if_neg (ne_true_of_eq_false hoff)),
    fun s hup => ⟨fun _ hnone => ?loss, fun hwait => ?lossLock⟩,
    fun c l s t htrig hup ht hc => ⟨fun hst => ?unarmed, fun hst hkeep => ?armed, fun hst => ?again⟩,
    fun b s => ⟨fun hvalid => if_pos hvalid, fun hfirst => if_neg (ne_true_of_eq_false hfirst), rfl⟩,
    fun i s u h => ⟨fun hst => ?idle, fun hst => ?armedCmd, fun hst => ?engaged⟩, fun i s u h => ?commands,
    fun i reg v s u h => ⟨fun hst => access_answers h (rvConfigWrite_idle hst), fun hst => access_answers h (rvConfigWrite_armed hst),
      fun hst => access_answers h (rvConfigWrite_engaged hst)⟩,
    fun c l s u t hup hu hcode ht => ?code, fun n code s => ⟨fun hquiet hout => ?outside, fun halarm hlow hhigh => ?inside⟩,
    fun w l s u t hup hu hword ht => ?input, fun m l s u hup hu hlevel hvalid hon hplain hok hstood => ?delay,
    fun n m s u hup hu hon => ⟨fun hvalid hold => ?stale, fun hvalid hplain hold => ?inputStale⟩,
    fun n s => ⟨fun hold => if_pos hold, fun hfresh hflt => ?fault, fun hfresh hflt => ?faultAlarm⟩, fun s u hup hu hmarks => ?marker⟩
  case loss => exact congrArg Host.Outcome.next ((if_pos hup).trans (lockReset_of_none hnone))
  case lossLock => exact congrArg Host.Outcome.next ((if_pos hup).trans (if_pos hwait))
  case unarmed =>
    subst ht
    exact exec_reeveTrigger_of_no_reset htrig hup hc (rvTrigger_unarmed hst) ((rvCauseSet_lockWait ..).trans (stir_lockWait ..))
  case armed =>
    subst ht
    exact exec_reeveTrigger_of_no_reset htrig hup hc (rvTrigger_armed hst) hkeep
  case again =>
    refine exec_reeveTrigger_of_no_reset htrig hup hc (rvTrigger_engaged ht hst) ?_
    rw [ht]
    exact (rvCauseSet_lockWait ..).trans (stir_lockWait ..)
  case idle =>
    exact ⟨rvCmdRow_answers (by decide) h (by simp only [rvCommand, hst]), rvCmdRow_answers (by decide) h (by simp only [rvCommand, hst]; rfl),
      rvCmdRow_answers (by decide) h (by simp only [rvCommand, hst])⟩
  case armedCmd =>
    exact ⟨rvCmdRow_answers (by decide) h (by simp only [rvCommand, hst]; rfl), rvCmdRow_answers (by decide) h (by simp only [rvCommand, hst]),
      rvCmdRow_answers (by decide) h (by simp only [rvCommand, hst])⟩
  case engaged =>
    exact ⟨rvCmdRow_answers (by decide) h (by simp only [rvCommand, hst]; rfl), rvCmdRow_answers (by decide) h (by simp only [rvCommand, hst]; rfl),
      rvCmdRow_answers (by decide) h (by simp only [rvCommand, hst]; rfl)⟩
  case commands =>
    refine ⟨rvCmdRow_answers (by decide) h rfl, fun hst => rvCmdRow_answers (by decide) h (rvTrigger_unarmed (c := .host) hst),
      fun hst => rvCmdRow_answers (by decide) h (rvTrigger_armed (c := .host) hst),
      fun hst => rvCmdRow_answers (by decide) h (rvTrigger_engaged (c := .host) rfl hst),
      fun hst hseen => rvCmdRow_answers (by decide) h ((rvCommand_resume u).trans (if_pos ⟨hst, hseen⟩)),
      fun hnot => rvCmdRow_answers (by decide) h ((rvCommand_resume u).trans (if_neg fun hyes => ?_))⟩
    obtain ⟨hst, hseen⟩ := hyes
    rcases hnot with hlow | hunseen
    · omega
    · exact absurd hseen (ne_true_of_eq_false hunseen)
  case code =>
    rw [exec_reeveChannelCode hup hu hcode ht]
    exact ⟨fun hst => by rw [if_neg (by omega)], fun hst => by rw [if_pos (by omega)]⟩
  case outside =>
    have heq := rvCompare_outside rfl rfl rfl rfl hquiet hout
    exact ⟨fun hfew => heq.trans (if_neg (by omega)), fun henough => heq.trans (if_pos henough)⟩
  case inside =>
    have heq := rvCompare_inside rfl rfl rfl rfl rfl halarm ⟨hlow, hhigh⟩
    exact ⟨fun hfew => heq.trans (if_neg (by omega)), fun henough => heq.trans (if_pos henough)⟩
  case input =>
    rw [exec_reeveInputWord hup hu hword ht]
    refine ⟨fun hst => by simp [hst], fun hst hvalid => ?_⟩
    have hon : rvState t ≥ 1 := hst
    simp [hon, hvalid]
  case delay =>
    have heq := rvInputDelay_of_stood rfl hlevel hvalid hon hplain hok hstood
    exact ⟨fun hact hquiet => inReeve_answers hup hu (by rw [heq, if_pos hact, hquiet]; rfl),
      fun hpass halarm => inReeve_answers hup hu (by rw [heq, if_neg hpass, halarm]; rfl)⟩
  case stale =>
    have hstate : rvState u ≥ 1 := hon
    exact inReeve_answers hup hu (if_pos (by simpa [hvalid, hstate] using hold))
  case inputStale =>
    have hstate : rvState u ≥ 1 := hon
    exact inReeve_answers hup hu (if_pos (by simpa [hvalid, hstate, hplain] using hold))
  case fault => rw [rvFaultOn_eq hfresh rfl, hflt]; rfl
  case faultAlarm => rw [rvFaultOn_eq hfresh rfl, hflt]; rfl
  case marker =>
    rw [exec_reeveMarker hup hu hmarks]
    exact ⟨fun hst => by rw [hst]; rfl, fun hst => by rw [beq_eq_false_iff_ne.mpr hst]; rfl⟩

end Sys2Proof.Machine
end

section
/-! PROOFS. PERF: selections, wraps, freeze, snapshot and resume, values, and bandwidth windows (20_performance_monitoring, R515 to R517, R519 to
R522; that UNFREEZE ends at its edge without DONE is assumption log 131, and that a refused selection stores its other fields is assumption
log 132). -/

namespace Sys2Proof.Machine

/-! ### Selections and wraps (R515, R516) -/

section
variable {k : Nat} {v : Word} {u : State} (hlock : flag u PERF_CTL_LOCK = false)
  (hfree : flag u (PERF_SEL_EN k) = true → flag u PERF_STAT_FROZEN = true)
include hlock hfree

/-- A selection that is not locked stores its fields; one that is not allowed is disabled. -/
theorem perfSelWrite_of_free : perfSelWrite k v u =
    if wget v 31 31 = 1 ∧ selOk u k v = false then setF (clrF (wr u (PERF_SEL k) (v &&& 0xE01F0FFF)) (PERF_SEL_EN k)) PERF_EVT_CFGERR
    else perfRebase k (wr u (PERF_SEL k) (v &&& 0xE01F0FFF)) := by
  refine if_neg ?_
  cases hen : flag u (PERF_SEL_EN k) with
  | false => simp [hlock]
  | true => simp [hlock, hfree hen]

end

theorem takeSample_of_none {k : Nat} {pc : Word} {s : State} (h : flag s (PERF_SEL_SAMPLE k) = false) : takeSample k pc s = s := by
  simp only [takeSample, h, Bool.not_false, if_true]

section
variable {f k : Nat} {pc : Word} {s : State} (hsample : flag s (PERF_SEL_SAMPLE k) = false)
include hsample

/-- A counter without a chained successor sets its OVF when it wraps. -/
theorem perfWrap_unchained (h : ¬ (flag s (PERF_SEL_CHAIN (k + 1)) = true ∧ flag s (PERF_SEL_EN (k + 1)) = true ∧ k < 63)) :
    perfWrap (f + 1) k pc s = setF (setBit s (if k < 32 then PERF_OVFLO_OVF else PERF_OVFHI_OVF) (k % 32)) PERF_EVT_OVF := by
  rw [perfWrap, takeSample_of_none hsample]
  refine if_neg fun hchain => h ?_
  simp only [Bool.and_eq_true, decide_eq_true_eq] at hchain
  obtain ⟨⟨hk, hc⟩, he⟩ := hchain
  exact ⟨hc, he, hk⟩

/-- A chained successor is incremented, and does not wrap unless it comes to 0. -/
theorem perfWrap_chained (h : flag s (PERF_SEL_CHAIN (k + 1)) = true ∧ flag s (PERF_SEL_EN (k + 1)) = true ∧ k < 63)
    (hne : unitAt s (k + 1) + 1 ≠ 0) : perfWrap (f + 1) k pc s = setUnit (k + 1) (unitAt s (k + 1) + 1) s := by
  obtain ⟨hc, he, hk⟩ := h
  rw [perfWrap, takeSample_of_none hsample]
  refine (if_pos ?_).trans (if_neg hne)
  simp only [hc, he, hk, decide_true, Bool.and_self]

end

theorem exec_perfCounterWrap {k : Fin 64} (pc : Word) {s t : State} (hcount : unitCounts s k.val = true) (hwrap : mayWrap s k.val = true)
    (hchain : flag s (PERF_SEL_CHAIN k.val) = false) (hup : islUp s 15 = true)
    (ht : t = if (ownCount s k.val).isSome = true ∧ perfEvt s k.val ≠ 0x21 then unitCount k.val 0 s else s) :
    exec (.perfCounterWrap k pc) s = .next (perfWrap 64 k.val pc t) := by
  have hguard : (unitCounts s k.val && mayWrap s k.val && !flag s (PERF_SEL_CHAIN k.val) && islUp s 15) = true := by
    simp [hcount, hwrap, hchain, hup]
  refine (if_pos hguard).trans (congrArg (fun x => Host.Outcome.next (perfWrap 64 k.val pc x)) ?_)
  rw [ht]
  simp only [Bool.and_eq_true, bne_iff_ne]

/-! ### Freeze, snapshot and resume (R519, R520) -/

/-- PERF with a command in progress. -/
def perfSent (c : PerfCmd) (u : State) : State :=
  setF (setPerf { u.perf with cmd := some c, edge := edges u 15 + 2, passed := false } u) PERF_STAT_BUSY

/-- A resume value goes to its unit. -/
def perfResumed (e : Nat × Option Word) (s : State) : State :=
  match e.2 with
  | some v => setUnit e.1 v s
  | none => s

section
variable {u : State} (hfree : flag u PERF_STAT_BUSY = false)
include hfree

theorem perfCmd_of_free {c : PerfCmd} (hc : c ≠ .unfreeze) : perfCmd c u = perfSent c u :=
  (if_neg (ne_true_of_eq_false hfree)).trans (if_neg hc)

theorem perfCmd_unfreeze : perfCmd .unfreeze u =
    setPerf { (forL u.perf.resume perfResumed (perfSent .unfreeze u)).perf with resume := [] } (perfSent .unfreeze u) :=
  (if_neg (ne_true_of_eq_false hfree)).trans (if_pos rfl)

end

/-- PERF past the common edge, with its units frozen or not. -/
def passedFrozen (t : State) (b : Bool) : Host.Outcome State Fault Refusal := .next (setPerf { t.perf with passed := true, frozen := b } t)

/-- What the common edge of a command that is not UNFREEZE does: it captures unless the units stand frozen. -/
theorem exec_perfCommonEdge {l : List Word} {s u : State} {c : PerfCmd} (hup : perfUp s = true) (hopen : s.perf.passed = false)
    (hedge : s.perf.edge ≤ edges s 15) (hu : u = stir 15 s) (hcmd : s.perf.cmd = some c) :
    (c = .unfreeze → exec (.perfCommonEdge l) s =
      .next (forN 64 perfRebase (clrF (clrF (setPerf { u.perf with cmd := none, frozen := false } u) PERF_STAT_BUSY) PERF_STAT_FROZEN))) ∧
    (c ≠ .unfreeze → ∀ t, t = onlyIf (!u.perf.frozen) (fun s => unitsCapture (unitsCount l s)) u →
      exec (.perfCommonEdge l) s = passedFrozen t (t.perf.frozen || decide (c = .freeze))) := by
  have hguard : (perfUp s && !s.perf.passed && decide (edges s 15 ≥ s.perf.edge)) = true := by simp [hup, hopen, hedge]
  constructor
  · intro hc
    subst hu hc
    refine (if_pos hguard).trans ?_
    simp only [hcmd]
  · intro hc t ht
    subst hu ht
    refine (if_pos hguard).trans ?_
    cases c with
    | unfreeze => exact absurd rfl hc
    | freeze | snap => simp only [hcmd, passedFrozen]

/-- The gathered values stand in their registers and the command ends. -/
theorem exec_perfGatherComplete {s v : State} {c : PerfCmd} (hup : perfUp s = true) (hpassed : s.perf.passed = true) (hcmd : s.perf.cmd = some c)
    (hv : v = forN 64 (fun k s => if flag s (PERF_SEL_EN k) then wr s (PERF_VAL k) (tabGet (fun _ => 0) s.perf.snap k) else s) (stir 15 s)) :
    exec .perfGatherComplete s = .next (setF (setF (clrF (setPerf { v.perf with cmd := none, passed := false } v) PERF_STAT_BUSY)
      (if c = .freeze then PERF_STAT_FROZEN else PERF_STAT_SNAPV)) PERF_EVT_DONE) := by
  have hguard : (perfUp s && s.perf.passed) = true := by rw [hup, hpassed]; rfl
  subst hv
  refine (if_pos hguard).trans ?_
  simp only [hcmd]
  rfl

/-! ### Bandwidth windows (R522) -/

/-- A bandwidth monitor's counts are stored, those of one that does not count as 0. -/
theorem exec_bandwidthWindowEnd {words stalls : List Word} {s t : State} (hup : perfUp s = true)
    (hover : s.perf.bwFrom + max 1 (fget s PERF_BWWIN_WIN) ≤ edges s 15)
    (ht : t = forN 8 (fun p u =>
      let live := fget s PERF_BWWIN_WIN ≠ 0 ∧ (sluiceLevel u.sys.variantM (fget u (PERF_BWSEL_SRC p)) (fget u (PERF_BWSEL_DST p))).isSome = true
      wr (wr u (PERF_BWWORDS p) (if live then words.getD p 0 else 0)) (PERF_BWSTALL p) (if live then stalls.getD p 0 else 0)) (stir 15 s)) :
    exec (.bandwidthWindowEnd words stalls) s = .next (setF (setPerf { t.perf with bwFrom := edges t 15 } t) PERF_EVT_BWDONE) := by
  have hguard : (perfUp s && decide (edges s 15 ≥ s.perf.bwFrom + max 1 (fget s PERF_BWWIN_WIN))) = true := by simpa [hup] using hover
  refine (if_pos hguard).trans ?_
  rw [ht]
  simp only [Bool.and_eq_true, decide_eq_true_eq]

/-- Settles O49, command by command: each comes down to its operation's case. -/
theorem performanceMonitorProceeds : Obligations.PerformanceMonitorProceeds := by
  unfold Obligations.PerformanceMonitorProceeds
  refine ⟨fun i k v s u h hlock hfree => ⟨fun hok => ?stored, fun hen hbad => ?refused⟩,
    fun k pc s0 s hcount hwrap hchain hup hsample hs => ?wrap, fun i s u h => ⟨fun hbusy c hc => ?lost, fun hfree => ?sent⟩,
    fun l s u hup hopen hedge hu => ⟨fun hcmd => (exec_perfCommonEdge hup hopen hedge hu hcmd).1 rfl, fun hcmd hrun => ?snap,
      fun hcmd hrun => ?freeze, fun hsome hnot hfrozen => ?frozen⟩,
    fun s t hup hpassed ht => ⟨fun hcmd => ?gatherFreeze, fun hcmd => ?gatherSnap⟩,
    fun i k v s u h hfrozen => access_answers h (if_pos hfrozen), fun words stalls s t hup hover ht => exec_bandwidthWindowEnd hup hover ht⟩
  case stored =>
    refine access_answers h ((perfSelWrite_of_free hlock hfree).trans (if_neg fun hbad => ?_))
    obtain ⟨hen, hno⟩ := hbad
    exact absurd (hok hen) (ne_true_of_eq_false hno)
  case refused => exact access_answers h ((perfSelWrite_of_free hlock hfree).trans (if_pos ⟨hen, hbad⟩))
  case wrap =>
    have hregs : s.regs = s0.regs := by rw [hs]; split <;> rfl
    have hkeep : flag s (PERF_SEL_SAMPLE k.val) = false := (flag_of_regs _ _ _ hregs).trans hsample
    rw [exec_perfCounterWrap pc hcount hwrap hchain hup hs]
    exact ⟨fun hnone => by rw [perfWrap_unchained hkeep hnone], fun hsome hne => by rw [perfWrap_chained hkeep hsome hne]; rfl⟩
  case lost =>
    have hlost : ∀ c, perfCmd c u = setF u PERF_EVT_CMDLOST := fun c => if_pos hbusy
    simp only [List.mem_cons, List.not_mem_nil, or_false] at hc
    rcases hc with rfl | rfl | rfl
    · exact access_answers h (hlost .freeze)
    · exact access_answers h (hlost .snap)
    · exact access_answers h (hlost .unfreeze)
  case sent =>
    refine ⟨access_answers h (perfCmd_of_free hfree (by decide)), access_answers h (perfCmd_of_free hfree (by decide)), fun hnone => ?_,
      fun k v hone => access_answers h ((perfCmd_unfreeze hfree).trans (by rw [hone]; rfl))⟩
    refine access_answers h ((perfCmd_unfreeze hfree).trans ?_)
    have hkept : (perfSent .unfreeze u).perf.resume = [] := hnone
    rw [hnone]
    change setPerf { (perfSent .unfreeze u).perf with resume := [] } (perfSent .unfreeze u) = perfSent .unfreeze u
    rw [← hkept]
    rfl
  case snap =>
    rw [(exec_perfCommonEdge hup hopen hedge hu hcmd).2 (by decide) (unitsCapture (unitsCount l u)) (by rw [hrun]; rfl)]
    exact congrArg (passedFrozen (unitsCapture (unitsCount l u))) (Bool.or_false _)
  case freeze =>
    rw [(exec_perfCommonEdge hup hopen hedge hu hcmd).2 (by decide) (unitsCapture (unitsCount l u)) (by rw [hrun]; rfl)]
    exact congrArg (passedFrozen (unitsCapture (unitsCount l u))) (Bool.or_true _)
  case frozen =>
    obtain ⟨c, hcmd⟩ := Option.ne_none_iff_exists'.mp hsome
    have hc : c ≠ .unfreeze := fun h => hnot (h ▸ hcmd)
    rw [(exec_perfCommonEdge (l := l) hup hopen hedge hu hcmd).2 hc u (by rw [hfrozen]; rfl)]
    exact congrArg (passedFrozen u) (show (u.perf.frozen || decide (c = .freeze)) = u.perf.frozen by rw [hfrozen]; rfl)
  case gatherFreeze =>
    rw [exec_perfGatherComplete hup hpassed hcmd rfl, ht]
    rfl
  case gatherSnap =>
    rw [exec_perfGatherComplete hup hpassed hcmd rfl, ht]
    rfl

end Sys2Proof.Machine
end

section
/-! PROOFS. Lifecycle commands and the customer key store (21_lifecycle_and_custody, R527, R530, R531, R536; that KEYREVOKE may name a slot that is
not programmed is assumption log 144). -/

namespace Sys2Proof.Machine

/-! ### Acceptance (R530, R531) -/

/-- The word of a lifecycle command spells its KEY, OP and ARG. -/
theorem wget_life_word {op a : Nat} (hop : op < 16) (ha : a < 256) : wget (w32 (0xC7D20000 + a * 256 + op)) 31 16 = 0xC7D2 ∧
    wget (w32 (0xC7D20000 + a * 256 + op)) 3 0 = op ∧ wget (w32 (0xC7D20000 + a * 256 + op)) 15 8 = a := by
  simp only [wget, w32, BitVec.toNat_ofNat]
  omega

/-- A host write of a lifecycle command with its KEY gives the command to LIFE. -/
theorem lifeRow_answers {op : Nat} {a : BitVec 8} {s u r : State} (hop : op < 16) (h : Arrives .host LIFE_CMD s u)
    (hr : lifeCommand op a.toNat u = r) : lifeRow .host op a s = .next r := by
  obtain ⟨hkey, hfield, harg⟩ := wget_life_word hop a.isLt
  refine access_answers h ((if_pos ⟨rfl, hkey⟩).trans ?_)
  rw [hfield, harg, hr]

section
variable {op arg : Nat} {c : LifeCmd} {u : State} (hnone : u.life.cmd = none)
include hnone

/-- An accepted command becomes the one in progress; only CUSTODY does more. -/
theorem lifeCommand_accepted (hc : lifeAccepted op arg u = some c) (hkind : ∀ z, c ≠ .custody z) :
    lifeCommand op arg u = setLife { u.life with cmd := some c } u := by
  unfold lifeCommand
  rw [hnone, hc]
  cases c with
  | custody z => exact absurd rfl (hkind z)
  | keyprog | keyrevoke | advance | minver | ksprog => rfl

theorem lifeCommand_custody {z : Bool} (hc : lifeAccepted op arg u = some (.custody z)) (hup : islUp u 12 = true) :
    lifeCommand op arg u = completePage (rouse 12 (setLife { u.life with cmd := some (.custody z) } u)) := by
  have hup' : islUp (setLife { u.life with cmd := some (.custody z) } u) 12 = true := hup
  unfold lifeCommand
  rw [hnone, hc]
  dsimp only
  rw [hup', onlyIf_true]

end

theorem lifeCommand_refused {op arg : Nat} {u : State} (h : lifeAccepted op arg u = none) : lifeCommand op arg u = setF u LIFE_EVT_REFUSED := by
  unfold lifeCommand
  rw [h]
  cases u.life.cmd <;> rfl

theorem lifeCommand_of_busy {op arg : Nat} {u : State} (h : u.life.cmd.isSome = true) : lifeCommand op arg u = setF u LIFE_EVT_REFUSED := by
  obtain ⟨c, hc⟩ := Option.isSome_iff_exists.mp h
  unfold lifeCommand
  rw [hc]

section
variable {arg : Nat} {u : State}

theorem lifeAccepted_keyprog (hst : u.life.state = .blank ∨ u.life.state = .develop) (harg : arg < 4) (hfree : slotProg u arg = false)
    (hsound : tabGet (fun _ => false) u.life.dead arg = false) : lifeAccepted 1 arg u = some (.keyprog arg (keyData u)) :=
  if_pos ⟨hst, harg, hfree, hsound⟩

/-- A key may be revoked while another one stays. -/
theorem lifeAccepted_keyrevoke (hst : u.life.state = .develop ∨ u.life.state = .field) (harg : arg < 4) {n : Nat} (hn : n < 4) (hne : n ≠ arg)
    (hprog : slotProg u n = true) (hstays : slotRevoked u n = false) : lifeAccepted 2 arg u = some (.keyrevoke arg) := by
  refine if_pos ⟨hst, harg, List.any_eq_true.mpr ⟨n, List.mem_range.mpr hn, ?_⟩⟩
  simp [hne, hprog, hstays]

theorem lifeAccepted_advance {n : Nat} (hn : n < 4)
    (h : u.life.state = .develop ∨ u.life.state = .blank ∧ slotProg u n = true) : lifeAccepted 3 arg u = some .advance := by
  refine if_pos (h.elim .inr fun hblank => .inl ⟨hblank.1, List.any_eq_true.mpr ⟨n, List.mem_range.mpr hn, hblank.2⟩⟩)

theorem lifeAccepted_minver (hst : u.life.state = .field) (hgreater : u.life.minver < arg) : lifeAccepted 4 arg u = some (.minver arg) :=
  if_pos ⟨hst, hgreater⟩

theorem lifeAccepted_ksprog (hst : u.life.state ≠ .custody) (harg : arg < 2) (hfree : tabGet (fun _ => false) u.life.ksProg arg = false)
    (hsound : tabGet (fun _ => false) u.life.ksDead arg = false) : lifeAccepted 5 arg u = some (.ksprog arg (keyData u)) :=
  if_pos ⟨hst, harg, hfree, hsound⟩

theorem lifeAccepted_custody (hst : u.life.state = .develop ∨ u.life.state = .field) (hsusp : flag u STORE_STAT_SUSP = false) :
    lifeAccepted 6 arg u = some (.custody (arg.testBit 0)) := if_pos ⟨hst, hsusp⟩

end

/-- Settles O52, command by command: each condition gives the command that is accepted. -/
theorem lifecycleCommandsAreAccepted : Obligations.LifecycleCommandsAreAccepted := by
  unfold Obligations.LifecycleCommandsAreAccepted
  have taken : ∀ {op : Nat} {a : BitVec 8} {c : LifeCmd} {s u : State}, op < 16 → Arrives .host LIFE_CMD s u → u.life.cmd = none →
      lifeAccepted op a.toNat u = some c → (∀ z, c ≠ .custody z) → lifeRow .host op a s = .next (setLife { u.life with cmd := some c } u) :=
    fun hop h hnone hc hkind => lifeRow_answers hop h (lifeCommand_accepted hnone hc hkind)
  exact ⟨fun a s u h hnone hst harg hfree hsound =>
      taken (by decide) h hnone (lifeAccepted_keyprog hst harg hfree hsound) (fun z => LifeCmd.noConfusion),
    fun a s u n h hnone hst harg hn hne hprog hstays =>
      taken (by decide) h hnone (lifeAccepted_keyrevoke hst harg hn hne hprog hstays) (fun z => LifeCmd.noConfusion),
    fun s u h hnone hst => taken (by decide) h hnone (lifeAccepted_advance (n := 0) (by decide) hst) (fun z => LifeCmd.noConfusion),
    fun a s u h hnone hst hgreater => taken (by decide) h hnone (lifeAccepted_minver hst hgreater) (fun z => LifeCmd.noConfusion),
    fun a s u h hnone hst harg hfree hsound =>
      taken (by decide) h hnone (lifeAccepted_ksprog hst harg hfree hsound) (fun z => LifeCmd.noConfusion),
    fun a s u h hnone hst hsusp hup => lifeRow_answers (by decide) h (lifeCommand_custody hnone (lifeAccepted_custody hst hsusp) hup),
    fun v s => ⟨if_neg fun h => absurd h.1 (by decide), fun hkey => if_neg fun h => hkey h.2,
      fun hkey hnot => (if_pos ⟨rfl, hkey⟩).trans (lifeCommand_refused hnot),
      fun hkey hbusy => (if_pos ⟨rfl, hkey⟩).trans (lifeCommand_of_busy hbusy)⟩⟩

/-! ### Effects (R530, R531, R536) -/

/-- A command's rows are programmed, or one fails. -/
def lifeEnded (ok : Bool) (c : LifeCmd) (s : State) : State :=
  if ok then setF (setLife (lifeEffect c { s.life with cmd := none }) s) LIFE_EVT_DONE
  else setF (setLife (lifeFailed c { s.life with cmd := none }) s) LIFE_EVT_FAIL

theorem lifeComplete_of_other {c : LifeCmd} {s : State} (ok : Bool) (hcmd : s.life.cmd = some c) (hkind : ∀ z, c ≠ .custody z) :
    lifeComplete ok s = lifeEnded ok c s := by
  unfold lifeComplete
  rw [hcmd]
  cases c with
  | custody z => exact absurd rfl (hkind z)
  | keyprog | keyrevoke | advance | minver | ksprog => rfl

theorem lifeComplete_custody {z : Bool} {s : State} (ok : Bool) (hcmd : s.life.cmd = some (.custody z)) (hready : custodyReady s = true) :
    lifeComplete ok s = lifeEnded ok (.custody z) (recorderFreeze (rouse 12 s)) := by
  unfold lifeComplete
  rw [hcmd]
  exact if_pos hready

theorem lifeEffect_custody_state (z : Bool) (x : LifeSt) : (lifeEffect (.custody z) x).state = .custody := by cases z <;> rfl

theorem zeroise_revoked {x : LifeSt} {k : Nat} (hk : k < 4) : tabGet (fun _ => false) (lifeEffect (.custody true) x).revoked k = true := by
  change tabGet (fun _ => false) ((List.range 4).map (fun n => (n, true))) k = true
  interval_cases k <;> rfl

theorem zeroise_cks {x : LifeSt} {i : Nat} (hi : i < 16) : tabGet (fun _ => 0) (lifeEffect (.custody true) x).cks i = 0xFFFFFFFF := by
  change tabGet (fun _ => 0) ((List.range 16).map (fun i => (i, (0xFFFFFFFF : Word)))) i = 0xFFFFFFFF
  interval_cases i <;> rfl

theorem customerKeyRead_answers {k : Fin 16} {s u : State} {w : Word} (h : Fetches .host (LIFE_CKS k.val) s u)
    (hmpu : mpuAllows s (LIFE_CKS k.val) 0 = true) (hw : cksRead .host k.val u = w) :
    exec (.customerKeyRead .host k) s = .next (setReply .host ⟨w, none⟩ u) := by
  have hallowed : ¬ ((Initiator.host : Initiator) = .host ∧ mpuAllows s (LIFE_CKS k.val) 0 = false) := by simp [hmpu]
  exact (if_neg hallowed).trans (accessRead_answers h (by rw [hw]))

/-- Settles O53, command by command. -/
theorem lifecycleCommandsTakeEffect : Obligations.LifecycleCommandsTakeEffect := by
  unfold Obligations.LifecycleCommandsTakeEffect
  refine ⟨fun c s hcmd hkind => ⟨congrArg Host.Outcome.next (lifeComplete_of_other true hcmd hkind),
      congrArg Host.Outcome.next (lifeComplete_of_other false hcmd hkind)⟩,
    fun z s u hcmd hready hu => ?custody,
    fun k s u h hmpu => ⟨fun hpriv => customerKeyRead_answers h hmpu (if_pos ⟨rfl, hpriv⟩),
      fun huser => customerKeyRead_answers h hmpu (if_neg fun hboth => ne_true_of_eq_false huser hboth.2)⟩⟩
  case custody =>
    subst hu
    refine ⟨congrArg Host.Outcome.next (lifeComplete_custody true hcmd hready), congrArg Host.Outcome.next (lifeComplete_custody false hcmd hready),
      lifeEffect_custody_state .., fun hz => ?_⟩
    subst hz
    exact ⟨fun k hk => zeroise_revoked hk, fun i hi => zeroise_cks hi⟩

end Sys2Proof.Machine
end

section
/-! PROOFS. Recovery: the boot ROM answers the requests of the mailbox (21_lifecycle_and_custody, R532, R533; the places of the arguments are
assumption log 139, the response's places and SEQ are log 140, and which STATUS answers which refusal is log 141). -/

namespace Sys2Proof.Machine

/-! ### Requests (R533) -/

/-- The boot ROM finds a request of an operation with a new SEQ in the word `w` of the mailbox. -/
structure RecRequest (op : Nat) (w : Word) (s : State) : Prop where
  word   : w = boxWord s 0x800
  serves : recServes s = true
  code   : wget w 7 0 = op
  fresh  : s.cpu.recSeq ≠ some (wget w 31 16)

/-- The boot ROM takes it: its SEQ is noted and the alert falls. -/
def recTaken (seq : Nat) (s : State) : State := clrF { s with cpu := { s.cpu with recSeq := some seq } } SPI_CTL_ALERT

section
variable {op : Nat} {w : Word} {s : State} {ok : Lifecycle → Bool} {f : State → Nat × List Byte × State} (h : RecRequest op w s)
include h

theorem RecRequest.guard : (recServes s && wget w 7 0 == op && s.cpu.recSeq != some (wget w 31 16)) = true := by
  obtain ⟨_, hserves, hcode, hfresh⟩ := h
  simp [hserves, hcode, hfresh]

/-- A request that the lifecycle state permits is answered with what its operation gives. -/
theorem recTake_answers {u t : State} {st : Nat} {data : List Byte} (hok : ok s.life.state = true) (hu : u = rouse 11 (recTaken (wget w 31 16) s))
    (hf : f u = (st, data, t)) : recTake op ok f s = .next (recAnswer (wget w 31 16) st data t) := by
  have hguard := h.guard
  obtain ⟨hword, _, _, _⟩ := h
  subst hword hu
  refine (if_pos hguard).trans ((if_pos hok).trans ?_)
  change Host.Outcome.next (recAnswer _ (f (rouse 11 (recTaken _ s))).1 (f (rouse 11 (recTaken _ s))).2.1 (f (rouse 11 (recTaken _ s))).2.2) = _
  rw [hf]

/-- One that it does not permit is refused with status 1. -/
theorem recTake_refused (hok : ok s.life.state = false) :
    recTake op ok f s = .next (recAnswer (wget w 31 16) 1 [] (recTaken (wget w 31 16) s)) := by
  have hguard := h.guard
  obtain ⟨hword, _, _, _⟩ := h
  subst hword
  exact (if_pos hguard).trans (if_neg (ne_true_of_eq_false hok))

end

/-- COMMS wakes without a change of the fuses. -/
theorem rouse_comms_life (s : State) : (rouse 11 s).life = s.life := by
  unfold rouse
  split
  · rw [wakeIsland_of_ne_store s (by decide)]; rfl
  · rfl
  · rfl

theorem recTaken_life {seq : Nat} {s u : State} (hu : u = rouse 11 (recTaken seq s)) : u.life = s.life := by
  rw [hu]; exact rouse_comms_life _

/-- The staged words of a key leave the fuses. -/
theorem keyStaged_life {u v : State} (hv : v = forN 8 (fun i s => wr s (LIFE_KEYDATA i) (boxWord s (0x810 + 4 * i))) u) : v.life = u.life := by
  rw [hv, forN_keeps State.life]
  exact fun k s => wr_life ..

/-! ### Lifecycle commands of the boot ROM (R530, R533) -/

section
variable {op arg : Nat} {c : LifeCmd} {v : State} (hnone : v.life.cmd = none)
include hnone

/-- A command that the boot ROM gives and that is accepted is awaited: its rows are programmed, or one fails. -/
theorem recLife_accepted (ok : Bool) (hc : lifeAccepted op arg v = some c) (hkind : ∀ z, c ≠ .custody z) : recLife op arg ok v =
    if ok then (0, [], setF (setLife (lifeEffect c v.life) v) LIFE_EVT_DONE)
    else (1 + Config.recFailStatus % 3, [], setF (setLife (lifeFailed c v.life) v) LIFE_EVT_FAIL) := by
  have hguard : (v.life.cmd.isNone && (lifeAccepted op arg v).isSome) = true := by rw [hnone, hc]; rfl
  have hidle : { v.life with cmd := none } = v.life := hnone ▸ rfl
  refine (if_pos hguard).trans ?_
  rw [lifeCommand_accepted hnone hc hkind, lifeComplete_of_other ok rfl hkind, lifeEnded]
  change (_, _, if ok then setF (setLife (lifeEffect c { v.life with cmd := none }) v) LIFE_EVT_DONE
    else setF (setLife (lifeFailed c { v.life with cmd := none }) v) LIFE_EVT_FAIL) = _
  rw [hidle]
  cases ok <;> rfl

end

theorem recLife_refused {op arg : Nat} {v : State} (ok : Bool) (h : lifeAccepted op arg v = none) :
    recLife op arg ok v = (1, [], setF v LIFE_EVT_REFUSED) := by
  have hguard : ¬ (v.life.cmd.isNone && (lifeAccepted op arg v).isSome) = true := by rw [h]; simp
  refine (if_neg hguard).trans ?_
  rw [lifeCommand_refused h]

theorem lifeAccepted_keyprog_of_programmed {n : Nat} {v : State} (h : slotProg v n = true) : lifeAccepted 1 n v = none :=
  if_neg fun ⟨_, _, hfree, _⟩ => ne_true_of_eq_false hfree h

theorem lifeAccepted_advance_of_blank {v : State} (hst : v.life.state = .blank) (hnone : ∀ n, n < 4 → slotProg v n = false) :
    lifeAccepted 3 0 v = none := by
  refine if_neg ?_
  simpa [hst] using hnone

/-! ### The NAND (R425, R533) -/

section
variable {page off : Nat} {d : List Byte} {s : State}

theorem writeSector_blank (h : tabFind s.nand.pages page = none) : writeSector page off d s =
    nandPut page ⟨List.replicate off 0xFF ++ d ++ List.replicate (3072 - off) 0xFF, List.replicate 16 0xFF⟩ s := by
  simp only [writeSector, h]

theorem writeSector_same_page {p : NandPage} {x : Nat} (h : tabFind s.nand.pages page = some p) (hpage : s.cpu.recPg = some (page, x)) :
    writeSector page off d s = nandPut page { p with data := p.data.take off ++ d ++ p.data.drop (off + 1024) } s := by
  simp only [writeSector, h, hpage, Option.map_some, if_true]

end

/-! ### What the operations do with their arguments (R425, R532, R533) -/

/-- KEYPROG of slot `n`, with the words of the mailbox staged in `v`. -/
def recKeyprog (ok : Bool) (n : Nat) (v u : State) : Nat × List Byte × State := if n ≥ 4 then (2, [], u) else recLife 1 n ok v

/-- ERASECOPY of copy `c`. -/
def recErase (fail : Option (Fin 62)) (c : Nat) (u : State) : Nat × List Byte × State :=
  if c ≥ 2 then (2, [], u) else if !recNand u then (3, [], u) else eraseBlocks (copyBlocks u c) (fail.map Fin.val) (rouse 12 u)

/-- A sector of a page is written, or the write fails. -/
def recSector (fail : Bool) (page off : Nat) (s : State) : Nat × List Byte × State :=
  if !recNand s then (3, [], s)
  else if fail then (3, [], retireBlock (page / 32) (rouse 12 s))
  else
    let v := writeSector page off (bytesAt s.links.mem (spiBox + 0x810) 1024) (rouse 12 s)
    (0, [], { v with cpu := { v.cpu with recPg := some (page, off) } })

/-- Does the sector come after what has just been written in its page? -/
def recRising (page off : Nat) (s : State) : Bool :=
  match s.cpu.recPg with
  | some (p, y) => p != page || decide (y < off)
  | none => true

/-- WRITE to copy `c` at offset `x`. -/
def recWrite (fail : Bool) (c x : Nat) (s : State) : Nat × List Byte × State :=
  match (copyPages s c)[x / 4096]? with
  | none => (2, [], s)
  | some page => if c ≥ 2 ∨ x % 1024 ≠ 0 ∨ recRising page (x % 4096) s = false then (2, [], s) else recSector fail page (x % 4096) s

/-- Half `h` of a page as a read gives it. -/
def recPage (e : EccBits) (page h : Nat) (v : State) : Nat × List Byte × State :=
  match tabFind v.nand.pages page with
  | none => (0, List.replicate 2048 0xFF, v)
  | some d => if e.bad then (3, [], eccCount e v) else (0, (d.data.drop (2048 * h)).take 2048, eccCount e v)

/-- READ of half `h` of page `pg` of block `b` of a partition. -/
def recRead (e : EccBits) (p b pg h : Nat) (u : State) : Nat × List Byte × State :=
  match partition p with
  | none => (2, [], u)
  | some (base, n) =>
    if b ≥ n ∨ pg ≥ 32 ∨ h ≥ 2 then (2, [], u)
    else if base + b = 126 ∨ base + b = 127 then (1, [], u)
    else if !islUp u 12 || !blockGood u (base + b) then (3, [], u)
    else recPage e (32 * (base + b) + pg) h (rouse 12 u)

/-- The polder's answer as the boot ROM passes it on. -/
def recForwarded (v : State) : Nat × List Byte × State :=
  match polTake isResponse v with
  | (some (.response st l), t) => (if st = 0 then 0 else if st = 2 then 2 else 1, wordBytes l, polEnd st l t)
  | _ => (1, [], polEnd 7 [] v)

/-- POLDER with a request `op`, which `v` has sent. -/
def recPolder (op : Nat) (v u : State) : Nat × List Byte × State :=
  if u.sys.variantM = false then (1, [], u)
  else if op ≠ 0x01 ∧ op ≠ 0x02 ∧ op ≠ 0x20 then (2, [], u)
  else if flag u POLD_STAT_BUSY then (1, [], u)
  else recForwarded v

section
variable {w : Word} {s u : State} {st : Nat} {data : List Byte} {t : State} (hu : u = rouse 11 (recTaken (wget w 31 16) s))
include hu

theorem exec_recoveryStatus (h : RecRequest 1 w s) : exec .recoveryStatus s =
    .next (recAnswer (wget w 31 16) 0 (wordBytes [rd u SYS_DEVID, lifeStat u, lifeKeyStat u, rd u SYS_RSTCAUSE]) u) := by
  change execRecoveryStatus s = _
  unfold execRecoveryStatus
  exact recTake_answers h rfl hu rfl

theorem exec_recoveryAdvance {ok : Bool} (h : RecRequest 3 w s) (hearly : recEarly s.life.state = true) (hr : recLife 3 0 ok u = (st, data, t)) :
    exec (.recoveryAdvance ok) s = .next (recAnswer (wget w 31 16) st data t) := by
  change execRecoveryAdvance ok s = _
  unfold execRecoveryAdvance
  exact recTake_answers h hearly hu hr

theorem exec_recoveryKeyprog {ok : Bool} {n : Nat} {v : State} (h : RecRequest 2 w s) (hearly : recEarly s.life.state = true)
    (hn : n = recArg u 2 0) (hv : v = forN 8 (fun i s => wr s (LIFE_KEYDATA i) (boxWord s (0x810 + 4 * i))) u)
    (hr : recKeyprog ok n v u = (st, data, t)) : exec (.recoveryKeyprog ok) s = .next (recAnswer (wget w 31 16) st data t) := by
  change execRecoveryKeyprog ok s = _
  unfold execRecoveryKeyprog
  refine recTake_answers h hearly hu ?_
  rw [← hr, hn, hv, recKeyprog]

theorem exec_erasecopy {fail : Option (Fin 62)} {c : Nat} (h : RecRequest 4 w s) (hlife : s.life.state ≠ .custody) (hc : c = recArg u 4 0)
    (hr : recErase fail c u = (st, data, t)) : exec (.erasecopy fail) s = .next (recAnswer (wget w 31 16) st data t) := by
  change execErasecopy fail s = _
  unfold execErasecopy
  refine recTake_answers h (bne_iff_ne.mpr hlife) hu ?_
  rw [← hr, hc, recErase]

theorem exec_recoveryWrite {fail : Bool} {c x : Nat} (h : RecRequest 5 w s) (hlife : s.life.state ≠ .custody) (hc : c = recArg u 5 0)
    (hx : x = recArg u 5 1) (hr : recWrite fail c x u = (st, data, t)) :
    exec (.recoveryWrite fail) s = .next (recAnswer (wget w 31 16) st data t) := by
  change execRecoveryWrite fail s = _
  unfold execRecoveryWrite
  refine recTake_answers h (bne_iff_ne.mpr hlife) hu ?_
  rw [← hr, hc, hx]
  rfl

theorem exec_recoveryRead {e : EccBits} {p b pg half : Nat} (h : RecRequest 6 w s) (hp : p = recArg u 6 0) (hb : b = recArg u 6 1)
    (hpg : pg = recArg u 6 2) (hhalf : half = recArg u 6 3) (hr : recRead e p b pg half u = (st, data, t)) :
    exec (.recoveryRead e) s = .next (recAnswer (wget w 31 16) st data t) := by
  change execRecoveryRead e s = _
  unfold execRecoveryRead
  refine recTake_answers h rfl hu ?_
  rw [← hr, hp, hb, hpg, hhalf]
  rfl

theorem exec_recoveryPolder {lost : Bool} {op : Nat} {v : State} (h : RecRequest 7 w s) (hop : op = recArg u 7 0)
    (hv : v = polReqWrite lost (w32 (op * 2 ^ 24 + recArg u 7 1 % 256 * 65536)) (wr u POLD_REQARG (w32 (recArg u 7 2))))
    (hr : recPolder op v u = (st, data, t)) : exec (.recoveryPolder lost) s = .next (recAnswer (wget w 31 16) st data t) := by
  change execRecoveryPolder lost s = _
  unfold execRecoveryPolder
  refine recTake_answers h rfl hu ?_
  rw [← hr, hv, hop]
  rfl

end

theorem exec_recoveryReset {w : Word} {s : State} (h : RecRequest 8 w s) : exec .recoveryReset s = .next (resetLogic SYS_RSTCAUSE_SWRST s) := by
  have hguard := h.guard
  obtain ⟨hword, _, _, _⟩ := h
  subst hword
  exact if_pos hguard

section
variable {fail : Bool} {c x page : Nat} {u : State}

theorem recWrite_of_place (hpage : (copyPages u c)[x / 4096]? = some page) : recWrite fail c x u =
    if c ≥ 2 ∨ x % 1024 ≠ 0 ∨ recRising page (x % 4096) u = false then (2, [], u) else recSector fail page (x % 4096) u := by
  simp only [recWrite, hpage]

theorem recWrite_of_bad (hbad : 2 ≤ c ∨ x % 1024 ≠ 0) : recWrite fail c x u = (2, [], u) := by
  cases hpage : (copyPages u c)[x / 4096]? with
  | none => simp only [recWrite, hpage]
  | some page => exact (recWrite_of_place hpage).trans (if_pos (hbad.imp id .inl))

theorem recRising_of_later {off y : Nat} (hpg : u.cpu.recPg = some (page, y)) (hle : off ≤ y) : recRising page off u = false := by
  simp [recRising, hpg, hle]

theorem recRising_of_all {off : Nat} (hall : ∀ y, u.cpu.recPg = some (page, y) → y < off) : recRising page off u = true := by
  unfold recRising
  split
  next p y hpg =>
    by_cases hp : p = page
    · simp [hall y (hp ▸ hpg)]
    · simp [hp]
  next => rfl

end

section
variable {e : EccBits} {p b pg half base n : Nat} {u : State} (hpart : partition p = some (base, n))
include hpart

theorem recRead_of_bad (hbad : n ≤ b ∨ 32 ≤ pg ∨ 2 ≤ half) : recRead e p b pg half u = (2, [], u) := by
  simp only [recRead, hpart]
  exact if_pos hbad

variable (hb : b < n) (hpg : pg < 32) (hhalf : half < 2)
include hb hpg hhalf

/-- READ of a page that there is: not of the reserved blocks, and of a good block while STORE is up. -/
theorem recRead_of_place : recRead e p b pg half u = if base + b = 126 ∨ base + b = 127 then (1, [], u)
    else if !islUp u 12 || !blockGood u (base + b) then (3, [], u) else recPage e (32 * (base + b) + pg) half (rouse 12 u) := by
  simp only [recRead, hpart]
  exact if_neg (by omega)

theorem recRead_of_good (h126 : base + b ≠ 126) (h127 : base + b ≠ 127) (hup : islUp u 12 = true) (hgood : blockGood u (base + b) = true) :
    recRead e p b pg half u = recPage e (32 * (base + b) + pg) half (rouse 12 u) := by
  refine (recRead_of_place hpart hb hpg hhalf).trans ((if_neg fun h => h.elim h126 h127).trans (if_neg ?_))
  rw [hup, hgood]
  decide

end

section
variable {op : Nat} {u v : State} (hm : u.sys.variantM = true)
include hm

theorem recPolder_of_other (h : op ≠ 0x01 ∧ op ≠ 0x02 ∧ op ≠ 0x20) : recPolder op v u = (2, [], u) := by
  simp only [recPolder, hm, Bool.true_eq_false, if_false]
  exact if_pos h

theorem recPolder_of_op (h : op = 0x01 ∨ op = 0x02 ∨ op = 0x20) :
    recPolder op v u = if flag u POLD_STAT_BUSY then (1, [], u) else recForwarded v := by
  simp only [recPolder, hm, Bool.true_eq_false, if_false]
  exact if_neg (by omega)

end

theorem recForwarded_answer {v t : State} {st : Nat} {l : List Word} (h : polTake isResponse v = (some (.response st l), t)) :
    recForwarded v = (if st = 0 then 0 else if st = 2 then 2 else 1, wordBytes l, polEnd st l t) := by simp only [recForwarded, h]

theorem recForwarded_none {v t : State} (h : polTake isResponse v = (none, t)) : recForwarded v = (1, [], polEnd 7 [] t) := by
  have ht : t = v := by
    unfold polTake at h
    split at h
    · exact absurd (congrArg Prod.fst h) (by simp)
    · exact (congrArg Prod.snd h).symm
  simp only [recForwarded, h, ht]

/-- Settles O54, request by request: each is taken, and its operation's case gives the answer. -/
theorem recoveryRequestsAreAnswered : Obligations.RecoveryRequestsAreAnswered := by
  unfold Obligations.RecoveryRequestsAreAnswered
  refine ⟨fun s u w hw hserve hop hseq hu => exec_recoveryStatus hu ⟨hw, hserve, hop, hseq⟩, fun s u w hw hserve hop hseq hu => ?advance,
    fun n s u v w hw hserve hop hseq hu hst hn hv => ?keyprog, fun c s u w hw hserve hop hseq hu hc => ?erase,
    fun c x s u w hw hserve hop hseq hu hst hc hx => ?write, fun s w hw hserve hop hseq hst f => ?writeCustody,
    fun p b pg h e s u w hw hserve hop hseq hu hp hb hpg hh => ?read, fun op lost s u v w hw hserve hcode hseq hu hop hv => ?polder,
    fun s w hw hserve hop hseq => exec_recoveryReset ⟨hw, hserve, hop, hseq⟩,
    fun page off d s => ⟨writeSector_blank, fun p x => writeSector_same_page⟩⟩
  case advance =>
    have hreq : RecRequest 3 w s := ⟨hw, hserve, hop, hseq⟩
    have hlife : u.life = s.life := recTaken_life hu
    refine ⟨fun hst hnone => ?_, fun hst hnone ok => ?_, fun hst ok => ?_⟩
    · have hearly : recEarly s.life.state = true := by rcases hst with hst | ⟨hst, _⟩ <;> rw [hst] <;> rfl
      have hslot : slotProg u 0 = slotProg s 0 := by rw [slotProg, hlife]; rfl
      have hacc : lifeAccepted 3 0 u = some .advance := lifeAccepted_advance (n := 0) (by decide) (by rwa [hlife, hslot])
      have hrec := fun ok => recLife_accepted (hlife ▸ hnone) ok hacc fun z => LifeCmd.noConfusion
      exact ⟨exec_recoveryAdvance hu hreq hearly (hrec true), exec_recoveryAdvance hu hreq hearly (hrec false)⟩
    · have hblank : u.life.state = .blank := hlife ▸ hst
      have hslots : ∀ n, n < 4 → slotProg u n = false := fun n hn => by rw [slotProg, hlife]; exact hnone n hn
      exact exec_recoveryAdvance hu hreq (by rw [hst]; rfl) (recLife_refused ok (lifeAccepted_advance_of_blank hblank hslots))
    · change execRecoveryAdvance ok s = _
      refine recTake_refused hreq ?_
      rcases hst with hst | hst <;> rw [hst] <;> rfl
  case keyprog =>
    have hreq : RecRequest 2 w s := ⟨hw, hserve, hop, hseq⟩
    have hearly : recEarly s.life.state = true := by rcases hst with hst | hst <;> rw [hst] <;> rfl
    have hlife : v.life = s.life := (keyStaged_life hv).trans (recTaken_life hu)
    have hslot : slotProg v n = slotProg s n := by rw [slotProg, hlife]; rfl
    have hexec : ∀ {ok st t}, n < 4 → recLife 1 n ok v = (st, [], t) →
        exec (.recoveryKeyprog ok) s = .next (recAnswer (wget w 31 16) st [] t) :=
      fun hslots hr => exec_recoveryKeyprog hu hreq hearly hn hv ((if_neg (by omega)).trans hr)
    refine ⟨fun hbad ok => exec_recoveryKeyprog hu hreq hearly hn hv (if_pos hbad), fun hslots hnone hfree hsound => ?_,
      fun hslots hprog ok => hexec hslots (recLife_refused ok (lifeAccepted_keyprog_of_programmed (hslot.trans hprog)))⟩
    have hprog : tabGet (fun _ => false) v.life.prog n = false := hslot.trans hfree
    have hacc : lifeAccepted 1 n v = some (.keyprog n (keyData v)) :=
      lifeAccepted_keyprog (hlife ▸ hst) hslots (hslot.trans hfree) (by rw [hlife]; exact hsound)
    have hrec := fun ok => recLife_accepted (hlife ▸ hnone) ok hacc fun z => LifeCmd.noConfusion
    refine ⟨hexec hslots ((hrec true).trans ?_), hexec hslots (hrec false)⟩
    rw [if_pos rfl, lifeEffect, hprog]
    rfl
  case erase =>
    have hreq : RecRequest 4 w s := ⟨hw, hserve, hop, hseq⟩
    refine ⟨fun hst hbad f => exec_erasecopy hu hreq hst hc (if_pos hbad),
      fun hst hcopy hno f => exec_erasecopy hu hreq hst hc ((if_neg (by omega)).trans (by rw [hno]; rfl)),
      fun hst hcopy hyes => ?_, fun hst f => ?_⟩
    · have herase : ∀ f, recErase f c u = eraseBlocks (copyBlocks u c) (f.map Fin.val) (rouse 12 u) := fun f =>
        (if_neg (by omega)).trans (if_neg (by rw [hyes]; decide))
      exact ⟨exec_erasecopy hu hreq hst hc (herase none), fun k b hb => exec_erasecopy hu hreq hst hc ((herase (some k)).trans
        (by simp only [Option.map_some, eraseBlocks, hb]; rfl))⟩
    · change execErasecopy f s = _
      exact recTake_refused hreq (by rw [hst]; rfl)
  case write =>
    have hreq : RecRequest 5 w s := ⟨hw, hserve, hop, hseq⟩
    have hexec : ∀ {f st t}, recWrite f c x u = (st, [], t) → exec (.recoveryWrite f) s = .next (recAnswer (wget w 31 16) st [] t) :=
      exec_recoveryWrite hu hreq hst hc hx
    refine ⟨fun hnone f => hexec (by simp only [recWrite, hnone]), fun hbad f => hexec (recWrite_of_bad hbad),
      fun page y f hpage hpg hle => hexec ((recWrite_of_place hpage).trans (if_pos (.inr (.inr (recRising_of_later hpg hle))))),
      fun page hcopy hsector hpage hall => ?_⟩
    have hwrite : ∀ f, recWrite f c x u = recSector f page (x % 4096) u := fun f => (recWrite_of_place hpage).trans
      (if_neg (by rw [recRising_of_all hall]; simp [hsector]; omega))
    refine ⟨fun hno f => hexec ((hwrite f).trans (by simp only [recSector, hno, Bool.not_false, if_true])),
      fun hyes => hexec ((hwrite true).trans ?_), fun hyes v hv => hexec ((hwrite false).trans ?_)⟩
    · simp only [recSector, hyes, Bool.not_true, Bool.false_eq_true, if_false, if_true]
    · simp only [recSector, hyes, hv, Bool.not_true, Bool.false_eq_true, if_false]
  case writeCustody =>
    change execRecoveryWrite f s = _
    exact recTake_refused ⟨hw, hserve, hop, hseq⟩ (by rw [hst]; rfl)
  case read =>
    have hexec : ∀ {st data t}, recRead e p b pg h u = (st, data, t) → exec (.recoveryRead e) s = .next (recAnswer (wget w 31 16) st data t) :=
      exec_recoveryRead hu ⟨hw, hserve, hop, hseq⟩ hp hb hpg hh
    refine ⟨fun hnone => hexec (by simp only [recRead, hnone]), fun base n hpart => ⟨fun hbad => hexec (recRead_of_bad hpart hbad),
      fun hblock hpage hhalf => ⟨fun hres => ?_, fun h126 h127 hno => ?_, fun h126 h127 hup hgood v hv => ?_⟩⟩⟩
    · exact hexec ((recRead_of_place hpart hblock hpage hhalf).trans (if_pos hres))
    · refine hexec ((recRead_of_place hpart hblock hpage hhalf).trans ((if_neg fun hres => hres.elim h126 h127).trans (if_pos ?_)))
      rcases hno with hno | hno <;> simp [hno]
    · have hread := recRead_of_good (e := e) hpart hblock hpage hhalf h126 h127 hup hgood
      rw [← hv] at hread
      exact ⟨fun hnone => hexec (hread.trans (by simp only [recPage, hnone])), fun d hd =>
        ⟨fun hbad => hexec (hread.trans (by simp only [recPage, hd]; exact if_pos hbad)),
          fun hgood => hexec (hread.trans (by simp only [recPage, hd]; exact if_neg (ne_true_of_eq_false hgood)))⟩⟩
  case polder =>
    have hexec : ∀ {st data t}, recPolder op v u = (st, data, t) → exec (.recoveryPolder lost) s = .next (recAnswer (wget w 31 16) st data t) :=
      exec_recoveryPolder hu ⟨hw, hserve, hcode, hseq⟩ hop hv
    refine ⟨fun hm => hexec (if_pos hm), fun hm h1 h2 h20 => hexec (recPolder_of_other hm ⟨h1, h2, h20⟩), fun hm hone =>
      ⟨fun hbusy => hexec ((recPolder_of_op hm hone).trans (if_pos hbusy)), fun st l t hfree htake => ?_, fun t hfree htake => ?_⟩⟩
    · exact hexec ((recPolder_of_op hm hone).trans ((if_neg (ne_true_of_eq_false hfree)).trans (recForwarded_answer htake)))
    · exact hexec ((recPolder_of_op hm hone).trans ((if_neg (ne_true_of_eq_false hfree)).trans (recForwarded_none htake)))

end Sys2Proof.Machine
end
